-- ==== Sys2Proof/Word.lean ====
section
/-! DEFINITION. The word types of the model: bytes, byte strings, 64-bit words and
sparse tables. The always-on tick, the fabric cycle and the core cycle are whole numbers of
one time unit, 1/192 GHz (R3 and the clock column of Table 1-1 give the three periods). -/

namespace Sys2Proof

/-- One byte of a host-visible structure, a memory or a message. -/
abbrev Byte := BitVec 8

/-- A byte string in ascending address order. -/
abbrev Bytes := List Byte

/-- The 64-bit word of a general register (Table 6-3) and of a 64-bit host register. -/
abbrev Word := BitVec 64

/-- The 32-bit word of a register of the den or cub BAR0 (R15). -/
abbrev Reg := BitVec 32

/-- A 16-bit status of Table 5-11. -/
abbrev Status := BitVec 16

/-- A sparse table: entries by ascending key, no key twice. -/
abbrev Tbl (α : Type) := List (Nat × α)

/-- Time units (1/192 GHz) in one cycle of the 1.0 GHz fabric and dispatcher clock. -/
abbrev unitsPerFabricCycle : Nat := 192

/-- Time units in one cycle of the 1.2 GHz core clock, the completion TIMESTAMP unit. -/
abbrev unitsPerCoreCycle : Nat := 160

/-- Time units in one tick of the 32.768 kHz always-on oscillator (R3). -/
abbrev unitsPerTick : Nat := 5859375

/-- Time units in one microsecond. -/
abbrev unitsPerMicro : Nat := 192000

/-- Time units in one millisecond. -/
abbrev unitsPerMilli : Nat := 192000000

/-- Time units in one second. -/
abbrev unitsPerSecond : Nat := 192000000000

/-- A saturating count with its sticky overflow flag (Table 0-3 note, Tables 12-14, 4-22). -/
structure SatCount where
  count : Nat := 0
  overflow : Bool := false
  deriving DecidableEq, Repr

end Sys2Proof
end

