-- ==== Sys2Proof/Syntax.lean ====
section
/-! DEFINITION. The commands of the block: one constructor for each row of the opcode table, with
the row's operands. An operand is what the sender or the environment supplies: a slot, a function, a
register offset, a value written, the bytes that arrive. A row of the core instruction set carries the
core and the 32-bit instruction word (R212). -/

namespace Sys2Proof

/-- One command. Each constructor names its row of the table and the row's rule. -/
inductive Instr where
  -- Register access ("Scope, Ordering Codes and Conventions")
  /-- REGISTER_WRITE (R15). -/
  | registerWrite (fn off size : Nat) (value : Word)
  /-- REG_ACCESS (R16). -/
  | regAccess (fn off size : Nat) (write : Bool)
  /-- RC_READ (R13). -/
  | rcRead (fn off size : Nat)
  /-- LOW_HALF_READ (R18). -/
  | lowHalfRead (fn off : Nat)
  /-- LOW_HALF_WRITE (R19). -/
  | lowHalfWrite (fn off : Nat) (value : Reg)
  /-- HIGH_HALF_WRITE (R19). -/
  | highHalfWrite (fn off : Nat) (value : Reg)
  -- Lodge operations ("Applying Lodge Images and Lodge Deltas")
  /-- STAGE_FULL_IMAGE (R93). -/
  | stageFullImage
  /-- APPLY_DELTA (R94). -/
  | applyDelta
  /-- DISCARD_STAGED_IMAGE (R99). -/
  | discardStagedImage
  /-- LODGE_FETCH_DONE (R97). -/
  | lodgeFetchDone (ok : Bool) (image : Bytes)
  /-- LODGE_FLASH_WRITE_DONE (R92). -/
  | lodgeFlashWriteDone (ok : Bool)
  /-- DELTA_COMMIT (R106). -/
  | deltaCommit (fetched : List (Nat × Bytes)) (bad : Option (Nat × Nat))
  /-- DELTA_QUIESCE_TIMEOUT (R108). -/
  | deltaQuiesceTimeout
  /-- DELTA_PEER_VERDICT (R111). -/
  | deltaPeerVerdict (accepted : Bool)
  -- Rings and dispatch ("Host Interface, Rings and Polling")
  /-- RING_ENABLE (R124). -/
  | ringEnable (fn : Nat)
  /-- RING_DISABLE (R129). -/
  | ringDisable (fn : Nat)
  /-- RING_DRAIN_DONE (R129). -/
  | ringDrainDone (fn : Nat)
  /-- SQ_TAIL_WRITE (R136). -/
  | sqTailWrite (fn : Nat) (value : Reg)
  /-- CQ_HEAD_WRITE (R135). -/
  | cqHeadWrite (fn : Nat) (value : Reg)
  /-- FETCH_ERROR_CLEAR (R131). -/
  | fetchErrorClear (fn : Nat)
  /-- PW_FORCE (R143). -/
  | pwForce (fn : Nat)
  /-- PROGRESS_WORD_WRITE (R139). -/
  | progressWordWrite (fn : Nat) (ok : Bool)
  /-- SLOT_GRANT (R145). -/
  | slotGrant
  /-- ENTRY_FETCH_DONE (R150). -/
  | entryFetchDone (slot : Nat) (data : Bytes)
  /-- ENTRY_FETCH_ERROR (R131). -/
  | entryFetchError (slot : Nat)
  /-- COMMAND_INPUT_READ (R132). -/
  | commandInputRead (slot : Nat) (ok : Bool) (inList outList data : Bytes)
  /-- COMPLETION_WRITE (R126). -/
  | completionWrite (slot : Nat) (dataOk entryOk : Bool)
  /-- D3HOT_ENTRY (R119). -/
  | d3hotEntry
  /-- D0_ENTRY (R119). -/
  | d0Entry
  /-- COMMAND_START (R210). -/
  | commandStart (slot core frame : Nat)
  -- Commands of the native personality ("Lergen Commands, Personalities and Status")
  /-- NOP (R180). -/
  | nop (slot : Nat)
  /-- PERSONALITY_QUERY (R701). -/
  | personalityQuery (slot : Nat)
  /-- PIN_TRANSLATE (R183). -/
  | pinTranslate (slot : Nat)
  /-- PIN_VERIFY_COMPARE (R187). -/
  | pinVerifyCompare (slot : Nat)
  /-- PIN_VERIFY_OFFSET (R187). -/
  | pinVerifyOffset (slot : Nat)
  /-- PIN_TRANSLATE_DUKPT (R185). -/
  | pinTranslateDukpt (slot : Nat)
  /-- DUKPT_MAC_VERIFY (R187). -/
  | dukptMacVerify (slot : Nat)
  /-- DUKPT_DECRYPT (R186). -/
  | dukptDecrypt (slot : Nat)
  /-- DUKPT_INITIAL_KEY (R307). -/
  | dukptInitialKey (slot : Nat)
  /-- KEYBLOCK_IMPORT (R303). -/
  | keyblockImport (slot : Nat)
  /-- KEYBLOCK_EXPORT (R308). -/
  | keyblockExport (slot : Nat)
  /-- KEY_GENERATE (R309). -/
  | keyGenerate (slot : Nat)
  /-- KEY_DELETE (R274). -/
  | keyDelete (slot : Nat)
  /-- KEY_CHECK_VALUE (R699). -/
  | keyCheckValue (slot : Nat)
  /-- KEY_BIND_LEGACY (R195). -/
  | keyBindLegacy (slot : Nat)
  /-- ARQC_VERIFY (R187). -/
  | arqcVerify (slot : Nat)
  /-- ARPC_GENERATE (R180). -/
  | arpcGenerate (slot : Nat)
  /-- EMV_SM_MAC (R180). -/
  | emvSmMac (slot : Nat)
  /-- EMV_SM_ENCRYPT (R180). -/
  | emvSmEncrypt (slot : Nat)
  /-- CVV_GENERATE (R180). -/
  | cvvGenerate (slot : Nat)
  /-- CVV_VERIFY (R187). -/
  | cvvVerify (slot : Nat)
  /-- MAC_GENERATE (R700). -/
  | macGenerate (slot : Nat)
  /-- MAC_VERIFY (R700). -/
  | macVerify (slot : Nat)
  /-- ENCRYPT (R181). -/
  | encrypt (slot : Nat)
  /-- DECRYPT (R181). -/
  | decrypt (slot : Nat)
  /-- HASH (R181). -/
  | hash (slot : Nat)
  /-- RSA_SIGN (R381). -/
  | rsaSign (slot : Nat)
  /-- RSA_VERIFY (R187). -/
  | rsaVerify (slot : Nat)
  /-- RSA_DECRYPT (R381). -/
  | rsaDecrypt (slot : Nat)
  /-- ECDSA_SIGN (R357). -/
  | ecdsaSign (slot : Nat)
  /-- ECDSA_VERIFY (R187). -/
  | ecdsaVerify (slot : Nat)
  /-- EDDSA_SIGN (R180). -/
  | eddsaSign (slot : Nat)
  /-- EDDSA_VERIFY (R187). -/
  | eddsaVerify (slot : Nat)
  /-- ECDH_DERIVE (R301). -/
  | ecdhDerive (slot : Nat)
  /-- MLDSA_SIGN (R384). -/
  | mldsaSign (slot : Nat)
  /-- MLDSA_VERIFY (R187). -/
  | mldsaVerify (slot : Nat)
  /-- MLKEM_ENCAPS (R301). -/
  | mlkemEncaps (slot : Nat)
  /-- MLKEM_DECAPS (R383). -/
  | mlkemDecaps (slot : Nat)
  /-- SLHDSA_SIGN (R180). -/
  | slhdsaSign (slot : Nat)
  /-- SLHDSA_VERIFY (R187). -/
  | slhdsaVerify (slot : Nat)
  /-- HYBRID_SIGN (R190). -/
  | hybridSign (slot : Nat)
  /-- HYBRID_VERIFY (R191). -/
  | hybridVerify (slot : Nat)
  /-- HYBRID_KEM (R365). -/
  | hybridKem (slot : Nat)
  /-- RANDOM_GET (R401). -/
  | randomGet (slot : Nat)
  /-- TSM3300_FRAME (R193). -/
  | tsm3300Frame (slot : Nat)
  /-- EXTENSION_COMMAND (R177). -/
  | extensionCommand (slot core frame : Nat)
  -- Den commands: domains, master keys, ceremonies, custodians
  /-- DOMAIN_STATUS (R311). -/
  | domainStatus (slot : Nat)
  /-- DOMAIN_WIPE (R315). -/
  | domainWipe (slot : Nat)
  /-- MASTER_KEY_LOAD (R313). -/
  | masterKeyLoad (slot : Nat)
  /-- MASTER_KEY_GENERATE (R314). -/
  | masterKeyGenerate (slot : Nat)
  /-- MASTER_KEY_DELETE (R311). -/
  | masterKeyDelete (slot : Nat)
  /-- MASTER_KEY_QUERY (R702). -/
  | masterKeyQuery (slot : Nat)
  /-- KEY_ENTER_CLEAR (R316). -/
  | keyEnterClear (slot : Nat)
  /-- SETT_STATUS (R311). -/
  | settStatus (slot : Nat)
  /-- CEREMONY_OPEN (R340). -/
  | ceremonyOpen (slot : Nat)
  /-- CEREMONY_PRESENT (R339). -/
  | ceremonyPresent (slot : Nat)
  /-- CEREMONY_STATUS (R337). -/
  | ceremonyStatus (slot : Nat)
  /-- CEREMONY_CLOSE (R340). -/
  | ceremonyClose (slot : Nat)
  /-- CUSTODIAN_ENROL (R330). -/
  | custodianEnrol (slot : Nat)
  /-- CUSTODIAN_REVOKE (R340). -/
  | custodianRevoke (slot : Nat)
  /-- CUSTODIAN_QUERY (R334). -/
  | custodianQuery (slot : Nat)
  /-- QUILL_PRESENCE_CHANGE (R321). -/
  | quillPresenceChange (port : Nat) (present : Bool)
  /-- QUILL_ATR (R319). -/
  | quillAtr (port : Nat) (atr : Bytes)
  /-- QUILL_BLOCK_ERROR (R321). -/
  | quillBlockError (port : Nat) (timeout : Bool)
  /-- QUILL_RESPONSE (R318, R324): a block from the token; the last of a chain completes a response message. -/
  | quillResponse (port : Nat) (block : Bytes)
  /-- CEREMONY_WAIT_EXPIRY (R337). -/
  | ceremonyWaitExpiry (port : Nat)
  /-- CEREMONY_TIMEOUT (R343). -/
  | ceremonyTimeout
  -- Den commands and events: resets, migration, dirty logs, exercise
  /-- CUB_RESET (R416). -/
  | cubReset (slot : Nat)
  /-- CUB_FLUSH (R420). -/
  | cubFlush (slot : Nat)
  /-- VF_FLR (R416). -/
  | vfFlr (fn : Nat)
  /-- PF_FLR (R416). -/
  | pfFlr
  /-- VF_ENABLE_CLEAR (R411). -/
  | vfEnableClear
  /-- DRAIN_SQUASH (R416). -/
  | drainSquash (fn : Nat)
  /-- DRAIN_UNDELIVERED (R416). -/
  | drainUndelivered (fn : Nat)
  /-- RESET_COMPLETE (R419). -/
  | resetComplete (fn : Nat)
  /-- MIG_IDENTITY (R425). -/
  | migIdentity (slot : Nat)
  /-- MIG_TICKET (R426). -/
  | migTicket (slot : Nat)
  /-- MIG_FREEZE (R431). -/
  | migFreeze (slot : Nat)
  /-- MIG_SAVE (R434). -/
  | migSave (slot : Nat)
  /-- MIG_RESTORE (R435). -/
  | migRestore (slot : Nat)
  /-- MIG_CONCLUDE (R437). -/
  | migConclude (slot : Nat)
  /-- MIG_THAW (R443). -/
  | migThaw (slot : Nat)
  /-- MIG_RESUME (R431). -/
  | migResume (slot : Nat)
  /-- MIG_FREEZE_TIMEOUT (R431). -/
  | migFreezeTimeout (fn : Nat)
  /-- MIG_TICKET_EXPIRY (R426). -/
  | migTicketExpiry
  /-- DIRTY_LOG_START (R440). -/
  | dirtyLogStart (slot : Nat)
  /-- DIRTY_LOG_HARVEST (R441). -/
  | dirtyLogHarvest (slot : Nat)
  /-- DIRTY_LOG_STOP (R442). -/
  | dirtyLogStop (slot : Nat)
  /-- PAIR_EXERCISE (R628). -/
  | pairExercise (slot : Nat) (cores : List Nat) (bears : BitVec 32) (hedgehogs : BitVec 16) (keys : List Nat)
  /-- EXERCISE_INTERVAL_EXPIRY (R627). -/
  | exerciseIntervalExpiry (cores : List Nat) (bears : BitVec 32) (hedgehogs : BitVec 16) (keys : List Nat)
  -- Instructions of a transaction core ("Transaction Cores and Command Programs")
  /-- ILL (R214). -/
  | ill (core : Nat) (w : BitVec 32)
  /-- ADD (R214). -/
  | add (core : Nat) (w : BitVec 32)
  /-- SUB (R214). -/
  | sub (core : Nat) (w : BitVec 32)
  /-- AND (R214). -/
  | and (core : Nat) (w : BitVec 32)
  /-- OR (R214). -/
  | or (core : Nat) (w : BitVec 32)
  /-- XOR (R214). -/
  | xor (core : Nat) (w : BitVec 32)
  /-- SHL (R214). -/
  | shl (core : Nat) (w : BitVec 32)
  /-- SHR (R214). -/
  | shr (core : Nat) (w : BitVec 32)
  /-- SAR (R214). -/
  | sar (core : Nat) (w : BitVec 32)
  /-- MUL (R214). -/
  | mul (core : Nat) (w : BitVec 32)
  /-- MULHU (R214). -/
  | mulhu (core : Nat) (w : BitVec 32)
  /-- SLT (R214). -/
  | slt (core : Nat) (w : BitVec 32)
  /-- SLTU (R214). -/
  | sltu (core : Nat) (w : BitVec 32)
  /-- CMPEQ (R214). -/
  | cmpeq (core : Nat) (w : BitVec 32)
  /-- CSEL (R214). -/
  | csel (core : Nat) (w : BitVec 32)
  /-- ROR (R214). -/
  | ror (core : Nat) (w : BitVec 32)
  /-- ADDI (R213). -/
  | addi (core : Nat) (w : BitVec 32)
  /-- ANDI (R213). -/
  | andi (core : Nat) (w : BitVec 32)
  /-- ORI (R213). -/
  | ori (core : Nat) (w : BitVec 32)
  /-- XORI (R213). -/
  | xori (core : Nat) (w : BitVec 32)
  /-- SHLI (R214). -/
  | shli (core : Nat) (w : BitVec 32)
  /-- SHRI (R214). -/
  | shri (core : Nat) (w : BitVec 32)
  /-- SARI (R214). -/
  | sari (core : Nat) (w : BitVec 32)
  /-- SLTI (R213). -/
  | slti (core : Nat) (w : BitVec 32)
  /-- SLTIU (R213). -/
  | sltiu (core : Nat) (w : BitVec 32)
  /-- LUI (R214). -/
  | lui (core : Nat) (w : BitVec 32)
  /-- INSH (R214). -/
  | insh (core : Nat) (w : BitVec 32)
  /-- LD (R215). -/
  | ld (core : Nat) (w : BitVec 32)
  /-- LW (R215). -/
  | lw (core : Nat) (w : BitVec 32)
  /-- LH (R215). -/
  | lh (core : Nat) (w : BitVec 32)
  /-- LB (R215). -/
  | lb (core : Nat) (w : BitVec 32)
  /-- ST (R236). -/
  | st (core : Nat) (w : BitVec 32)
  /-- SW (R236). -/
  | sw (core : Nat) (w : BitVec 32)
  /-- SH (R236). -/
  | sh (core : Nat) (w : BitVec 32)
  /-- SB (R236). -/
  | sb (core : Nat) (w : BitVec 32)
  /-- BEQ (R213). -/
  | beq (core : Nat) (w : BitVec 32)
  /-- BNE (R213). -/
  | bne (core : Nat) (w : BitVec 32)
  /-- BLT (R213). -/
  | blt (core : Nat) (w : BitVec 32)
  /-- BGE (R213). -/
  | bge (core : Nat) (w : BitVec 32)
  /-- BLTU (R213). -/
  | bltu (core : Nat) (w : BitVec 32)
  /-- BGEU (R213). -/
  | bgeu (core : Nat) (w : BitVec 32)
  /-- JAL (R209). -/
  | jal (core : Nat) (w : BitVec 32)
  /-- JALR (R215). -/
  | jalr (core : Nat) (w : BitVec 32)
  /-- EXTR (R214). -/
  | extr (core : Nat) (w : BitVec 32)
  /-- CSRR (R214). -/
  | csrr (core : Nat) (w : BitVec 32)
  /-- CSRW (R251). -/
  | csrw (core : Nat) (w : BitVec 32)
  /-- FENCE (R214). -/
  | fence (core : Nat) (w : BitVec 32)
  /-- TRAP (R214). -/
  | trap (core : Nat) (w : BitVec 32)
  /-- ERET (R241). -/
  | eret (core : Nat) (w : BitVec 32)
  /-- DONE (R249). -/
  | done (core : Nat) (w : BitVec 32)
  /-- YIELD (R368). -/
  | yield (core : Nat) (w : BitVec 32)
  /-- YIELD_RESUME (R369). -/
  | yieldResume (slot core : Nat)
  /-- CTPAD (R222). -/
  | ctpad (core : Nat) (w : BitVec 32)
  /-- CTPAD_RELEASE (R223). -/
  | ctpadRelease (core : Nat)
  /-- HLD (R214). -/
  | hld (core : Nat) (w : BitVec 32)
  /-- HMOV (R214). -/
  | hmov (core : Nat) (w : BitVec 32)
  /-- CBLK_MOV (R229). -/
  | cblkMov (core : Nat) (w : BitVec 32)
  /-- CBLK_XOR (R229). -/
  | cblkXor (core : Nat) (w : BitVec 32)
  /-- CBLK_AND (R229). -/
  | cblkAnd (core : Nat) (w : BitVec 32)
  /-- CBLK_ZERO (R229). -/
  | cblkZero (core : Nat) (w : BitVec 32)
  /-- CBLK_LOAD (R216). -/
  | cblkLoad (core : Nat) (w : BitVec 32)
  /-- CBLK_STORE (R231). -/
  | cblkStore (core : Nat) (w : BitVec 32)
  /-- CBLK_GETL (R230). -/
  | cblkGetl (core : Nat) (w : BitVec 32)
  /-- CBLK_GETH (R230). -/
  | cblkGeth (core : Nat) (w : BitVec 32)
  /-- CBLK_PUTL (R229). -/
  | cblkPutl (core : Nat) (w : BitVec 32)
  /-- CBLK_PUTH (R229). -/
  | cblkPuth (core : Nat) (w : BitVec 32)
  /-- CBLK_RAND (R232). -/
  | cblkRand (core : Nat) (w : BitVec 32)
  /-- CBLK_EQ (R214). -/
  | cblkEq (core : Nat) (w : BitVec 32)
  /-- CBLK_MARK (R218). -/
  | cblkMark (core : Nat) (w : BitVec 32)
  /-- CIPH_ENCRYPT (R227). -/
  | ciphEncrypt (core : Nat) (w : BitVec 32)
  /-- CIPH_DECRYPT (R229). -/
  | ciphDecrypt (core : Nat) (w : BitVec 32)
  /-- PIPE_INIT (R228). -/
  | pipeInit (core : Nat) (w : BitVec 32)
  /-- PIPE_ABSORB (R214). -/
  | pipeAbsorb (core : Nat) (w : BitVec 32)
  /-- PIPE_FINAL (R214). -/
  | pipeFinal (core : Nat) (w : BitVec 32)
  /-- PIPE_RESET (R214). -/
  | pipeReset (core : Nat) (w : BitVec 32)
  /-- KRES (R224). -/
  | kres (core : Nat) (w : BitVec 32)
  /-- HCHK (R214). -/
  | hchk (core : Nat) (w : BitVec 32)
  /-- KOP_RELEASE (R214). -/
  | kopRelease (core : Nat) (w : BitVec 32)
  /-- KOP_INSTALL (R310). -/
  | kopInstall (core : Nat) (w : BitVec 32)
  /-- KOP_DELETE (R214). -/
  | kopDelete (core : Nat) (w : BitVec 32)
  /-- ENGQ_SUBMIT (R347). -/
  | engqSubmit (core : Nat) (w : BitVec 32)
  /-- ENGQ_SUBMIT_RETRY (R349). -/
  | engqSubmitRetry (slot core : Nat)
  /-- ENGQ_POLL (R366). -/
  | engqPoll (core : Nat) (w : BitVec 32)
  /-- ENGQ_ABORT (R370). -/
  | engqAbort (core : Nat) (w : BitVec 32)
  /-- OWLEV (R576). -/
  | owlev (core : Nat) (w : BitVec 32)
  /-- DECD (R214). -/
  | decd (core : Nat) (w : BitVec 32)
  /-- BSWAP (R214). -/
  | bswap (core : Nat) (w : BitVec 32)
  -- Sett events
  /-- KEY_RECORD_ARRIVAL (R155). -/
  | keyRecordArrival (key fault : Nat)
  /-- MISS_PEN_TIMEOUT (R289). -/
  | missPenTimeout (slot : Nat)
  /-- PERSISTENT_COUNT_WRITE (R291). -/
  | persistentCountWrite (key : Nat)
  -- Engine jobs and engine events ("Bear and Hedgehog Engines")
  /-- JOB_MODMUL (R362). -/
  | jobModmul (slot job : Nat)
  /-- JOB_MODEXP (R362). -/
  | jobModexp (slot job : Nat)
  /-- JOB_MODEXP_PUB (R362). -/
  | jobModexpPub (slot job : Nat)
  /-- JOB_MODINV (R362). -/
  | jobModinv (slot job : Nat)
  /-- JOB_RSA_SIGN (R381). -/
  | jobRsaSign (slot job : Nat) (crtFault : Bool)
  /-- JOB_RSA_DECRYPT (R381). -/
  | jobRsaDecrypt (slot job : Nat) (crtFault : Bool)
  /-- JOB_RSA_VERIFY (R362). -/
  | jobRsaVerify (slot job : Nat)
  /-- JOB_RSA_KEYGEN (R364). -/
  | jobRsaKeygen (slot job : Nat)
  /-- JOB_ECDSA_SIGN (R362). -/
  | jobEcdsaSign (slot job : Nat)
  /-- JOB_ECDSA_VERIFY (R362). -/
  | jobEcdsaVerify (slot job : Nat)
  /-- JOB_ECDH (R365). -/
  | jobEcdh (slot job : Nat)
  /-- JOB_EC_KEYGEN (R364). -/
  | jobEcKeygen (slot job : Nat)
  /-- JOB_EDDSA_SIGN (R362). -/
  | jobEddsaSign (slot job : Nat)
  /-- JOB_EDDSA_VERIFY (R362). -/
  | jobEddsaVerify (slot job : Nat)
  /-- JOB_MLKEM_KEYGEN (R364). -/
  | jobMlkemKeygen (slot job : Nat)
  /-- JOB_MLKEM_ENCAPS (R365). -/
  | jobMlkemEncaps (slot job : Nat)
  /-- JOB_MLKEM_DECAPS (R383). -/
  | jobMlkemDecaps (slot job : Nat)
  /-- JOB_MLDSA_KEYGEN (R364). -/
  | jobMldsaKeygen (slot job : Nat)
  /-- JOB_MLDSA_SIGN (R384). -/
  | jobMldsaSign (slot job : Nat)
  /-- JOB_MLDSA_VERIFY (R362). -/
  | jobMldsaVerify (slot job : Nat)
  /-- ENGINE_JOB_DONE (R361). -/
  | engineJobDone (hedgehog : Bool) (engine : Nat)
  /-- ENGINE_ABORT_CLEARED (R371). -/
  | engineAbortCleared (hedgehog : Bool) (engine : Nat)
  /-- ENGINE_FAULT (R350). -/
  | engineFault (hedgehog : Bool) (engine : Nat) (kind : Nat)
  /-- BEAR_SWAP_REQUEST (R378). -/
  | bearSwapRequest (engine : Nat)
  /-- BEAR_STORE_EXCHANGE (R378). -/
  | bearStoreExchange (engine : Nat)
  /-- BEAR_ACTIVE_WRITE (R376). -/
  | bearActiveWrite (engine addr : Nat) (value : Word)
  /-- BEAR_SHADOW_WRITE (R377). -/
  | bearShadowWrite (engine addr : Nat) (value : Word)
  -- Squirrel events
  /-- NOISE_BLOCK_TESTED (R390). -/
  | noiseBlockTested (source : Nat) (samples : Bytes)
  /-- DRBG_GENERATE (R400). -/
  | drbgGenerate
  /-- RANDOM_DRAW_SERVED (R402). -/
  | randomDrawServed
  /-- RNG_RESEED_ALL (R399). -/
  | rngReseedAll
  -- Memories, start-up, life cycle
  /-- LARDER_TEST_SLOT (R451). -/
  | larderTestSlot (larder fault : Nat) (bad : Option Nat)
  /-- FABRIC_ACCESS (R473). -/
  | fabricAccess (master : Nat) (world : Bool) (gate off kind size : Nat) (data : Bytes) (codeOk : Bool) (err : Nat)
  /-- PAGE_COMMIT (R458). -/
  | pageCommit (page : Nat) (bytes : Bytes) (source : Nat)
  /-- PAGE_COMMIT_RETIRED (R462). -/
  | pageCommitRetired
  /-- PSTORE_FENCE_CLOSE (R464). -/
  | pstoreFenceClose
  /-- POWER_ON (R482). -/
  | powerOn (centivolts : Nat)
  /-- PERST_ASSERT (R482). -/
  | perstAssert
  /-- PCIE_HOT_RESET (R482). -/
  | pcieHotReset
  /-- PCIE_LINK_DOWN (R482). -/
  | pcieLinkDown
  /-- DEV_RESET (R482). -/
  | devReset (key : Reg)
  /-- LOCKSTEP_MISMATCH (R482). -/
  | lockstepMismatch
  /-- BOOT (R488). -/
  | boot (selfTest dramOk : Bool) (lcBad : BitVec 3) (kat : Option Nat) (reads : List (Nat × Bytes))
  /-- HOLDUP_ARMED (R672). -/
  | holdupArmed
  /-- FW_STAGE (R495). -/
  | fwStage (fetched : Option (Bool × Bytes))
  /-- FW_FLASH_WRITE_DONE (R495). -/
  | fwFlashWriteDone (ok : Bool)
  /-- FW_COMMIT (R496). -/
  | fwCommit
  /-- FW_EXCHANGE (R498). -/
  | fwExchange
  /-- PROVISION (R512). -/
  | provision (fetched : Option (Bool × Bytes))
  /-- TRANSITION (R514). -/
  | transition (fetched : Option (Bool × Bytes)) (bad : Option (Nat × Nat))
  /-- TRANSITION_COMPLETE (R515). -/
  | transitionComplete (written : Nat)
  /-- TEST_UNLOCK (R516). -/
  | testUnlock (fetched : Option (Bool × Bytes)) (written : Nat)
  /-- DEBUG_CHALLENGE (R518). -/
  | debugChallenge
  /-- DEBUG_CHALLENGE_EXPIRY (R518). -/
  | debugChallengeExpiry
  /-- DEBUG_OPEN (R519). -/
  | debugOpen (fetched : Option (Bool × Bytes))
  /-- DEBUG_QUIESCED (R521). -/
  | debugQuiesced (bad : Option (Nat × Nat))
  /-- DEBUG_QUIESCE_TIMEOUT (R520). -/
  | debugQuiesceTimeout
  /-- OWNER_ROTATE (R523). -/
  | ownerRotate (fetched : Option (Bool × Bytes))
  -- Lynx and Torpor events
  /-- LIGHT_SAMPLE (R528). -/
  | lightSample (site : Nat) (level : Int)
  /-- CANARY_SCAN (R528). -/
  | canaryScan (site : Nat) (flipped : Bool)
  /-- TEMPERATURE_SAMPLE (R528). -/
  | temperatureSample (sensor : Nat) (value : Int)
  /-- VOLTAGE_EXCURSION (R528). -/
  | voltageExcursion (monitor : Nat) (value : Int)
  /-- CLOCK_EXCURSION (R554). -/
  | clockExcursion (monitor : Nat) (value : Int) (pllLost : Bool)
  /-- MESH_SAMPLE (R538). -/
  | meshSample (opens shorts : BitVec 4)
  /-- LID_SAMPLE (R537). -/
  | lidSample (lid : Nat) (a b : Bool)
  /-- TAMPER_RESPONSE_DONE (R545). -/
  | tamperResponseDone
  /-- HEALTH_PERIOD_END (R535). -/
  | healthPeriodEnd
  /-- CALIBRATION_SLOT (R543). -/
  | calibrationSlot (values : List Int)
  /-- CELL_REMOVED (R557). -/
  | cellRemoved (cell : Nat)
  /-- CELL_INSERTED (R558). -/
  | cellInserted (cell : Nat) (raw : Bytes) (volts : Nat)
  /-- CELL_LOW (R556). -/
  | cellLow (cell volts : Nat)
  /-- TORPOR_POWER_ON (R555). -/
  | torporPowerOn
  /-- TORPOR_CHANGEOVER (R553). -/
  | torporChangeover (good : Bool)
  -- Owl events and operations
  /-- OWL_EVENT (R577). -/
  | owlEvent
  /-- OWL_PAGE_COMMIT (R572). -/
  | owlPageCommit
  /-- OWL_FOLD_FLUSH (R581). -/
  | owlFoldFlush
  /-- EVR_READ (R583). -/
  | evrRead (go ok : Bool)
  /-- CHECKPOINT_EXPORT (R585). -/
  | checkpointExport (go ok : Bool)
  /-- AUDIT_KEYS (R585). -/
  | auditKeys (go ok : Bool)
  /-- SET_TIME (R565). -/
  | setTime
  -- Woodpecker units and burrow queues
  /-- CRC_START (R592). -/
  | crcStart (unit : Nat)
  /-- CRC_ALIVE_RESTART (R599). -/
  | crcAliveRestart (unit : Nat)
  /-- CRC_CONFIG_WRITE (R593). -/
  | crcConfigWrite (unit : Nat) (value : Reg)
  /-- CRC_PARAMETER_WRITE (R594). -/
  | crcParameterWrite (unit reg : Nat) (value : Word)
  /-- CRC_DATA_B (R595). -/
  | crcDataB (unit : Nat) (value : Reg)
  /-- CRC_DATA_H (R595). -/
  | crcDataH (unit : Nat) (value : Reg)
  /-- CRC_DATA_W (R595). -/
  | crcDataW (unit : Nat) (value : Reg)
  /-- CRC_ALIVE (R599). -/
  | crcAlive (unit : Nat) (value : Reg)
  /-- BURROW_WRITE (R606). -/
  | burrowWrite (queue kind : Nat) (word : Word)
  /-- BURROW_READ (R604). -/
  | burrowRead (queue : Nat)
  /-- BURROW_FLUSH (R607). -/
  | burrowFlush (queue : Nat)
  /-- BURROW_POINTER_MISMATCH (R608). -/
  | burrowPointerMismatch (queue : Nat) (read : Bool)
  -- The pack pair
  /-- PAIRING_FRAME (R612). -/
  | pairingFrame (link : Nat) (device pairId names publics : Bytes) (lifeCycle : Nat) (digest : Bytes) (state pref : Nat) (cipher : Bytes)
  /-- PAIRING_RETRY (R612). -/
  | pairingRetry
  /-- SYNC_QUIESCED (R616). -/
  | syncQuiesced
  /-- SYNC_HOLD_TIMEOUT (R616). -/
  | syncHoldTimeout
  /-- FRAME_HEADER (R645). -/
  | frameHeader (link lane : Nat) (ok : Bool)
  /-- DATA_FRAME (R646). -/
  | dataFrame (link seq ack : Nat) (payload : Bytes) (tagOk : Bool)
  /-- IDLE_FRAME (R644). -/
  | idleFrame (link ack : Nat) (tagOk : Bool)
  /-- RETRANSMISSION_REQUEST (R646). -/
  | retransmissionRequest (link seq ack : Nat) (tagOk : Bool)
  /-- ADMIT (R618). -/
  | admitRecord (admission fn position : Nat) (entry input : Bytes)
  /-- DRAW (R405). -/
  | draw (admission : Nat) (data : Bytes)
  /-- DOORBELL (R617). -/
  | doorbell (fn tail head : Nat)
  /-- STATE (R620). -/
  | state (admission kind : Nat) (record : Bytes)
  /-- EPOCH (R617). -/
  | epoch (epoch last : Nat) (written : List (Nat × Nat))
  /-- GPIO (R633). -/
  | gpio (value : BitVec 16)
  /-- DELTA (R111). -/
  | delta (delta : Bytes)
  /-- SYNC_ITEM (R615). -/
  | syncItem (kind key : Nat) (data : Bytes)
  /-- RESULT (R622). -/
  | result (admission : Nat) (hash : Bytes)
  /-- DIGEST (R624). -/
  | digest (epoch : Nat) (digest : Bytes)
  /-- LEASE_REQ (R629). -/
  | leaseReq (link request : Nat)
  /-- GRANT (R630). -/
  | grant (request : Nat)
  /-- RELEASE (R635). -/
  | release (cause last : Nat) (indices : List (Nat × Nat)) (found : List (Nat × List Nat)) (lists : List (Nat × Bytes))
  /-- EPOCH_BOUNDARY (R617). -/
  | epochBoundary
  /-- RESULT_TIMEOUT (R625). -/
  | resultTimeout
  /-- LEASE_RENEWAL (R629). -/
  | leaseRenewal
  /-- LEASE_EXPIRY (R630). -/
  | leaseExpiry
  /-- LEASE_LAPSE_TAKEOVER (R631). -/
  | leaseLapseTakeover (found : List (Nat × List Nat)) (lists : List (Nat × Bytes))
  /-- PACK_SWITCH (R635). -/
  | packSwitch
  /-- PACK_SOLO (R642). -/
  | packSolo (key : Reg)
  /-- PACK_WITNESS_CHANGE (R640). -/
  | packWitnessChange (level : Bool)
  /-- WITNESS_HOLD_EXPIRY (R640). -/
  | witnessHoldExpiry
  -- Power, isolation, pins and the PCI Express link
  /-- ISOLATED_LINK_FRAME (R648). -/
  | isolatedLinkFrame (crcOk follows : Bool) (centivolts milliamps : Nat)
  /-- ISOLATED_LINK_LOST (R650). -/
  | isolatedLinkLost
  /-- LINE_UNDERVOLTAGE (R651). -/
  | lineUndervoltage (centivolts : Nat)
  /-- LINE_OVERVOLTAGE (R651). -/
  | lineOvervoltage (centivolts : Nat)
  /-- CONVERTER_FAULT (R651). -/
  | converterFault
  /-- LINE_RETURN (R674). -/
  | lineReturn
  /-- IDLE_GATE_EXPIRY (R663). -/
  | idleGateExpiry (domain : Nat)
  /-- GATE_COMPLETE (R661). -/
  | gateComplete (domain : Nat) (bad : Option (Nat × Nat))
  /-- DOMAIN_WAKE_DONE (R662). -/
  | domainWakeDone (domain : Nat) (bad : Option (Nat × Nat))
  /-- PWR_WAKE (R670). -/
  | pwrWake (domain : Nat)
  /-- PWR_GATE (R667). -/
  | pwrGate (domain : Nat)
  /-- PWR_CANCEL (R670). -/
  | pwrCancel (domain : Nat)
  /-- DEFERRED_GATE (R667). -/
  | deferredGate (domain : Nat)
  /-- GATE_REQUEST_TIMEOUT (R669). -/
  | gateRequestTimeout (domain : Nat)
  /-- PWR_MODE_WRITE (R678). -/
  | pwrModeWrite (value : Reg)
  /-- PWR_ALWAYS_ON_WRITE (R678). -/
  | pwrAlwaysOnWrite (value : Word)
  /-- DEV_GPIO_DIR_WRITE (R684). -/
  | devGpioDirWrite (value : Reg)
  /-- DEV_GPIO_OUT_WRITE (R684). -/
  | devGpioOutWrite (value : Reg)
  /-- JTAG_INSTRUCTION (R686). -/
  | jtagInstruction (code : Nat)
  /-- CONFIGURATION_REQUEST (R117). -/
  | configurationRequest (fn item : Nat) (value : Word)
  /-- PCIE_LINK_UP (R484). -/
  | pcieLinkUp (speed width : Nat)
  /-- POWER_RAMP_DONE (R654). -/
  | powerRampDone
  /-- SYNC_ITEMS_SENT (R616). -/
  | syncItemsSent
  /-- UNLISTED_FUNCTION_CODE (R217). -/
  | unlistedFunctionCode (core : Nat) (w : BitVec 32)
  deriving DecidableEq, Repr

end Sys2Proof
end

