-- ==== Sys2Proof/Decode.lean ====
section
/-! DEFINITION. Decoding of a command from a word: the opcode table gives its rows no bits, because the block takes
commands and no instruction words of its own stream. The instruction words that a transaction core executes are
operands of the core's commands and are decoded with them. -/

namespace Sys2Proof

/-- The command that a word of the opcode table's bits spells: none, for no row of the table has bits. -/
def decodeTableWord (_nbits _w : Nat) : Option Instr := none

end Sys2Proof
end

