-- ==== Sys2Proof/Config.lean ====
section
/-! DEFINITION. What a part fixes and what the specification leaves open: the unit counts of the
TSM-7296-FA (Table 0-1), the device's identity, the free values, and the functions of the published
standards that the specification names and does not restate. None of the opaque constants has a body,
so no proof can use a value of one. -/

namespace Sys2Proof.Config

/-! ## The TSM-7296-FA (Tables 0-1 and 1-6) -/

abbrev skulks : Nat := 24
abbrev cores : Nat := 96
abbrev bears : Nat := 32
abbrev hedgehogs : Nat := 16
abbrev slots : Nat := 4096
abbrev functions : Nat := 2048
abbrev domains : Nat := 4096
abbrev residentSlots : Nat := 8388608
abbrev quillPorts : Nat := 4
abbrev packLinks : Nat := 2

/-! ## Identity and open values -/

/-- The 16-byte device identifier, fixed in manufacture. -/
opaque deviceIdByte : Nat → Byte

/-- The device identifier in byte order. -/
def deviceId : Bytes := (List.range 16).map deviceIdByte

/-- The n-th free value: a value that the specification leaves undefined or unstated. -/
opaque freeValue : Nat → Nat

/-- What GST_LAST_SEQ and GST_LAST_PRIV_SEQ read while no such record has committed. -/
opaque noSequence : Word

/-! ## Functions of the published standards (Table 0-2) -/

/-- SHA3-256 (FIPS 202), byte i of the digest in bits 8i+7:8i. -/
opaque sha3 : Bytes → BitVec 256

/-- ECDSA verification (FIPS 186-5) on a curve, named by its number in the curve table, of a signature
over a message hashed with the scheme's hash: public key, message, signature. -/
opaque ecdsaVerify : Nat → Bytes → Bytes → Bytes → Bool

/-- ML-DSA verification in pure form (FIPS 204) for a parameter set 44, 65 or 87: public key, message,
signature; the context string is empty (R83). -/
opaque mldsaVerify : Nat → Bytes → Bytes → Bytes → Bool

/-- AES (FIPS 197) of one block under a key of 16, 24 or 32 bytes, byte 0 in bits 7:0. -/
opaque aes (decrypt : Bool) : Bytes → BitVec 128 → BitVec 128

/-- TDES (SP 800-67) of one block under a key of 16 or 24 bytes, byte 0 in bits 7:0. -/
opaque tdes (decrypt : Bool) : Bytes → BitVec 64 → BitVec 64

/-- The digest of an ALG of Table 5-6 (0x20 to 0x24), first byte in bits 7:0. -/
opaque digest : Nat → Bytes → BitVec 512

/-- The MAC of an ALG of Table 5-6 (0x01 to 0x03, 0x10 to 0x13) under a key, over a message, first byte in
bits 7:0. -/
opaque mac : Nat → Bytes → Bytes → BitVec 512

/-- The hot-cache set of a key: a keyed hash of its slot under the table key, which the boot nonce
determines (R288). -/
opaque hotSet : Bytes → Nat → Nat

/-! ## Engines (FIPS 186-5, FIPS 203, FIPS 204, SP 800-56B, SP 800-56C)

`type` is a key TYPE of Table 7-5; keys, points, signatures and ciphertexts are byte strings. `none` is a
value that R367 calls OPERAND. -/

/-- The one-step KDF of SP 800-56C with SHA3-256 (R301). -/
opaque kdf : Bytes → BitVec 256

/-- RSASSA-PSS (0x40) or PKCS1-v1_5 (0x41) over a digest: scheme, hash, key, digest, salt. -/
opaque rsaSign : Nat → Nat → Bytes → Bytes → Bytes → Bytes

/-- RSA verification: scheme, hash, key, digest, signature. -/
opaque rsaVerify : Nat → Nat → Bytes → Bytes → Bytes → Option Bool

/-- RSA-OAEP decryption: hash, key, ciphertext. -/
opaque rsaDecrypt : Nat → Bytes → Bytes → Option Bytes

/-- RSA key generation with e = 65,537: modulus words and random bytes, to private and public key. -/
opaque rsaKeygen : Nat → Bytes → Bytes × Bytes

/-- The random bytes that an RSA key generation of a number of modulus words draws ("As needed"). -/
opaque rsaRandom : Nat → Nat

/-- ECDSA signature: type, key, digest, random bytes. -/
opaque ecdsaSign : Nat → Bytes → Bytes → Bytes → Bytes

/-- ECDSA verification over a digest: type, key, digest, signature. -/
opaque ecdsaCheck : Nat → Bytes → Bytes → Bytes → Option Bool

/-- ECDH: type, key, point. -/
opaque ecdh : Nat → Bytes → Bytes → Option Bytes

/-- Elliptic-curve key generation: private type and random bytes, to private and public key. -/
opaque ecKeygen : Nat → Bytes → Bytes × Bytes

/-- EdDSA signature: type, key, message. -/
opaque eddsaSign : Nat → Bytes → Bytes → Bytes

/-- EdDSA verification: type, key, message, signature. -/
opaque eddsaCheck : Nat → Bytes → Bytes → Bytes → Option Bool

/-- ML-KEM key generation: private type and random bytes, to seed and public key. -/
opaque mlkemKeygen : Nat → Bytes → Bytes × Bytes

/-- ML-KEM encapsulation: public type, key, random bytes, to ciphertext and secret. -/
opaque mlkemEncaps : Nat → Bytes → Bytes → Option (Bytes × Bytes)

/-- ML-KEM decapsulation of a ciphertext of the right length, implicit rejection included (R383). -/
opaque mlkemDecaps : Nat → Bytes → Bytes → Bytes

/-- ML-DSA key generation: private type and random bytes, to seed and public key. -/
opaque mldsaKeygen : Nat → Bytes → Bytes × Bytes

/-- ML-DSA signature, hedged: type, key, message, rnd. -/
opaque mldsaSign : Nat → Bytes → Bytes → Bytes → Bytes

/-- The iterations that an ML-DSA signature takes until a candidate survives rejection. -/
opaque mldsaIterations : Nat → Bytes → Bytes → Bytes → Nat

/-- ML-DSA verification: type, key, message, signature. -/
opaque mldsaCheck : Nat → Bytes → Bytes → Bytes → Option Bool

/-! ## Payment methods and key blocks (ISO 9564-1, X9.24, X9.143, EMV) and values left open -/

/-- Fill digits of a format 3 PIN block, each 0 to 5 above 0xA, from random bytes. -/
opaque pinFill : Bytes → Nat → Nat

/-- The DUKPT working key of a base key for a KSN: purpose 0 PIN, 1 MAC, 2 data decryption; 3 the initial
key. -/
opaque dukptKey : Nat → Bytes → Bytes → Bytes

/-- Verification of a MAC under a DUKPT working key, over an input whose layout the specification leaves
open. -/
opaque dukptMacOk : Bytes → Bytes → Bool

/-- Decryption under a DUKPT data key. -/
opaque dukptDecrypt : Bytes → Bytes → Bytes

/-- The decimalisation-table offset method: verification key, PAN digits, table and offset, PIN digits. -/
opaque offsetOk : Bytes → List Nat → Bytes → List Nat → Bool

/-- An EMV computation: opcode, key, METHOD and digits, input. -/
opaque emv : Nat → Bytes → Nat → Nat → Bytes → Bytes

/-- An EMV or card verification: opcode, key, METHOD and digits, input. -/
opaque emvOk : Nat → Bytes → Nat → Nat → Bytes → Bool

/-- A cipher mode of Table 5-6 (ALG 0x30 to 0x33): decrypt, ALG, key, PARAM bytes 1 to 12, data. `none` is a
GCM tag that does not verify. -/
opaque cipherMode : Bool → Nat → Bytes → Bytes → Bytes → Option Bytes

/-- The place, among the statuses of Table 5-11, of that of a DECRYPT whose GCM tag does not verify, which the
specification does not state. -/
opaque gcmStatus : Nat

/-- The length of a generated HMAC key, which the specification does not state. -/
opaque hmacLength : Nat

/-- SLH-DSA key generation: type and random bytes, to material; and the parameter set it takes. -/
opaque slhKeygen : Nat → Bytes → Bytes
opaque slhParamSet : Nat → Nat

/-- SLH-DSA signature and verification: type, parameter set, key, message (and signature). -/
opaque slhSign : Nat → Nat → Bytes → Bytes → Bytes
opaque slhCheck : Nat → Nat → Bytes → Bytes → Bytes → Bool

/-- The decrypted key field of a key block that authenticates: version, protection key, block. -/
opaque keyblockOpen : Nat → Bytes → Bytes → Option Bytes

/-- The enciphered key data and MAC of a key block, in ASCII hexadecimal: version, protection key, header with
optional blocks, key field, and a free value for the padding. -/
opaque keyblockSeal : Nat → Bytes → Bytes → Bytes → Nat → Bytes

/-- The key usage and mode of use that an exported key's USAGE maps to where Table 7-11 has no row for it. -/
opaque keyblockUse : Nat → BitVec 16 → Bytes

/-- Which of the key usages and modes of use that Table 7-11 gives one TYPE and USAGE an exported key carries. -/
opaque keyblockPick : Nat → BitVec 16 → Nat

/-- The bytes that follow the modulus size in the body of an RSA key, private or public, of a modulus in bits: the
specification does not state the layout of a body. -/
opaque rsaBodyBytes : Bool → Nat → Nat

/-- The key indices that a TSM-3300 frame names, whose places the specification does not state. -/
opaque legacyIndices : Bytes → List Nat

/-- Which native opcode of its group a legacy command code stands for, by its place in the group of Table 5-9; the table
names the group's opcodes and not each code's. -/
opaque legacyChoice : Nat → Nat

/-- The PARAM bytes and the input of the native command that a TSM-3300 frame stands for; the places of fields in DATA
are not stated. -/
opaque legacyParam : Bytes → Bytes
opaque legacyInput : Bytes → Bytes

/-- RESPONSE_CODE and DATA of a successful TSM-3300 frame, whose layouts the specification does not state:
the frame and the result of the native command. -/
opaque legacyData : Bytes → Bytes → Nat × Bytes

/-! ## Lodges and firmware -/

/-- The running digest of a delta chain after a delta: the digest before it and the delta's bytes. How the digest runs
is not stated. -/
opaque chainDigest : BitVec 256 → Bytes → BitVec 256

/-- The boot-key digests that the boot ROM holds, by index (R492). -/
opaque bootKeyDigest : Nat → BitVec 256

/-- Uhlerind's PCI Express Vendor ID. -/
opaque vendorId : BitVec 16

/-- Uhlerind's JEP106 identity in bits 11:1 of IDCODE. -/
opaque jep106 : BitVec 11

/-- The boot key index of a firmware image: Table 2-20 places VENDOR_KEY_INDEX behind the end that R491 gives the
signature block. -/
opaque bootKeyIndex : Bytes → Nat

/-! ## Sealed storage, tokens and packages -/

/-- AES-256-GCM (SP 800-38D): key, nonce, associated data, plaintext, to ciphertext and tag. -/
opaque gcmSeal : Bytes → Bytes → Bytes → Bytes → Bytes

/-- Its inverse: key, nonce, associated data, ciphertext and tag. -/
opaque gcmOpen : Bytes → Bytes → Bytes → Bytes → Option Bytes

/-- AES-256-GCM-SIV (RFC 8452): key, nonce, associated data, plaintext, to ciphertext and tag. -/
opaque gcmSivSeal : Bytes → Bytes → Bytes → Bytes → Bytes

/-- AES-256-XTS of one 16-byte unit: key, tweak, plaintext. -/
opaque xts : Bytes → Nat → Bytes → Bytes

/-- The state of a pipe of an ALG under a key after it has absorbed bytes, whose form the specification does not
state. -/
opaque pipeImage : Nat → Bytes → Bytes → Bytes

/-- The private keys of a migration identity, encrypted under a key; the cipher is not stated. -/
opaque sealIdentity : Bytes → Bytes → Bytes

/-- The page of the counters and configuration region that the firmware gives an object, by kind and index,
and the page's bytes for its content (Table 12-4 leaves both to the firmware). -/
opaque controllerPage : Nat → Nat → Nat
opaque controllerImage : Nat → Nat → Bytes → Bytes

/-- The number of a tree node in a SETT_INTEGRITY event, by level and index, and the kind byte, neither of which the
specification states. -/
opaque treeNode : Nat → Nat → Nat
opaque integrityKind : Nat → Nat

/-- The event byte of a CEREMONY record, whose values the specification does not state; by cause. -/
opaque ceremonyEvent : Nat → Nat

/-- The dark level or offset that a monitor's calibration at boot measures. -/
opaque bootCalibration : Nat → Int

/-- The next state of the 31-bit LFSR that drives the mesh, whose polynomial the specification does not state. -/
opaque lfsrNext : BitVec 31 → BitVec 31

/-- The time from confirmation to root clear in units of 0.1 µs, at most 50, by the tick of confirmation. -/
opaque rootZeroTenths : Nat → Fin 51

/-- Codes in Owl payloads whose values the specification does not state: the light design still active, and the
outcome of a larder region. -/
opaque designCode : Bool → Nat
opaque spareOutcome : Nat → Nat

/-- The context of the derivation of the audit keys, which the specification does not state. -/
opaque auditContext : Bytes

/-- The P-384 key pair of 448 extra random bits (FIPS 186-5) and the ML-DSA-87 key pair of a seed: private and public
key, seed and public key. -/
opaque ecdsaFromBits : Bytes → Bytes × Bytes
opaque mldsaFromSeed : Bytes → Bytes × Bytes

/-- The two EDC bytes of a T=1 block with CRC (ISO/IEC 7816-3). -/
opaque edcCrc : Bytes → Bytes

/-- The eight check bits of the SECDED code over a larder word, which the specification does not give (R445). -/
opaque secded : BitVec 64 → BitVec 8

/-- Which bit of a word with an error is wrong. -/
opaque wrongBit : Nat → Nat

end Sys2Proof.Config
end

