-- ==== Sys2Proof/Machine/StateBoot.lean ====
section
/-! DEFINITION. The state of start-up, firmware slots and the DEV_ block ("Start-Up, Reset and
Firmware Images"), and of Antler and the LCS_ block ("Antler: Life-Cycle States and Debug
Authorisation"). -/

namespace Sys2Proof.Machine

/-- One firmware slot of the slot record, with what the flash holds there (R492, R493). -/
structure FwSlot where
  valid : Bool := false
  digest : BitVec 256 := 0
  flash : Bytes := []
  deriving DecidableEq, Repr

/-- A firmware operation in progress (R495 to R500): its OP, source, and how far it has come. -/
inductive FwPhase where
  | idle | fetch | write
  deriving DecidableEq, Repr

/-- Whether the device is in reset, booting, ready or in recovery (R485, R488, R494). `halted` is
the device whose boot step 1 failed; `configured` follows the end of Configuration Request Retry
Status (R484). -/
inductive BootPhase where
  | off | booting | configured | ready | recovery | halted
  deriving DecidableEq, Repr

/-- Start-up and the DEV_ block (Tables 13-9 to 13-25). -/
structure BootState where
  phase : BootPhase := .off
  start : Nat := 0
  cause : Nat := 0
  slot : Nat := 0
  fallback : Bool := false
  outcomeA : Nat := 0xFF
  outcomeB : Nat := 0xFF
  timeMs : Nat := 0
  runningVersion : BitVec 32 := 0
  runningSvn : Nat := 0
  runningLcAllowed : BitVec 8 := 0
  vendorKeys : List Bytes := []
  microcode : List Word := []
  nativeSet : Bytes := []
  compatSet : Bytes := []
  slotA : FwSlot := {}
  slotB : FwSlot := {}
  preferred : Nat := 0
  antiRollback : Nat := 0
  saturated : Bool := false
  fwOp : BitVec 2 := 0
  fwSrcAddr : Word := 0
  fwSrcLen : Reg := 0
  fwRunLen : Nat := 0
  fwPhase : FwPhase := .idle
  fwWaits : Bool := false
  fwRunOp : BitVec 2 := 0
  fwImage : Bytes := []
  fwOutcome : Nat := 0
  fwResultOp : BitVec 2 := 0
  preferDue : Option Nat := none
  deriving DecidableEq, Repr

/-- LCS_STATE.STATE (Table 14-1). -/
inductive LifeCycle where
  | blank | makerTest | production | endOfLife
  deriving DecidableEq, Repr

/-- One life-cycle copy (Table 14-4); `intact` says whether its STATE_CODE and INTEGRITY hold. -/
structure LcCopy where
  state : LifeCycle := .blank
  unlockUsed : BitVec 16 := 0
  intact : Bool := true
  deriving DecidableEq, Repr

/-- PHASE of LCS_STATUS (Table 14-20). -/
inductive LcPhase where
  | idle | fetch | check | quiescing | wiping | copies
  deriving DecidableEq, Repr

/-- Whether Antler holds admission: a field-debug entry that waits (R520), or a transition (Table 14-9). -/
def LcPhase.holds : LcPhase → Bool
  | .quiescing | .wiping | .copies => true
  | _ => false

/-- Antler (Tables 14-3 and 14-14 to 14-24). `digests` are the provisioned digests of Table 14-7 in
message order: three entry tokens, sixteen unlock tokens, DEBUG_KEY_DIGEST. `target`,
`newOwner` and `identityBytes` (the random bytes of a migration identity) belong to a transition in progress, `portShut` says that a tamper response has closed the debug port. -/
structure AntlerState where
  state : LifeCycle := .blank
  copy0 : LcCopy := {}
  copy1 : LcCopy := {}
  copy2 : LcCopy := {}
  unlockUsed : BitVec 16 := 0
  copiesIntact : BitVec 3 := 7
  differed : Bool := false
  lost : Bool := false
  debug : Bool := false
  testOpen : Bool := false
  portShut : Bool := false
  provisioned : Bool := false
  digests : List Bytes := []
  ownerDigest : BitVec 256 := 0
  rotations : Nat := 0
  debugCount : Nat := 0
  debugOverflow : Bool := false
  tokenFails : SatCount := {}
  challenge : Option Bytes := none
  challengeExpires : Nat := 0
  op : BitVec 3 := 0
  srcAddr : Word := 0
  srcLen : Reg := 0
  phase : LcPhase := .idle
  runOp : BitVec 3 := 0
  outcome : Nat := 0
  resultOp : BitVec 3 := 0
  quiesceUntil : Nat := 0
  target : Option LifeCycle := none
  newOwner : BitVec 256 := 0
  identityBytes : Bytes := []
  transitionAt : Nat := 0
  copiesDue : Bool := false
  deriving DecidableEq, Repr

end Sys2Proof.Machine
end

