-- ==== Sys2Proof/Machine/StateCheck.lean ====
section
/-! DEFINITION. The state of the Woodpecker units and the burrow queues ("Woodpecker Units and Burrow
Queues"). -/

namespace Sys2Proof.Machine

/-- CRC parameters (R591). -/
structure CrcParams where
  width : Nat := 32
  refin : Bool := true
  refout : Bool := true
  poly : Word := 0x04C11DB7
  init : Word := 0xFFFFFFFF
  xorout : Word := 0xFFFFFFFF
  deriving DecidableEq, Repr

/-- A Woodpecker unit (Tables 17-6 and 17-7): its parameter registers, the parameters latched at
START (R592), the CRC register, the byte count and the alive counter. At a device reset it holds
preset 1 as if START had been written. -/
structure CrcUnit where
  preset : Nat := 1
  params : CrcParams := {}
  latched : CrcParams := {}
  reg : Word := 0xFFFFFFFF
  bytes : SatCount := {}
  aliveLast : BitVec 4 := 0
  aliveStarted : Bool := false
  aliveRepeat : Bool := false
  aliveSkip : Bool := false
  repeats : SatCount := {}
  skipped : SatCount := {}
  deriving DecidableEq, Repr

/-- A committed word of a burrow queue: its tag (Table 17-2), its data bits, and the time from which a read sees it
as it is (R602, Table 17-4). -/
structure BurrowWord where
  tag : BitVec 3 := 1
  data : Word := 0
  visibleAt : Nat := 0
  deriving DecidableEq, Repr

/-- A burrow queue (R602 to R608): committed words oldest first, the words of the packet being
written, whether that packet is being discarded to its LAST, whether the consumer is part-way through a packet or is
owed a CUT, and when the queue was last flushed or reset. -/
structure BurrowQueue where
  words : List BurrowWord := []
  partialWords : List Word := []
  discarding : Bool := false
  midPacket : Bool := false
  cutDue : Bool := false
  flushedAt : Option Nat := none
  deriving DecidableEq, Repr

/-- The CRC_ block. -/
structure CheckState where
  units : Tbl CrcUnit := []
  queues : Tbl BurrowQueue := []
  faultCaptured : Bool := false
  faultSide : Bool := false
  faultQueue : Nat := 0
  faultAt : Nat := 0
  resets : SatCount := {}
  drops : SatCount := {}
  deriving DecidableEq, Repr

end Sys2Proof.Machine
end

