-- ==== Sys2Proof/Machine/StateKeys.lean ====
section
/-! DEFINITION. The state of the Sett and of the custodians: key records, slots, hot cache,
quota, legacy maps ("Keys, Key Domains and the Sett"), enrolments, the ceremony and the Quill
ports ("Quill Tokens and Dual Control"). A key is named inside the model by a `KeyId`: a resident
slot s by s, the persistent slot p by 2^23 + p (Table 7-3). -/

namespace Sys2Proof.Machine

/-- Resident slot s is key s; persistent slot p is key 2^23 + p. -/
abbrev KeyId := Nat

/-- STATE of a key record (Table 7-4); an empty slot holds no record. -/
inductive KeyState where
  | valid | failed
  deriving DecidableEq, Repr

/-- A key record, Table 7-4 (R276). `body` is the plaintext body, `granule` is BODY_GRANULE, and `bodyTag` is the
BODY_TAG of the body as last stored (R286). `initialKeyId` is what blocks KS and IK store with a B0 key (R305). -/
structure KeyRec where
  domain : Nat := 0
  generation : Nat := 1
  state : KeyState := .valid
  type : Nat := 0
  usage : BitVec 16 := 0
  attrs : BitVec 16 := 0
  notBefore : Nat := 0
  notAfter : Nat := 0xFFFFFFFFFF
  paramSet : Nat := 0
  useLimit : Nat := 0
  useCount : Nat := 0
  material : Bytes := []
  body : Bytes := []
  granule : Nat := 0
  bodyTag : Bytes := []
  initialKeyId : Bytes := []
  deriving DecidableEq, Repr

/-- One slot of the key table or of the master-key region: its generation (R274, R275), its
record and RESERVED, the reservations held and not committed (R296). `stored` is the stored record that the DRAM key
table holds for a resident key (R282), `storedBody` its encrypted body in map order (R286). -/
structure KeySlot where
  generation : Nat := 1
  record : Option KeyRec := none
  reserved : Nat := 0
  stored : Bytes := []
  storedBody : Bytes := []
  deriving DecidableEq, Repr

/-- A version tree of arity 8 (R284): the versions of the units, in its leaves; the counters of its other nodes, counter
c of level l under 2^23 × l + c; and the counters above the top level, on the die. -/
structure VersionTree where
  versions : Tbl Nat := []
  counters : Tbl Nat := []
  onDie : Tbl Nat := []
  deriving DecidableEq, Repr

/-- A hot-cache entry (R287, R290): the key it caches and whether USE_COUNT has changed. -/
structure HotEntry where
  key : KeyId := 0
  changed : Bool := false
  deriving DecidableEq, Repr

/-- The Sett. `masterKey` and `tableKey` are its key registers, `storageKeys` its storage-key table, one key for each
domain in order (Table 7-2): empty while nothing is derived. `granuleMap` holds the entries of the granules in use
(R278). The trees are those of the key table, the legacy maps and the stream contexts, and `legacyUnits` and
`streamUnits` the stored units of the last two with their tags (R468, R469). `hot` lists the cached keys, least
recently used first, and `unpinned` says when a key last ceased to be pinned (R289). `storedCount` is the
USE_COUNT that the master-key region holds for a persistent key whose write is due (R291), with
the time by which it is written. -/
structure SettState where
  masterKey : Option Bytes := none
  tableKey : Option Bytes := none
  storageKeys : List Bytes := []
  bootNonce : Bytes := []
  keys : Tbl KeySlot := []
  cursor : Nat := 0
  granuleMap : Tbl (BitVec 32) := []
  keyTree : VersionTree := {}
  legacyTree : VersionTree := {}
  streamTree : VersionTree := {}
  legacyUnits : Tbl Bytes := []
  streamUnits : Tbl Bytes := []
  hot : List HotEntry := []
  unpinned : Tbl Nat := []
  countDue : Tbl Nat := []
  storedCount : Tbl Nat := []
  legacy : Tbl (Tbl (BitVec 32)) := []
  hits : Nat := 0
  misses : Nat := 0
  integrityFailures : Nat := 0
  deriving DecidableEq, Repr

/-- An enrolment record, Table 8-4 (R328). -/
structure Enrolment where
  tokenId : Bytes := []
  keyDigest : Bytes := []
  domain : Nat := 0
  custodian : Nat := 0
  expiry : Nat := 0
  useLimit : Nat := 0
  useCount : Nat := 0
  deriving DecidableEq, Repr

/-- STATE of QTK_CEREMONY_STATUS (Table 8-11). -/
inductive CeremonyPhase where
  | idle | gathering | quorate
  deriving DecidableEq, Repr

/-- A component held in sealed controller SRAM under its custodian and INDEX (R342, R314). -/
structure Component where
  custodian : Nat := 0
  index : Nat := 0
  value : Bytes := []
  deriving DecidableEq, Repr

/-- The one ceremony of the device (R338, R340). `components` were read from tokens, `generated`
wait to be written to them. -/
structure Ceremony where
  phase : CeremonyPhase := .idle
  domain : Nat := 0
  m : Nat := 0
  openedAt : Nat := 0
  timeoutS : Nat := 0
  counted : List Nat := []
  components : List Component := []
  generated : List Component := []
  deriving DecidableEq, Repr

/-- Where a token request on a Quill port stands: waiting for a card, activating, waiting for the PPS response or the
S(IFS response) (Table 8-1), waiting for the response to a Quill message of Table 8-3, or waiting for random bytes for
its challenge or its ephemeral key. -/
inductive QuillStage where
  | waitCard | activating | pps | ifs | identify | authenticate | component | challenge | ephemeral
  deriving DecidableEq, Repr

/-- The request that a port serves (R339): the slot of its command, what it asks and what the token has said. `retries`
counts the R-blocks sent for one block, `resynched` says that S(RESYNCH request) has been sent and `resyncDue` that its
response is awaited (R321); `held` is the body of a response whose page commit waits (R333), `verified` says that the
signature has verified, and `second` that another port's presentation of the custodian verified first for the same
INDEX (Table 8-8). -/
structure QuillRequest where
  slot : Nat := 0
  enrol : Bool := false
  domain : Nat := 0
  index : Nat := 255
  write : Bool := false
  custodian : Nat := 0
  expiry : Nat := 0
  useLimit : Nat := 0
  waitUntil : Nat := 0
  stage : QuillStage := .waitCard
  seq : Nat := 0
  retries : Nat := 0
  resynched : Bool := false
  resyncDue : Bool := false
  held : Bytes := []
  verified : Bool := false
  second : Bool := false
  challenge : Bytes := []
  tokenId : Bytes := []
  publicKey : Bytes := []
  ephemeral : Bytes := []
  deriving DecidableEq, Repr

/-- A Quill port (Tables 8-1, 8-10 and 8-14): card contact, activation, class, state, last outcome, link-error
count, and the request it serves. Of the T=1 link it holds IFSC, the kind of EDC, BWI, CWI and the transmission factors
(as TA1 codes them); `sendN` and `recvN`, the numbers of the I-block outstanding or next to send and of the next to
come; `message`, the Quill message being sent, and `tx`, its pieces not yet acknowledged, the first outstanding;
`rx`, the pieces received of the response; and `waitSince`, when the wait for the response began. -/
structure QuillPort where
  present : Bool := false
  powered : Bool := false
  cls : Nat := 0
  state : Nat := 0
  lastOutcome : Nat := 0
  linkErrors : SatCount := {}
  ifsc : Nat := 32
  crc : Bool := false
  bwi : Nat := 4
  cwi : Nat := 13
  factors : Nat := 0x11
  sendN : Bool := false
  recvN : Bool := false
  message : Bytes := []
  tx : List Bytes := []
  rx : Bytes := []
  waitSince : Nat := 0
  nextSeq : Nat := 0
  warmReset : Bool := false
  request : Option QuillRequest := none
  deriving DecidableEq, Repr

/-- Custodians, ceremony and ports. -/
structure QuillState where
  enrolments : List Enrolment := []
  ceremony : Ceremony := {}
  ports : Tbl QuillPort := []
  deriving DecidableEq, Repr

end Sys2Proof.Machine
end

