-- ==== Sys2Proof/Machine/StateHost.lean ====
section
/-! DEFINITION. The state of the host side: entries, rings, slots, and the context of a command
program on a transaction core ("Host Interface, Rings and Polling", "Lergen Commands,
Personalities and Status", "Transaction Cores and Command Programs"), and the engines
("Bear and Hedgehog Engines"). -/

namespace Sys2Proof.Machine

/-- A submission entry, Table 5-1 (R162), with its 64 bytes as fetched. -/
structure Entry where
  raw : Bytes := []
  opcode : Nat := 0
  tag : Nat := 0
  pers : BitVec 8 := 0
  flags : BitVec 16 := 0
  handles : List (BitVec 32) := []
  inAddr : Word := 0
  inLength : Nat := 0
  outLength : Nat := 0
  outAddr : Word := 0
  param : Bytes := []
  deriving DecidableEq, Repr

/-- The ring pair, doorbells and progress word of one function (Tables 4-6 to 4-17), with its
virtual time and the eligibility last seen (R147, R148). -/
structure Ring where
  sqBase : Word := 0
  cqBase : Word := 0
  sqLog2 : Nat := 4
  cqLog2 : Nat := 4
  enable : Bool := false
  enabled : Bool := false
  dbError : Bool := false
  fetchError : Bool := false
  sqTail : Nat := 0
  sqHead : Nat := 0
  cqHead : Nat := 0
  cqWrite : Nat := 0
  phase : Bool := false
  sqFetched : Nat := 0
  cqWritten : Nat := 0
  pwAddr : Word := 0
  pwEnable : Bool := false
  pwForce : Bool := false
  pwInterval : Nat := 2
  pwSeq : Nat := 0
  pwLast : Word := 0
  pwLastAt : Option Nat := none
  vt : BitVec 32 := 0
  wasEligible : Bool := false
  deriving DecidableEq, Repr

/-- A block register: 16 bytes in memory order, byte 0 in bits 7:0, and the sensitive mark. -/
structure BlockReg where
  val : BitVec 128 := 0
  sensitive : Bool := false
  deriving DecidableEq, Repr

/-- A key register: the key, the copy of its record, and whether its reserved use is committed
(R226, R227). `streamKey` marks a key loaded by the stream prologue, which holds no reservation
(R253). `handleReg` is the handle register that named it (Table 6-11). -/
structure KeyReg where
  key : KeyId := 0
  record : KeyRec := {}
  committed : Bool := false
  streamKey : Bool := false
  handleReg : Nat := 0
  deriving DecidableEq, Repr

/-- A hash or MAC pipe: its algorithm, the key of a keyed algorithm and the bytes absorbed. -/
structure Pipe where
  alg : Nat := 0
  key : Option KeyRec := none
  absorbed : Bytes := []
  deriving DecidableEq, Repr

/-- The registers of a command program (Tables 6-3 and 6-12). `padUntil` is the target of a CTPAD that holds
the core; `keyFault` is the status and handle register of the last KEY exception (R173). -/
structure Ctx where
  g : Vector Word 32 := Vector.replicate 32 0
  k : Vector (BitVec 32) 8 := Vector.replicate 8 0
  cb : Vector BlockReg 16 := Vector.replicate 16 {}
  ck : Vector (Option KeyReg) 8 := Vector.replicate 8 none
  pipes : Vector (Option Pipe) 4 := Vector.replicate 4 none
  pc : Word := 0
  evec : BitVec 32 := 0
  dfvec : BitVec 32 := 0
  stackLo : BitVec 32 := 0
  stackHi : BitVec 32 := 0
  excDepth : Nat := 0
  dfActive : Bool := false
  firstAt : Nat := 0
  padUntil : Option Word := none
  keyFault : Option (Status × Nat) := none
  deriving DecidableEq, Repr

/-- STATE of a job status word (Table 9-3). -/
inductive JobState where
  | queued | running | done | failed | aborted
  deriving DecidableEq, Repr

/-- An engine job of a command (Tables 9-1 to 9-4). `startStore` is the store that was active when a Bear
job started (R379). `direct` marks a job of a native command, whose operands are given as bytes and whose
output the command collects. `computed` marks a job whose engine has its result (output, agreed secret, generated key) and has not
delivered it. -/
structure Job where
  state : JobState := .queued
  hedgehog : Bool := false
  engine : Nat := 0
  code : Nat := 0
  iterations : Nat := 0
  group : Option Nat := none
  operation : Nat := 0
  outMode : Nat := 0
  length : Nat := 0
  param : Nat := 0
  aAddr : Nat := 0
  bAddr : Nat := 0
  cAddr : Nat := 0
  aLength : Nat := 0
  attrAddr : Nat := 0
  operandA : Bytes := []
  operandB : Bytes := []
  operandC : Bytes := []
  attributes : Bytes := []
  random : Bytes := []
  outAddr : Nat := 0
  outLength : Nat := 0
  key : Option KeyReg := none
  output : Bytes := []
  startStore : Nat := 0
  notBefore : Nat := 0
  computed : Bool := false
  secret : Option Bytes := none
  newKey : Option KeyRec := none
  publicKey : Bytes := []
  direct : Bool := false
  deriving DecidableEq, Repr

/-- Where a slot's command stands: its entry's fetch in flight; admitted and waiting for input;
routed with its input gathered; running on a core; parked in the miss pen; released from the pen or
from YIELD and waiting for a core; parked on an engine job or a full job queue; waiting on a Quill
request or another sealed-controller operation; ended, its completion entry not yet written. -/
inductive SlotPhase where
  | fetching | admitted | ready | running | missPen | resume | parked | waiting | ended
  deriving DecidableEq, Repr

/-- A command waiting in the miss pen (R154, R289): the key it waits for, when it came, and whether the record has
arrived and found its set wholly pinned. -/
structure MissWait where
  key : KeyId := 0
  since : Nat := 0
  arrived : Bool := false
  deriving DecidableEq, Repr

/-- The native command that a TSM-3300 frame stands for (R194): the frame, and the command's entry and input. -/
structure LegacyCall where
  frame : Bytes := []
  entry : Entry := {}
  input : Bytes := []
  deriving DecidableEq, Repr

/-- One device-wide slot and the command in it (R21). `pool` is `none` for an administrative
command. `setId` names the PROGRAMS section that serves the command, `none` a built-in set.
`status`, `result`, `needed` and `detail` are the outcome once the command has ended. `owed` holds
reservations of key registers emptied or overwritten since (R227), `storeRefused` the mark of R465,
`streamClash` that another part of the stream was in flight when this one arrived (R188), `cancelled` that an entry in
flight will not be admitted (R131, R697). `legacy` is the native command that a compatibility command runs. -/
structure Slot where
  fn : Nat := 0
  phase : SlotPhase := .fetching
  ringIndex : Nat := 0
  grant : Nat := 0
  entry : Entry := {}
  pool : Option Nat := none
  skulk : Option Nat := none
  started : Bool := false
  programWorld : Bool := true
  setId : Option Nat := none
  persKind : Nat := 1
  frame : Option Nat := none
  core : Option Nat := none
  ctx : Ctx := {}
  status : Status := 0
  result : Bytes := []
  needed : Nat := 0
  detail : Bytes := []
  outList : List (Nat × Nat) := []
  retry : Option (BitVec 32) := none
  miss : Option MissWait := none
  jobs : Tbl Job := []
  heldSecret : Option Bytes := none
  keysHeld : List KeyReg := []
  owed : List KeyReg := []
  storeRefused : Bool := false
  drawn : Option Bytes := none
  streamClash : Bool := false
  admittedAsStandby : Bool := false
  epoch : Nat := 0
  cancelled : Bool := false
  legacy : Option LegacyCall := none
  approved : Option (List Nat) := none
  deriving DecidableEq, Repr

/-- An entry of a function whose record a delta has removed: fetched at the commit, never admitted (R197), its
completion with 0x0608 not yet written (R109). -/
structure DueEntry where
  fn : Nat := 0
  entry : Entry := {}
  deriving DecidableEq, Repr

/-- A stream context (R252, R254): pipe, algorithm, key handle and byte count of an open stream. -/
structure StreamCtx where
  fn : Nat := 0
  index : Nat := 0
  streamId : BitVec 32 := 0
  alg : Nat := 0
  handle : BitVec 32 := 0
  handleCount : Nat := 0
  pipe : Option Pipe := none
  byteCount : Nat := 0
  deriving DecidableEq, Repr

/-- A transaction core: stopped until the next device reset (R244), and the slot of the command
it runs. -/
structure CoreState where
  stopped : Bool := false
  slot : Option Nat := none
  deriving DecidableEq, Repr

/-- An engine (R346, R350, R374, R378, Tables 9-8 to 9-13). `running` names slot and job number. `memory` holds its
operand memory up to the last byte written since the memory was cleared, `clearing` the time at which a clear began, and
`owner` the function and domain of its previous job. Bear engines hold two program stores of 2,048 microwords. -/
structure Engine where
  running : Option (Nat × Nat) := none
  owner : Option (Nat × Nat) := none
  memory : Bytes := []
  clearing : Option Nat := none
  stalled : Bool := false
  faulted : Bool := false
  consecutiveFaultChecks : Nat := 0
  faultBits : BitVec 32 := 0
  jobs : Nat := 0
  activeStore : Nat := 0
  swap : Bool := false
  store0 : Tbl Word := []
  store1 : Tbl Word := []
  deriving DecidableEq, Repr

/-- The job queue of an engine group: slot and job number of each entry, oldest first (R346). -/
structure EngineGroup where
  queue : List (Nat × Nat) := []
  deriving DecidableEq, Repr

/-- The host interface and dispatcher as a whole. `hiLatch` holds the pending high-half latches
of R18, `loBuffer` the low-half buffers of R19 that differ from the register; both are keyed by
2^26 × function + offset. `due` holds the entries of removed functions that wait for a completion position, in ring
order. -/
structure HostState where
  rings : Tbl Ring := []
  slots : Tbl Slot := []
  due : List DueEntry := []
  streams : List StreamCtx := []
  hiLatch : Tbl Reg := []
  loBuffer : Tbl Reg := []
  gv : BitVec 32 := 0
  grants : Nat := 0
  slotHigh : Nat := 0
  denied : SatCount := {}
  d3hot : Bool := false
  linkSpeed : Nat := 0
  linkWidth : Nat := 0
  linkUp : Bool := false
  deriving DecidableEq, Repr

/-- The cores and engines. -/
structure ComputeState where
  cores : Tbl CoreState := []
  bears : Tbl Engine := []
  hedgehogs : Tbl Engine := []
  bearGroups : Tbl EngineGroup := []
  hedgehogGroups : Tbl EngineGroup := []
  deriving DecidableEq, Repr

end Sys2Proof.Machine
end

