-- ==== Sys2Proof/Machine/StateCub.lean ====
section
/-! DEFINITION. The state of the functions' administration: resets, migration and dirty-page logs
("Cub Functions, Tenant Isolation and Migration"). -/

namespace Sys2Proof.Machine

/-- The kinds of Table 11-2, and the function-level reset that VF Enable causes (R411). -/
inductive ResetKind where
  | cubReset | vfFlr | pfFlr | flush | freeze
  deriving DecidableEq, Repr

/-- A reset in progress on one function (Table 11-3): its start T, the slot of the den command
that asked for it with the number of that command's grant, and the counts of Table 11-8. -/
structure ResetOp where
  kind : ResetKind := .cubReset
  start : Nat := 0
  slot : Option Nat := none
  grant : Nat := 0
  completed : Nat := 0
  squashed : Nat := 0
  undelivered : Nat := 0
  discarded : Nat := 0
  squashDone : Bool := false
  deriving DecidableEq, Repr

/-- STATE of CUB_MIG_STATE (Table 11-14). -/
inductive MigState where
  | none | freezing | frozen | saved | incoming
  deriving DecidableEq, Repr

/-- A dirty-page log (R438, R440): window base, pages, and the bitmap bytes that are not zero. -/
structure DirtyLog where
  base : Nat := 0
  pages : Nat := 0
  area : Nat := 0
  bitmap : Tbl Byte := []
  deriving DecidableEq, Repr

/-- What the device keeps of one function beside its ring: Bus Master Enable and Enable Relaxed Ordering of its configuration
space, the Max_Read_Request_Size and Max_Payload_Size set there in bytes, Non-Fatal Error Detected (R414), resets,
migration, dirty log and the counts of its CUBT_ entry. `migScope` is SCOPE of
Table 11-14. -/
structure FnState where
  busMaster : Bool := false
  relaxed : Bool := true
  maxRead : Nat := 512
  maxPayload : Nat := 128
  nonFatal : Bool := false
  resets : List ResetOp := []
  mig : MigState := .none
  migScope : Nat := 0
  frozenAt : Nat := 0
  dirty : Option DirtyLog := none
  dirtyOutside : Bool := false
  squashed : SatCount := {}
  undelivered : SatCount := {}
  deriving DecidableEq, Repr

/-- An open ticket (R426). -/
structure Ticket where
  id : Bytes := []
  nonce : Bytes := []
  domain : Nat := 0
  source : Bytes := []
  expires : Nat := 0
  deriving DecidableEq, Repr

/-- A saved package awaiting its receipt (R431, R432, R437). -/
structure SavedPackage where
  ticketId : Bytes := []
  scope : Nat := 1
  domain : Nat := 0
  cubs : List Nat := []
  receiptKey : Bytes := []
  digest : Bytes := []
  deriving DecidableEq, Repr

/-- A migration identity (R424): its two private and two public keys. -/
structure MigIdentity where
  p384Private : Bytes := []
  mlkemPrivate : Bytes := []
  p384 : Bytes := []
  mlkem : Bytes := []
  deriving DecidableEq, Repr

/-- The functions and the MIG_ block. `identityDue` says that a new identity waits for its random bytes. -/
structure CubState where
  numVfs : Nat := 0
  vfEnable : Bool := false
  fns : Tbl FnState := []
  identity : Option MigIdentity := none
  identityDue : Bool := false
  tickets : List Ticket := []
  saved : List SavedPackage := []
  departing : List Nat := []
  abandoned : SatCount := {}
  deriving DecidableEq, Repr

end Sys2Proof.Machine
end

