-- ==== Sys2Proof/Machine/StateLodge.lean ====
section
/-! DEFINITION. The state of a lodge: the tables that a lodge image sets ("The Lodge Image:
Format"), the lodge record, the lodge area of the flash and the operation in progress
("Applying Lodge Images and Lodge Deltas"). -/

namespace Sys2Proof.Machine

/-- The UNITS section, Table 2-5 (R53). -/
structure UnitsSec where
  skulkEnable : BitVec 32 := 0
  bearEnable : BitVec 8 := 0
  hedgehogEnable : BitVec 8 := 0
  quillEnable : BitVec 8 := 0
  packEnable : BitVec 8 := 0
  deriving DecidableEq, Repr

/-- A POOLS record, Table 2-6 (R54). -/
structure PoolRec where
  poolId : Nat := 0
  slotCap : Nat := 0
  skulkMask : BitVec 32 := 0
  bearMask : BitVec 8 := 0
  hedgehogMask : BitVec 8 := 0
  deriving DecidableEq, Repr

/-- A FUNCTIONS record, Table 2-7 (R57). -/
structure FunctionRec where
  fn : Nat := 0
  poolId : Nat := 0
  flags : BitVec 8 := 0
  domain : Nat := 0
  weight : Nat := 0
  creditLimit : Nat := 0
  persMask : BitVec 16 := 0
  deriving DecidableEq, Repr

/-- A DOMAINS record, Table 2-8 (R60). -/
structure DomainRec where
  domain : Nat := 0
  flags : BitVec 16 := 0
  masterKeySlots : Nat := 0
  ceremonyM : Nat := 0
  ceremonyN : Nat := 0
  quota : Nat := 0
  tag : BitVec 32 := 0
  deriving DecidableEq, Repr

/-- A PERSONALITIES record, Table 2-9 (R62). -/
structure PersonalityRec where
  persId : Nat := 0
  kind : Nat := 0
  programSet : Nat := 0
  version : BitVec 32 := 0
  name : Bytes := []
  deriving DecidableEq, Repr

/-- An entry-table record of a program set, Table 2-11. -/
structure ProgramEntry where
  opcode : Nat := 0
  flags : BitVec 16 := 0
  codeEntry : Nat := 0
  deriving DecidableEq, Repr

/-- A program set, Table 2-10 (R67): header, entry table, code and constants. -/
structure ProgramSet where
  setId : Nat := 0
  sealedWorld : Bool := false
  entries : List ProgramEntry := []
  code : Bytes := []
  consts : Bytes := []
  deriving DecidableEq, Repr

/-- A GATES record, Table 2-12 (R70). -/
structure GateRec where
  gate : Nat := 0
  region : Nat := 0
  masterLo : Nat := 0
  masterHi : Nat := 0
  permit : BitVec 8 := 0
  baseBlock : Nat := 0
  blockCount : Nat := 0
  deriving DecidableEq, Repr

/-- An OWL_LIMITS record, Table 2-13 (R73). -/
structure OwlLimitRec where
  code : Nat := 0
  burst : Nat := 0
  rate : Nat := 0
  deriving DecidableEq, Repr

/-- A LYNX_TIGHTEN record, Table 2-14 (R74). -/
structure TightenRec where
  monitor : Nat := 0
  param : Nat := 0
  value : BitVec 32 := 0
  deriving DecidableEq, Repr

/-- The POWER section, Table 2-16 (R76). -/
structure PowerSec where
  mode : Nat := 0
  stillCeiling : Nat := 0
  idleGateDelay : BitVec 32 := 0
  alwaysOnSkulks : BitVec 32 := 0
  alwaysOnBear : BitVec 8 := 0
  alwaysOnHedgehog : BitVec 8 := 0
  denPolicy : Bool := false
  lock : Bool := false
  deriving DecidableEq, Repr

/-- The PACK section, Table 2-17 (R78). -/
structure PackSec where
  rolePref : Nat := 0
  linkMask : BitVec 8 := 0
  witness : Nat := 0
  leaseMs : Nat := 0
  renewMs : Nat := 0
  driftPpm : Nat := 0
  guardMs : Nat := 0
  pairId : Bytes := []
  peerDeviceId : Bytes := []
  exerciseInterval : Nat := 0
  deriving DecidableEq, Repr

/-- A MIGRATION peer record, Table 2-19. -/
structure MigrationPeer where
  deviceId : Bytes := []
  idDigest : Bytes := []
  deriving DecidableEq, Repr

/-- The MIGRATION section, Tables 2-18 and 2-19 (R79). -/
structure MigrationSec where
  nativeMig : Bool := false
  compat3300 : Bool := false
  freezeTimeoutMs : Nat := 0
  peers : List MigrationPeer := []
  deriving DecidableEq, Repr

/-- The tables of one lodge state (R102): a full image with its deltas folded in (R87, R88). -/
structure Lodge where
  serial : Nat := 0
  lcBinding : BitVec 8 := 0
  units : UnitsSec := {}
  pools : List PoolRec := []
  functions : List FunctionRec := []
  domains : List DomainRec := []
  personalities : List PersonalityRec := []
  programs : List ProgramSet := []
  gates : List GateRec := []
  owlLimits : List OwlLimitRec := []
  tighten : List TightenRec := []
  power : PowerSec := {}
  pack : Option PackSec := none
  migration : Option MigrationSec := none
  deriving DecidableEq, Repr

/-- One lodge state as the lodge record names it: its serial, the serial and SHA3-256 digest of
its full image, the length of its delta chain and the running chain digest. -/
structure LodgeRecordEntry where
  serial : Nat := 0
  fullSerial : Nat := 0
  fullDigest : BitVec 256 := 0
  chain : Nat := 0
  chainDigest : BitVec 256 := 0
  deriving DecidableEq, Repr

/-- The 256-byte lodge record of the persistent store (Table 3-1, R92, R95). -/
structure LodgeRecord where
  highSerial : Nat := 0
  current : Option LodgeRecordEntry := none
  previous : Option LodgeRecordEntry := none
  staged : Option LodgeRecordEntry := none
  deriving DecidableEq, Repr

/-- The flash copy of one lodge state: its full image and its deltas in chain order, the lodge slot and the chain area that
hold them (Table 13-5). Both devices hold the same. -/
structure LodgeFlash where
  full : Bytes := []
  deltas : List Bytes := []
  slot : Nat := 0
  area : Nat := 0
  deriving DecidableEq, Repr

/-- PHASE of LDG_STATUS (Table 3-12). -/
inductive LodgePhase where
  | idle | fetch | validate | flashWrite | quiescing | commit
  deriving DecidableEq, Repr

/-- The LDG_ block and the operation in progress (Tables 3-7 to 3-19). `op` is LDG_CONTROL.OP as
last written, `runOp` the operation in progress with the address, length and limit captured at its GO. `waits` says
that it began during a TRANSITION or DEBUG_OPEN and waits for the end of that (Table 14-13), `quiesced` that every
affected pool was quiescent within the limit (R108). -/
structure LodgeCtl where
  op : BitVec 2 := 0
  srcAddr : Word := 0
  srcLen : Reg := 0
  quiesceMs : Nat := 100
  runQuiesceMs : Nat := 100
  waits : Bool := false
  phase : LodgePhase := .idle
  runOp : BitVec 2 := 0
  runAddr : Word := 0
  runLen : Nat := 0
  image : Bytes := []
  parsed : Option Lodge := none
  affected : List Nat := []
  deadline : Nat := 0
  peerAccepted : Bool := false
  quiesced : Bool := false
  fallback : Bool := false
  resultStatus : Status := 0
  resultStep : Nat := 0
  resultOp : BitVec 2 := 0
  deriving DecidableEq, Repr

/-- The lodge record and the flash copies that it names. -/
structure StoredLodge where
  record : LodgeRecord := {}
  current : LodgeFlash := {}
  previous : LodgeFlash := {}
  staged : LodgeFlash := {}
  deriving DecidableEq, Repr

/-- Everything the device holds about lodges. `stored` is what the persistent store still names while a commit of
the record that a boot has made waits for the power-fail warning to be armed (R486). `inForce` is the lodge whose tables are live;
`none` is the lodgeless device (R103). -/
structure LodgeState where
  inForce : Option Lodge := none
  record : LodgeRecord := {}
  flashCurrent : LodgeFlash := {}
  flashPrevious : LodgeFlash := {}
  flashStaged : LodgeFlash := {}
  stored : Option StoredLodge := none
  ctl : LodgeCtl := {}
  deriving DecidableEq, Repr

end Sys2Proof.Machine
end

