-- ==== Sys2Proof/Machine/StateMem.lean ====
section
/-! DEFINITION. The state of the memories and gates ("Larders, Persistent Store, DRAM and Badger
Gates"). A byte of a gate's target is named by one address, 2^36 × gate + offset (Table 12-8). -/

namespace Sys2Proof.Machine

/-- Who asked for a page commit: R464 admits the Sett, Owl and the time-floor page after the
power-fail warning. -/
inductive CommitSource where
  | controller | timeFloor | sett | owl
  deriving DecidableEq, Repr

/-- A page commit: target page, staged bytes and requester (R458, R462). One that has begun lies in a shadow page of the
journal until it retires; `marked` says whether its marker is written, with its sequence number and the CRC-32C over the
staged bytes (Table 12-5). -/
structure PageCommit where
  page : Nat := 0
  bytes : Bytes := []
  source : CommitSource := .controller
  marked : Bool := false
  seq : Nat := 0
  crc : BitVec 32 := 0
  deriving DecidableEq, Repr

/-- A wipe of a larder: when its verification ends, and whether it covers both parts or the secure part alone (R454,
R456). -/
structure Wipe where
  ends : Nat := 0
  both : Bool := true
  deriving DecidableEq, Repr

/-- The background test and the error counts of one larder (Table 12-13, R449 to R452). `save` is the
save buffer: the 72-bit words of the region tested last, check bits included. -/
structure LarderTest where
  region : Nat := 0
  sparesUsed : Nat := 0
  outOfService : Bool := false
  singleBit : Nat := 0
  replaced : List Nat := []
  fenced : List Nat := []
  save : List (BitVec 72) := []
  ce : SatCount := {}
  ue : SatCount := {}
  deriving DecidableEq, Repr

/-- A violation at a gate: the access, the deciding region, and its time (R477). -/
structure GateHit where
  kind : Nat := 0
  world : Bool := false
  region : Nat := 0
  master : Nat := 0
  offset : Nat := 0
  time : Nat := 0
  deriving DecidableEq, Repr

/-- The capture and count of one gate (Tables 12-18, 12-19, R477, R479). `latest` is the violation of the latest time
with violations that had the lowest master identity (R478). -/
structure GateState where
  captured : Bool := false
  held : GateHit := {}
  latest : Option GateHit := none
  count : SatCount := {}
  deriving DecidableEq, Repr

/-- The memories. `mem` lists the bytes that are not zero, by ascending address. `poisoned` holds the addresses of
the 8-byte words that read as uncorrectable until they are written, `flipped` those with a single-bit error. `wipes`
holds the latest wipe of each larder. `commits` is the journal: the begun commits in their shadow pages, the oldest
first. -/
structure MemState where
  mem : List Host.Cell := []
  poisoned : List Nat := []
  flipped : List Nat := []
  wipes : Tbl Wipe := []
  lastCause : Nat := 0
  verifyFail : Bool := false
  withdrawn : BitVec 32 := 0
  commits : List PageCommit := []
  waitingCommits : List PageCommit := []
  commitSeq : Nat := 0
  replayed : Nat := 0
  fenced : Bool := false
  fencedAt : Nat := 0
  fenceClosed : Bool := false
  pstoreRefused : SatCount := {}
  pstoreCe : SatCount := {}
  pstoreUe : SatCount := {}
  dramCe : SatCount := {}
  dramUe : SatCount := {}
  dramAuth : SatCount := {}
  tests : Tbl LarderTest := []
  gates : Tbl GateState := []
  deriving DecidableEq, Repr

end Sys2Proof.Machine
end

