-- ==== Sys2Proof/Machine/StateOwl.lean ====
section
/-! DEFINITION. The state of the calendar, of Owl and of the GST_ and EVR_ blocks ("Owl Event
Recorder and Device Status"). -/

namespace Sys2Proof.Machine

/-- A record of the log (Table 16-1): its header fields and payload, its sequence and first granule,
the chain value after it, whether a page that holds its first bytes has committed (R573),
and whether the page of its last byte has (R572). -/
structure OwlRecord where
  seq : Nat := 0
  granule : Nat := 0
  code : Nat := 0
  privileged : Bool := false
  repeatSat : Bool := false
  timeUnset : Bool := false
  repeats : Nat := 0
  fraction : Nat := 0
  seconds : Nat := 0
  link : Nat := 0
  payload : Bytes := []
  chainAfter : BitVec 256 := 0
  begun : Bool := false
  committed : Bool := false
  deriving DecidableEq, Repr

/-- The fold of one privileged code (R580, R581): the payload of its most recent record, the tick
at which that record was appended, the pending count and the time of the last occurrence folded. -/
structure OwlFold where
  payload : Bytes := []
  appendedTick : Nat := 0
  pending : Nat := 0
  saturated : Bool := false
  fraction : Nat := 0
  seconds : Nat := 0
  timeUnset : Bool := false
  deriving DecidableEq, Repr

/-- The token bucket of one ordinary code (R578, R579): tokens in millionths, the microsecond of the
last refill, depth, rate, and events dropped since the last record. -/
structure OwlBucket where
  microTokens : Nat := 64000000
  refilledAt : Nat := 0
  burst : Nat := 64
  rate : Nat := 16
  dropped : Nat := 0
  dropSaturated : Bool := false
  deriving DecidableEq, Repr

/-- An event that waits in the Owl intake (R16, R577): its code and payload, and the moment at which it
reached Owl, with the calendar of that moment in units of 1/65,536 s. -/
structure OwlEvent where
  code : Nat := 0
  payload : Bytes := []
  arrived : Nat := 0
  calendar : Nat := 0
  timeUnset : Bool := false
  deriving DecidableEq, Repr

/-- Owl. `records` holds the retained records, oldest first. -/
structure OwlState where
  records : List OwlRecord := []
  seqNext : Nat := 0
  granuleNext : Nat := 0
  chain : BitVec 256 := 0
  chainCommitted : BitVec 256 := 0
  seqCommitted : Option Nat := none
  privCommitted : Option Nat := none
  harvested : Nat := 0
  lost : SatCount := {}
  dropped : SatCount := {}
  folded : SatCount := {}
  folds : Tbl OwlFold := []
  buckets : Tbl OwlBucket := []
  intake : List OwlEvent := []
  checkpointDue : Bool := true
  stagedAt : Option Nat := none
  control : BitVec 3 := 0
  dstAddr : Word := 0
  dstLen : Reg := 0
  readSeq : Word := 0
  timeSet : Word := 0
  nonce : Vector Reg 8 := Vector.replicate 8 0
  busy : Bool := false
  runOp : BitVec 3 := 0
  outcome : Nat := 0
  resultOp : BitVec 3 := 0
  resultCount : Nat := 0
  deriving DecidableEq, Repr

/-- The calendar of the Torpor domain (R562 to R565): seconds and fraction at tick `atTick`, whether
it is set, the two values whose greater is the time floor (`floor` the committed value, `recordFloor`
that of the newest committed record stamped while the calendar was set), and the tick of the last
accepted setting. -/
structure Calendar where
  seconds : Nat := 0
  fraction : Nat := 0
  atTick : Nat := 0
  isSet : Bool := false
  floor : Nat := 0
  recordFloor : Nat := 0
  lastSetTick : Nat := 0
  deriving DecidableEq, Repr

/-- The W1C bits of GST_SUMMARY (Table 16-9), at their bit positions. -/
structure StatusState where
  sticky : BitVec 32 := 0
  deriving DecidableEq, Repr

end Sys2Proof.Machine
end

