-- ==== Sys2Proof/Machine/StatePair.lean ====
section
/-! DEFINITION. The state of a pack pair ("Pack Pairs: In-Step Standby and Lease"). -/

namespace Sys2Proof.Machine

/-- The pair states of Table 18-5, in the encoding of PACK_STATUS.STATE. -/
inductive PairPhase where
  | none | detached | pairing | syncing | standby | active | solo | fenced
  deriving DecidableEq, Repr

/-- PACK_STATUS.STATE. -/
def PairPhase.code : PairPhase → Nat
  | .none => 0
  | .detached => 1
  | .pairing => 2
  | .syncing => 3
  | .standby => 4
  | .active => 5
  | .solo => 6
  | .fenced => 7

/-- The alignment states of a lane (Table 18-7). -/
inductive LaneState where
  | hunt | presync | sync
  deriving DecidableEq, Repr

/-- A lane: its state, valid headers in a row and bad headers in a row. -/
structure Lane where
  state : LaneState := .hunt
  good : Nat := 0
  bad : Nat := 0
  deriving DecidableEq, Repr

/-- A pack link: lanes, sequence numbers, the unacknowledged data frames with their SEQ, the payloads that
wait while 4,096 frames are held, and error count (R644 to R647). -/
structure PackLink where
  lane0 : Lane := {}
  lane1 : Lane := {}
  sendSeq : Nat := 0
  recvSeq : Nat := 0
  xmit : Nat := 0
  unacked : List (Nat × Bytes) := []
  waiting : List Bytes := []
  errors : SatCount := {}
  deriving DecidableEq, Repr

/-- What a half keeps of one command of the in-step stream: admission sequence, epoch, slot, function, the link and SEQ
of the frame that ends its ADMIT record, whether its entry counts in SQ_FETCHED and SQ_HEAD (R623), the own result hash
once it has ended and when it ended, the peer's hash once it has arrived, the number of random bytes drawn (R624), the
bytes that DRAW records have brought and whether the draw was refused (R405, R406), whether its epoch has diverged, and
whether its completion has been written or dropped. -/
structure PairCommand where
  admission : Nat := 0
  epoch : Nat := 0
  slot : Nat := 0
  fn : Nat := 0
  admitFrame : Option (Nat × Nat) := none
  counted : Bool := false
  ownHash : Option Bytes := none
  endedAt : Nat := 0
  peerHash : Option Bytes := none
  drawn : Nat := 0
  drawBytes : Bytes := []
  drawRefused : Bool := false
  diverged : Bool := false
  settled : Bool := false
  deriving DecidableEq, Repr

/-- One item of R615: its kind (1 master-key record, 2 enrolment record, 3 resident record with its body, 4 legacy index
map, 5 allocation cursor, 6 slot generation, 7 stream context, 8 ring of a function), its key and its bytes. -/
structure SyncItem where
  kind : Nat := 0
  key : Nat := 0
  data : Bytes := []
  deriving DecidableEq, Repr

/-- What a half has learnt of its peer in a pairing exchange: device identifier, public keys, pair state and
ROLE_PREF. -/
structure PairPeer where
  device : Bytes := []
  publics : Bytes := []
  state : Nat := 0
  pref : Nat := 0
  deriving DecidableEq, Repr

/-- The pair. Times are on this half's fabric clock. `inStep` says that a standby runs in step with this active half.
`peer`, `secretOut` and `cipherOut` belong to the exchange in progress; `toStandby` says that a fenced half began it. `syncItems` are the items sent by a serving half,
or received by a half in SYNCING. `epochFirst` is the first admission of the present epoch, `epochEnds` gives the first and the end of the admissions of each epoch whose digests
have not agreed yet, `digestsDue` the epochs whose own digest is due. `leaseUntil` 0 says that no lease has been granted
since `startedAt`, the in-step start. `requests` are the requests sent, with their times (R630); `divergences` the times
of detachments under R626; `wrote` the functions that have written completions in the present epoch. -/
structure PairState where
  phase : PairPhase := .none
  refusal : Nat := 0
  witness : Bool := false
  witnessSince : Nat := 0
  retryAt : Nat := 0
  exchange : Bool := false
  toStandby : Bool := false
  peer : PairPeer := {}
  secretOut : Bytes := []
  cipherOut : Bytes := []
  pairKey : Bytes := []
  syncing : Bool := false
  syncItems : List SyncItem := []
  syncHold : Bool := false
  syncHoldAt : Nat := 0
  syncRetryAt : Nat := 0
  inStep : Bool := false
  startedAt : Nat := 0
  admissionNext : Nat := 0
  epoch : Nat := 0
  epochStart : Nat := 0
  epochFirst : Nat := 0
  epochEnds : Tbl (Nat × Nat) := []
  digestsDue : List Nat := []
  digests : Tbl Bytes := []
  peerDigests : Tbl Bytes := []
  wrote : List Nat := []
  commands : List PairCommand := []
  leaseUntil : Nat := 0
  requestNext : Nat := 0
  requests : Tbl Nat := []
  lastRequestAt : Nat := 0
  lastGrantAt : Nat := 0
  divergences : List Nat := []
  stayDetached : Bool := false
  divergentEpoch : Nat := 0
  lastCause : Nat := 0
  promoteMicros : Nat := 0
  switchovers : SatCount := {}
  tampered : Bool := false
  exerciseRunning : Bool := false
  exerciseSlot : Option Nat := none
  exerciseAt : Nat := 0
  link0 : PackLink := {}
  link1 : PackLink := {}
  deriving DecidableEq, Repr

end Sys2Proof.Machine
end

