-- ==== Sys2Proof/Machine/StatePower.lean ====
section
/-! DEFINITION. The state of power, clocks and isolation ("Power, Clocks and Isolation") and of the
pins ("Package, Signals and Electrical Characteristics"). -/

namespace Sys2Proof.Machine

/-- A switched domain (Table 19-2): awake, waking until a time, gating until a time, idle since a
time, and the deferred gate request with the time of the write that issued it. -/
structure PowerDomain where
  awake : Bool := false
  wakingUntil : Option Nat := none
  gatingUntil : Option Nat := none
  idleSince : Nat := 0
  gateRequestedAt : Option Nat := none
  deriving DecidableEq, Repr

/-- The PWR_ block (Tables 19-6 and 19-7). `mode` and `ceiling` are PWR_MODE; `modeInForce` is
PWR_STATUS.MODE; `target` is the target input power in mW from which the ramp of R654 began at `rampFrom` towards
`targetGoal`. `linkSeq` numbers the frames sent on the isolated link. -/
structure PowerState where
  mode : Bool := false
  ceiling : Nat := 400
  idleDelay : Reg := 0xFFFFFFFF
  alwaysOn : BitVec 64 := 0
  denPolicy : Bool := false
  locked : Bool := false
  domains : Tbl PowerDomain := []
  refused : BitVec 64 := 0
  reqOutcome : Nat := 0
  reqDomain : Nat := 0
  reqOp : Nat := 0
  lineCentivolts : Nat := 0
  lineMilliamps : Nat := 0
  inputDeciwatts : Nat := 0
  target : Nat := 0
  targetGoal : Nat := 0
  rampFrom : Nat := 0
  modeInForce : Bool := false
  plls : BitVec 5 := 0
  wakes : SatCount := {}
  refusals : SatCount := {}
  linkErrors : SatCount := {}
  linkSeq : Nat := 0
  linkValidAt : Nat := 0
  linkUp : Bool := false
  lastWarning : Nat := 0
  warning : Bool := false
  holdupArmed : Bool := false
  powerGood : Bool := false
  powerGoodAt : Nat := 0
  deriving DecidableEq, Repr

/-- The instructions of the IEEE 1149.1 port (R686). -/
inductive JtagInstr where
  | bypass | idcode | sample | extest | clamp | highz | dbgAccess
  deriving DecidableEq, Repr

/-- The pins that the spec gives a register or a rule: GPIO enables and values, the selected boundary-scan instruction (R684 to R687). -/
structure PinState where
  gpioDir : BitVec 16 := 0
  gpioOut : BitVec 16 := 0
  jtag : JtagInstr := .idcode
  flashCompliant : Bool := true
  deriving DecidableEq, Repr

end Sys2Proof.Machine
end

