-- ==== Sys2Proof/Machine/StateRng.lean ====
section
/-! DEFINITION. The state of Squirrel ("Squirrel Random Number Subsystem"). -/

namespace Sys2Proof.Machine

/-- STATE of RNG_SRC_STATUS_n (Table 10-7). -/
inductive SourceState where
  | startup | healthy | failed
  deriving DecidableEq, Repr

/-- A noise source: its state, blocks tested, the block numbers of its latest failures (newest
first, at most 16), its failure count, the run of the repetition count test, which crosses block
boundaries (Table 10-1), and its latest passing blocks not yet used, the most recent first, at most 16 (R395). -/
structure NoiseSource where
  state : SourceState := .startup
  blocks : Nat := 0
  failures : List Nat := []
  fails : SatCount := {}
  lastSample : Option Byte := none
  run : Nat := 0
  fresh : List Bytes := []
  deriving DecidableEq, Repr

/-- STATE of RNG_DRBG_n (Table 10-9). -/
inductive DrbgState where
  | uninstantiated | running | stopped
  deriving DecidableEq, Repr

/-- A CTR_DRBG instance (R393): state, requests since the last reseed (R396), a reseed due (R399), and the key and V of
its internal state (SP 800-90A, 10.2.1). -/
structure Drbg where
  state : DrbgState := .uninstantiated
  requests : Nat := 0
  reseedDue : Bool := false
  key : BitVec 256 := 0
  v : BitVec 128 := 0
  deriving DecidableEq, Repr

/-- What an instance has served in one generate request: the number of its first unit among all units ever appended, and
the key and V with which the instance served it. -/
structure Served where
  start : Nat := 0
  key : BitVec 256 := 0
  v : BitVec 128 := 0
  deriving DecidableEq, Repr

/-- A draw that waits at the head of the queue (R402). `slot` is `none` for a draw that no command waits on; `own` marks
a draw for a purpose of the sealed controller (R404). -/
structure WaitingDraw where
  slot : Option Nat := none
  bytes : Nat := 0
  own : Bool := false
  deriving DecidableEq, Repr

/-- Squirrel. The output queue holds `units` units, from number `head` on, and `served` the requests that they come from.
`started` says that the known-answer tests have passed and instances are instantiated as blocks arrive (R394, R395);
`shut` that a draw has been refused, after which every draw is (R403). -/
structure RngState where
  source0 : NoiseSource := {}
  source1 : NoiseSource := {}
  drbgs : Tbl Drbg := []
  nextInstance : Nat := 0
  reseedAll : Bool := false
  katFailed : Bool := false
  started : Bool := false
  shut : Bool := false
  reseeds : SatCount := {}
  head : Nat := 0
  units : Nat := 0
  served : List Served := []
  waiting : List WaitingDraw := []
  refused : SatCount := {}
  deriving DecidableEq, Repr

end Sys2Proof.Machine
end

