-- ==== Sys2Proof/Machine/StateTamper.lean ====
section
/-! DEFINITION. The state of Lynx and of the Torpor domain ("Lynx Tamper Monitors and the Torpor
Domain"). -/

namespace Sys2Proof.Machine

/-- A calibration (R543): the die temperature and the load at which it was made, and the dark level or offset that
it measured. -/
structure Calibration where
  temp : Int := 0
  load : Nat := 0
  value : Int := 0
  deriving DecidableEq, Repr

/-- What a monitor keeps beside its factory values: tightened limits, K, W and discrepancy time of the lodge in
force, the ticks of its latest events (newest first), its count of unconfirmed events, the calibration made since
the one at boot, and whether it is queued for another (Tables 15-18 and 15-19). -/
structure Monitor where
  lower : Option Int := none
  upper : Option Int := none
  k : Option Nat := none
  w : Option Nat := none
  n : Option Nat := none
  events : List Nat := []
  count : SatCount := {}
  cal : Option Calibration := none
  queued : Bool := false
  deriving DecidableEq, Repr

/-- A lid input (Tables 15-2, 15-11 and 15-14): 0 FITTED, 1 OPEN, 2 DISCREPANT. -/
structure Lid where
  chanA : Bool := true
  chanB : Bool := false
  state : Nat := 0
  run : Nat := 0
  glitches : SatCount := {}
  deriving DecidableEq, Repr

/-- A cell of the cartridge (Tables 15-6 and 15-15): whether it is fitted, its voltage in 10 mV, the 16 bytes of
identity that it carries, and the identity as last read. `ticks` counts ticks of service of an unpowered domain
(R559). -/
structure Cell where
  present : Bool := false
  volts : Nat := 0
  raw : Bytes := []
  idValid : Bool := false
  identity : Bytes := []
  ticks : Nat := 0
  deriving DecidableEq, Repr

/-- The health tally of a light site in the present period: either design's events, and for how
many consecutive periods one design alone has yielded events (R535). -/
structure SiteHealth where
  photodiode : Bool := false
  canary : Bool := false
  lonePeriods : Nat := 0
  degraded : Bool := false
  deriving DecidableEq, Repr

/-- Lynx and Torpor. Roots are `none` when their slot is zero. `latched` with its cause is the
tamper latch of Table 15-9; `rootMissing` says that the state chosen at boot names a root whose slot is zero
(R504); `response` is TMP_STATUS.RESPONSE. `bootTemp` and `bootLoad` tag the calibrations made
at boot. `servedSince` is the tick since which the serving cell has carried an unpowered domain. -/
structure TamperState where
  testRoot : Option Bytes := none
  productionRoot : Option Bytes := none
  auditRoot : Option Bytes := none
  latched : Bool := false
  rootMissing : Bool := false
  latchMonitor : Nat := 0
  latchKind : Nat := 0
  onBattery : Bool := false
  latchTime : Word := 0
  confirmed : SatCount := {}
  response : Nat := 0
  confirmedAt : Nat := 0
  rootZeroTenths : Nat := 0
  doneMicros : Nat := 0
  derivationBlocked : Bool := false
  monitors : Tbl Monitor := []
  temps : Tbl Int := []
  bootTemp : Int := 0
  bootLoad : Nat := 0
  lids : Tbl Lid := []
  meshOpen : BitVec 4 := 0
  meshShort : BitVec 4 := 0
  lfsr : BitVec 31 := 1
  busCode : SatCount := {}
  sites : Tbl SiteHealth := []
  cells : Tbl Cell := []
  torporPowered : Bool := false
  onLogicSide : Bool := false
  servedSince : Nat := 0
  rcClock : Bool := false
  batteryEventUnlogged : Bool := false
  deriving DecidableEq, Repr

/-- Whether the device behaves as after a confirmed tamper event: latched, or without a root that its life-cycle
state names (R504, R548). -/
def TamperState.locked (t : TamperState) : Bool := t.latched || t.rootMissing

end Sys2Proof.Machine
end

