-- ==== Sys2Proof/Machine/State.lean ====
section
/-! DEFINITION. The state of the block as plain data, its reset value, and why a step may stop. -/

namespace Sys2Proof.Machine

/-- What leaves the module, in the order in which it leaves. -/
inductive Output where
  /-- The data of a register read: function, offset, size in bytes, value. -/
  | readData (fn off size : Nat) (value : Word)
  /-- The answer to a register read of a wrong size or alignment, of as many bytes as it asks for (R16). -/
  | readBytes (fn off : Nat) (data : Bytes)
  /-- A DMA write to host memory at a bus address, under a function's requester identity: whether it carries Relaxed
  Ordering (R118), and the data. -/
  | hostWrite (fn addr : Nat) (relaxed : Bool) (data : Bytes)
  /-- A record sent on a pack link in data frames: its type (Table 18-1) and its payload. -/
  | packRecord (link kind : Nat) (payload : Bytes)
  /-- A frame sent on a pack link beside the first sending of a record: its type (Table 18-6), its SEQ and
  ACK and its payload in clear. -/
  | packFrame (link kind seq ack : Nat) (body : Bytes)
  /-- Bytes sent to the token on a Quill port. -/
  | quill (port : Nat) (data : Bytes)
  /-- The answer of a Badger gate to an access: whether it is a bus error, and the data read. -/
  | fabric (master gate offset : Nat) (busError : Bool) (data : Bytes)
  /-- The answer to a configuration request: whether it is Configuration Request Retry Status, and the value. -/
  | config (fn : Nat) (retry : Bool) (value : Word)
  /-- A frame sent on the isolated power link (R648): the mode, the target input power in mW and its number. -/
  | isolated (still : Bool) (target seq : Nat)
  /-- The message that reports a PCI Express error of a function through the physical function's AER as a non-fatal error
  (R414). -/
  | nonFatal (fn : Nat)
  /-- The IDCODE that the IEEE 1149.1 port gives. -/
  | idcode (value : BitVec 32)
  /-- A word that a consumer reads from a burrow queue: tag and data, tag 0 when EMPTY. -/
  | burrow (queue tag : Nat) (data : Word)
  deriving DecidableEq, Repr

/-- Everything the specification gives the block. `now` is the time since the origin in units of 1/192
GHz; `freeNext` numbers the free values used so far (the model's own field); `outputs` is the trace of
what has left the module (the model's own field); `pending` is the queue of waiting commands. -/
structure State where
  now : Nat := 0
  lodge : LodgeState := {}
  host : HostState := {}
  cub : CubState := {}
  sett : SettState := {}
  quill : QuillState := {}
  compute : ComputeState := {}
  rng : RngState := {}
  mem : MemState := {}
  boot : BootState := {}
  antler : AntlerState := {}
  tamper : TamperState := {}
  calendar : Calendar := {}
  owl : OwlState := {}
  status : StatusState := {}
  check : CheckState := {}
  pair : PairState := {}
  power : PowerState := {}
  pins : PinState := {}
  outputs : List Output := []
  freeNext : Nat := 0
  pending : List Instr := []
  deriving DecidableEq, Repr

/-- Why the block stops. -/
inductive Fault where
  /-- FABRIC_ACCESS at an offset beyond the end of its gate's target (Table 12-8), or at a gate that
  does not exist: no such address exists. Safe. -/
  | noSuchAddress
  deriving DecidableEq, Repr

/-- Why the model gives a command no meaning. -/
inductive Refusal where
  /-- The command has no meaning in this model. Raised by `exec` alone. Safe. -/
  | notModelled (mnemonic : String)
  deriving DecidableEq, Repr

/-- The block at the moment at which a device reset of cause 0 has set every register and the boot ROM
has not run: every field at the value its declaration gives. -/
def State.reset : State := {}

end Sys2Proof.Machine
end

