-- ==== Sys2Proof/Machine/Ops.lean ====
section
/-! DEFINITION. The operations that every part of the model shares: sparse tables, byte strings, bit
fields, saturating counters (R587), the sparse memory, and the raising of an Owl event (R577). -/

namespace Sys2Proof.Machine

/-- The entry of a sparse table under a key. -/
def tget? {α : Type} : Tbl α → Nat → Option α
  | [], _ => none
  | (k, v) :: t, n => if k = n then some v else tget? t n

/-- The entry under a key, or the value that an unlisted key stands for. -/
def tget {α : Type} (t : Tbl α) (n : Nat) (d : α) : α := (tget? t n).getD d

/-- Write an entry, keeping the keys in ascending order. -/
def tset {α : Type} : Tbl α → Nat → α → Tbl α
  | [], n, v => [(n, v)]
  | (k, w) :: t, n, v =>
    if n < k then (n, v) :: (k, w) :: t
    else if n = k then (n, v) :: t
    else (k, w) :: tset t n v

/-- Remove an entry. -/
def terase {α : Type} (t : Tbl α) (n : Nat) : Tbl α := t.filter fun e => !(e.1 == n)

/-- Change the entry under a key. -/
def tupd {α : Type} (t : Tbl α) (n : Nat) (d : α) (f : α → α) : Tbl α := tset t n (f (tget t n d))

/-- Change every listed entry. -/
def tmap {α : Type} (t : Tbl α) (f : Nat → α → α) : Tbl α := t.map fun e => (e.1, f e.1 e.2)

/-- The keys whose entry satisfies a test. -/
def tkeys {α : Type} (t : Tbl α) (p : α → Bool) : List Nat := (t.filter fun e => p e.2).map Prod.fst

/-- The lowest number below n that satisfies a test. -/
def lowest? (n : Nat) (p : Nat → Bool) : Option Nat := (List.range n).find? p

/-- The byte at an index, zero past the end. -/
def byteAt (b : Bytes) (i : Nat) : Byte := b.getD i 0

/-- Zero bytes. -/
def zeros (n : Nat) : Bytes := List.replicate n 0

/-- Exactly n bytes: cut, or filled with zeros. -/
def fit (n : Nat) (b : Bytes) : Bytes := b.take n ++ zeros (n - b.length)

/-- n bytes from an offset, zero where the string ends. -/
def slice (b : Bytes) (off n : Nat) : Bytes := fit n (b.drop off)

/-- The value of a little-endian string (R4). -/
def leNat : Bytes → Nat
  | [] => 0
  | b :: t => b.toNat + 256 * leNat t

/-- The little-endian string of n bytes of a value (R4). -/
def natLe : Nat → Nat → Bytes
  | 0, _ => []
  | n + 1, v => BitVec.ofNat 8 v :: natLe n (v / 256)

/-- The value of a big-endian string. -/
def beNat (b : Bytes) : Nat := leNat b.reverse

/-- The big-endian string of n bytes of a value. -/
def natBe (n v : Nat) : Bytes := (natLe n v).reverse

/-- The little-endian field of n bytes at an offset (R4). -/
def leField (b : Bytes) (off n : Nat) : Nat := leNat (slice b off n)

/-- Bits hi down to lo of a number. -/
def bits (v hi lo : Nat) : Nat := v / 2 ^ lo % 2 ^ (hi + 1 - lo)

/-- One bit of a number. -/
def bit (v i : Nat) : Bool := v / 2 ^ i % 2 == 1

/-- A flag as a number. -/
def b2n (b : Bool) : Nat := if b then 1 else 0

/-- Byte-wise exclusive or of two strings of one length. -/
def xorBytes (a b : Bytes) : Bytes := List.zipWith (· ^^^ ·) a b

/-- Whether every byte is zero. -/
def allZero (b : Bytes) : Bool := b.all (· == 0)

/-- Write a string over another at an offset, within its length. -/
def overlay (b : Bytes) (off : Nat) (v : Bytes) : Bytes :=
  let v' := v.take (b.length - off)
  b.take off ++ v' ++ b.drop (off + v'.length)

/-- The smallest of the numbers that a key gives, with the first element that has it. -/
def argmin? {α : Type} (key : α → Nat) : List α → Option α
  | [] => none
  | a :: t => match argmin? key t with
    | none => some a
    | some b => if key a ≤ key b then some a else some b

/-- Advance a saturating counter; the second component says that it has just reached its largest
value (R587). -/
def SatCount.add (mx n : Nat) (c : SatCount) : SatCount × Bool :=
  if mx ≤ c.count + n then (⟨mx, true⟩, decide (c.count < mx)) else (⟨c.count + n, c.overflow⟩, false)

/-- The largest COUNT of a 31-bit counter field (Table 12-14 and those like it). -/
abbrev count31 : Nat := 0x7FFFFFFF

/-- COUNT in bits 30:0 with OVERFLOW in bit 31. -/
def countWord (c : SatCount) : Nat := c.count % 2 ^ 31 + b2n c.overflow * 2 ^ 31

/-! ## Sparse memory -/

/-- The byte at an address; an unlisted address reads zero. -/
def memByte (m : List Host.Cell) (a : Nat) : Byte := (tget? m a).getD 0

/-- Write one byte, keeping the canonical form: no listed byte is zero. -/
def memPut (m : List Host.Cell) (a : Nat) (v : Byte) : List Host.Cell :=
  if v = 0 then terase m a else tset m a v

/-- n bytes from an address. -/
def memBytes (m : List Host.Cell) (a n : Nat) : Bytes := (List.range n).map fun i => memByte m (a + i)

/-- Write a string at an address. -/
def memPutBytes : List Host.Cell → Nat → Bytes → List Host.Cell
  | m, _, [] => m
  | m, a, b :: t => memPutBytes (memPut m a b) (a + 1) t

/-- Wipe the addresses from lo to hi − 1. -/
def memWipe (m : List Host.Cell) (lo hi : Nat) : List Host.Cell := m.filter fun c => c.1 < lo || hi ≤ c.1

/-- The canonical form: addresses strictly rising, no listed byte zero. -/
def Memory.wf (m : List Host.Cell) : Bool :=
  decide ((m.map Prod.fst).Pairwise (· < ·)) && m.all fun c => c.2 != 0

/-! ## Time and events -/

/-- The always-on tick count at this moment (R3). -/
def State.tick (s : State) : Nat := s.now / unitsPerTick

/-- One cycle of the fabric clock passes: 1 ns, which is 192 units of time. -/
def State.idle (s : State) : State := { s with now := s.now + 192 }

/-- Microseconds since the origin of time. -/
def State.micros (s : State) : Nat := s.now / unitsPerMicro

/-- The next free value, and the state that has moved past it. -/
def State.free (s : State) : Nat × State :=
  (Config.freeValue s.freeNext, { s with freeNext := s.freeNext + 1 })

/-- The calendar now, in units of 1/65,536 s: each tick adds 2 to the fraction (R562). -/
def State.calNow (s : State) : Nat :=
  s.calendar.seconds * 65536 + s.calendar.fraction + 2 * (s.tick - s.calendar.atTick)

/-- The calendar's seconds now. -/
def State.seconds (s : State) : Nat := s.calNow / 65536

/-- TMP_LATCH_TIME's layout of a calendar time: FRACTION in bits 15:0, SECONDS in bits 55:16, UNSET in
bit 56. -/
def calendarWord (units : Nat) (unset : Bool) : Nat := units % 2 ^ 56 + b2n unset * 2 ^ 56

/-- The place of a code among events of one cycle: TAMPER first, then ascending codes (R577). -/
def owlRank (code : Nat) : Nat := if code = 0xE0 then 0 else code + 1

/-- Put an event into the intake behind every event that reached Owl before it (R577). -/
def intakePut (q : List OwlEvent) (e : OwlEvent) : List OwlEvent :=
  let before := fun x : OwlEvent =>
    decide (x.arrived < e.arrived) || (x.arrived == e.arrived && decide (owlRank x.code ≤ owlRank e.code))
  q.takeWhile before ++ e :: q.dropWhile before

/-- Raise an Owl event: it waits in the intake until Owl takes it (R16, R577). -/
def State.raise (code : Nat) (payload : Bytes) (s : State) : State :=
  let e : OwlEvent := { code := code, payload := payload, arrived := s.now, calendar := s.calNow,
                        timeUnset := !s.calendar.isSet }
  { s with owl.intake := intakePut s.owl.intake e }

/-- Set a W1C bit of GST_SUMMARY (Table 16-9). -/
def State.summary (i : Nat) (s : State) : State :=
  { s with status.sticky := s.status.sticky ||| BitVec.ofNat 32 (2 ^ i) }

/-- COUNTER_SATURATED of the register at an offset of a block, when its counter has just reached its
largest value (R587). -/
def State.saturated (hit : Bool) (base off : Nat) (s : State) : State :=
  if hit then (s.raise 4 (natLe 4 base ++ natLe 4 off)).summary 14 else s

/-- The key of a 64-bit register in the latches of R18 and the buffers of R19. -/
def regKey (f off : Nat) : Nat := 2 ^ 26 * f + off

/-- A 64-bit register has been updated: its low-half buffer holds its present low half again (R19). -/
def State.reload (f off : Nat) (s : State) : State :=
  { s with host.loBuffer := terase s.host.loBuffer (regKey f off) }

/-- What leaves the module. -/
def State.emit (o : Output) (s : State) : State := { s with outputs := s.outputs ++ [o] }

end Sys2Proof.Machine
end

