-- ==== Sys2Proof/Machine/LodgeView.lean ====
section
/-! DEFINITION. What the lodge in force says: the records of its sections by number ("The Lodge Image:
Format"). Every function answers as a lodgeless device does where no lodge is in force (R103). -/

namespace Sys2Proof.Machine

/-- The lodge in force. -/
def State.tables (s : State) : Lodge := s.lodge.inForce.getD {}

/-- The FUNCTIONS record of a function. -/
def State.fnRec? (s : State) (f : Nat) : Option FunctionRec := s.tables.functions.find? (·.fn == f)

/-- The POOLS record of a pool. -/
def State.poolRec? (s : State) (p : Nat) : Option PoolRec := s.tables.pools.find? (·.poolId == p)

/-- The DOMAINS record of a domain. -/
def State.domRec? (s : State) (d : Nat) : Option DomainRec := s.tables.domains.find? (·.domain == d)

/-- The PERSONALITIES record of a personality. -/
def State.persRec? (s : State) (p : Nat) : Option PersonalityRec :=
  s.tables.personalities.find? (·.persId == p)

/-- A program set of the PROGRAMS section. -/
def State.program? (s : State) (i : Nat) : Option ProgramSet := s.tables.programs.find? (·.setId == i)

/-- The pool whose SKULK_MASK names a skulk. -/
def State.skulkPool? (s : State) (k : Nat) : Option Nat :=
  (s.tables.pools.find? fun p => bit p.skulkMask.toNat k).map (·.poolId)

/-- The GATES record that lies at a region of a gate. -/
def State.gateRec? (s : State) (g r : Nat) : Option GateRec :=
  s.tables.gates.find? fun x => x.gate == g && x.region == r

/-- The domain of a function. -/
def State.fnDomain? (s : State) (f : Nat) : Option Nat := (s.fnRec? f).map (·.domain)

end Sys2Proof.Machine
end

