-- ==== Sys2Proof/Machine/MemOps.lean ====
section
/-! DEFINITION. Operations on the memories: gate targets (Tables 12-8 and 1-4), the decision of a Badger
gate (R473 to R481), page commits (R458 to R465) and wipes (R454, R455). -/

namespace Sys2Proof.Machine

/-! ## Addresses -/

/-- The bytes of each gate's target (Table 12-8). -/
def gateSize (g : Nat) : Nat :=
  match g with
  | 0 => 0x2000000
  | 1 => 0x200000
  | 2 => 0x100000
  | 3 => 0x30000000
  | 4 => 0x50000000
  | 5 => 0x80000000
  | 6 => 0x300000000
  | 7 => 0x400000
  | 8 | 9 | 10 | 11 | 12 | 13 => 0x200000
  | 14 => 0x100000
  | 15 => 0x1000000
  | _ => 0

/-- The address of a byte of a gate's target in the model's one address space. -/
def gateAddr (g off : Nat) : Nat := 2 ^ 36 * g + off

/-- The address of byte `off` of the larder of a skulk (gates 8 to 13). -/
def larderAddr (skulk off : Nat) : Nat := gateAddr (8 + skulk / 4) (skulk % 4 * 0x80000 + off)

/-- The address of byte `off` of the sealed larder (gate 2). -/
def sealedLarderAddr (off : Nat) : Nat := gateAddr 2 off

/-- The address of byte `off` of the persistent store (gate 0). -/
def storeAddr (off : Nat) : Nat := gateAddr 0 off

/-- The address of byte `off` of the staging buffer of a slot (Table 12-6, gate 3). -/
def stagingAddr (slot off : Nat) : Nat := gateAddr 3 (slot * 0x20000 + off)

/-! ## Rights of Table 1-4 -/

/-- The rows of Table 1-4 behind a gate, with the skulk or the slot that a qualification needs. Table 1-4 does not list the
last four: the version trees, legacy maps, tags, granule map and body store; the sealed firmware area; the dirty-page
bitmaps; and the rest (log entry 97). -/
inductive Target where
  | masterKeys | counters | ownerData | keyTable | sealedSram | sealedLarder
  | larderSecure (skulk : Nat) | larderOpen (skulk : Nat) | staging (slot : Nat) | streams
  | bearShadow | engineRegs | owlLog | settDram | firmware | bitmaps | apart
  deriving DecidableEq, Repr

/-- The row of Table 1-4 in which a byte of a gate's target lies (Tables 12-4, 12-6, 6-1, 9-7). The engine
space beside the shadow windows is reached only by the sealed controller ("BNE_ and LAT_ registers"). -/
def targetOf (g off : Nat) : Target :=
  match g with
  | 0 => if off < 0x1000000 then .masterKeys else if off < 0x1800000 then .owlLog
         else if off < 0x1900000 then .counters else .ownerData
  | 1 => .sealedSram
  | 2 => .sealedLarder
  | 3 => if off < 0x20000000 then .staging (off / 0x20000)
         else if off < 0x22000000 then .streams else if off < 0x24000000 then .bitmaps else .apart
  | 4 => if off < 0x40000000 then .keyTable else if off < 0x48000000 then .settDram else .firmware
  | 5 => if off < 0x46200000 then .settDram else .apart
  | 6 => if off < 0x200000000 then .settDram else .apart
  | 7 => if off < 0x200000 && 0x8000 ≤ off % 0x10000 && off % 0x10000 < 0xC000 then .bearShadow
         else .engineRegs
  | 15 => .keyTable
  | _ => if 8 ≤ g && g ≤ 13 then
           let k := 4 * (g - 8) + off / 0x80000
           if off % 0x80000 < 0x40000 then .larderSecure k else .larderOpen k
         else .apart

/-- The kinds of access, as GATE_VIOL_STATUS.KIND numbers them. -/
abbrev accRead : Nat := 0
/-- A write. -/
abbrev accWrite : Nat := 1
/-- An instruction fetch, judged under the read right. -/
abbrev accFetch : Nat := 2

/-- Rights in a cell of Table 1-4. -/
structure Right where
  r : Bool := false
  w : Bool := false
  deriving DecidableEq, Repr

/-- The cell "RW". -/
def Right.rw : Right := ⟨true, true⟩
/-- The cell "R". -/
def Right.ro : Right := ⟨true, false⟩
/-- The cell "W". -/
def Right.wo : Right := ⟨false, true⟩
/-- The cell "—". -/
def Right.no : Right := ⟨false, false⟩

/-- The column "Sealed controller". -/
def rightController : Target → Right
  | .masterKeys | .counters | .ownerData | .sealedSram | .sealedLarder | .engineRegs | .firmware => .rw
  | .staging _ => .ro
  | .bearShadow => .wo
  | .owlLog => .ro
  | _ => .no

/-- The column "Core, sealed", for a core of skulk k. -/
def rightCoreSealed (k : Nat) : Target → Right
  | .counters | .ownerData => .ro
  | .sealedLarder | .staging _ | .streams => .rw
  | .larderSecure j | .larderOpen j => if j = k then .rw else .no
  | _ => .no

/-- The column "Core, open", for a core of skulk k; `ownPool` says whether a slot holds a command
routed to the core's pool. -/
def rightCoreOpen (k : Nat) (ownPool : Nat → Bool) : Target → Right
  | .ownerData => .rw
  | .larderOpen j => if j = k then .rw else .no
  | .staging x => if ownPool x then .rw else .no
  | _ => .no

/-- The column "Bear, Hedgehog". -/
def rightEngine : Target → Right
  | .larderSecure _ | .larderOpen _ => .rw
  | .staging _ => .ro
  | _ => .no

/-- The column "Host interface, dispatcher". -/
def rightHost : Target → Right
  | .staging _ | .bitmaps => .rw
  | _ => .no

/-- The column "Debug port, open". -/
def rightDebugOpen : Target → Right
  | .ownerData | .larderOpen _ | .owlLog => .ro
  | _ => .no

/-- Whether a slot holds a command routed to a pool: a skulk of it has been chosen. -/
def State.slotInPool (s : State) (p : Option Nat) (x : Nat) : Bool :=
  match tget? s.host.slots x with
  | some sl => p.isSome && sl.pool == p && sl.skulk.isSome
  | none => false

/-- The rights that Table 1-4 and the text below it give a master in a world over a target: the
columns, the sealed debug port of R516, the Sett controller over hot cache and key table, Owl over its log, and, unlisted,
the wipe sequencer and the background test over the larders and the Sett over the master-key region that it commits and
the DRAM that it keeps (log entry 97). -/
def State.rights (s : State) (master : Nat) (world : Bool) (t : Target) : Right :=
  if master = 0 then rightController t
  else if master = 2 then
    match t with
    | .larderSecure _ | .larderOpen _ | .sealedLarder => .rw
    | _ => .no
  else if master = 3 then
    match t with
    | .masterKeys | .keyTable | .settDram => .rw
    | _ => .no
  else if master = 5 then (if t = .owlLog then .rw else .no)
  else if master = 6 then
    match t with
    | .larderSecure _ | .larderOpen _ | .sealedLarder => .rw
    | _ => .no
  else if 0x10 ≤ master && master < 0x70 then
    let k := (master - 0x10) / 4
    if world then rightCoreSealed k t else rightCoreOpen k (s.slotInPool (s.skulkPool? k)) t
  else if 0x70 ≤ master && master < 0xA0 then rightEngine t
  else if master = 0xA0 || master = 0xA1 then rightHost t
  else if master = 0xA3 then (if world then rightController t else rightDebugOpen t)
  else .no

/-- The world in which Table 1-3 makes a master issue its accesses, when the table fixes it (R24). -/
def fixedWorld? (master : Nat) : Option Bool :=
  if master ≤ 8 then some true
  else if 0x70 ≤ master && master < 0xA0 then some true
  else if master = 0xA0 || master = 0xA1 then some false
  else if master = 0xA2 then some true
  else none

/-- Whether a right admits a kind of access. -/
def Right.admits (r : Right) (kind : Nat) : Bool := if kind = accWrite then r.w else r.r

/-- The first lodge region of a gate, in ascending REGION, that holds the master and the block (R473). -/
def firstRegion? (recs : List GateRec) (master block : Nat) : Option GateRec :=
  argmin? (·.region) <| recs.filter fun g =>
    decide (g.masterLo ≤ master) && decide (master ≤ g.masterHi) && decide (g.baseBlock ≤ block)
      && decide (block < g.baseBlock + g.blockCount)

/-- The decision of a gate on one access: `none` where it is permitted, else the region index of the
refusal, 0x40 for Table 1-4 (R473, R474). -/
def State.gateRefusal? (s : State) (master : Nat) (world : Bool) (g off kind : Nat) : Option Nat :=
  if !(s.rights master world (targetOf g off)).admits kind then some 0x40
  else if world then none
  else match firstRegion? (s.tables.gates.filter (·.gate == g)) master (off / 64) with
    | some r => if bit r.permit.toNat kind then none else some r.region
    | none => none

/-- The base of the registers of a gate. -/
def gateBase (g : Nat) : Nat := 0xD80000 + g * 0x1000

/-- What a gate holds after a violation: captured when nothing is held, or in place of one of the same time with a
higher master identity (R477, R478). -/
def GateState.take (v : GateState) (h : GateHit) : GateState :=
  let first := match v.latest with
    | some x => if x.time = h.time ∧ x.master ≤ h.master then x else h
    | none => h
  let swap := !v.captured || (v.held.time == h.time && decide (h.master < v.held.master))
  { v with captured := true, held := if swap then h else v.held, latest := some first }

/-- What a gate holds after a write that clears CAPTURED at a time: a violation of that time is captured (R478). -/
def GateState.clear (v : GateState) (now : Nat) : GateState :=
  match v.latest with
  | some x => if x.time = now then { v with captured := true, held := x } else { v with captured := false }
  | none => { v with captured := false }

/-- Report a violation at a gate: capture, count, summarise, and raise GATE_SEALED or GATE_OPEN (R477 to R480). -/
def State.gateViolation (s : State) (master : Nat) (world : Bool) (g off kind region : Nat) : State :=
  let gs := tget s.mem.gates g {}
  let gs' := gs.take { kind := kind, world := world, region := region, master := master, offset := off, time := s.now }
  let c := SatCount.add count31 1 gs.count
  let s := { s with mem.gates := tset s.mem.gates g { gs' with count := c.1 } }
  let s := (s.summary 13).saturated c.2 (gateBase g) 0x18
  s.raise (if world then 0xA0 else 0xA1)
    (natLe 1 g ++ natLe 1 kind ++ natLe 1 (b2n world) ++ natLe 1 master ++ natLe 1 region ++ zeros 3
      ++ natLe 8 off)

/-! ## Errors -/

/-- The base of the MEM_ block. -/
abbrev memBase : Nat := 0xD00000

/-- The larder in which a byte of a gate's target lies: 0 to 23 a skulk's, 24 the sealed larder. -/
def larderOf? (g off : Nat) : Option Nat :=
  if g = 2 then some 24 else if 8 ≤ g && g ≤ 13 then some (4 * (g - 8) + off / 0x80000) else none

/-- Whether the bytes from an address lie in a word that reads as uncorrectable. -/
def State.poisonedAt (s : State) (a n : Nat) : Bool :=
  s.mem.poisoned.any fun w => decide (w < a + n) && decide (a < w + 8)

/-- Write bytes behind a gate; a word that is written whole reads again. -/
def State.putTarget (g off : Nat) (b : Bytes) (s : State) : State :=
  let a := gateAddr g off
  let out := fun w => !(decide (a ≤ w) && decide (w + 8 ≤ a + b.length))
  { s with mem.mem := memPutBytes s.mem.mem a b, mem.poisoned := s.mem.poisoned.filter out,
           mem.flipped := s.mem.flipped.filter out }

/-- Zero the bytes from one address to another, whole words; they read without error. -/
def State.zeroMem (lo hi : Nat) (s : State) : State :=
  let out := fun w => decide (w < lo) || decide (hi ≤ w)
  { s with mem.mem := memWipe s.mem.mem lo hi, mem.poisoned := s.mem.poisoned.filter out,
           mem.flipped := s.mem.flipped.filter out }

/-- The bank of a larder that holds the word at an offset (R444). -/
def larderBank (off : Nat) : Nat := off / 8 % 8

/-- The 72 bits of the larder word at an address: 64 data bits and the check bits of the SECDED code over them (R444,
R445). A word with a single-bit error has one bit wrong, and one that reads as uncorrectable two; which they are is
free. -/
def State.rawWord (s : State) (w : Nat) : BitVec 72 :=
  let d : Word := BitVec.ofNat 64 (leNat (memBytes s.mem.mem w 8))
  let good := Config.secded d ++ d
  let i := Config.wrongBit w % 72
  if s.mem.poisoned.contains w then good ^^^ BitVec.ofNat 72 (2 ^ i + 2 ^ ((i + 1 + Config.wrongBit (w + 1) % 71) % 72))
  else if s.mem.flipped.contains w then good ^^^ BitVec.ofNat 72 (2 ^ i)
  else good

/-- Whether a byte lies in a fenced region of the sealed larder (R452). -/
def State.fencedAt (s : State) (g off : Nat) : Bool :=
  g == 2 && (tget s.mem.tests 24 {}).fenced.contains (off / 256)

/-- Count an error of a read behind a gate in its MEM_ counter: corrected, or uncorrectable (R445, R446, R466,
R471). -/
def State.countError (g off : Nat) (corrected : Bool) (s : State) : State :=
  match larderOf? g off with
  | some n =>
    let t := tget s.mem.tests n {}
    let c := SatCount.add count31 1 (if corrected then t.ce else t.ue)
    let t := if corrected then { t with ce := c.1 } else { t with ue := c.1 }
    ({ s with mem.tests := tset s.mem.tests n t } : State).saturated c.2 memBase
      ((if corrected then 0x100 else 0x200) + 4 * n)
  | none =>
    if g = 0 then
      let c := SatCount.add count31 1 (if corrected then s.mem.pstoreCe else s.mem.pstoreUe)
      let s : State := if corrected then { s with mem.pstoreCe := c.1 } else { s with mem.pstoreUe := c.1 }
      s.saturated c.2 memBase (if corrected then 0x10 else 0x14)
    else if 3 ≤ g && g ≤ 6 then
      let c := SatCount.add count31 1 (if corrected then s.mem.dramCe else s.mem.dramUe)
      let s : State := if corrected then { s with mem.dramCe := c.1 } else { s with mem.dramUe := c.1 }
      s.saturated c.2 memBase (if corrected then 0x20 else 0x24)
    else s

/-- The words with a single-bit error among n bytes behind a gate are read corrected, counted, and written back (R445). -/
def State.correct (g off n : Nat) (s : State) : State :=
  let a := gateAddr g off
  let hit := fun w => decide (w < a + n) && decide (a < w + 8)
  let s' : State := { s with mem.flipped := s.mem.flipped.filter fun w => !hit w }
  (s.mem.flipped.filter hit).foldl (fun s _ => s.countError g off true) s'

/-- A word behind a gate takes an error: kind 1 a single bit, kind 2 an uncorrectable one. -/
def State.spoil (g off kind : Nat) (s : State) : State :=
  let w := gateAddr g off / 8 * 8
  if kind = 1 then { s with mem.flipped := if s.mem.flipped.contains w then s.mem.flipped else s.mem.flipped ++ [w] }
  else if kind = 2 then
    { s with mem.poisoned := if s.mem.poisoned.contains w then s.mem.poisoned else s.mem.poisoned ++ [w] }
  else s

/-- Count a unit of DRAM that fails authentication (R471). -/
def State.countAuth (s : State) : State :=
  let c := SatCount.add count31 1 s.mem.dramAuth
  ({ s with mem.dramAuth := c.1 } : State).saturated c.2 memBase 0x28

/-! ## Page commits of the persistent store -/

/-- Whether the store accepts a new page commit from a requester now (R464). -/
def State.storeAccepts (s : State) (src : CommitSource) : Bool :=
  if s.mem.fenced then !s.mem.fenceClosed && src != .controller else true

/-- Count a refused request (R465). -/
def State.storeRefused (s : State) : State :=
  let c := SatCount.add count31 1 s.mem.pstoreRefused
  ({ s with mem.pstoreRefused := c.1 }).saturated c.2 0xD00000 0xC

/-- CRC-32C over a string. -/
def crc32c (b : Bytes) : BitVec 32 :=
  let step := fun (c : BitVec 32) => if c.getLsbD 0 then (c >>> 1) ^^^ 0x82F63B78 else c >>> 1
  ~~~(b.foldl (fun c x => (List.range 8).foldl (fun c _ => step c) (c ^^^ x.setWidth 32)) 0xFFFFFFFF)

/-- The Copy phase: the staged bytes reach the target page (Table 12-5). -/
def State.copyPage (s : State) (c : PageCommit) : State :=
  { s with mem.mem := memPutBytes s.mem.mem (storeAddr (c.page * 256)) (fit 256 c.bytes) }

/-- A commit begins: it is staged in a free shadow page, its marker is written, which is its commit point, and it is
copied (Table 12-5, R461). It keeps its shadow page until it retires. -/
def State.beginCommit (c : PageCommit) (s : State) : State :=
  let b := fit 256 c.bytes
  let c := { c with bytes := b, marked := true, seq := s.mem.commitSeq, crc := crc32c b }
  ({ s with mem.commits := s.mem.commits ++ [c], mem.commitSeq := s.mem.commitSeq + 1 } : State).copyPage c

/-- The master that writes the store for a requester. -/
def CommitSource.master : CommitSource → Nat
  | .controller | .timeFloor => 0
  | .sett => 3
  | .owl => 5

/-- Whether a new commit can begin at once: the warning is armed and a shadow page is free (R462, R486). -/
def State.storeFree (s : State) : Bool :=
  s.power.holdupArmed && decide (s.mem.commits.length < 16) && s.mem.waitingCommits.isEmpty

/-- A request for a page commit: a requester without the right to write the page is refused at the gate (R29), one that
R464 excludes is refused and counted; otherwise the commit begins when it can, and else waits in order (R462, R486). -/
def State.requestCommit (s : State) (c : PageCommit) : State :=
  let m := c.source.master
  if !(s.rights m true (targetOf 0 (256 * c.page))).w then s.gateViolation m true 0 (256 * c.page) accWrite 0x40
  else if !s.storeAccepts c.source then s.storeRefused
  else if s.storeFree then s.beginCommit c
  else { s with mem.waitingCommits := s.mem.waitingCommits ++ [c] }

/-- Begin requests that wait, in order, while fewer than 16 commits are in progress and the warning is armed, within
a number of requests (R462, R486). -/
def State.startWaiting : Nat → State → State
  | 0, s => s
  | fuel + 1, s =>
    match s.mem.waitingCommits with
    | [] => s
    | c :: ws =>
      if s.power.holdupArmed && decide (s.mem.commits.length < 16) then
        State.startWaiting fuel (({ s with mem.waitingCommits := ws } : State).beginCommit c)
      else s

/-- Retire the oldest commit and begin the request that has waited longest (R462). -/
def State.retireCommit (s : State) : State :=
  match s.mem.commits with
  | [] => s
  | _ :: cs => ({ s with mem.commits := cs }).startWaiting 16

/-- The requests that still wait are carried out at once, in order: a reset of a device with its supply up loses none
(DESIGN CHOICE, log entry 97). -/
def State.finishWaiting (s : State) : State :=
  s.mem.waitingCommits.foldl State.copyPage { s with mem.waitingCommits := [] }

/-- Refuse the waiting requests that the store accepts no more: they have not begun Stage (R464, R465). -/
def State.refuseWaiting (s : State) : State :=
  let gone := s.mem.waitingCommits.filter fun c => !s.storeAccepts c.source
  let kept : State := { s with mem.waitingCommits := s.mem.waitingCommits.filter fun c => s.storeAccepts c.source }
  gone.foldl (fun s _ => s.storeRefused) kept

/-! ## Wipes -/

/-- The wipe causes of MEM_WIPE_STATUS.LAST_CAUSE. -/
abbrev wipeTamper : Nat := 1
/-- A life-cycle change. -/
abbrev wipeLifeCycle : Nat := 2
/-- Entry to field debug. -/
abbrev wipeDebug : Nat := 3
/-- A pool change. -/
abbrev wipePool : Nat := 4
/-- Gating. -/
abbrev wipeGating : Nat := 5
/-- A wake. -/
abbrev wipeWake : Nat := 6

/-- The wipe of one larder, from its start: both its parts, or the secure part of a skulk larder alone, and its save
buffer (R454). `ends` is the end of its verification. -/
def State.wipeLarder (both : Bool) (ends n : Nat) (s : State) : State :=
  let lo := if n = 24 then sealedLarderAddr 0 else larderAddr n 0
  let size := if n = 24 then 0x100000 else if both then 0x80000 else 0x40000
  let w := tget s.mem.wipes n {}
  let s := s.zeroMem lo (lo + size)
  { s with mem.wipes := tset s.mem.wipes n { ends := max ends w.ends, both := both || (decide (s.now < w.ends) && w.both) },
           mem.tests := tupd s.mem.tests n {} fun t => { t with save := [] } }

/-- Clear the context frames of the commands of the skulks that a test selects: their context store is wiped (R454). -/
def State.wipeContexts (p : Nat → Bool) (s : State) : State :=
  { s with host.slots := tmap s.host.slots fun _ sl => if (sl.skulk.map p).getD false then { sl with ctx := {} } else sl }

/-- The wipe of every larder and context store (Table 12-3): both parts of the skulk larders, or their secure parts
alone, and the sealed larder, within 40 µs. -/
def State.wipeAll (both : Bool) (cause : Nat) (s : State) : State :=
  let s : State := { s.wipeContexts fun _ => true with mem.lastCause := cause }
  (List.range 25).foldl (fun s n => s.wipeLarder both (s.now + 40 * unitsPerMicro) n) s

/-- Whether a larder is being wiped. -/
def State.wipingLarder (s : State) (n : Nat) : Bool := decide (s.now < (tget s.mem.wipes n {}).ends)

/-- Whether any wipe is in progress (MEM_WIPE_STATUS.WIPING). -/
def State.wiping (s : State) : Bool := (List.range 25).any fun n => s.wipingLarder n

/-- Whether a byte behind a gate lies in a part of a larder that is being wiped: an access to it waits (R456). -/
def State.larderWaits (s : State) (g off : Nat) : Bool :=
  match larderOf? g off with
  | none => false
  | some n => s.wipingLarder n && ((tget s.mem.wipes n {}).both || n == 24 || decide (off % 0x80000 < 0x40000))

/-- The time that the wipe of a skulk larder and its verification take: 13.7 µs. -/
abbrev larderWipe : Nat := 13700 * 192

/-- The wipe of one skulk's larder and context store (Table 12-3). -/
def State.wipeSkulk (cause k : Nat) (s : State) : State :=
  let s : State := { s.wipeContexts (· == k) with mem.lastCause := cause }
  s.wipeLarder true (s.now + larderWipe) k

end Sys2Proof.Machine
end

