-- ==== Sys2Proof/Machine/Monitors.lean ====
section
/-! DEFINITION. The factory values of the tamper monitors (Table 15-1, R527) and the values that the
lodge in force tightens them to (R532, R75). -/

namespace Sys2Proof.Machine

/-- A row of Table 15-1. A parameter that the monitor does not have is `none`; `n` is the dual-channel
discrepancy time of a lid input. -/
structure MonSpec where
  lower : Option Int := none
  upper : Option Int := none
  k : Nat := 1
  w : Option Nat := none
  n : Option Nat := none
  battery : Bool := false
  deriving DecidableEq, Repr

/-- Table 15-1. -/
def monSpec? (m : Nat) : Option MonSpec :=
  if m < 0x100 then some { upper := some 96, k := 2, w := some 16 }
  else if m < 0x200 then some { k := 3, w := some 16 }
  else if m < 0x208 then
    some { lower := some (-240), upper := some 920, k := 3, w := some 128, battery := m == 0x200 }
  else if m = 0x210 then some { lower := some 680, upper := some 830, k := 2, w := some 8 }
  else if m = 0x211 then some { lower := some 780, upper := some 930, k := 2, w := some 8 }
  else if m = 0x212 then some { lower := some 1650, upper := some 1950, k := 2, w := some 8 }
  else if m = 0x213 then
    some { lower := some 1000, upper := some 1200, k := 2, w := some 8, battery := true }
  else if m = 0x220 then some { lower := some 23750, upper := some 26250, k := 2, w := some 8 }
  else if m = 0x221 then
    some { lower := some 31130, upper := some 34406, k := 2, w := some 8, battery := true }
  else if m = 0x230 then some { k := 1, battery := true }
  else if 0x240 ≤ m && m < 0x244 then some { k := 2, w := some 4, n := some 655, battery := true }
  else if m = 0x250 then some { k := 3, w := some 33 }
  else none

/-- Whether a LYNX_TIGHTEN record names a monitor and a parameter that the monitor has (R531). The mesh
takes PARAM 0x03 alone. -/
def tightenNames (m param : Nat) : Bool :=
  match monSpec? m with
  | none => false
  | some f =>
    match param with
    | 1 => f.lower.isSome
    | 2 => f.upper.isSome
    | 3 => true
    | 4 => f.w.isSome
    | 5 => f.n.isSome
    | _ => false

/-- Whether a value lies in the permitted direction from the factory value, or equals it, and within the
range of Table 2-15 (R75). `other` gives the other limit of the monitor as the section leaves it. -/
def tightenOk (m param : Nat) (v : BitVec 32) (other : Nat → Option Int) : Bool :=
  match monSpec? m with
  | none => false
  | some f =>
    match param with
    | 1 => match f.lower, other 2 with
      | some l, some u => decide (l ≤ v.toInt) && decide (v.toInt < u)
      | some l, none => decide (l ≤ v.toInt)
      | none, _ => false
    | 2 => match f.upper, other 1 with
      | some u, some l => decide (v.toInt ≤ u) && decide (l < v.toInt)
      | some u, none => decide (v.toInt ≤ u) && decide (0 ≤ v.toInt)
      | none, _ => false
    | 3 => decide (v.toNat ≤ f.k) && decide (1 ≤ v.toNat) && decide (v.toNat ≤ 15)
    | 4 => match f.w with
      | some w => decide (w ≤ v.toNat) && decide (1 ≤ v.toNat) && decide (v.toNat ≤ 65535)
      | none => false
    | 5 => match f.n with
      | some n => decide (v.toNat ≤ n) && decide (1 ≤ v.toNat) && decide (v.toNat ≤ 65535)
      | none => false
    | _ => false

/-- The value of a parameter in a section, if a record names it. -/
def tightenValue? (recs : List TightenRec) (m param : Nat) : Option (BitVec 32) :=
  (recs.find? fun r => r.monitor == m && r.param == param).map (·.value)

/-- The limit of PARAM 0x01 or 0x02 that a section leaves: its record's value, or the factory's. -/
def tightenedLimit (recs : List TightenRec) (m param : Nat) : Option Int :=
  match tightenValue? recs m param with
  | some v => some v.toInt
  | none => match monSpec? m with
    | some f => if param = 1 then f.lower else f.upper
    | none => none

end Sys2Proof.Machine
end

