-- ==== Sys2Proof/Machine/OwlOps.lean ====
section
/-! DEFINITION. Owl's operations: event classes (R574, R575), the chain and the log ring (R567 to R573),
rate limits and folding (R578 to R582), and page commits of the log (R572). -/

namespace Sys2Proof.Machine

/-- The classes of R574. -/
inductive OwlClass where
  | internal | ordinary | privileged
  deriving DecidableEq, Repr

/-- The class of an event code; `none` for a reserved code (Table 16-2). -/
def owlClass? (code : Nat) : Option OwlClass :=
  if code = 0x000 || code = 0x001 then some .internal
  else if [0x004, 0x010, 0x011, 0x013, 0x090, 0x0A1, 0x0E3, 0x0E5, 0x102, 0x103, 0x110].contains code
      || (0x120 ≤ code && code ≤ 0x12F) then some .ordinary
  else if [0x002, 0x003, 0x012, 0x030, 0x031, 0x040, 0x060, 0x061, 0x070, 0x071, 0x072, 0x080, 0x081,
      0x0A0, 0x0A2, 0x0A3, 0x0A4, 0x0C0, 0x0C1, 0x0D0, 0x0D1, 0x0D2, 0x0D3, 0x0D4, 0x0E0, 0x0E1, 0x0E2,
      0x0E4, 0x100, 0x101, 0x111].contains code || (0x130 ≤ code && code ≤ 0x13F) then some .privileged
  else none

/-- Granules of the log region (R570). -/
abbrev owlGranules : Nat := 524288

/-- Granules of a record whose payload has a length (R567). -/
def owlSize (len : Nat) : Nat := 1 + (len + 15) / 16

/-- The chain value before record 0 (R568): the ASCII bytes "TSM7296 OWL", then the device identifier. -/
def owlChainStart : BitVec 256 :=
  Config.sha3 ([0x54, 0x53, 0x4D, 0x37, 0x32, 0x39, 0x36, 0x20, 0x4F, 0x57, 0x4C] ++ Config.deviceId)

/-- The chain value before the next record. -/
def OwlState.chainNow (o : OwlState) : BitVec 256 := if o.seqNext = 0 then owlChainStart else o.chain

/-- The chain value after the newest committed record (EVR_CHAIN_n). -/
def OwlState.chainStored (o : OwlState) : BitVec 256 :=
  if o.seqCommitted.isSome then o.chainCommitted else owlChainStart

/-- The header of a record (Table 16-1). -/
def OwlRecord.header (r : OwlRecord) : Bytes :=
  natLe 2 (r.code + b2n r.privileged * 512 + b2n r.repeatSat * 1024 + b2n r.timeUnset * 2048)
    ++ natLe 1 r.payload.length ++ natLe 3 r.repeats ++ natLe 2 r.fraction ++ natLe 5 r.seconds
    ++ natLe 3 r.link

/-- A record with its padding (R567). -/
def OwlRecord.stored (r : OwlRecord) : Bytes :=
  fit (16 * owlSize r.payload.length) (r.header ++ r.payload)

/-- Whether granules g to g + n − 1 meet those of a record. -/
def OwlRecord.meets (r : OwlRecord) (g n : Nat) : Bool :=
  decide (r.granule < g + n) && decide (g < r.granule + owlSize r.payload.length)

/-- The base of the EVR_ block. -/
abbrev evrBase : Nat := 0x600000

/-- Count records lost (EVR_LOST) and summarise (R571). -/
def State.owlLost (n : Nat) (s : State) : State :=
  if n = 0 then s else
  let c := SatCount.add count31 n s.owl.lost
  (({ s with owl.lost := c.1 }).summary 16).saturated c.2 evrBase 0x48

/-- Append one record at the next granule: it takes the next sequence and enters the chain (R568), and
overwrites whole the oldest records whose granules it needs (R571). -/
def State.owlPut (code : Nat) (payload : Bytes) (repeats : Nat) (sat : Bool) (units : Nat)
    (unset : Bool) (s : State) : State :=
  let o := s.owl
  let before := o.chainNow
  let r : OwlRecord :=
    { seq := o.seqNext, granule := o.granuleNext, code := code,
      privileged := owlClass? code == some .privileged, repeatSat := sat, timeUnset := unset,
      repeats := repeats, fraction := units % 65536, seconds := units / 65536,
      link := leNat ((natLe 32 before.toNat).take 3), payload := payload }
  let after := Config.sha3 (natLe 32 before.toNat ++ r.header ++ payload)
  let n := owlSize payload.length
  let gone := o.records.filter (·.meets o.granuleNext n)
  let lost := (gone.filter fun x => decide (o.harvested ≤ x.seq)).length
  let g := o.granuleNext + n
  let s := { s with
    owl.records := o.records.filter (fun (x : OwlRecord) => !x.meets o.granuleNext n) ++ [{ r with chainAfter := after }],
    owl.seqNext := o.seqNext + 1, owl.granuleNext := if owlGranules ≤ g then g - owlGranules else g,
    owl.chain := after, owl.stagedAt := some (o.stagedAt.getD s.now) }
  s.owlLost lost

/-- Whether a record of a payload length would cross the end of the region (R570). -/
def OwlState.crosses (o : OwlState) (len : Nat) : Bool := decide (owlGranules < o.granuleNext + owlSize len)

/-- The PAD record that fills the region to its end (R570). -/
def State.owlPad (units : Nat) (unset : Bool) (s : State) : State :=
  s.owlPut 0 (zeros (16 * (owlGranules - s.owl.granuleNext - 1))) 0 false units unset

/-- A due CHECKPOINT, with the PAD that must stand before it (R569): its own sequence and the full chain
value before it. -/
def State.owlCheckpoint (units : Nat) (unset : Bool) (s : State) : State :=
  let s := if s.owl.crosses 40 then s.owlPad units unset else s
  let s := s.owlPut 1 (natLe 8 s.owl.seqNext ++ natLe 32 s.owl.chainNow.toNat) 0 false units unset
  { s with owl.checkpointDue := false }

/-- Append a record of an event with its due CHECKPOINT and PAD (R569, R570). -/
def State.owlAppend (code : Nat) (payload : Bytes) (repeats : Nat) (sat : Bool) (units : Nat)
    (unset : Bool) (s : State) : State :=
  let s := if s.owl.checkpointDue || s.owl.seqNext % 256 == 0 then s.owlCheckpoint units unset else s
  let s := if s.owl.crosses payload.length then
      let s := s.owlPad units unset
      if s.owl.seqNext % 256 == 0 then s.owlCheckpoint units unset else s
    else s
  s.owlPut code payload repeats sat units unset

/-! ## Ordinary codes -/

/-- The largest REPEAT (R582). -/
abbrev repeatMax : Nat := 0xFFFFFF

/-- Refill a bucket to this microsecond (R578). -/
def OwlBucket.refill (b : OwlBucket) (micros : Nat) : OwlBucket :=
  { b with microTokens := min (b.burst * 1000000) (b.microTokens + b.rate * (micros - b.refilledAt)),
           refilledAt := micros }

/-- An ordinary event: recorded with the count of dropped events while its bucket holds a whole token,
and dropped and counted otherwise (R578, R579). -/
def State.owlOrdinary (e : OwlEvent) (s : State) : State :=
  let b := (tget s.owl.buckets e.code {}).refill s.micros
  if 1000000 ≤ b.microTokens then
    let b' := { b with microTokens := b.microTokens - 1000000, dropped := 0, dropSaturated := false }
    let s := { s with owl.buckets := tset s.owl.buckets e.code b' }
    s.owlAppend e.code e.payload b.dropped b.dropSaturated e.calendar e.timeUnset
  else
    let d := SatCount.add repeatMax 1 ⟨b.dropped, b.dropSaturated⟩
    let c := SatCount.add count31 1 s.owl.dropped
    let b' := { b with dropped := d.1.count, dropSaturated := d.1.overflow }
    let s := { s with owl.buckets := tset s.owl.buckets e.code b', owl.dropped := c.1 }
    s.saturated c.2 evrBase 0x4C

/-- Give the codes of a lodge's OWL_LIMITS records full buckets of their BURST, and every other code the
default depth and rate; counts of dropped events are kept (R578). -/
def State.owlLimits (s : State) : State :=
  let keep := tmap s.owl.buckets fun _ b => { (b.refill s.micros) with burst := 64, rate := 16 }
  { s with owl.buckets := s.tables.owlLimits.foldl (fun t r =>
      tupd t r.code {} fun b =>
        { b with burst := r.burst, rate := r.rate, microTokens := r.burst * 1000000,
                 refilledAt := s.micros }) keep }

/-! ## Privileged codes -/

/-- Ticks of one second. -/
abbrev ticksPerSecond : Nat := 32768

/-- Append the pending count of a code's fold (R581); the record opens a fold period at a tick. -/
def State.owlFlush (code tick : Nat) (s : State) : State :=
  let f := tget s.owl.folds code {}
  if f.pending = 0 then s else
  let s := s.owlAppend code f.payload f.pending f.saturated (f.seconds * 65536 + f.fraction) f.timeUnset
  let f := { f with pending := 0, saturated := false, appendedTick := tick }
  { s with owl.folds := tset s.owl.folds code f }

/-- Append every pending count (R581). -/
def State.owlFlushAll (s : State) : State :=
  (tkeys s.owl.folds fun f => f.pending != 0).foldl (fun s c => s.owlFlush c s.tick) s

/-- Append the pending counts whose record is 1 s old (R581). -/
def State.owlFlushDue (s : State) : State :=
  (tkeys s.owl.folds fun f => f.pending != 0 && decide (f.appendedTick + ticksPerSecond ≤ s.tick)).foldl
    (fun s c => s.owlFlush c s.tick) s

/-- Append a privileged event as a record of its own, opening a fold period. -/
def State.owlFresh (e : OwlEvent) (s : State) : State :=
  let s := s.owlAppend e.code e.payload 0 false e.calendar e.timeUnset
  let f : OwlFold := { payload := e.payload, appendedTick := s.tick }
  { s with owl.folds := tset s.owl.folds e.code f }

/-- A privileged event: folded into the most recent record of its code when the payload is equal and the
record is less than 1 s old, else appended, the pending count of the code first (R580, R581). -/
def State.owlPrivileged (e : OwlEvent) (s : State) : State :=
  match tget? s.owl.folds e.code with
  | none => s.owlFresh e
  | some f =>
    let due := f.appendedTick + ticksPerSecond
    let s := if f.pending != 0 && (f.payload != e.payload || decide (due ≤ s.tick)) then
        s.owlFlush e.code (min due s.tick) else s
    let f := tget s.owl.folds e.code {}
    if f.payload = e.payload ∧ s.tick < f.appendedTick + ticksPerSecond then
      let p := SatCount.add repeatMax 1 ⟨f.pending, f.saturated⟩
      let c := SatCount.add count31 1 s.owl.folded
      let f := { f with pending := p.1.count, saturated := p.1.overflow, fraction := e.calendar % 65536,
                        seconds := e.calendar / 65536, timeUnset := e.timeUnset }
      let s := { s with owl.folds := tset s.owl.folds e.code f, owl.folded := c.1 }
      s.saturated c.2 evrBase 0x50
    else s.owlFresh e

/-! ## Commit of the log -/

/-- The page of the store that holds the last byte of a record (Table 12-4). -/
def OwlRecord.lastPage (r : OwlRecord) : Nat := 65536 + (r.granule + owlSize r.payload.length - 1) / 16

/-- The page of the store that holds the first byte of a record. -/
def OwlRecord.firstPage (r : OwlRecord) : Nat := 65536 + r.granule / 16

/-- The GST_SUMMARY bits of a committed record (Table 16-9). -/
def OwlRecord.summaryBits (r : OwlRecord) : BitVec 32 :=
  BitVec.ofNat 32 (if r.privileged then 1 else if owlClass? r.code == some .ordinary then 2 else 0)
    ||| BitVec.ofNat 32 (if 0x100 ≤ r.code ∧ r.code ≤ 0x103 then 2 ^ 19 else 0)
    ||| BitVec.ofNat 32 (if r.code = 0x110 ∨ r.code = 0x111 then 2 ^ 20 else 0)

/-- A record becomes durable: its bytes lie in the store, the newest committed sequences and the chain
move to it, GST_SUMMARY shows it, and it raises the time floor unless it carries TIME_UNSET (R564, R572). -/
def State.owlDurable (s : State) (r : OwlRecord) : State :=
  { s with
    mem.mem := memPutBytes s.mem.mem (storeAddr (0x1000000 + 16 * r.granule)) r.stored,
    owl.seqCommitted := some r.seq,
    owl.privCommitted := if r.privileged then some r.seq else s.owl.privCommitted,
    owl.chainCommitted := r.chainAfter,
    status.sticky := s.status.sticky ||| r.summaryBits,
    calendar.recordFloor := if r.timeUnset then s.calendar.recordFloor else r.seconds }

/-- Commit the staged records that a test selects. -/
def State.owlCommitWhere (p : OwlRecord → Bool) (s : State) : State :=
  let due := s.owl.records.filter fun r => !r.committed && p r
  let recs := s.owl.records.map fun r => if p r then { r with committed := true } else r
  let left := recs.any fun r => !r.committed
  let s := { s with owl.records := recs, owl.stagedAt := if left then some s.now else none }
  due.foldl State.owlDurable s

/-- Commit the page that holds the end of the oldest staged record (R572). -/
def State.owlCommitPage (s : State) : State :=
  match s.owl.records.find? fun r => !r.committed with
  | none => s
  | some r =>
    let s := s.owlCommitWhere fun x => x.lastPage == r.lastPage
    let recs := s.owl.records.map fun x =>
      if !x.committed && x.firstPage == r.lastPage then { x with begun := true } else x
    { s with owl.records := recs }

/-- Commit every staged record. -/
def State.owlCommitAll (s : State) : State := s.owlCommitWhere fun _ => true

/-! ## The intake -/

/-- Take back the staged records: they keep no sequence, and the log ends at its newest committed record. -/
def State.owlUnstage (s : State) : State :=
  let o := s.owl
  match o.records.find? fun r => !r.committed with
  | none => s
  | some r =>
    let recs := o.records.filter (·.committed)
    { s with owl.records := recs, owl.seqNext := r.seq, owl.granuleNext := r.granule,
             owl.chain := (recs.getLast?.map (·.chainAfter)).getD o.chainCommitted,
             owl.checkpointDue := o.checkpointDue
               || o.records.any fun x => !x.committed && x.code == 1 && x.seq % 256 != 0 }

/-- Append a staged record again under a new sequence; Owl's own PAD and CHECKPOINT are made anew. -/
def State.owlAgain (s : State) (r : OwlRecord) : State :=
  if r.code ≤ 1 then s else
  s.owlAppend r.code r.payload r.repeats r.repeatSat (r.seconds * 65536 + r.fraction) r.timeUnset

/-- A TAMPER event: pending repeats first, then the record ahead of the staged ordinary records
(R577, R581, Table 16-4). -/
def State.owlTamper (e : OwlEvent) (s : State) : State :=
  let s := s.owlFlushAll
  let staged := s.owl.records.filter fun r => !r.committed
  let s := (staged.filter (·.privileged)).foldl State.owlAgain s.owlUnstage
  (staged.filter fun r => !r.privileged).foldl State.owlAgain (s.owlPrivileged e)

/-- Take one event from the intake: appended, limited or folded by its class; a reserved code is never
recorded (R574 to R581). -/
def State.owlTake (s : State) (e : OwlEvent) : State :=
  if e.code = 0xE0 then s.owlTamper e else
  match owlClass? e.code with
  | some .ordinary => s.owlOrdinary e
  | some .privileged => s.owlPrivileged e
  | some .internal => s.owlAppend e.code e.payload 0 false e.calendar e.timeUnset
  | none => s

/-- Take every event that waits in the intake. -/
def State.owlDrain (s : State) : State := s.owl.intake.foldl State.owlTake { s with owl.intake := [] }

/-- The log before the boot ROM restarts or at the power-fail warning: intake, pending repeats and staged
pages (R581, Table 16-4). -/
def State.owlSettle (s : State) : State := s.owlDrain.owlFlushAll.owlCommitAll

/-- The time floor (R564). -/
def State.timeFloor (s : State) : Nat := max s.calendar.floor s.calendar.recordFloor

/-- The oldest retained sequence (EVR_SEQ_OLDEST). -/
def OwlState.oldest (o : OwlState) : Nat := (o.records.head?.map (·.seq)).getD o.seqNext

end Sys2Proof.Machine
end

