-- ==== Sys2Proof/Machine/LodgeFormat.lean ====
section
/-! DEFINITION. The lodge image as bytes ("The Lodge Image: Format"): its header, section table, sections
and signature block, and the checks of Table 3-2 on them, each under the step that reports it. -/

namespace Sys2Proof.Machine

/-! ## Header and section table -/

/-- A section table entry (Table 2-3) with its place in the image. -/
structure SecEntry where
  type : Nat := 0
  flags : Nat := 0
  offset : Nat := 0
  length : Nat := 0
  reserved : Nat := 0
  deriving DecidableEq, Repr

def imgKind (b : Bytes) : Nat := leField b 0x0A 1
def imgLcBinding (b : Bytes) : Nat := leField b 0x0B 1
def imgCount (b : Bytes) : Nat := leField b 0x0E 2
def imgSerial (b : Bytes) : Nat := leField b 0x10 8
def imgBase (b : Bytes) : Nat := leField b 0x18 8
def imgMinFw (b : Bytes) : Nat := leField b 0x20 4
def imgLength (b : Bytes) : Nat := leField b 0x24 4
def imgSig (b : Bytes) : Nat := leField b 0x28 4
def imgBinding (b : Bytes) : Bytes := slice b 0x30 16
def imgLabel (b : Bytes) : Bytes := slice b 0x40 32

/-- The entries of the section table as they stand. -/
def imgEntries (b : Bytes) : List SecEntry :=
  (List.range (imgCount b)).map fun i =>
    let o := 0x100 + 16 * i
    { type := leField b o 2, flags := leField b (o + 2) 2, offset := leField b (o + 4) 4,
      length := leField b (o + 8) 4, reserved := leField b (o + 12) 4 }

/-- The bytes of a section. -/
def SecEntry.body (e : SecEntry) (b : Bytes) : Bytes := slice b e.offset e.length

/-- The record size of a record section, or 0 (Table 2-4). -/
def recordSize (type : Nat) : Nat :=
  match type with
  | 2 | 3 | 4 | 7 | 10 => 16
  | 5 => 32
  | 9 => 8
  | _ => 0

/-- The size of a fixed section, or 0 (Table 2-4). -/
def fixedSize (type : Nat) : Nat :=
  match type with
  | 1 | 8 => 32
  | 11 => 64
  | _ => 0

/-- The records of a record section. -/
def secRecords (type : Nat) (sec : Bytes) : List Bytes :=
  (List.range (leField sec 2 2)).map fun i => slice sec (8 + recordSize type * i) (recordSize type)

/-- The permitted occurrences of a section type in a full lodge and in a delta (Table 2-4). -/
def occursOk (delta : Bool) (type n : Nat) : Bool :=
  if delta then
    match type with
    | 2 | 3 | 4 | 8 => decide (n ≤ 1)
    | _ => n == 0
  else
    match type with
    | 1 | 2 | 3 | 4 | 5 | 8 => n == 1
    | 6 => decide (n ≤ 16)
    | 7 | 9 | 10 | 11 | 12 => decide (n ≤ 1)
    | _ => n == 0

/-! ## Sections as tables -/

def parseUnits (r : Bytes) : UnitsSec :=
  { skulkEnable := BitVec.ofNat 32 (leField r 0 4), bearEnable := byteAt r 4, hedgehogEnable := byteAt r 5,
    quillEnable := byteAt r 6, packEnable := byteAt r 7 }

def parsePool (r : Bytes) : PoolRec :=
  { poolId := leField r 0 1, slotCap := leField r 2 2, skulkMask := BitVec.ofNat 32 (leField r 4 4),
    bearMask := byteAt r 8, hedgehogMask := byteAt r 9 }

def parseFunction (r : Bytes) : FunctionRec :=
  { fn := leField r 0 2, poolId := leField r 2 1, flags := byteAt r 3, domain := leField r 4 2,
    weight := leField r 6 2, creditLimit := leField r 8 2, persMask := BitVec.ofNat 16 (leField r 10 2) }

def parseDomain (r : Bytes) : DomainRec :=
  { domain := leField r 0 2, flags := BitVec.ofNat 16 (leField r 2 2), masterKeySlots := leField r 4 1,
    ceremonyM := leField r 5 1, ceremonyN := leField r 6 1, quota := leField r 8 4,
    tag := BitVec.ofNat 32 (leField r 12 4) }

def parsePersonality (r : Bytes) : PersonalityRec :=
  { persId := leField r 0 1, kind := leField r 1 1, programSet := leField r 2 2,
    version := BitVec.ofNat 32 (leField r 4 4), name := slice r 8 16 }

def parseProgram (r : Bytes) : ProgramSet :=
  { setId := leField r 0 2, sealedWorld := leField r 2 1 == 1,
    entries := (List.range (leField r 4 2)).map fun i =>
      { opcode := leField r (0x20 + 8 * i) 2, flags := BitVec.ofNat 16 (leField r (0x22 + 8 * i) 2),
        codeEntry := leField r (0x24 + 8 * i) 4 },
    code := slice r (leField r 8 4) (leField r 12 4),
    consts := slice r (leField r 16 4) (leField r 20 4) }

def parseGate (r : Bytes) : GateRec :=
  { gate := leField r 0 1, region := leField r 1 1, masterLo := leField r 2 1, masterHi := leField r 3 1,
    permit := byteAt r 4, baseBlock := leField r 8 4, blockCount := leField r 12 4 }

def parseOwlLimit (r : Bytes) : OwlLimitRec :=
  { code := leField r 0 2, burst := leField r 2 2, rate := leField r 4 2 }

def parseTighten (r : Bytes) : TightenRec :=
  { monitor := leField r 0 2, param := leField r 2 1, value := BitVec.ofNat 32 (leField r 4 4) }

def parsePower (r : Bytes) : PowerSec :=
  { mode := leField r 0 1, stillCeiling := leField r 2 2, idleGateDelay := BitVec.ofNat 32 (leField r 4 4),
    alwaysOnSkulks := BitVec.ofNat 32 (leField r 8 4), alwaysOnBear := byteAt r 12,
    alwaysOnHedgehog := byteAt r 13, denPolicy := bit (leField r 14 1) 0, lock := bit (leField r 15 1) 0 }

def parsePack (r : Bytes) : PackSec :=
  { rolePref := leField r 0 1, linkMask := byteAt r 1, witness := leField r 2 1, leaseMs := leField r 4 2,
    renewMs := leField r 6 2, driftPpm := leField r 8 2, guardMs := leField r 10 2,
    pairId := slice r 12 16, peerDeviceId := slice r 28 16, exerciseInterval := leField r 44 4 }

def parseMigration (r : Bytes) : MigrationSec :=
  { nativeMig := bit (leField r 0 2) 0, compat3300 := bit (leField r 0 2) 1, freezeTimeoutMs := leField r 4 4,
    peers := (List.range (leField r 2 2)).map fun i =>
      { deviceId := slice r (16 + 48 * i) 16, idDigest := slice r (32 + 48 * i) 32 } }

/-- The bodies of the sections of one type. -/
def imgSections (b : Bytes) (type : Nat) : List Bytes :=
  ((imgEntries b).filter (·.type == type)).map (·.body b)

/-- The records of the one section of a type. -/
def imgRecords (b : Bytes) (type : Nat) : List Bytes := (imgSections b type).flatMap (secRecords type)

/-- The tables of a full image. -/
def parseFull (b : Bytes) : Lodge :=
  { serial := imgSerial b, lcBinding := byteAt b 0x0B,
    units := parseUnits ((imgSections b 1).headD []),
    pools := (imgRecords b 2).map parsePool,
    functions := (imgRecords b 3).map parseFunction,
    domains := (imgRecords b 4).map parseDomain,
    personalities := (imgRecords b 5).map parsePersonality,
    programs := (imgSections b 6).map parseProgram,
    gates := (imgRecords b 7).map parseGate,
    power := parsePower ((imgSections b 8).headD []),
    owlLimits := (imgRecords b 9).map parseOwlLimit,
    tighten := (imgRecords b 10).map parseTighten,
    pack := (imgSections b 11).head?.map parsePack,
    migration := (imgSections b 12).head?.map parseMigration }

/-- Insert a domain record in ascending DOMAIN. -/
def insertDomain (r : DomainRec) : List DomainRec → List DomainRec
  | [] => [r]
  | x :: t => if r.domain < x.domain then r :: x :: t else x :: insertDomain r t

/-- The lodge state that results from a delta (R87, R88): a POOLS, FUNCTIONS or POWER section replaces
the base's, and each DOMAINS record that names no domain of the base is added. -/
def applyDelta (base : Lodge) (b : Bytes) : Lodge :=
  let has := fun t => (imgEntries b).any (·.type == t)
  { base with
    serial := imgSerial b,
    pools := if has 2 then (imgRecords b 2).map parsePool else base.pools,
    functions := if has 3 then (imgRecords b 3).map parseFunction else base.functions,
    domains := ((imgRecords b 4).map parseDomain).foldl (fun l r =>
      if base.domains.any (·.domain == r.domain) then l else insertDomain r l) base.domains,
    power := if has 8 then parsePower ((imgSections b 8).headD []) else base.power }

/-! ## Steps on the bytes -/

/-- Step 2 (R45). -/
def lodgeStep2 (delta : Bool) (b : Bytes) : Bool :=
  slice b 0 8 == [0x54, 0x53, 0x4D, 0x4C, 0x4F, 0x44, 0x47, 0x45] && leField b 8 2 == 0x0100
    && leField b 0x0C 2 == 0x0100 && imgKind b == (if delta then 2 else 1)

/-- Step 3 (R39 to R41, R80): the placement is judged on the section table as it stands. -/
def lodgeStep3 (len : Nat) (b : Bytes) : Bool :=
  imgLength b == len && imgLength b == imgSig b + 12192 && decide (imgLength b ≤ 8388608)
    && imgSig b % 64 == 0 && decide (0x100 + 16 * imgCount b ≤ imgSig b)
    && ((imgEntries b).all fun e => decide (e.offset + e.length ≤ imgSig b))
    && slice b (imgSig b) 4 == [0x4C, 0x53, 0x49, 0x47] && leField b (imgSig b + 4) 2 == 1

/-- P-384 in the curve table. -/
abbrev curveP384 : Nat := 1

/-- Whether both signatures of a pair verify over a message. -/
def hybridVerify (ecdsaPub mldsaPub msg ecdsaSig mldsaSig : Bytes) : Bool :=
  Config.ecdsaVerify curveP384 ecdsaPub msg ecdsaSig && Config.mldsaVerify 87 mldsaPub msg mldsaSig

/-- Step 4 (R81, R83, R84). -/
def lodgeStep4 (ownerDigest : BitVec 256) (b : Bytes) : Bool :=
  let o := imgSig b
  let ec := slice b (o + 0x10) 96
  let ml := slice b (o + 0x70) 2592
  Config.sha3 (ec ++ ml) == ownerDigest
    && hybridVerify ec ml (b.take (o + 0xA90)) (slice b (o + 0xA90) 96) (slice b (o + 0xAF0) 4627)

/-- Step 5 (R45); while the tamper latch is set, staging takes no image that binds every device (R551). -/
def lodgeStep5 (latched : Bool) (b : Bytes) : Bool :=
  imgBinding b == Config.deviceId || (allZero (imgBinding b) && !latched)

/-- Step 6 (R45). -/
def lodgeStep6 (lc : LifeCycle) (b : Bytes) : Bool :=
  match lc with
  | .makerTest => bit (imgLcBinding b) 0
  | .production => bit (imgLcBinding b) 1
  | _ => false

/-- Two neighbouring entries in the order of R47 and R48: ascending TYPE, PROGRAMS in strictly ascending
SET_ID, and each section wholly behind the one before it. -/
def entryOrder (b : Bytes) (x y : SecEntry) : Bool :=
  (decide (x.type < y.type)
    || (x.type == y.type && (x.type != 6 || decide (leField (x.body b) 0 2 < leField (y.body b) 0 2))))
    && decide (x.offset < y.offset) && decide (x.offset + x.length ≤ y.offset)

/-- Whether each element stands in a relation to the next. -/
def chained {α : Type} (r : α → α → Bool) : List α → Bool
  | x :: y :: t => r x y && chained r (y :: t)
  | _ => true

/-- The form of one section: a listed type, its flag, its alignment and the length that its form gives
(R46, R49 to R52, R79). -/
def entryForm (b : Bytes) (e : SecEntry) : Bool :=
  let sec := e.body b
  decide (1 ≤ e.type) && decide (e.type ≤ 12) && bit e.flags 0 == (e.type == 6) && e.offset % 64 == 0
    && decide (1 ≤ e.length) && decide (0x100 + 16 * imgCount b ≤ e.offset)
    && decide (e.offset + e.length ≤ imgSig b)
    && (fixedSize e.type == 0 || e.length == fixedSize e.type)
    && (recordSize e.type == 0
        || (decide (8 ≤ e.length) && leField sec 0 2 == recordSize e.type && decide (1 ≤ leField sec 2 2)
            && e.length == 8 + recordSize e.type * leField sec 2 2))
    && (e.type != 12 || (decide (16 ≤ e.length) && e.length == 16 + 48 * leField sec 2 2))

/-- Step 10 (R46 to R52, R79). A SECTION_COUNT outside its range fails here with 0x0143, as one of the counts of the
section table (DESIGN CHOICE, log entry 95). -/
def lodgeStep10 (delta : Bool) (b : Bytes) : Bool :=
  let n := imgCount b
  let es := imgEntries b
  (if delta then decide (1 ≤ n) && decide (n ≤ 4) else decide (6 ≤ n) && decide (n ≤ 27))
    && es.all (entryForm b) && chained (entryOrder b) es
    && (List.range 13).all fun t => occursOk delta t (es.filter (·.type == t)).length

/-- The vendor message (R82): the ASCII bytes "TSM7296-PROGRAMS", then each PROGRAMS section behind its
LENGTH. -/
def vendorMessage (b : Bytes) : Bytes :=
  [0x54, 0x53, 0x4D, 0x37, 0x32, 0x39, 0x36, 0x2D, 0x50, 0x52, 0x4F, 0x47, 0x52, 0x41, 0x4D, 0x53]
    ++ (imgSections b 6).flatMap fun s => natLe 4 s.length ++ s

/-- Step 11 (R82, R85, R86). -/
def lodgeStep11 (vendorKeys : List Bytes) (b : Bytes) : Bool :=
  let o := imgSig b
  let present := bit (leField b (o + 6) 2) 0
  present == (imgEntries b).any (·.type == 6)
    && (if present then
          match vendorKeys[leField b (o + 0x1D10) 4]? with
          | some k => hybridVerify (slice k 0 96) (slice k 96 2592) (vendorMessage b)
              (slice b (o + 0x1D20) 96) (slice b (o + 0x1D80) 4627)
          | none => false
        else leField b (o + 0x1D10) 4 == 0 && allZero (slice b (o + 0x1D20) 4723))

/-- Whether the reserved fields and bits of a section are zero (Tables 2-5 to 2-19). -/
def sectionReserved (e : SecEntry) (b : Bytes) : Bool :=
  let sec := e.body b
  let recs := secRecords e.type sec
  let z := fun (r : Bytes) o n => allZero (slice r o n)
  (recordSize e.type == 0 || z sec 4 4) &&
  match e.type with
  | 1 => bits (leField sec 0 4) 31 24 == 0 && bits (leField sec 5 1) 7 2 == 0
      && bits (leField sec 6 1) 7 4 == 0 && bits (leField sec 7 1) 7 2 == 0 && z sec 8 24
  | 2 => recs.all fun r => z r 1 1 && bits (leField r 4 4) 31 24 == 0 && bits (leField r 9 1) 7 2 == 0
      && z r 10 6
  | 3 => recs.all fun r => bits (leField r 3 1) 7 2 == 0 && z r 12 4
  | 4 => recs.all fun r => bits (leField r 2 2) 15 2 == 0 && z r 7 1
  | 5 => recs.all fun r => z r 24 8
  | 6 =>
    let n := leField sec 4 2
    let co := leField sec 8 4
    let ce := co + leField sec 12 4
    let ko := leField sec 16 4
    z sec 3 1 && z sec 6 2 && z sec 0x18 8
      && ((List.range n).all fun i => bits (leField sec (0x22 + 8 * i) 2) 15 3 == 0)
      && z sec (0x20 + 8 * n) (co - (0x20 + 8 * n)) && (leField sec 20 4 == 0 || z sec ce (ko - ce))
  | 7 => recs.all fun r => bits (leField r 4 1) 7 3 == 0 && z r 5 3
  | 8 => z sec 1 1 && bits (leField sec 8 4) 31 24 == 0 && bits (leField sec 13 1) 7 2 == 0
      && bits (leField sec 14 1) 7 1 == 0 && bits (leField sec 15 1) 7 1 == 0 && z sec 16 16
  | 9 => recs.all fun r => z r 6 2
  | 10 => recs.all fun r => z r 3 1 && z r 8 8
  | 11 => bits (leField sec 1 1) 7 2 == 0 && z sec 3 1 && z sec 0x30 16
  | 12 => bits (leField sec 0 2) 15 2 == 0 && z sec 8 8
  | _ => true

/-- Step 12 (R43): the reserved fields of header, section table, sections and signature block, and every
byte between the parts. -/
def lodgeStep12 (b : Bytes) : Bool :=
  let z := fun o n => allZero (slice b o n)
  let o := imgSig b
  let es := imgEntries b
  let ends := (0x100 + 16 * imgCount b) :: es.map fun e => e.offset + e.length
  let starts := es.map (·.offset) ++ [o]
  z 0x2C 4 && z 0x60 160 && bits (imgLcBinding b) 7 2 == 0
    && (es.all fun e => bits e.flags 15 1 == 0 && e.reserved == 0 && sectionReserved e b)
    && ((ends.zip starts).all fun p => z p.1 (p.2 - p.1))
    && bits (leField b (o + 6) 2) 15 1 == 0 && z (o + 8) 8 && z (o + 0x1D03) 13 && z (o + 0x1D14) 12
    && z (o + 0x2F93) 13

/-! ## Steps on the tables -/

/-- lo ≤ v ≤ hi. -/
def inRange (lo v hi : Nat) : Bool := decide (lo ≤ v) && decide (v ≤ hi)

def poolValues (r : PoolRec) : Bool :=
  decide (r.poolId ≤ 23) && inRange 1 r.slotCap 4096 && r.skulkMask != 0

/-- Step 13 on a FUNCTIONS record. A cub's DOMAIN above 4,095 is a value outside the table and fails here (0x0145); one
up to 4,095, or a POOL_ID, that names no record fails at step 15 (0x0147) (DESIGN CHOICE, log entry 95). -/
def functionValues (r : FunctionRec) : Bool :=
  decide (r.fn ≤ 2047) && inRange 1 r.weight 1024 && inRange 1 r.creditLimit 256
    && bit r.persMask.toNat 0
    && (if r.fn = 0 then r.flags == 0 && r.domain == 0xFFFF else decide (r.domain ≤ 4095))

def domainValues (r : DomainRec) : Bool :=
  decide (r.domain ≤ 4095) && inRange 1 r.masterKeySlots 32 && inRange 2 r.ceremonyM r.ceremonyN
    && inRange r.ceremonyM r.ceremonyN 8 && inRange 1 r.quota 8388608

/-- Whether a field holds ASCII padded with 0x00: bytes from 0x01 to 0x7F, then zeros alone. -/
def asciiPadded (b : Bytes) : Bool :=
  (b.takeWhile (· != 0)).all (fun c => decide (c.toNat < 0x80)) && allZero (b.dropWhile (· != 0))

def personalityValues (r : PersonalityRec) : Bool :=
  decide (r.persId ≤ 15) && inRange 1 r.kind 3 && asciiPadded r.name

/-- The values of Tables 2-10 and 2-11 in a PROGRAMS section. -/
def programValues (sec : Bytes) : Bool :=
  let n := leField sec 4 2
  let co := leField sec 8 4
  let cl := leField sec 12 4
  let ko := leField sec 16 4
  let kl := leField sec 20 4
  decide (leField sec 0 2 ≤ 0xFFFE) && decide (leField sec 2 1 ≤ 1) && inRange 1 n 1024
    && co % 64 == 0 && decide (0x20 + 8 * n ≤ co) && cl % 4 == 0 && inRange 4 cl 1048576
    && (if kl = 0 then ko == 0 else ko % 64 == 0 && decide (co + cl ≤ ko)) && decide (kl ≤ 262144)
    && (List.range n).all fun i =>
      leField sec (0x24 + 8 * i) 4 % 4 == 0 && decide (leField sec (0x24 + 8 * i) 4 < cl)

def gateValues (r : GateRec) : Bool :=
  decide (r.gate ≤ 15) && decide (r.region ≤ 63) && decide (r.masterLo ≤ r.masterHi)
    && decide (1 ≤ r.blockCount) && decide ((r.baseBlock + r.blockCount) * 64 ≤ gateSize r.gate)

/-- Table 2-13, and R574: no internal and no privileged code. -/
def owlLimitValues (r : OwlLimitRec) : Bool :=
  decide (r.code ≤ 0x13F) && owlClass? r.code != some .internal && owlClass? r.code != some .privileged
    && inRange 1 r.burst 65535 && inRange 1 r.rate 65535

/-- Table 2-14 with R531. -/
def tightenValues (r : TightenRec) : Bool := inRange 1 r.param 5 && tightenNames r.monitor r.param

def powerValues (r : PowerSec) : Bool :=
  decide (r.mode ≤ 1) && (if r.mode = 1 then inRange 400 r.stillCeiling 1100 else r.stillCeiling == 0)
    && (r.idleGateDelay == 0xFFFFFFFF || inRange 20 r.idleGateDelay.toNat 1000000)

def packValues (r : PackSec) : Bool :=
  inRange 1 r.rolePref 2 && r.linkMask != 0 && decide (r.witness ≤ 1) && inRange 50 r.leaseMs 2000
    && inRange 10 r.renewMs (r.leaseMs / 2) && inRange 100 r.driftPpm 10000 && inRange 1 r.guardMs 500
    && !allZero r.pairId && !allZero r.peerDeviceId && r.peerDeviceId != Config.deviceId
    && (r.exerciseInterval == 0 || inRange 60 r.exerciseInterval 86400)

def migrationValues (r : MigrationSec) : Bool :=
  (r.nativeMig || r.compat3300) && decide (r.peers.length ≤ 64) && (!r.nativeMig || decide (1 ≤ r.peers.length))
    && inRange 1 r.freezeTimeoutMs 10000

/-- Step 13 on the tables of the resulting state (R44, R531, R574). -/
def lodgeValues (l : Lodge) : Bool :=
  l.units.skulkEnable != 0 && l.pools.all poolValues && l.functions.all functionValues
    && l.domains.all domainValues && l.personalities.all personalityValues && l.gates.all gateValues
    && l.owlLimits.all owlLimitValues && l.tighten.all tightenValues && powerValues l.power
    && l.pack.all packValues && l.migration.all migrationValues

/-- Step 13 on header and program sets. -/
def lodgeStep13 (delta : Bool) (b : Bytes) : Bool :=
  decide (1 ≤ imgSerial b) && (delta || imgBase b == 0) && bits (imgLcBinding b) 1 0 != 0
    && (imgSections b 6).all programValues

/-- The skulks whose larders a GATES record of gate 8 to 13 covers (R696). -/
def gateSkulks (r : GateRec) : List Nat :=
  if 8 ≤ r.gate ∧ r.gate ≤ 13 then
    ((List.range 4).filter fun i =>
      decide (r.baseBlock < (i + 1) * 8192) && decide (i * 8192 < r.baseBlock + r.blockCount)).map
        fun i => 4 * (r.gate - 8) + i
  else []

/-- Step 14 (R2, R53, R696): the units of the part are those of Table 0-1. -/
def lodgeUnits (l : Lodge) : Bool :=
  decide (l.units.skulkEnable.toNat < 2 ^ Config.skulks)
    && decide (l.units.bearEnable.toNat < 2 ^ (Config.bears / 4))
    && decide (l.units.hedgehogEnable.toNat < 2 ^ (Config.hedgehogs / 8))
    && decide (l.units.quillEnable.toNat < 2 ^ Config.quillPorts)
    && decide (l.units.packEnable.toNat < 2 ^ Config.packLinks)
    && l.gates.all fun g => (gateSkulks g).all fun k => decide (k < Config.skulks)

/-- Whether the numbers that a list gives are distinct. -/
def distinct {α : Type} [BEq α] : List α → Bool
  | [] => true
  | x :: t => !t.contains x && distinct t

/-- One set of bits lies in another. -/
def subMask {n : Nat} (a b : BitVec n) : Bool := a &&& b == a

/-- Step 15 on pools (R54 to R56). -/
def poolsOk (l : Lodge) : Bool :=
  inRange 1 l.pools.length 24 && distinct (l.pools.map (·.poolId))
    && (l.pools.all fun p => subMask p.skulkMask l.units.skulkEnable && subMask p.bearMask l.units.bearEnable
          && subMask p.hedgehogMask l.units.hedgehogEnable)
    && (List.range 24).all fun k =>
        decide ((l.pools.filter fun p => bit p.skulkMask.toNat k).length ≤ 1)

/-- Step 15 on functions (R57 to R59). -/
def functionsOk (l : Lodge) : Bool :=
  chained (fun x y : FunctionRec => decide (x.fn < y.fn)) l.functions
    && l.functions.any (·.fn == 0)
    && l.functions.all fun f =>
        (l.pools.any (·.poolId == f.poolId) || (f.fn == 0 && f.poolId == 0xFF))
        && (f.fn == 0 || l.domains.any (·.domain == f.domain))
        && ((List.range 16).all fun i =>
              !bit f.persMask.toNat i || l.personalities.any (·.persId == i))
        && (!bit f.flags.toNat 0 || l.migration.any (·.nativeMig))
        && (!bit f.flags.toNat 1 || l.migration.any (·.compat3300))

/-- Step 15 on domains (R60, R61). -/
def domainsOk (l : Lodge) : Bool :=
  chained (fun x y : DomainRec => decide (x.domain < y.domain)) l.domains
    && decide ((l.domains.map (·.quota)).sum ≤ 8388608)

/-- Step 15 on personalities and program sets (R62 to R68). -/
def personalitiesOk (l : Lodge) : Bool :=
  inRange 1 l.personalities.length 16 && distinct (l.personalities.map (·.persId))
    && (l.personalities.all fun p => (p.persId == 0) == (p.kind == 1))
    && l.personalities.any (·.persId == 0)
    && decide ((l.personalities.filter (·.kind == 2)).length ≤ 1)
    && (l.personalities.all fun p =>
          if p.kind = 3 then l.programs.any fun s => s.setId == p.programSet && !s.sealedWorld
          else p.programSet == 0xFFFF || l.programs.any fun s => s.setId == p.programSet && s.sealedWorld)
    && (l.programs.all fun s => (l.personalities.filter (·.programSet == s.setId)).length == 1)
    && distinct (l.programs.map (·.setId))
    && l.programs.all fun s => chained (fun x y : ProgramEntry => decide (x.opcode < y.opcode)) s.entries

/-- Step 15 on one PROGRAMS section's LENGTH (R69). -/
def programLength (sec : Bytes) : Bool :=
  sec.length == (if leField sec 20 4 = 0 then leField sec 8 4 + leField sec 12 4
                 else leField sec 16 4 + leField sec 20 4)

/-- Step 15 on the other sections (R70, R73 to R79). -/
def sectionsOk (l : Lodge) : Bool :=
  distinct (l.gates.map fun g => g.gate * 64 + g.region)
    && chained (fun x y : OwlLimitRec => decide (x.code < y.code)) l.owlLimits
    && decide (l.tighten.length ≤ 1024) && distinct (l.tighten.map fun t => t.monitor * 256 + t.param)
    && (l.tighten.all fun t => tightenOk t.monitor t.param t.value (tightenedLimit l.tighten t.monitor))
    && subMask l.power.alwaysOnSkulks l.units.skulkEnable && subMask l.power.alwaysOnBear l.units.bearEnable
    && subMask l.power.alwaysOnHedgehog l.units.hedgehogEnable
    && (l.pack.all fun p => subMask p.linkMask l.units.packEnable)
    && l.migration.all fun m => distinct (m.peers.map (·.deviceId))

/-- Step 15 on the resulting state. -/
def lodgeCross (l : Lodge) : Bool :=
  poolsOk l && functionsOk l && domainsOk l && personalitiesOk l && sectionsOk l

/-- The areas of a gate's target that Table 1-4 judges alike, by their first byte. -/
def gateAreas (g : Nat) : List Nat :=
  match g with
  | 0 => [0, 0x1000000, 0x1800000, 0x1900000]
  | 3 => [0, 0x20000000, 0x22000000]
  | 4 => [0, 0x40000000]
  | 8 | 9 | 10 | 11 | 12 | 13 => (List.range 8).map (· * 0x40000)
  | _ => [0]

/-- What Table 1-4 gives a master in the open world over a target, with "own skulk" and "own pool" read
as the whole target (R72). Masters that Table 1-4 gives no column in the open world, those fixed to the sealed world and
the reserved identities, count as refused every right (DESIGN CHOICE, log entry 95). -/
def openRight (master : Nat) (t : Target) : Right :=
  if 0x10 ≤ master && master < 0x70 then
    match t with
    | .larderOpen _ => .rw
    | t => rightCoreOpen 0 (fun _ => true) t
  else if master = 0xA0 || master = 0xA1 then rightHost t
  else if master = 0xA3 then rightDebugOpen t
  else .no

/-- Step 16 for one record: whether it grants nothing that Table 1-4 refuses (R31, R72). -/
def gateGrants (r : GateRec) : Bool :=
  let starts := gateAreas r.gate
  let lo := r.baseBlock * 64
  let hi := (r.baseBlock + r.blockCount) * 64
  let areas := (starts.zip (starts.drop 1 ++ [gateSize r.gate])).filter fun a =>
    decide (lo < a.2) && decide (a.1 < hi)
  areas.all fun a => (List.range 256).all fun m =>
    !(decide (r.masterLo ≤ m) && decide (m ≤ r.masterHi))
      || (List.range 3).all fun kind =>
          !bit r.permit.toNat kind || (openRight m (targetOf r.gate a.1)).admits kind

/-- Step 17 (R87 to R89): a delta's DOMAINS records name no domain of the base, and no function of both
changes its DOMAIN. -/
def lodgeStep17 (base : Lodge) (b : Bytes) : Bool :=
  (((imgRecords b 4).map parseDomain).all fun r => !base.domains.any (·.domain == r.domain))
    && ((imgRecords b 3).map parseFunction).all fun f =>
        base.functions.all fun g => g.fn != f.fn || g.domain == f.domain

/-- The result of a validation: the tables, or the failing step with its status. -/
inductive Verdict where
  | accepted (l : Lodge)
  | rejected (step : Nat) (status : Status)
  deriving DecidableEq, Repr

/-- The first failing check of an ordered list. -/
def firstFailure : List (Nat × Status × Bool) → Option (Nat × Status)
  | [] => none
  | (n, st, ok) :: t => if ok then firstFailure t else some (n, st)

/-- What the device brings to a validation. -/
structure LodgeContext where
  ownerDigest : BitVec 256 := 0
  latched : Bool := false
  lc : LifeCycle := .blank
  fwVersion : Nat := 0
  vendorKeys : List Bytes := []
  deriving DecidableEq, Repr

/-- Steps 2 to 16 of Table 3-2 for a full image; `serialOk` is step 8, which boot judges against the
lodge record (R96, R97, R100). -/
def validateFull (c : LodgeContext) (len : Nat) (serialOk : Bool) (b : Bytes) : Verdict :=
  let l := parseFull b
  match firstFailure
    [(2, 0x0141, lodgeStep2 false b), (3, 0x0142, lodgeStep3 len b), (4, 0x0340, lodgeStep4 c.ownerDigest b),
     (5, 0x0341, lodgeStep5 c.latched b), (6, 0x0342, lodgeStep6 c.lc b),
     (7, 0x0343, decide (imgMinFw b ≤ c.fwVersion)), (8, 0x0344, serialOk),
     (10, 0x0143, lodgeStep10 false b), (11, 0x0346, lodgeStep11 c.vendorKeys b),
     (12, 0x0144, lodgeStep12 b), (13, 0x0145, lodgeStep13 false b && lodgeValues l),
     (14, 0x0146, lodgeUnits l),
     (15, 0x0147, lodgeCross l && (imgSections b 6).all programLength),
     (16, 0x0347, l.gates.all gateGrants)] with
  | some (n, st) => .rejected n st
  | none => .accepted l

/-- Steps 2 to 18 of Table 3-2 for a delta on a base state; `baseOk` is step 9, `frozenOk` step 18
judged on the resulting functions (R98). Step 15 also judges the ascending order of the delta's own DOMAINS records as
they stand, those left out under R88 included (DESIGN CHOICE, log entry 95). -/
def validateDelta (c : LodgeContext) (len : Nat) (serialOk baseOk : Bool) (frozenOk : Lodge → Bool)
    (base : Lodge) (b : Bytes) : Verdict :=
  let l := applyDelta base b
  match firstFailure
    [(2, 0x0141, lodgeStep2 true b), (3, 0x0142, lodgeStep3 len b), (4, 0x0340, lodgeStep4 c.ownerDigest b),
     (5, 0x0341, lodgeStep5 false b), (6, 0x0342, lodgeStep6 c.lc b),
     (7, 0x0343, decide (imgMinFw b ≤ c.fwVersion)), (8, 0x0344, serialOk), (9, 0x0345, baseOk),
     (10, 0x0143, lodgeStep10 true b), (11, 0x0346, lodgeStep11 c.vendorKeys b),
     (12, 0x0144, lodgeStep12 b), (13, 0x0145, lodgeStep13 true b && lodgeValues l),
     (14, 0x0146, lodgeUnits l),
     (15, 0x0147, lodgeCross l
        && chained (fun x y : DomainRec => decide (x.domain < y.domain)) ((imgRecords b 4).map parseDomain)),
     (16, 0x0347, l.gates.all gateGrants), (17, 0x0148, lodgeStep17 base b), (18, 0x0149, frozenOk l)] with
  | some (n, st) => .rejected n st
  | none => .accepted l

/-- What the device in a state brings to a validation. -/
def State.lodgeContext (s : State) : LodgeContext :=
  { ownerDigest := s.antler.ownerDigest, latched := s.tamper.locked, lc := s.antler.state,
    fwVersion := s.boot.runningVersion.toNat, vendorKeys := s.boot.vendorKeys }

end Sys2Proof.Machine
end

