-- ==== Sys2Proof/Machine/PowerBase.lean ====
section
/-! DEFINITION. Switched domains (Table 19-2): whether a domain is awake, the start of a wake (R662),
and the idle timer (R663). -/

namespace Sys2Proof.Machine

/-- The domain of a skulk. -/
abbrev domSkulk (k : Nat) : Nat := k
/-- The domain of a Bear or Hedgehog group. -/
def domGroup (hedgehog : Bool) (g : Nat) : Nat := if hedgehog then 32 + g else 24 + g
/-- The host interface. -/
abbrev domHost : Nat := 34
/-- The pack link controller and lanes. -/
abbrev domPack : Nat := 35

/-- The state of a switched domain. -/
def State.dom (s : State) (d : Nat) : PowerDomain := tget s.power.domains d {}

/-- Replace the state of a switched domain. -/
def State.setDom (d : Nat) (v : PowerDomain) (s : State) : State :=
  { s with power.domains := tset s.power.domains d v }

/-- Whether a domain is awake. -/
def State.awake (s : State) (d : Nat) : Bool := (s.dom d).awake
/-- Whether a domain is waking. -/
def State.waking (s : State) (d : Nat) : Bool := (s.dom d).wakingUntil.isSome
/-- Whether a domain is gated: neither awake nor waking. -/
def State.gated (s : State) (d : Nat) : Bool := !s.awake d && !s.waking d

/-- Whether UNITS enables the unit of a domain (R664). -/
def State.domEnabled (s : State) (d : Nat) : Bool :=
  let u := s.tables.units
  if d < 24 then u.skulkEnable.getLsbD d
  else if d < 32 then u.bearEnable.getLsbD (d - 24)
  else if d < 34 then u.hedgehogEnable.getLsbD (d - 32)
  else true

/-- The base of the PWR_ block. -/
abbrev pwrBase : Nat := 0x500000

/-- Begin the wake of a gated domain: it takes its first work 20 µs later (R662), or 20 µs after the end of a gating
in progress. The larder of a skulk is wiped and verified within the wake (R454). A unit that UNITS does not enable accepts no wake (R664); a lodgeless device keeps every switched domain
gated (R103). -/
def State.beginWake (d : Nat) (s : State) : State :=
  if !s.gated d || !s.domEnabled d || s.lodge.inForce.isNone then s else
  let c := SatCount.add count31 1 s.power.wakes
  let s := { s with power.wakes := c.1 }
  let dm := s.dom d
  let start := max s.now (dm.gatingUntil.getD 0)
  let s := (s.setDom d { dm with wakingUntil := some (start + 20 * unitsPerMicro) }).saturated c.2 pwrBase 0x50
  if d < 24 then State.wipeLarder true (start + larderWipe) d { s with mem.lastCause := wipeWake } else s

/-- Whether the supply of a domain is on (PWR_AWAKE): awake, or not yet switched off. -/
def State.powered (s : State) (d : Nat) : Bool := s.awake d || (s.dom d).gatingUntil.isSome

/-- The outcome, domain and OP of PWR_REQ_RESULT. -/
def State.reqResult (outcome domain op : Nat) (s : State) : State :=
  { s with power.reqOutcome := outcome, power.reqDomain := domain, power.reqOp := op }

/-- The domains with a pending gate request, in ascending order (PWR_PENDING). -/
def State.pendingGates (s : State) : List Nat := (List.range 36).filter fun d => (s.dom d).gateRequestedAt.isSome

/-- End a pending gate request with an outcome. -/
def State.endGateRequest (outcome d : Nat) (s : State) : State :=
  if (s.dom d).gateRequestedAt.isNone then s else
  (s.setDom d { s.dom d with gateRequestedAt := none }).reqResult outcome d 2

/-- An engine whose group is gated: its operand memory is cleared, and its program stores are switched off (R375,
R661). -/
def Engine.gated (x : Engine) : Engine :=
  { x with memory := [], owner := none, clearing := none, store0 := [], store1 := [] }

/-- Gate every switched domain at once; every pending request ends with outcome 0x06 (R103, R548, Table 19-3). -/
def State.gateAll (s : State) : State :=
  let s := s.pendingGates.foldl (fun s d => s.endGateRequest 6 d) s
  let off := fun (_ : Nat) (x : Engine) => x.gated
  { s with
    power.domains := tmap s.power.domains fun _ d => { d with awake := false, wakingUntil := none, gatingUntil := none }
    compute.bears := tmap s.compute.bears off, compute.hedgehogs := tmap s.compute.hedgehogs off }

/-- Restart the idle timer of a domain. -/
def State.touchDom (d : Nat) (s : State) : State :=
  let dm := s.dom d
  s.setDom d { dm with idleSince := s.now }

/-- Whether a domain has a pending gate request (PWR_PENDING). -/
def State.gatePending (s : State) (d : Nat) : Bool := (s.dom d).gateRequestedAt.isSome

end Sys2Proof.Machine
end

