-- ==== Sys2Proof/Machine/Vault.lean ====
section
/-! DEFINITION. The protection of what the Sett keeps: the derivation of its keys (R261 to R263), version trees (R284),
and the stored forms of records, bodies and DRAM units (R282, R283, R286, R468, R469). -/

namespace Sys2Proof.Machine

/-! ## The key hierarchy (Table 7-2) -/

/-- The bytes of an ASCII string. -/
def ascii (t : String) : Bytes := t.toList.map fun c => BitVec.ofNat 8 c.toNat

/-- CMAC with AES-256 (ALG 0x01 of Table 5-6). -/
def cmac (key b : Bytes) : Bytes := (natLe 64 (Config.mac 1 key b).toNat).take 16

/-- The KDF in counter mode of SP 800-108 (R262): CMAC-AES-256 over a 32-bit counter and the fixed input, which is the
label, a 0x00 separator, the context and the output length in bits. -/
def kdf108 (key : Bytes) (label : String) (context : Bytes) (bits : Nat) : Bytes :=
  let block := fun i => cmac key (natBe 4 (i + 1) ++ ascii label ++ [0] ++ context ++ natBe 4 bits)
  ((List.range ((bits + 127) / 128)).flatMap block).take (bits / 8)

/-- The root that protects keys in a life-cycle state (Table 7-1, R261). -/
def State.rootOf (s : State) (lc : LifeCycle) : Option Bytes :=
  match lc with
  | .makerTest => s.tamper.testRoot
  | .production => s.tamper.productionRoot
  | _ => none

/-- Clear the key registers and the storage-key table of the Sett (R263). -/
def State.clearSettKeys (s : State) : State :=
  { s with sett.masterKey := none, sett.tableKey := none, sett.storageKeys := [] }

/-- Derive the keys of Table 7-2 from the root of a life-cycle state; nothing is derived while no root is permitted
(R261, R262). -/
def State.deriveSettKeys (lc : LifeCycle) (s : State) : State :=
  match s.rootOf lc with
  | none => s.clearSettKeys
  | some root =>
    let m := kdf108 root "TSM7296 SETT MASTER" Config.deviceId 256
    { s with sett.masterKey := some m, sett.tableKey := some (kdf108 m "TSM7296 SETT TABLE" s.sett.bootNonce 256),
             sett.storageKeys := (List.range Config.domains).map fun d => kdf108 m "TSM7296 SETT DOMAIN" (natLe 2 d) 256 }

/-- The table key. -/
def State.tableKey (s : State) : Bytes := s.sett.tableKey.getD []

/-- The storage key of a domain. -/
def State.storageKey (s : State) (d : Nat) : Bytes := s.sett.storageKeys.getD d []

/-- The staging key (text below Table 12-7). -/
def State.stagingKey (s : State) : Option Bytes :=
  s.sett.masterKey.map fun m => kdf108 m "TSM7296 DRAM STAGING" s.sett.bootNonce 256

/-- The key under which the private keys of the migration identity are kept (R424; the empty context is DEDUCED, log
entry 96). -/
def State.identityKey (s : State) : Option Bytes :=
  s.sett.masterKey.map fun m => kdf108 m "TSM7296 MIGRATION IDENTITY" [] 256

/-- The audit key pairs that derive from an audit root by the KDF of R262 (text above Table 16-7). -/
def auditEcdsa (root : Bytes) : Bytes × Bytes :=
  Config.ecdsaFromBits (kdf108 root "TSM7296 OWL AUDIT ECDSA" Config.auditContext 448)
def auditMldsa (root : Bytes) : Bytes × Bytes :=
  Config.mldsaFromSeed (kdf108 root "TSM7296 OWL AUDIT MLDSA" Config.auditContext 256)

/-! ## Version trees (R284) -/

/-- The largest version. -/
abbrev versionMax : Nat := 0xFFFFFFFFFFFFFFFF

/-- The largest counter of a tree node. -/
abbrev treeMax : Nat := 2 ^ 56 - 1

/-- The place of counter c of level l. -/
abbrev counterKey (l c : Nat) : Nat := 2 ^ 23 * l + c

/-- The levels of nodes in the trees of the key table, the legacy maps and the stream contexts. -/
abbrev keyLevels : Nat := 7
/-- 2^22 units. -/
abbrev legacyLevels : Nat := 7
/-- 2^17 units. -/
abbrev streamLevels : Nat := 5

/-- The version of a unit. -/
def VersionTree.version (t : VersionTree) (u : Nat) : Nat := tget t.versions u 0

/-- A unit is written again: its version and the counters on its path advance by one (R290). -/
def VersionTree.advance (levels u : Nat) (t : VersionTree) : VersionTree :=
  let bump := fun (m : Tbl Nat) (k : Nat) => tset m k (min treeMax (tget m k 0 + 1))
  { versions := tset t.versions u (min versionMax (t.version u + 1)),
    counters := ((List.range (levels - 1)).map fun i => counterKey (i + 1) (u / 8 ^ (i + 1))).foldl bump t.counters,
    onDie := bump t.onDie (u / 8 ^ levels) }

/-- Whether the version of a unit or a counter on its path has saturated (R285). -/
def VersionTree.saturated (levels u : Nat) (t : VersionTree) : Bool :=
  t.version u == versionMax || tget t.onDie (u / 8 ^ levels) 0 == treeMax
    || (List.range (levels - 1)).any fun i => tget t.counters (counterKey (i + 1) (u / 8 ^ (i + 1))) 0 == treeMax

/-- The nodes of a level of a tree over a number of units. -/
def levelNodes (units l : Nat) : Nat := units / 8 ^ (l + 1)

/-- The offset of a node in its tree: leaves first, then level after level (DESIGN CHOICE, log entry 96). -/
def nodeOffset (units l i : Nat) : Nat := 64 * (((List.range l).map (levelNodes units)).sum + i)

/-- The 64 bytes of a node: a leaf holds eight versions, another node eight 56-bit counters and the 64-bit CMAC over them
and its DRAM address under the table key (R284). -/
def VersionTree.nodeBytes (key : Bytes) (base units l i : Nat) (t : VersionTree) : Bytes :=
  if l = 0 then (List.range 8).flatMap fun j => natLe 8 (t.version (8 * i + j)) else
  let cs := (List.range 8).flatMap fun j => natLe 7 (tget t.counters (counterKey l (8 * i + j)) 0)
  cs ++ (cmac key (cs ++ natLe 8 (base + nodeOffset units l i))).take 8

/-! ## Stored units -/

/-- The kinds of stored unit, as byte 11 of their nonce tells them apart: record, body, legacy-map unit and stream
context. -/
abbrev unitRecord : Nat := 0
abbrev unitBody : Nat := 1
abbrev unitLegacy : Nat := 2
abbrev unitStream : Nat := 3

/-- The nonce of a unit of a kind (R282, R286, R469). -/
def unitNonce (kind u version : Nat) : Bytes := natLe 3 u ++ natLe 8 version ++ natLe 1 kind

/-- The associated data of a unit: its number and its version. -/
def unitData (u version : Nat) : Bytes := natLe 3 u ++ natLe 8 version

/-- A unit encrypted under the table key: ciphertext and 16-byte tag. -/
def State.sealUnit (s : State) (kind u version : Nat) (b : Bytes) : Bytes :=
  fit (b.length + 16) (Config.gcmSeal s.tableKey (unitNonce kind u version) (unitData u version) b)

/-- The stored form of a master-key slot: AES-256-GCM-SIV under the storage key of its domain (R283). -/
def State.sealMaster (s : State) (i : Nat) (b : Bytes) : Bytes :=
  fit 128 (Config.gcmSivSeal (s.storageKey (i / 32)) (natLe 3 (i + 2 ^ 23) ++ zeros 9) (natLe 3 (i + 2 ^ 23)) b)

/-! ## Legacy maps and stream contexts in DRAM -/

/-- The plaintext of a unit of a domain's legacy map: 64 handles, 0 where an index is not bound. -/
def legacyPlain (m : Tbl (BitVec 32)) (i : Nat) : Bytes :=
  (List.range 64).flatMap fun j => natLe 4 (tget m (64 * i + j) 0).toNat

/-- Store the unit that holds an index of a domain's legacy map (Table 12-7). -/
def State.storeLegacy (d i : Nat) (s : State) : State :=
  let u := d * 1024 + i / 64 % 1024
  let t := s.sett.legacyTree.advance legacyLevels u
  let b := s.sealUnit unitLegacy u (t.version u) (legacyPlain (tget s.sett.legacy d []) (i / 64))
  { s with sett.legacyTree := t, sett.legacyUnits := tset s.sett.legacyUnits u b }

/-- The 256 bytes of a stream context: its fields and the state of its pipe, whose form is the hardware's own. -/
def StreamCtx.plain (c : StreamCtx) : Bytes :=
  let key := ((c.pipe.bind (·.key)).map (·.material)).getD []
  let absorbed := (c.pipe.map (·.absorbed)).getD []
  fit 256 (natLe 4 c.streamId.toNat ++ natLe 1 c.alg ++ natLe 4 c.handle.toNat ++ natLe 1 c.handleCount
    ++ natLe 8 c.byteCount ++ Config.pipeImage c.alg key absorbed)

/-- Store a stream context (Table 12-7). -/
def State.storeStream (c : StreamCtx) (s : State) : State :=
  let u := 64 * c.fn + c.index
  let t := s.sett.streamTree.advance streamLevels u
  { s with sett.streamTree := t,
           sett.streamUnits := tset s.sett.streamUnits u (s.sealUnit unitStream u (t.version u) c.plain) }

/-! ## The granule map (R278) -/

/-- The map entry of the last granule of a body. -/
abbrev lastGranule : BitVec 32 := 0xFFFFFFFF

/-- Chain granules in the map. -/
def linkGranules (m : Tbl (BitVec 32)) : List Nat → Tbl (BitVec 32)
  | [] => m
  | [g] => tset m g lastGranule
  | g :: h :: t => linkGranules (tset m g (BitVec.ofNat 32 h)) (h :: t)

/-- The granules of a body from its first, at most n of them. -/
def chainOf (m : Tbl (BitVec 32)) : Nat → Nat → List Nat
  | 0, _ => []
  | n + 1, g => match tget? m g with
    | none => []
    | some h => g :: if h = lastGranule then [] else chainOf m n h.toNat

/-- The granules of a body of a length. -/
def granulesFor (len : Nat) : Nat := (len + 1023) / 1024

/-- Free the granules of a body. -/
def freeGranulesOf (m : Tbl (BitVec 32)) (gs : List Nat) : Tbl (BitVec 32) := gs.foldl terase m

end Sys2Proof.Machine
end

