-- ==== Sys2Proof/Machine/KeyOps.lean ====
section
/-! DEFINITION. The Sett: key types (Tables 7-5 and 7-6), handles (R272 to R275), resolution and counting
of uses (R224 to R227, R294 to R299), the hot cache (R287 to R290), creation and deletion of keys
(R266 to R281, R300), and the migration of failures (R292). -/

namespace Sys2Proof.Machine

/-! ## Key types -/

/-- TDES types. -/
def typeTdes (t : Nat) : Bool := t == 1 || t == 2
/-- AES types. -/
def typeAes (t : Nat) : Bool := t == 3 || t == 4 || t == 5
/-- The HMAC type. -/
def typeHmac (t : Nat) : Bool := t == 6
/-- Symmetric cipher types. -/
def typeSym (t : Nat) : Bool := typeTdes t || typeAes t
/-- RSA private. -/
def typeRsa (t : Nat) : Bool := t == 0x10
/-- ECC private. -/
def typeEcc (t : Nat) : Bool := t == 0x20 || t == 0x21 || t == 0x22
/-- EdDSA private. -/
def typeEddsa (t : Nat) : Bool := t == 0x23 || t == 0x24
/-- ML-DSA private. -/
def typeMldsa (t : Nat) : Bool := t == 0x30 || t == 0x31 || t == 0x32
/-- ML-KEM decapsulation. -/
def typeMlkem (t : Nat) : Bool := t == 0x38 || t == 0x39 || t == 0x3A
/-- SLH-DSA private. -/
def typeSlh (t : Nat) : Bool := t == 0x40 || t == 0x41 || t == 0x42
/-- Public types. -/
def typePublic (t : Nat) : Bool :=
  [0x11, 0x28, 0x29, 0x2A, 0x2B, 0x2C, 0x34, 0x35, 0x36, 0x3C, 0x3D, 0x3E, 0x44, 0x45, 0x46].contains t

/-- The bytes of material of a type with a fixed length (Table 7-5). -/
def typeLength? (t : Nat) : Option Nat :=
  match t with
  | 0x01 | 0x03 => some 16
  | 0x02 | 0x04 => some 24
  | 0x05 | 0x20 | 0x23 | 0x2B | 0x30 | 0x31 | 0x32 | 0x44 => some 32
  | 0x21 | 0x45 => some 48
  | 0x22 => some 66
  | 0x24 | 0x2C => some 57
  | 0x28 => some 65
  | 0x29 => some 97
  | 0x2A => some 133
  | 0x34 => some 1312
  | 0x35 => some 1952
  | 0x36 => some 2592
  | 0x38 | 0x39 | 0x3A | 0x40 | 0x46 => some 64
  | 0x3C => some 800
  | 0x3D => some 1184
  | 0x3E => some 1568
  | 0x41 => some 96
  | 0x42 => some 128
  | _ => none

/-- Whether a type is one of Table 7-5. -/
def typeKnown (t : Nat) : Bool := (typeLength? t).isSome || t == 6 || t == 0x10 || t == 0x11

/-- Whether a modulus size in bits is one that Table 7-5 gives an RSA type. -/
def rsaModulusOk (t modulus : Nat) : Bool :=
  (t == 0x10 || t == 0x11) && modulus % 64 == 0 && decide ((if t = 0x10 then 2048 else 1024) ≤ modulus)
    && decide (modulus ≤ 16384)

/-- Whether a type takes key bytes (Table 7-5): their length, and for RSA a body whose first two bytes, by the model's
own layout, give a modulus of the type. -/
def typeTakes (t : Nat) (b : Bytes) : Bool :=
  match typeLength? t with
  | some n => b.length == n
  | none =>
    if t = 6 then decide (16 ≤ b.length) && decide (b.length ≤ 64)
    else decide (64 < b.length) && rsaModulusOk t (leField b 0 2)

/-- The strength of an RSA modulus in bits (Table 7-5). -/
def rsaStrength (modulus : Nat) : Nat :=
  if modulus < 2048 then 80 else if modulus < 3072 then 112 else if modulus < 7680 then 128
  else if modulus < 15360 then 192 else 256

/-- The strength of a key type with `len` bytes of material, or `len` the modulus in bits for RSA. -/
def typeStrength (t len : Nat) : Nat :=
  match t with
  | 0x01 => 80
  | 0x02 => 112
  | 0x03 | 0x20 | 0x23 | 0x28 | 0x2B | 0x30 | 0x34 | 0x38 | 0x3C | 0x40 | 0x44 => 128
  | 0x04 | 0x21 | 0x29 | 0x31 | 0x35 | 0x39 | 0x3D | 0x41 | 0x45 => 192
  | 0x24 | 0x2C => 224
  | 0x06 => min 256 (8 * len)
  | 0x10 | 0x11 => rsaStrength len
  | _ => 256

/-- The USAGE bits that Table 7-6 allows for a type. -/
def typeUsage (t : Nat) : BitVec 16 :=
  if typeSym t then 0x63FF
  else if typeHmac t then 0x000C
  else if typeRsa t then 0x0402
  else if typeEcc t then 0x1400
  else if typeEddsa t || typeMldsa t || typeSlh t then 0x0400
  else if typeMlkem t then 0x1000
  else if typePublic t then 0x0800
  else 0

/-- Whether the Sett accepts a USAGE for a type (R280). -/
def usageOk (t : Nat) (u : BitVec 16) : Bool := typeKnown t && u != 0 && u &&& typeUsage t == u

/-- The usage bits by number (Table 7-6). -/
abbrev useEncrypt : Nat := 0
abbrev useDecrypt : Nat := 1
abbrev useMacGen : Nat := 2
abbrev useMacVerify : Nat := 3
abbrev useWrap : Nat := 4
abbrev useUnwrap : Nat := 5
abbrev usePinEncrypt : Nat := 6
abbrev usePinDecrypt : Nat := 7
abbrev usePinVerify : Nat := 8
abbrev useDerive : Nat := 9
abbrev useSign : Nat := 10
abbrev useVerify : Nat := 11
abbrev useAgree : Nat := 12
abbrev useCard : Nat := 13
abbrev useEmv : Nat := 14

/-- Whether a record permits a use. -/
def KeyRec.permits (r : KeyRec) (u : Nat) : Bool := r.usage.getLsbD u

/-- EXPORT of a record's ATTRS. -/
def KeyRec.export (r : KeyRec) : Nat := bits r.attrs.toNat 1 0

/-- SENSITIVE_OUT of a record's ATTRS (R229). -/
def KeyRec.sensitiveOut (r : KeyRec) : Bool := r.attrs.getLsbD 2

/-- ATTRS of a new record: EXPORT, SENSITIVE_OUT from USAGE (R281), BODY, ORIGIN, PERSISTENT, TEST. -/
def keyAttrs (exp : Nat) (usage : BitVec 16) (body : Bool) (origin : Nat) (persistent test : Bool) :
    BitVec 16 :=
  BitVec.ofNat 16 (exp % 4 + b2n (usage &&& 0x03A0 != 0) * 4 + b2n body * 8 + origin % 8 * 16
    + b2n persistent * 128 + b2n test * 256)

/-- The key bytes of a record, in MATERIAL or in its body (R277). -/
def KeyRec.bytes (r : KeyRec) : Bytes := if r.body.isEmpty then r.material else r.body

/-- The strength of a record's key. The first two bytes of an RSA body are its modulus size in bits
(the model's own layout). -/
def KeyRec.strength (r : KeyRec) : Nat :=
  typeStrength r.type (if r.type = 0x10 ∨ r.type = 0x11 then leField r.body 0 2 else r.bytes.length)

/-- The units that a resident key charges (R268). -/
def KeyRec.units (r : KeyRec) : Nat := 1 + (r.body.length + 1023) / 1024

/-! ## Slots and handles -/

/-- The first persistent key number: persistent slot p is key 2^23 + p. -/
abbrev persistentBase : Nat := 8388608

/-- Whether a key is a master key. -/
def isPersistent (k : KeyId) : Bool := decide (persistentBase ≤ k)

/-- The master key of a domain and an index. -/
def masterKeyId (d i : Nat) : KeyId := persistentBase + 32 * d + i

/-- The slot of a key. -/
def State.keySlot (s : State) (k : KeyId) : KeySlot := tget s.sett.keys k {}

/-- Replace the slot of a key. -/
def State.setKeySlot (k : KeyId) (v : KeySlot) (s : State) : State :=
  { s with sett.keys := tset s.sett.keys k v }

/-- The handle of a key and a generation (Table 7-3). -/
def handleOf (k : KeyId) (gen : Nat) : BitVec 32 :=
  BitVec.ofNat 32 ((if isPersistent k then 2 ^ 31 + (k - persistentBase) else k) + gen % 256 * 2 ^ 23)

/-- The generation of a handle. -/
def handleGen (h : BitVec 32) : Nat := bits h.toNat 30 23

/-- The key that a handle names, when its SLOT is one that can hold a key (R272, R273). -/
def State.handleKey? (s : State) (h : BitVec 32) : Option KeyId :=
  let slot := bits h.toNat 22 0
  if bit h.toNat 31 then
    let d := bits slot 16 5
    if bits slot 22 17 = 0 ∧ bits slot 4 0 < ((s.domRec? d).map (·.masterKeySlots)).getD 0 then
      some (persistentBase + slot)
    else none
  else some slot

/-- Check 1 of R224: the slot holds a record. -/
def State.handleRec? (s : State) (h : BitVec 32) : Option (KeyId × KeySlot × KeyRec) :=
  match s.handleKey? h with
  | none => none
  | some k => match (s.keySlot k).record with
    | none => none
    | some r => some (k, s.keySlot k, r)

/-- Whether a key's record lies in the hot cache. -/
def State.hotHit (s : State) (k : KeyId) : Bool := s.sett.hot.any (·.key == k)

/-- Whether the record is inside its validity window (R294, R295). -/
def State.inWindow (s : State) (r : KeyRec) : Bool :=
  if s.calendar.isSet then decide (r.notBefore ≤ s.seconds) && (r.notAfter == 0xFFFFFFFFFF
      || decide (s.seconds < r.notAfter))
  else r.notBefore == 0 && r.notAfter == 0xFFFFFFFFFF

/-- The largest USE_COUNT. -/
abbrev useMax : Nat := 0xFFFFFFFFFFFFFFFF

/-- Whether another use may be reserved (R296, R297). -/
def useFree (r : KeyRec) (reserved : Nat) : Bool :=
  if r.useLimit = 0 then decide (r.useCount + reserved + 1 ≤ useMax)
  else decide (r.useCount + reserved < r.useLimit)

/-- Whether a domain permits TDES. -/
def State.tdesPermitted (s : State) (d : Nat) : Bool :=
  ((s.domRec? d).map fun r => r.flags.getLsbD 0).getD false

/-- Whether a domain permits export. -/
def State.exportPermitted (s : State) (d : Nat) : Bool :=
  ((s.domRec? d).map fun r => r.flags.getLsbD 1).getD false

/-- Which checks of R224 a resolution makes: KRES all of them; a stream's later part all but check 7
(R253); KEY_CHECK_VALUE checks 1 to 5 and 8 (R699). -/
structure Checks where
  window : Bool := true
  usage : Bool := true
  deriving DecidableEq, Repr

/-- What the Sett answers: a failed check's status, a hot-cache miss, or the key. -/
inductive Resolved where
  | failed (status : Status)
  | missed (key : KeyId)
  | ok (key : KeyId) (record : KeyRec)
  deriving DecidableEq, Repr

/-- The checks of R224 on a handle for a domain, in their order. A miss comes where check 1 has found a
record that the hot cache does not hold (R225). -/
def State.resolve (s : State) (dom : Nat) (c : Checks) (h : BitVec 32) : Resolved :=
  match s.handleRec? h with
  | none => .failed 0x0201
  | some (k, sl, r) =>
    if !s.hotHit k then .missed k
    else if sl.generation ≠ handleGen h then .failed 0x0202
    else if r.domain ≠ dom then .failed 0x0203
    else if r.state = .failed then .failed 0x0205
    else if typeTdes r.type && !s.tdesPermitted r.domain then .failed 0x0303
    else if c.window && !s.inWindow r then .failed 0x0210
    else if c.usage && !useFree r sl.reserved then .failed 0x0211
    else if s.antler.debug then .failed 0x0310
    else .ok k r

/-- Make a key the most recently used of the hot cache (R287). -/
def State.hotTouch (k : KeyId) (s : State) : State :=
  let e := (s.sett.hot.find? (·.key == k)).getD { key := k }
  { s with sett.hot := s.sett.hot.filter (fun x => x.key != k) ++ [e] }

/-- Count a hot-cache hit or miss; the counts saturate (Table 7-13). -/
def State.countHit (hit : Bool) (s : State) : State :=
  if hit then { s with sett.hits := min useMax (s.sett.hits + 1) }
  else { s with sett.misses := min useMax (s.sett.misses + 1) }

/-- Reserve one use of a key (R226). -/
def State.reserveUse (k : KeyId) (s : State) : State :=
  let sl := s.keySlot k
  s.setKeySlot k { sl with reserved := sl.reserved + 1 }

/-- Whether a key register still names the key in the slot: the key has not been deleted since. -/
def State.keyLives (s : State) (kr : KeyReg) : Bool :=
  let sl := s.keySlot kr.key
  sl.record.isSome && sl.generation == kr.record.generation

/-- The keys that the commands of all slots pin: resolved into a key register, held by a native command
in progress, or held by a keyed job (R288). -/
def State.pinned (s : State) : List KeyId :=
  s.host.slots.flatMap fun e =>
    e.2.ctx.ck.toList.filterMap (fun o => o.map (·.key)) ++ (e.2.keysHeld ++ e.2.owed).map (·.key)
      ++ e.2.jobs.filterMap fun j => j.2.key.map (·.key)

/-- Take note of the keys that nothing pins any more (R289). -/
def State.noteUnpinned (ks : List KeyId) (s : State) : State :=
  let free := ks.filter fun k => !s.pinned.contains k
  { s with sett.unpinned := free.foldl (fun t k => tset t k s.now) s.sett.unpinned }

/-- Release a reservation that was not committed (R227). -/
def State.releaseUse (kr : KeyReg) (s : State) : State :=
  if kr.committed || kr.streamKey || !s.keyLives kr then s else
  let sl := s.keySlot kr.key
  s.setKeySlot kr.key { sl with reserved := sl.reserved - 1 }

/-- Mark an entry of the hot cache changed. -/
def State.hotChanged (k : KeyId) (s : State) : State :=
  { s with sett.hot := s.sett.hot.map fun e => if e.key = k then { e with changed := true } else e }

/-- Commit a reserved use (R227, R297): USE_COUNT advances, and a persistent key's count is due in the
store within 1 ms (R291). The commit of a deleted key is discarded (Table 7-8). -/
def State.commitUse (kr : KeyReg) (s : State) : State :=
  if kr.committed || kr.streamKey || !s.keyLives kr then s else
  let sl := s.keySlot kr.key
  match sl.record with
  | none => s
  | some r =>
    let s := s.setKeySlot kr.key { sl with reserved := sl.reserved - 1,
                                           record := some { r with useCount := min useMax (r.useCount + 1) } }
    let s := s.hotChanged kr.key
    if isPersistent kr.key && (tget? s.sett.countDue kr.key).isNone then
      { s with sett.countDue := tset s.sett.countDue kr.key (s.now + unitsPerMilli),
               sett.storedCount := tset s.sett.storedCount kr.key r.useCount }
    else s

/-! ## Hot cache -/

/-- Mark the record of a key failed (R285, R292). -/
def State.failKey (k : KeyId) (s : State) : State :=
  let sl := s.keySlot k
  s.setKeySlot k { sl with record := sl.record.map fun r => { r with state := .failed } }

/-- The 112 bytes of a key record (Table 7-4). -/
def KeyRec.toBytes (r : KeyRec) : Bytes :=
  natLe 2 r.domain ++ natLe 1 r.generation ++ natLe 1 (if r.state = .valid then 1 else 2) ++ natLe 1 r.type
    ++ natLe 1 r.material.length ++ natLe 2 r.usage.toNat ++ natLe 2 r.attrs.toNat ++ natLe 5 r.notBefore
    ++ natLe 1 r.paramSet ++ natLe 5 r.notAfter ++ zeros 3 ++ natLe 8 r.useLimit ++ natLe 8 r.useCount
    ++ natLe 4 r.body.length ++ natLe 4 r.granule
    ++ fit 64 (if r.body.isEmpty then r.material else fit 16 r.bodyTag)

/-- Encrypt the record of a resident key, and its body, into the DRAM: the version and the tree counters on the path
advance, and one that saturates fails the record (R282, R284 to R286, R290). -/
def State.writeBack (k : KeyId) (s : State) : State :=
  let sl := s.keySlot k
  match sl.record with
  | none => s
  | some r =>
    if isPersistent k then s else
    let t := s.sett.keyTree.advance keyLevels k
    let v := t.version k
    let body := if r.body.isEmpty then [] else s.sealUnit unitBody k v r.body
    let r := { r with bodyTag := body.drop r.body.length }
    let s : State := { s with sett.keyTree := t }
    let s := s.setKeySlot k { sl with record := some r, stored := s.sealUnit unitRecord k v r.toBytes,
                                      storedBody := body.take r.body.length }
    if t.saturated keyLevels k then s.failKey k else s

/-- Take an entry out of the hot cache, writing it back when its USE_COUNT has changed (R290). -/
def State.evict (k : KeyId) (s : State) : State :=
  let changed := s.sett.hot.any fun e => e.key == k && e.changed
  let s : State := { s with sett.hot := s.sett.hot.filter fun e => e.key != k, sett.unpinned := terase s.sett.unpinned k }
  if changed then s.writeBack k else s

/-- The entries of the set of a key. -/
def State.hotSetOf (s : State) (k : KeyId) : List HotEntry :=
  let f := fun n => Config.hotSet s.tableKey n % 4096
  s.sett.hot.filter fun e => f e.key == f k

/-- Put a key's record into its set: into a free way, else in place of the least recently used entry
that is not pinned; `none` while the set is wholly pinned (R287, R288). -/
def State.hotInsert? (k : KeyId) (s : State) : Option State :=
  if s.hotHit k then some s else
  let set := s.hotSetOf k
  if set.length < 16 then some (s.hotTouch k) else
  match set.find? fun e => !s.pinned.contains e.key with
  | some e => some ((s.evict e.key).hotTouch k)
  | none => none

/-! ## Creation and deletion -/

/-- The units charged by a domain's resident keys (R268). -/
def State.unitsOf (s : State) (d : Nat) : Nat :=
  (s.sett.keys.map fun e =>
    match e.2.record with
    | some r => if !isPersistent e.1 && r.domain == d then r.units else 0
    | none => 0).sum

/-- The quota of a domain. -/
def State.quotaOf (s : State) (d : Nat) : Nat := ((s.domRec? d).map (·.quota)).getD 0

/-- The lowest-numbered free resident slot at or above a number, wrapping at 2^23, within a number of
tries (R275). -/
def State.freeSlotFrom (s : State) : Nat → Nat → Nat
  | 0, n => n % persistentBase
  | fuel + 1, n =>
    if (s.keySlot (n % persistentBase)).record.isNone then n % persistentBase
    else s.freeSlotFrom fuel (n + 1)

/-- The granules in use. -/
def State.granulesUsed (s : State) : List Nat := s.sett.granuleMap.map Prod.fst

/-- The lowest n granules not in use, at or above a number (the model's choice of the free granules that
R278 gives a body). -/
def freeGranules (used : List Nat) : Nat → Nat → Nat → List Nat
  | _, 0, _ => []
  | 0, _, _ => []
  | fuel + 1, n + 1, g =>
    if used.contains g then freeGranules used fuel (n + 1) (g + 1)
    else g :: freeGranules used fuel n (g + 1)

/-- Give the body of a resident record its granules: BODY_GRANULE, and the chain in the granule map (R278). -/
def State.placeBody (r : KeyRec) (s : State) : KeyRec × State :=
  let need := granulesFor r.body.length
  if need = 0 then (r, s) else
  let used := s.granulesUsed
  let gs := freeGranules used (used.length + need) need 0
  ({ r with granule := gs.headD 0 }, { s with sett.granuleMap := linkGranules s.sett.granuleMap gs })

/-- Free the granules of the body of a resident record. -/
def State.freeBody (r : KeyRec) (s : State) : State :=
  let gs := chainOf s.sett.granuleMap (granulesFor r.body.length) r.granule
  { s with sett.granuleMap := freeGranulesOf s.sett.granuleMap gs }

/-- The record of a new key from its attributes and material (R276, R277, R281). -/
def newRecord (dom type exp origin : Nat) (usage : BitVec 16) (persistent test : Bool) (nb na limit : Nat)
    (material : Bytes) : KeyRec :=
  let body := decide (64 < material.length)
  { domain := dom, type := type, usage := usage,
    attrs := keyAttrs exp usage body origin persistent test,
    notBefore := nb, notAfter := na, useLimit := limit,
    material := if body then [] else material, body := if body then material else [] }

/-- The creation of a resident key (R269, R275, R300): the status of a refusal, or the handle. -/
def State.createKey (r : KeyRec) (s : State) : (Status ⊕ BitVec 32) × State :=
  if s.quotaOf r.domain < s.unitsOf r.domain + r.units then (.inl 0x0212, s) else
  let k := s.freeSlotFrom s.sett.keys.length s.sett.cursor
  let sl := s.keySlot k
  let p := s.placeBody { r with generation := sl.generation }
  let s := (p.2.setKeySlot k { sl with record := some p.1, reserved := 0 }).writeBack k
  (.inr (handleOf k sl.generation), { s with sett.cursor := (k + 1) % persistentBase })

/-- The generation after a deletion (R274). -/
def nextGen (g : Nat) : Nat := if g = 255 then 1 else g + 1

/-- Empty a slot: its generation advances (R274), its granules are freed (R278), the record leaves the hot cache, and the
context of an open stream of the key is discarded (Table 7-8). -/
def State.deleteKey (k : KeyId) (s : State) : State :=
  let sl := s.keySlot k
  let h := handleOf k sl.generation
  let s := match sl.record with
    | some r => if isPersistent k then s else s.freeBody r
    | none => s
  let s := s.setKeySlot k { generation := nextGen sl.generation, record := none, reserved := 0 }
  { s with sett.hot := s.sett.hot.filter (fun e => e.key != k), sett.unpinned := terase s.sett.unpinned k,
           sett.countDue := terase s.sett.countDue k, sett.storedCount := terase s.sett.storedCount k,
           host.streams := s.host.streams.filter fun x => !(x.handleCount != 0 && x.handle == h) }

/-- Every key of a domain, resident and persistent. -/
def State.keysOf (s : State) (d : Nat) : List KeyId :=
  (s.sett.keys.filter fun e => match e.2.record with
    | some r => r.domain == d
    | none => false).map Prod.fst

/-- Empty every slot of a domain and discard its legacy index map (R315). -/
def State.wipeDomain (d : Nat) (s : State) : State :=
  let s := (s.keysOf d).foldl (fun s k => s.deleteKey k) s
  { s with sett.legacy := terase s.sett.legacy d }

/-- Erase the whole master-key region (R264). -/
def State.eraseMasterKeys (s : State) : State :=
  { s with sett.keys := s.sett.keys.filter fun e => !isPersistent e.1,
           sett.hot := s.sett.hot.filter fun e => !isPersistent e.key,
           sett.countDue := [], sett.storedCount := [] }

/-- Fail every record that a failed authentication, or an uncorrectable error, covers and record it (R292, R466, R471):
kind 1 the record, 2 its body, 2 + l the l-th tree node from the leaf on its path. The event carries the slot, or the
node's number. -/
def State.integrityFailure (k kind : Nat) (s : State) : State :=
  let dom := ((s.keySlot k).record.map (·.domain)).getD 0xFFFF
  let l := kind - 2
  let covered := fun j => if l = 0 then j == k else !isPersistent j && j / 8 ^ l == k / 8 ^ l
  let ks := (s.sett.keys.map Prod.fst).filter covered
  let s := ks.foldl (fun s j => s.failKey j) s
  let s := { s with sett.integrityFailures := min useMax (s.sett.integrityFailures + 1) }
  s.raise 0x40 (natLe 4 (if l = 0 then k else Config.treeNode l (k / 8 ^ l)) ++ natLe 2 dom
    ++ natLe 1 (Config.integrityKind kind) ++ [0])

/-! ## Check values -/

/-- The check value of a key (R698): the ASCII bytes are "TSM7296 KCV". -/
def keyCheckValue (r : KeyRec) : Bytes :=
  if typeTdes r.type then natLe 8 (Config.tdes false r.material 0).toNat
  else if typeAes r.type then (natLe 64 (Config.mac 1 r.material (zeros 16)).toNat).take 16
  else (natLe 64 (Config.digest 0x20 ([0x54, 0x53, 0x4D, 0x37, 0x32, 0x39, 0x36, 0x20, 0x4B, 0x43, 0x56]
      ++ natLe 1 r.type ++ r.bytes)).toNat).take 32

end Sys2Proof.Machine
end

