-- ==== Sys2Proof/Machine/PackOps.lean ====
section
/-! DEFINITION. Sending on the pack links: the links of LINK_MASK, the frames that carry a record and wait for
their acknowledgement (R617, R644, R647). -/

namespace Sys2Proof.Machine

/-- A link. -/
def State.link (s : State) (l : Nat) : PackLink := if l = 0 then s.pair.link0 else s.pair.link1

/-- Replace a link. -/
def State.setLink (l : Nat) (v : PackLink) (s : State) : State :=
  if l = 0 then { s with pair.link0 := v } else { s with pair.link1 := v }

/-- A link is in SYNC while at least one of its lanes is. -/
def PackLink.up (l : PackLink) : Bool := l.lane0.state == .sync || l.lane1.state == .sync

/-- A lane. -/
def PackLink.lane (v : PackLink) (n : Nat) : Lane := if n = 0 then v.lane0 else v.lane1

/-- Replace a lane. -/
def PackLink.setLane (n : Nat) (x : Lane) (v : PackLink) : PackLink :=
  if n = 0 then { v with lane0 := x } else { v with lane1 := x }

/-- A lane loses its alignment: from SYNC with PACK_SYNC_LOST (Table 18-7). -/
def State.loseLane (l n : Nat) (s : State) : State :=
  let v := s.link l
  let was := (v.lane n).state
  let s := s.setLink l (v.setLane n {})
  if was = .sync then s.raise 0x102 (natLe 1 l ++ natLe 1 n ++ zeros 2) else s

/-- A link loses sync on both lanes. -/
def State.loseSync (l : Nat) (s : State) : State := (s.loseLane l 0).loseLane l 1

/-- Whether this half is the active of a pair whose standby runs in step. -/
def State.leads (s : State) : Bool := s.pair.phase == .active && s.pair.inStep

/-- The base of the PACK_ block. -/
abbrev packBase : Nat := 0x900000

/-- Count bad headers or retransmissions on a link (PACK_LINK_ERRORS_n). -/
def State.countLinkErrors (l n : Nat) (s : State) : State :=
  let v := s.link l
  let c := SatCount.add count31 n v.errors
  (s.setLink l { v with errors := c.1 }).saturated c.2 packBase (0x40 + 4 * l)

/-- Ask the peer to send again every frame from the first missing SEQ (R646). -/
def State.askAgain (l : Nat) (s : State) : State :=
  let v := s.link l
  s.emit (.packFrame l 3 v.recvSeq v.recvSeq [])

/-- The PACK section of the lodge in force. -/
def State.packSec (s : State) : PackSec := s.tables.pack.getD {}

/-- The links of LINK_MASK. -/
def State.links (s : State) : List Nat := [0, 1].filter fun l => s.packSec.linkMask.getLsbD l

/-- The link that carries the record stream: the lowest of LINK_MASK in SYNC, or the lowest of LINK_MASK
(the model's choice between the links of a pair). -/
def State.streamLink (s : State) : Nat :=
  match s.links.find? fun l => (s.link l).up with
  | some l => l
  | none => s.links.headD 0

/-- A string in pieces of at most n bytes, within a number of pieces. -/
def chunks (n : Nat) : Nat → Bytes → List Bytes
  | 0, _ => []
  | fuel + 1, b => if b.length ≤ n then [b] else b.take n :: chunks n fuel (b.drop n)

/-- The frames that the sender holds at most (R647). -/
abbrev framesHeld : Nat := 4096

/-- Move waiting payloads into frames while fewer than 4,096 are held. -/
def PackLink.fill : Nat → PackLink → PackLink
  | 0, l => l
  | fuel + 1, l =>
    match l.waiting with
    | [] => l
    | b :: t =>
      if l.unacked.length < framesHeld then
        PackLink.fill fuel { l with waiting := t, unacked := l.unacked ++ [(l.sendSeq, b)],
                                    sendSeq := l.sendSeq + 1, xmit := (l.xmit + 1) % 2 ^ 48 }
      else l

/-- The bytes of a record: TYPE, a reserved byte, LENGTH, and the content. -/
def packRecordBytes (kind : Nat) (payload : Bytes) : Bytes :=
  natLe 1 kind ++ [0] ++ natLe 2 payload.length ++ payload

/-- Send a record on a link. -/
def State.sendOn (l kind : Nat) (payload : Bytes) (s : State) : State :=
  let b := packRecordBytes kind payload
  let v := s.link l
  let v := { v with waiting := v.waiting ++ chunks 976 (b.length + 1) b }
  (s.setLink l (v.fill v.waiting.length)).emit (.packRecord l kind payload)

/-- Send a record of the stream. -/
def State.sendRecord (kind : Nat) (payload : Bytes) (s : State) : State := s.sendOn s.streamLink kind payload

/-- The SEQ of the last frame that a link has been given. -/
def PackLink.lastSeq (l : PackLink) : Nat := l.sendSeq + l.waiting.length - 1

end Sys2Proof.Machine
end

