-- ==== Sys2Proof/Machine/RngOps.lean ====
section
/-! DEFINITION. Draws from Squirrel's output queue (R400 to R406): whole units from the head, a draw
served whole or not at all, later draws behind earlier ones, refusal once every instance has stopped, and
the mirror stream on the standby half of a pair. -/

namespace Sys2Proof.Machine

/-- The units that a draw of n bytes takes (R401). -/
def drawUnits (n : Nat) : Nat := (n + 15) / 16

/-! ## CTR_DRBG with AES-256 and the derivation function (R393; SP 800-90A, 10.2.1 and 10.3.2) -/

/-- AES-256 of one block. -/
def aesBlock (key b : Bytes) : Bytes := natLe 16 (Config.aes false key (BitVec.ofNat 128 (leNat b))).toNat

/-- The chaining of n blocks of a string (BCC). -/
def chainBlocks (key : Bytes) : Nat → Bytes → Bytes → Bytes
  | 0, c, _ => c
  | n + 1, c, b => chainBlocks key n (aesBlock key (xorBytes c (b.take 16))) (b.drop 16)

/-- The derivation function: 48 bytes from an input string (Block_Cipher_df). -/
def deriveSeed (input : Bytes) : Bytes :=
  let key := (List.range 32).map (BitVec.ofNat 8)
  let b := natBe 4 input.length ++ natBe 4 48 ++ input ++ [0x80]
  let b := b ++ zeros ((16 - b.length % 16) % 16)
  let t := (List.range 3).flatMap fun i => chainBlocks key (1 + b.length / 16) (zeros 16) (natBe 4 i ++ zeros 12 ++ b)
  let x1 := aesBlock (t.take 32) (t.drop 32)
  let x2 := aesBlock (t.take 32) x1
  x1 ++ x2 ++ aesBlock (t.take 32) x2

/-- The block of a key at a value of V. -/
def drbgBlock (key : BitVec 256) (v : BitVec 128) : Bytes := aesBlock (natBe 32 key.toNat) (natBe 16 v.toNat)

/-- CTR_DRBG_Update with 48 bytes. -/
def Drbg.update (provided : Bytes) (d : Drbg) : Drbg :=
  let t := xorBytes (drbgBlock d.key (d.v + 1) ++ drbgBlock d.key (d.v + 2) ++ drbgBlock d.key (d.v + 3)) provided
  { d with key := BitVec.ofNat 256 (beNat (t.take 32)), v := BitVec.ofNat 128 (beNat (t.drop 32)) }

/-- The personalisation string of an instance: the device identifier and the instance number (R393). -/
def personalisation (i : Nat) : Bytes := Config.deviceId ++ natLe 1 i

/-- An instance instantiated with an entropy input; the nonce of SP 800-90A is a part of that input (log entry 98). -/
def Drbg.instantiate (i : Nat) (entropy : Bytes) : Drbg :=
  Drbg.update (deriveSeed (entropy ++ personalisation i)) { state := .running }

/-- An instance reseeded with an entropy input: its count starts again (R397). -/
def Drbg.reseed (entropy : Bytes) (d : Drbg) : Drbg :=
  { Drbg.update (deriveSeed entropy) d with requests := 0, reseedDue := false }

/-- An instance after a request of 4,096 bytes: V has advanced by 256 blocks, and the state is updated (R396). -/
def Drbg.generated (d : Drbg) : Drbg :=
  { Drbg.update (zeros 48) { d with v := d.v + 256 } with requests := d.requests + 1 }

/-! ## The output queue -/

/-- A unit of the output queue, by its number. -/
def RngState.unit (r : RngState) (n : Nat) : Bytes :=
  match r.served.find? fun x => decide (x.start ≤ n) && decide (n < x.start + 256) with
  | some x => drbgBlock x.key (x.v + 1 + BitVec.ofNat 128 (n - x.start))
  | none => zeros 16

/-- The bytes of k units from number `head` on. -/
def RngState.unitBytes (r : RngState) (head k : Nat) : Bytes := (List.range k).flatMap fun i => r.unit (head + i)

/-- The 16 instances. -/
def RngState.instance? (r : RngState) (i : Nat) : Drbg := tget r.drbgs i {}

/-- Whether some instance is running. -/
def RngState.anyRunning (r : RngState) : Bool := (List.range 16).any fun i => (r.instance? i).state == .running

/-- Whether no instance will serve again before the next device reset (R394, R398): every instance has stopped, or is not
instantiated with both sources failed, or the known-answer tests have failed. -/
def RngState.allStopped (r : RngState) : Bool :=
  r.katFailed || (List.range 16).all fun i =>
    let d := (r.instance? i).state
    d == .stopped || (d == .uninstantiated && r.source0.state == .failed && r.source1.state == .failed)

/-- The units that the draw at the head needs; one where no draw waits. -/
def RngState.headNeed (r : RngState) : Nat :=
  match r.waiting with
  | w :: _ => drawUnits w.bytes
  | [] => 1

/-- RNG_STATUS.STOPPED (R403). -/
def RngState.stopped (r : RngState) : Bool := r.allStopped && (r.shut || decide (r.units < r.headNeed))

/-- The outcome of a draw. -/
inductive Draw where
  | served (b : Bytes)
  | refused
  | waits
  deriving DecidableEq, Repr

/-- Take the units of a draw of n bytes from the head (R401). -/
def State.takeUnits (n : Nat) (s : State) : Bytes × State :=
  let k := drawUnits n
  ((s.rng.unitBytes s.rng.head k).take n, { s with rng.head := s.rng.head + k, rng.units := s.rng.units - k })

/-- The base of the RNG_ block. -/
abbrev rngBase : Nat := 0xC00000

/-- Count a refused draw (RNG_REFUSED); from now on every draw is refused (R403). -/
def State.drawRefused (s : State) : State :=
  let c := SatCount.add count31 1 s.rng.refused
  ({ s with rng.refused := c.1, rng.shut := true }).saturated c.2 rngBase 0x88

/-- The admission sequence of the command in a slot, on a half of an in-step pair. -/
def State.admission? (s : State) (slot : Nat) : Option Nat :=
  (s.pair.commands.find? fun c => c.slot == slot && !c.settled).map (·.admission)

/-- Count the bytes that a command of the in-step stream draws, for the epoch digest (R624). -/
def State.countDrawn (slot n : Nat) (s : State) : State :=
  let f := fun c : PairCommand =>
    if c.slot = slot ∧ c.settled = false then { c with drawn := c.drawn + n } else c
  { s with pair.commands := s.pair.commands.map f }

/-- What the active tells the standby of a draw: a DRAW record with the bytes (R618). A refusal is
mirrored by an empty record (R406; the model's choice of form). -/
def State.mirrorDraw (slot : Nat) (b : Bytes) (s : State) : State :=
  if s.leads then
    match s.admission? slot with
    | some a => (s.countDrawn slot b.length).sendRecord 2 (natLe 8 a ++ b)
    | none => s
  else s

/-- The command of the in-step stream in a slot. -/
def State.pairCommand? (s : State) (slot : Nat) : Option PairCommand :=
  s.pair.commands.find? fun c => c.slot == slot && !c.settled

/-- Take n of the bytes that DRAW records have brought for the command in a slot. -/
def State.takeMirror (slot n : Nat) (c : PairCommand) (s : State) : Bytes × State :=
  let f := fun x : PairCommand => if x.admission = c.admission then { x with drawBytes := c.drawBytes.drop n } else x
  (c.drawBytes.take n, ({ s with pair.commands := s.pair.commands.map f } : State).countDrawn slot n)

/-- Whether a draw of n bytes that comes now is served at once: no draw waits before it, the queue holds its units, and
no draw has been refused (R402, R403). -/
def RngState.serves (r : RngState) (n : Nat) : Bool := r.waiting.isEmpty && !r.shut && decide (drawUnits n ≤ r.units)

/-- Whether a draw that comes now, and is not served, is refused (R403). -/
def RngState.refuses (r : RngState) : Bool := r.allStopped && (r.waiting.isEmpty || r.stopped)

/-- A draw of n bytes from Squirrel's own output queue, for the command in a slot or, `own`, for a purpose of the sealed
controller on which that command waits (R404): such a draw is not mirrored. -/
def State.ownDrawFor (own : Bool) (slot n : Nat) (s : State) : Draw × State :=
  let tell := fun (b : Bytes) (s : State) => if own then s else s.mirrorDraw slot b
  if s.rng.serves n then
    let r := s.takeUnits n
    (.served r.1, tell r.1 r.2)
  else if s.rng.refuses then (.refused, tell [] s.drawRefused)
  else (.waits, { s with rng.waiting := s.rng.waiting ++ [{ slot := some slot, bytes := n, own := own }] })

/-- A draw of n bytes on behalf of the command in a slot. A command of the standby takes the bytes of its DRAW
records alone (R405); an empty record is a refusal (R406). Otherwise it is served, refused or waits behind
the draws before it (R402, R403). A draw that waited and was served finds its bytes in the slot. -/
def State.draw (slot n : Nat) (s : State) : Draw × State :=
  match tget? s.host.slots slot with
  | none => (.waits, s)
  | some sl =>
    match sl.drawn with
    | some b =>
      (.served b, { s with host.slots := tset s.host.slots slot { sl with drawn := none } })
    | none =>
      if s.rng.waiting.any fun w => w.slot == some slot then (.waits, s)
      else match s.pairCommand? slot with
        | none => s.ownDrawFor false slot n
        | some c =>
          if n ≤ c.drawBytes.length ∧ c.drawBytes ≠ [] then
            let r := s.takeMirror slot n c
            (.served r.1, r.2)
          else if c.drawRefused then (.refused, s)
          else if s.pair.phase = .standby then (.waits, s)
          else s.ownDrawFor false slot n

/-- A draw of n bytes for a purpose of the sealed controller on which the command in a slot waits, a Quill challenge or
the ephemeral key of a migration (R404): it is served from this half's own queue on either half (R407). -/
def State.drawOwn (slot n : Nat) (s : State) : Draw × State :=
  match tget? s.host.slots slot with
  | none => (.waits, s)
  | some sl =>
    match sl.drawn with
    | some b => (.served b, { s with host.slots := tset s.host.slots slot { sl with drawn := none } })
    | none =>
      if s.rng.waiting.any fun w => w.slot == some slot then (.waits, s) else s.ownDrawFor true slot n

/-- A draw of n bytes for a purpose of the sealed controller that no command issues (R404): the bytes,
or nothing while the queue cannot serve it. -/
def State.drawNow (n : Nat) (s : State) : Option (Bytes × State) := if s.rng.serves n then some (s.takeUnits n) else none

/-- Count a draw of `drawNow` that is not served, where Squirrel refuses it (RNG_REFUSED). -/
def State.notServed (s : State) : State := if s.rng.refuses then s.drawRefused else s

end Sys2Proof.Machine
end

