-- ==== Sys2Proof/Machine/ComputeOps.lean ====
section
/-! DEFINITION. Slots as a table, engine groups and their job queues: the choice of a group (R347), the
sending of a job (R346 to R352), and its abort (R370 to R372). -/

namespace Sys2Proof.Machine

/-- The slot of a number, where it is held. -/
def State.slot? (s : State) (k : Nat) : Option Slot := tget? s.host.slots k

/-- Replace a slot, or hold one more: HIF_SLOT_HIGH follows the slots held (Table 4-21). -/
def State.setSlot (k : Nat) (v : Slot) (s : State) : State :=
  let l := tset s.host.slots k v
  { s with host.slots := l, host.slotHigh := max s.host.slotHigh l.length }

/-- Change a held slot. -/
def State.modSlot (k : Nat) (f : Slot → Slot) (s : State) : State :=
  match s.slot? k with
  | some sl => s.setSlot k (f sl)
  | none => s

/-- A core. -/
def State.core (s : State) (c : Nat) : CoreState := tget s.compute.cores c {}

/-- Replace a core. -/
def State.setCore (c : Nat) (v : CoreState) (s : State) : State :=
  { s with compute.cores := tset s.compute.cores c v }

/-- The engines of a kind. -/
def State.engines (s : State) (hedgehog : Bool) : Tbl Engine :=
  if hedgehog then s.compute.hedgehogs else s.compute.bears

/-- An engine. -/
def State.engine (s : State) (hedgehog : Bool) (e : Nat) : Engine := tget (s.engines hedgehog) e {}

/-- Replace an engine. -/
def State.setEngine (hedgehog : Bool) (e : Nat) (v : Engine) (s : State) : State :=
  if hedgehog then { s with compute.hedgehogs := tset s.compute.hedgehogs e v }
  else { s with compute.bears := tset s.compute.bears e v }

/-- Engines in a group of a kind. -/
def perGroup (hedgehog : Bool) : Nat := if hedgehog then 8 else 4

/-- The numbers of the engines of a group. -/
def groupEngines (hedgehog : Bool) (g : Nat) : List Nat :=
  (List.range (perGroup hedgehog)).map fun i => g * perGroup hedgehog + i

/-- The job queue of a group. -/
def State.queue (s : State) (hedgehog : Bool) (g : Nat) : List (Nat × Nat) :=
  (tget (if hedgehog then s.compute.hedgehogGroups else s.compute.bearGroups) g {}).queue

/-- Replace the job queue of a group. -/
def State.setQueue (hedgehog : Bool) (g : Nat) (q : List (Nat × Nat)) (s : State) : State :=
  if hedgehog then { s with compute.hedgehogGroups := tset s.compute.hedgehogGroups g ⟨q⟩ }
  else { s with compute.bearGroups := tset s.compute.bearGroups g ⟨q⟩ }

/-- The queued and running jobs of a group. -/
def State.groupLoad (s : State) (hedgehog : Bool) (g : Nat) : Nat :=
  (s.queue hedgehog g).length
    + ((groupEngines hedgehog g).filter fun e => (s.engine hedgehog e).running.isSome).length

/-- Whether every engine of a group is faulted. -/
def State.groupFaulted (s : State) (hedgehog : Bool) (g : Nat) : Bool :=
  (groupEngines hedgehog g).all fun e => (s.engine hedgehog e).faulted

/-- The groups of a pool that are not wholly faulted. -/
def State.poolGroups (s : State) (pool : Option Nat) (hedgehog : Bool) : List Nat :=
  match pool with
  | none => []
  | some p => match s.poolRec? p with
    | none => []
    | some r =>
      (List.range (if hedgehog then 2 else 8)).filter fun g =>
        bit (if hedgehog then r.hedgehogMask else r.bearMask).toNat g && !s.groupFaulted hedgehog g

/-- The group that R347 chooses among candidates, with R668 preferring groups without a pending gate
request: the group, or nothing where no candidate exists. -/
def State.chooseGroup? (s : State) (hedgehog : Bool) (cands : List Nat) : Option Nat :=
  let d := domGroup hedgehog
  let clear := cands.filter fun g => !s.gatePending (d g)
  let awakeC := clear.filter fun g => s.awake (d g)
  let light := awakeC.filter fun g => decide (s.groupLoad hedgehog g < 2 * perGroup hedgehog)
  match argmin? (s.groupLoad hedgehog) light with
  | some g => some g
  | none =>
    match cands.find? fun g => s.gated (d g) with
    | some g => some g
    | none =>
      match argmin? (s.groupLoad hedgehog) awakeC with
      | some g => some g
      | none =>
        match argmin? (s.groupLoad hedgehog) (cands.filter fun g => s.awake (d g)) with
        | some g => some g
        | none => cands.head?

/-- Whether a job's state is terminal (Table 9-3). -/
def JobState.terminal : JobState → Bool
  | .done | .failed | .aborted => true
  | _ => false

/-- A job of the command in a slot. -/
def State.job? (s : State) (k n : Nat) : Option Job := (s.slot? k).bind fun sl => tget? sl.jobs n

/-- Replace a job of the command in a slot. -/
def State.setJob (k n : Nat) (j : Job) (s : State) : State :=
  s.modSlot k fun sl => { sl with jobs := tset sl.jobs n j }

/-- Give a job a terminal state with a code; its reservation is released unless the use is committed
(R356), and a command that YIELD has parked resumes (R368, R369). -/
def State.endJob (k n : Nat) (st : JobState) (code : Nat) (s : State) : State :=
  match s.job? k n with
  | none => s
  | some j =>
    let s := match j.key with
      | some kr => s.releaseUse kr
      | none => s
    let s := s.setJob k n { j with state := st, code := code, key := none, random := [] }
    let s := s.noteUnpinned ((j.key.map (·.key)).toList)
    s.modSlot k fun sl => if sl.phase = .parked ∧ sl.retry = none then { sl with phase := .resume } else sl

/-- Put a job into a group's queue, waking the group when it is gated (R346 to R348). -/
def State.enqueueJob (hedgehog : Bool) (g k n : Nat) (s : State) : State :=
  let s := s.beginWake (domGroup hedgehog g)
  s.setQueue hedgehog g (s.queue hedgehog g ++ [(k, n)])

/-- The engine that runs a job of a slot. -/
def State.engineOf? (s : State) (hedgehog : Bool) (k n : Nat) : Option Nat :=
  ((s.engines hedgehog).find? fun e => e.2.running == some (k, n)).map Prod.fst

/-- The bases of the engine blocks. -/
def engineBase (hedgehog : Bool) (e : Nat) : Nat := (if hedgehog then 0x20200000 else 0x20000000) + e * 0x10000

/-- One more job has reached a terminal state on an engine; the count's reaching its largest value is recorded (Table
9-11, R587). -/
def State.countJob (hedgehog : Bool) (e : Nat) (s : State) : State :=
  let n := (s.engine hedgehog e).jobs
  (s.setEngine hedgehog e { s.engine hedgehog e with jobs := min 0xFFFFFFFF (n + 1) }).saturated
    (n == 0xFFFFFFFE) (engineBase hedgehog e) 0xC

/-- Abort a job (R370): removed from its queue, or stopped on its engine, which clears its operand memory
before it reports idle (R371). A job in a terminal state is not affected. -/
def State.abortJob (k n : Nat) (s : State) : State :=
  match s.job? k n with
  | none => s
  | some j =>
    if j.state.terminal then s else
    let s := match j.group with
      | some g => (s.setQueue j.hedgehog g ((s.queue j.hedgehog g).filter (· != (k, n)))).touchDom
          (domGroup j.hedgehog g)
      | none => s
    let s := match s.engineOf? j.hedgehog k n with
      | some e => (s.setEngine j.hedgehog e { s.engine j.hedgehog e with
          running := none, stalled := false, clearing := some s.now,
          consecutiveFaultChecks := 0 }).countJob j.hedgehog e
      | none => s
    s.endJob k n .aborted 3

/-- Abort every job of the command in a slot (R372). -/
def State.abortJobs (k : Nat) (s : State) : State :=
  match s.slot? k with
  | some sl => sl.jobs.foldl (fun s e => s.abortJob k e.1) s
  | none => s

end Sys2Proof.Machine
end

