-- ==== Sys2Proof/Machine/HostOps.lean ====
section
/-! DEFINITION. Entries, rings, admission and the end of a command ("Host Interface, Rings and Polling",
"Lergen Commands, Personalities and Status"). -/

namespace Sys2Proof.Machine

/-! ## Entries -/

/-- The fields of a submission entry (Table 5-1). -/
def parseEntry (b : Bytes) : Entry :=
  { raw := fit 64 b, opcode := leField b 0 2, tag := leField b 2 1, pers := byteAt b 3,
    flags := BitVec.ofNat 16 (leField b 4 2),
    handles := (List.range 4).map fun i => BitVec.ofNat 32 (leField b (8 + 4 * i) 4),
    inAddr := BitVec.ofNat 64 (leField b 0x18 8), inLength := leField b 0x20 4,
    outLength := leField b 0x24 4, outAddr := BitVec.ofNat 64 (leField b 0x28 8), param := slice b 0x30 16 }

def Entry.persId (e : Entry) : Nat := bits e.pers.toNat 3 0
def Entry.inSgl (e : Entry) : Bool := e.flags.getLsbD 0
def Entry.outSgl (e : Entry) : Bool := e.flags.getLsbD 1
def Entry.streamPart (e : Entry) : Nat := bits e.flags.toNat 3 2
def Entry.handleCount (e : Entry) : Nat := bits e.flags.toNat 6 4
def Entry.handle (e : Entry) (i : Nat) : BitVec 32 := if i < e.handleCount then e.handles.getD i 0 else 0
def Entry.streamId (e : Entry) : BitVec 32 := BitVec.ofNat 32 (leField e.param 12 4)
/-- A byte of PARAM. -/
def Entry.p (e : Entry) (i : Nat) : Nat := (byteAt e.param i).toNat

/-- Step 1 of R168 (R163, R164): reserved fields and bits are zero, and handle fields beyond HANDLE_COUNT. -/
def Entry.reservedOk (e : Entry) : Bool :=
  bits e.pers.toNat 7 4 == 0 && bits e.flags.toNat 15 7 == 0 && leField e.raw 6 2 == 0
    && (List.range 4).all fun i => decide (i < e.handleCount) || e.handles.getD i 0 == 0

/-! ## Opcodes -/

/-- The handle count of each native opcode (Table 5-5). -/
def nativeHandles? (op : Nat) : Option Nat :=
  match op with
  | 0x0001 | 0x0002 | 0x3003 | 0x5005 | 0x7001 => some 0
  | 0x1001 | 0x1002 | 0x1003 | 0x1004 | 0x2003 | 0x3002 | 0x6030 | 0x6031 | 0x6032 => some 2
  | 0x2001 | 0x2002 | 0x3001 | 0x3004 | 0x3005 | 0x3006 | 0x4001 | 0x4002 | 0x4003 | 0x4004 | 0x4005
  | 0x4006 | 0x5001 | 0x5002 | 0x5003 | 0x5004 | 0x6001 | 0x6002 | 0x6003 | 0x6010 | 0x6011 | 0x6012
  | 0x6013 | 0x6014 | 0x6020 | 0x6021 | 0x6022 | 0x6023 | 0x6024 | 0x6025 => some 1
  | _ => none

/-- The administrative opcodes (Tables 7-13, 8-6 and 11-8, R627); each takes no handle. -/
def adminOpcodes : List Nat :=
  [0x0200, 0x0201, 0x0202, 0x0203, 0x0204, 0x0205, 0x0206, 0x0207,
   0x0300, 0x0301, 0x0302, 0x0303, 0x0304, 0x0305, 0x0306,
   0x0500, 0x0501, 0x0510, 0x0511, 0x0512, 0x0513, 0x0514, 0x0515, 0x0516, 0x0517,
   0x0520, 0x0521, 0x0522, 0x0600]

/-- Whether an opcode lies in the administrative range (R178). -/
def isAdmin (op : Nat) : Bool := decide (0x0100 ≤ op) && decide (op ≤ 0x0FFF)

/-- The program flags of a built-in native opcode: USES_BEAR, USES_HEDGEHOG, STREAM (Table 2-11 gives the
flags; which built-in program carries which is read from the engines that Table 9-2 gives it). -/
def nativeFlags (op : Nat) : BitVec 16 :=
  match op with
  | 0x6001 | 0x6002 | 0x6003 | 0x6010 | 0x6011 | 0x6012 | 0x6013 | 0x6014 => 1
  | 0x6020 | 0x6021 | 0x6022 | 0x6023 => 2
  | 0x6030 | 0x6031 | 0x6032 => 3
  | 0x5001 | 0x5002 | 0x5005 => 4
  | _ => 0

/-- What the selected personality says of an opcode: the program set, world, kind and program flags. -/
structure Selected where
  kind : Nat := 1
  setId : Option Nat := none
  sealedWorld : Bool := true
  flags : BitVec 16 := 0
  deriving DecidableEq, Repr

/-- The entry-table record of a set for an opcode that a command may name (R219, R220). -/
def ProgramSet.entry? (p : ProgramSet) (op : Nat) : Option ProgramEntry :=
  if 0xFFF0 ≤ op then none else p.entries.find? (·.opcode == op)

/-- The program that serves an opcode of a personality record: built in, or from a PROGRAMS section
(R177, R193; a sealed section in place of a built-in set defines the opcodes of its entry table). -/
def State.program (s : State) (r : PersonalityRec) (op : Nat) : Option Selected :=
  if isAdmin op then
    if r.kind = 1 ∧ adminOpcodes.contains op then some {} else none
  else if r.programSet = 0xFFFF then
    if r.kind = 1 then (nativeHandles? op).map fun _ => { flags := nativeFlags op }
    else if r.kind = 2 ∧ op = 0x3300 then some { kind := 2 }
    else none
  else match s.program? r.programSet with
    | none => none
    | some p => (p.entry? op).map fun e =>
        { kind := r.kind, setId := some p.setId, sealedWorld := p.sealedWorld, flags := e.flags }

/-- Whether HANDLE_COUNT fits the opcode in its personality (R164). -/
def handleCountOk (kind op n : Nat) : Bool :=
  decide (n ≤ 4) &&
    (if isAdmin op then n == 0
     else match kind with
      | 1 => match nativeHandles? op with
        | some m => n == m
        | none => true
      | 2 => n == 0
      | _ => true)

/-- Steps 1 to 4 of R168 and the check of R153, for an entry of a function: the status of the first
failure, or the selected program. -/
def State.entryChecks (s : State) (f : Nat) (e : Entry) : Status ⊕ Selected :=
  if !e.reservedOk then .inl 0x0101 else
  match s.fnRec? f, s.persRec? e.persId with
  | some fr, some pr =>
    if !fr.persMask.getLsbD e.persId then .inl 0x0301
    else if isAdmin e.opcode && e.persId == 0 && f != 0 then .inl 0x0302
    else match s.program pr e.opcode with
      | none => .inl 0x0102
      | some sel =>
        if f = 0 ∧ fr.poolId = 0xFF ∧ ¬(1 ≤ e.opcode ∧ e.opcode ≤ 0x0FFF) then .inl 0x0308
        else if !handleCountOk sel.kind e.opcode e.handleCount then .inl 0x0107
        else
          let p := s.poolRec? fr.poolId
          let noBear := (p.map fun r => r.bearMask == 0).getD true
          let noHedgehog := (p.map fun r => r.hedgehogMask == 0).getD true
          if (sel.flags.getLsbD 0 && noBear) || (sel.flags.getLsbD 1 && noHedgehog) then .inl 0x0420
          else .inr sel
  | _, _ => .inl 0x0301

/-! ## Rings and admission -/

/-- The ring pair of a function. -/
def State.ring (s : State) (f : Nat) : Ring := tget s.host.rings f {}

/-- Replace the ring pair of a function. -/
def State.setRing (f : Nat) (r : Ring) (s : State) : State :=
  { s with host.rings := tset s.host.rings f r }

/-- What the device keeps of a function beside its ring. -/
def State.fnSt (s : State) (f : Nat) : FnState := tget s.cub.fns f {}

/-- Replace what the device keeps of a function. -/
def State.setFn (f : Nat) (v : FnState) (s : State) : State := { s with cub.fns := tset s.cub.fns f v }

def Ring.sqSize (r : Ring) : Nat := 2 ^ r.sqLog2
def Ring.cqSize (r : Ring) : Nat := 2 ^ r.cqLog2
def Ring.draining (r : Ring) : Bool := r.enabled && !r.enable

/-- (a − b) mod n, for a below n. -/
def ringDiff (a b n : Nat) : Nat := (a + n - b % n) % n

/-- The held slots of a function. -/
def State.slotsOf (s : State) (f : Nat) : List (Nat × Slot) := s.host.slots.filter fun e => e.2.fn == f

/-- IN_FLIGHT (Table 4-3): commands admitted whose completion is not written. -/
def State.inFlight (s : State) (f : Nat) : Nat :=
  ((s.slotsOf f).filter fun e => e.2.phase != .fetching).length

/-- The slots that a pool's commands hold. -/
def State.poolSlots (s : State) (p : Nat) : Nat :=
  (s.host.slots.filter fun e => e.2.pool == some p).length

/-- Whether a lodge names a function in an affected pool. -/
def Lodge.serves (l : Lodge) (pools : List Nat) (f : Nat) : Bool :=
  l.functions.any fun r => r.fn == f && pools.contains r.poolId

/-- The hold of R104: a delta waits for its affected pools. The den's path is never held (Table 3-5). -/
def State.deltaHold (s : State) (f : Nat) : Bool :=
  s.lodge.ctl.phase == .quiescing && f != 0
    && (s.tables.serves s.lodge.ctl.affected f
        || ((s.lodge.ctl.parsed.map fun l => l.serves s.lodge.ctl.affected f).getD false))

/-- STATE 3 of the progress word and CUB_RING_STATUS.HELD: a delta hold, a migration freeze, a missing
record, a reset from its T to its indication (Table 4-3), the hold of every function by a field-debug entry (R520), a
transition (Table 14-9) or the in-step start of a pair (R616), and every function of a standby (R619). -/
def State.fnHeld (s : State) (f : Nat) : Bool :=
  s.deltaHold f || (s.fnSt f).mig != .none || (s.fnRec? f).isNone || !(s.fnSt f).resets.isEmpty
    || s.antler.phase.holds || s.pair.syncHold || s.pair.phase == .standby

/-- The cubs of the lodge in force, in ascending order. -/
def State.cubs (s : State) : List Nat := (s.tables.functions.map (·.fn)).filter (· != 0)

/-- Function and CQ write index of each function that has a ring. -/
def State.cqIndices (s : State) : Bytes :=
  (0 :: s.cubs).flatMap fun f => natLe 2 f ++ natLe 2 (s.ring f).cqWrite

/-- Send RELEASE on every link in SYNC: cause, last admission sequence, and CQ write indices. -/
def State.sendRelease (cause : Nat) (s : State) : State :=
  let b := natLe 1 cause ++ natLe 8 (s.pair.admissionNext + (2 ^ 64 - 1)) ++ s.cqIndices
  (s.links.filter fun l => (s.link l).up).foldl (fun s l => s.sendOn l 0x22 b) s

/-- Whether this half acts (R611): a device without a pair, a half in SOLO, or a half in ACTIVE, with a standby in step
while it holds a lease (R630). -/
def State.acts (s : State) : Bool :=
  s.pair.phase == .none || s.pair.phase == .solo
    || (s.pair.phase == .active && (!s.pair.inStep || decide (s.now < s.pair.leaseUntil)))

/-- Whether the device admits commands at all: ready under a lodge, not in D3hot, host domain awake, no
tamper latch (R548), no power-fail warning (R673), no hold of Antler, acting, and no hold of the
pair's in-step start (R616). -/
def State.admitting (s : State) : Bool :=
  s.boot.phase == .ready && s.lodge.inForce.isSome && !s.host.d3hot && s.awake domHost
    && !s.tamper.locked && !s.power.warning && !s.antler.phase.holds && s.acts
    && !s.pair.syncHold

/-- Whether entries of a function may be admitted now. -/
def State.fnAdmits (s : State) (f : Nat) : Bool :=
  let r := s.ring f
  s.admitting && r.enabled && r.enable && !s.fnHeld f

/-- R144. The credit of a function is its CREDIT_LIMIT less the slots it holds. A function whose Bus Master Enable is 0
may not read host memory, so it is not eligible (DESIGN CHOICE, log entry 93). -/
def State.eligible (s : State) (f : Nat) : Bool :=
  let r := s.ring f
  match s.fnRec? f with
  | none => false
  | some fr =>
    s.fnAdmits f && r.sqHead != r.sqTail && !r.fetchError && (s.fnSt f).busMaster
      && decide ((s.slotsOf f).length < fr.creditLimit)
      && (f == 0 || match s.poolRec? fr.poolId with
            | some p => decide (s.poolSlots fr.poolId < p.slotCap)
            | none => false)

/-- The base of the HIF_ block. -/
abbrev hifBase : Nat := 0x100000

/-- The 64-bit ring registers of a function have been updated (R19). -/
def State.reloadRing (f : Nat) (s : State) : State :=
  let base := if f = 0 then hifBase else 0
  [0x100, 0x110, 0x2000].foldl (fun s o => s.reload f (base + o)) s

/-- Whether every affected pool is quiescent: its commands hold no slot. -/
def State.quiescent (s : State) : Bool := s.lodge.ctl.affected.all fun p => s.poolSlots p == 0

/-- Take note that every affected pool of a delta is quiescent within the limit (R106, R108). -/
def State.noteQuiescent (s : State) : State :=
  let c := s.lodge.ctl
  if c.phase = .quiescing ∧ s.now ≤ c.deadline ∧ s.quiescent = true then { s with lodge.ctl.quiesced := true } else s

/-- The commit of a delta is reported once every completion of the removed functions' entries has been written or
dropped (R109, R113). -/
def State.lodgeReport (s : State) : State :=
  let c := s.lodge.ctl
  if c.phase ≠ .commit ∨ c.runOp ≠ 2 ∨ c.waits = true ∨ s.host.due ≠ [] then s else
  { s with lodge.ctl := { c with phase := .idle, image := [], parsed := none, affected := [], peerAccepted := false,
                                 resultStatus := 0, resultStep := 0, resultOp := c.runOp } }

/-- Release a slot (R21); a command of the in-step stream that held it is settled. -/
def State.releaseSlot (k : Nat) (s : State) : State :=
  let f := fun c : PairCommand => if c.slot = k then { c with settled := true } else c
  ({ s with host.slots := terase s.host.slots k, pair.commands := s.pair.commands.map f } : State).noteQuiescent.lodgeReport

/-! ## The end of a command -/

/-- Zero the sealed stack and the open stack of a context frame of a skulk (R206). -/
def State.zeroFrame (skulk f : Nat) (s : State) : State :=
  (s.zeroMem (larderAddr skulk (f * 0x800)) (larderAddr skulk (f * 0x800 + 0x800))).zeroMem
    (larderAddr skulk (0x40000 + f * 0x1000)) (larderAddr skulk (0x40000 + f * 0x1000 + 0x1000))

/-- Release every reservation that a command holds uncommitted (R227). -/
def State.releaseKeys (k : Nat) (s : State) : State :=
  match s.slot? k with
  | none => s
  | some sl =>
    let regs := sl.ctx.ck.toList.filterMap id ++ sl.keysHeld ++ sl.owed
    let s := regs.foldl (fun s kr => s.releaseUse kr) s
    (s.modSlot k fun sl => { sl with keysHeld := [], owed := [], ctx := {} }).noteUnpinned (regs.map (·.key))

/-- Free the core that runs a command and the context frame that it holds (R206, R211). -/
def State.releaseCore (k : Nat) (s : State) : State :=
  match s.slot? k with
  | none => s
  | some sl =>
    let s := match sl.core with
      | some c => s.setCore c { s.core c with slot := none }
      | none => s
    let s := match sl.skulk, sl.frame with
      | some q, some f => s.zeroFrame q f
      | _, _ => s
    let s := match sl.skulk with
      | some q => s.touchDom (domSkulk q)
      | none => s
    s.modSlot k fun sl => { sl with core := none, frame := none }

/-- A stream whose part fails after its first instruction is closed (R259). -/
def State.closeStream (f : Nat) (id : BitVec 32) (s : State) : State :=
  { s with host.streams := s.host.streams.filter fun x => !(x.fn == f && x.streamId == id) }

/-- The stream of a command's part is closed: the part has failed after its first instruction (R259). -/
def State.endStream (sl : Slot) (s : State) : State :=
  if sl.started && sl.entry.streamPart != 0 then s.closeStream sl.fn sl.entry.streamId else s

/-- Whether a result of a length fits OUT_LENGTH (R170, R172). -/
def resultFits (outLength len : Nat) : Bool := decide (len ≤ outLength) || (outLength == 0 && decide (len ≤ 16))

/-- The outcome under R170 to R172 of a status and a result of a length against OUT_LENGTH: status, result,
and the length that RESULT_LENGTH carries. -/
def outcome (outLength : Nat) (status : Status) (len : Nat) (result : Bytes) : Status × Bytes × Nat :=
  if status = 0 then
    if resultFits outLength len then (0, result, len) else (0x0104, [], len)
  else (status, result, len)

/-! ## Response frames of the compatibility personality (R192, R193) -/

/-- One bit step of CRC-16/CCITT. -/
def crc16Bit (c : Nat) : Nat := if c / 32768 = 1 then (c * 2 % 65536) ^^^ 0x1021 else c * 2

/-- CRC-16/CCITT: polynomial 0x1021, initial value 0xFFFF, no reflection, no final XOR (R192). -/
def crc16 (b : Bytes) : Nat :=
  b.foldl (fun c x => (List.range 8).foldl (fun c _ => crc16Bit c) (c ^^^ (x.toNat * 256))) 0xFFFF

/-- RESPONSE_CODE of a status class (R193). -/
def responseCode (st : Status) : Nat :=
  match st.toNat / 256 with
  | 1 => 0x15
  | 2 => 0x12
  | 3 => 0x68
  | 4 => 0x40
  | _ => 0x41

/-- A response frame: the command code with bit 15 set, the sequence copied (Table 5-8). -/
def responseFrame (f : Bytes) (code : Nat) (data : Bytes) : Bytes :=
  let d := data.take 118
  let body := natBe 2 0x33A5 ++ natBe 2 (beNat (slice f 2 2) % 0x8000 + 0x8000) ++ slice f 4 2 ++ natLe 1 code
    ++ natLe 1 d.length ++ fit 118 d
  body ++ natBe 2 (crc16 body)

/-- The legacy command code of a frame, as DETAIL holds it (R173). -/
def legacyCode (f : Bytes) : Bytes := natLe 2 (beNat (slice f 2 2))

/-- The frame of a compatibility command whose input has been gathered. -/
def State.legacyFrame? (s : State) (k : Nat) (sl : Slot) : Option Bytes :=
  if sl.persKind = 2 ∧ sl.phase ≠ .fetching ∧ sl.phase ≠ .admitted then some (memBytes s.mem.mem (stagingAddr k 0) 128)
  else none

/-- The length, the result and the DETAIL with which a command ends. A compatibility command that runs answers with a
response frame, but for a status of class 0x06xx, 0x07xx, 0x08xx or 0x0Fxx, and its DETAIL is the legacy command code
(R173, R193). -/
def State.answerOf (s : State) (k : Nat) (sl : Slot) (status : Status) (len : Nat) (result detail : Bytes) :
    Nat × Bytes × Bytes :=
  match sl.legacy with
  | some c =>
    let cls := status.toNat / 256
    if cls = 0 then
      let a := Config.legacyData c.frame result
      (128, responseFrame c.frame (a.1 % 256) a.2, legacyCode c.frame)
    else if cls ≤ 5 then (128, responseFrame c.frame (responseCode status) [], legacyCode c.frame)
    else (0, [], legacyCode c.frame)
  | none => (len, result, ((s.legacyFrame? k sl).map legacyCode).getD detail)

/-- The result hash of a command (R621). -/
def resultHash (admission : Nat) (status : Status) (len : Nat) (result : Bytes) : Bytes :=
  (natLe 32 (Config.sha3 (natLe 8 admission ++ natLe 2 status.toNat ++ natLe 4 len ++ result)).toNat).take 16

/-- The opcodes that a standby does not run (R620). -/
def standbyAdopts (op : Nat) : Bool := op == 0x0202 || op == 0x0203 || (decide (0x0300 ≤ op) && decide (op ≤ 0x0306))

/-- The domain that an administrative opcode names in PARAM (Tables 7-13, 8-5 and 11-8). -/
def adminDomain? (e : Entry) : Option Nat :=
  if (0x0200 ≤ e.opcode ∧ e.opcode ≤ 0x0206) ∨ (0x0300 ≤ e.opcode ∧ e.opcode ≤ 0x0306) ∨ e.opcode = 0x0511 then
    some (leField e.param 0 2)
  else if e.opcode = 0x0513 then some (leField e.param 2 2)
  else none

/-- The opcodes that name a domain and whose result's byte 0 is an outcome (R337, R442, Tables 8-5 and 11-8). -/
def hasOutcome (op : Nat) : Bool := [0x0300, 0x0301, 0x0303, 0x0304, 0x0305, 0x0511, 0x0513].contains op

/-- The DOMAIN_ADMIN event of a den command that names a domain (R412). -/
def State.adminRecord (sl : Slot) (s : State) : State :=
  match adminDomain? sl.entry with
  | none => s
  | some d =>
    if sl.fn ≠ 0 ∨ sl.entry.persId ≠ 0 then s else
    let tag := ((s.domRec? d).map fun r => r.tag.toNat).getD 0
    let out := if sl.status = 0 ∧ hasOutcome sl.entry.opcode then (byteAt sl.result 0).toNat else 0
    s.raise 0x12 (natLe 2 sl.entry.opcode ++ natLe 2 d ++ natLe 4 tag ++ natLe 2 sl.status.toNat
      ++ natLe 1 out ++ [0])

/-- Bring the command in a slot to its end: its reservations are released, its jobs aborted (R372), its
frame and core freed, and its completion waits to be written. `result`, of `len` bytes, is what the program
has made; `detail` the bytes of R173. A command whose store was refused ends with 0x0F01 (R465). -/
def State.cutLen (k : Nat) (status : Status) (len : Nat) (result detail : Bytes) (s : State) : State :=
  match s.slot? k with
  | none => s
  | some sl =>
    if sl.phase = .ended then s else
    let s := ((s.abortJobs k).releaseKeys k).releaseCore k
    let s := { s with rng.waiting := s.rng.waiting.filter fun w => w.slot != some k }
    let status : Status := if sl.storeRefused then 0x0F01 else status
    let a := s.answerOf k sl status (if sl.storeRefused then 0 else len) (if sl.storeRefused then [] else result)
      (if sl.storeRefused then [] else detail)
    let o := outcome sl.entry.outLength status a.1 a.2.1
    let s := if o.1 = 0 then s else s.endStream sl
    let d := if o.1 = 0 ∨ o.1 = 0x0104 then [] else a.2.2
    let s := s.modSlot k fun sl =>
      { sl with phase := .ended, status := o.1, result := o.2.1, needed := o.2.2, detail := d,
                miss := none, jobs := [], heldSecret := none, drawn := none, retry := none, storeRefused := false }
    match s.slot? k with
    | some sl => s.adminRecord sl
    | none => s

/-! ## The end of a command on a half of a pair -/

/-- A command whose completion has not been written completes with 0x0702 (R626). -/
def State.divergeSlot (k : Nat) (s : State) : State :=
  let s := s.cutLen k 0x0702 0 [] []
  let s := match s.slot? k with
    | some sl => s.endStream sl
    | none => s
  let s := s.modSlot k fun sl => { sl with status := 0x0702, result := [], needed := 0, detail := [] }
  let f := fun c : PairCommand => if c.slot = k ∧ c.settled = false then { c with diverged := true } else c
  { s with pair.commands := s.pair.commands.map f }

/-- The part of a divergence of an epoch that both halves share: the Owl event and PACK_DIVERGENCE (R626). -/
def State.noteDivergence (e : Nat) (s : State) : State :=
  State.raise 0x101 (natLe 4 e ++ zeros 4) { s with pair.divergentEpoch := e }

/-- A divergence of an epoch on the active (R626): the epoch's commands complete with 0x0702, Owl records it, and the
standby is told by a RELEASE of cause 0 (the model's form of it). The active enters SOLO at the standby's RELEASE. -/
def State.diverge (e : Nat) (s : State) : State :=
  let ks := (s.pair.commands.filter fun c => c.epoch == e && !c.settled).map (·.slot)
  let s := ks.foldl (fun s k => s.divergeSlot k) s
  (s.noteDivergence e).sendRelease 0

/-- A command of the in-step stream has ended on this half: its hash is kept. The standby sends RESULT (R621, R622);
the active sends the result of a command that the standby adopts (R620; the layout is the model's), and a RESULT that
came before and differs is a divergence (R625). -/
def State.pairEnded (k : Nat) (s : State) : State :=
  match s.slot? k, s.pairCommand? k with
  | some sl, some c =>
    let h := resultHash c.admission sl.status sl.needed sl.result
    let f := fun x : PairCommand =>
      if x.admission = c.admission then { x with ownHash := some h, endedAt := s.now } else x
    let s : State := { s with pair.commands := s.pair.commands.map f }
    if s.pair.phase = .standby then s.sendRecord 0x10 (natLe 8 c.admission ++ h)
    else if !s.leads then s
    else
      let s := if standbyAdopts sl.entry.opcode && sl.entry.persId == 0 then
          s.sendRecord 4 (natLe 8 c.admission ++ [3] ++ natLe 2 sl.status.toNat ++ natLe 4 sl.needed
            ++ natLe 1 sl.detail.length ++ sl.detail ++ sl.result)
        else s
      match c.peerHash with
      | some p => if p = h then s else s.diverge c.epoch
      | none => s
  | _, _ => s

/-- End the command in a slot with a status, its result of `len` bytes and its detail. -/
def State.endLen (k : Nat) (status : Status) (len : Nat) (result detail : Bytes) (s : State) : State :=
  match s.slot? k with
  | none => s
  | some sl => if sl.phase = .ended then s else (s.cutLen k status len result detail).pairEnded k

/-- End a command with a status, a result and its detail. -/
def State.endCmd (k : Nat) (status : Status) (result detail : Bytes) (s : State) : State :=
  s.endLen k status result.length result detail

/-- End a command with a status that no handle of the entry caused: DETAIL byte 0 is 0xFF for class 0x02xx
(R173). -/
def State.failCmd (k : Nat) (status : Status) (s : State) : State :=
  s.endCmd k status [] (if status.toNat / 256 = 2 then [0xFF] else [])

/-- End a command with a status of class 0x02xx that a handle of the entry caused (R173). -/
def State.failHandle (k : Nat) (status : Status) (i : Nat) (s : State) : State :=
  s.endCmd k status [] (if status.toNat / 256 = 2 then [BitVec.ofNat 8 i] else [])

/-- End a command with status 0x0000 and its result. -/
def State.succeed (k : Nat) (result : Bytes) (s : State) : State := s.endCmd k 0 result []

/-- End with a status every admitted command that a test selects. -/
def State.endWhere (p : Slot → Bool) (status : Status) (s : State) : State :=
  (s.host.slots.filter fun e => p e.2 && e.2.phase != .ended && e.2.phase != .fetching).foldl
    (fun s e => s.failCmd e.1 status) s

/-! ## Routing -/

/-- Whether a skulk takes commands: not withdrawn, and with a running core (R246, R452). -/
def State.skulkServes (s : State) (k : Nat) : Bool :=
  !s.mem.withdrawn.getLsbD k && (List.range 4).any fun i => !(s.core (4 * k + i)).stopped

/-- The commands routed to a skulk and not yet finished there. -/
def State.routed (s : State) (k : Nat) : Nat :=
  (s.host.slots.filter fun e => e.2.skulk == some k && e.2.phase != .ended).length

/-- The skulks of a pool that take commands. -/
def State.poolSkulks (s : State) (p : Nat) : List Nat :=
  match s.poolRec? p with
  | none => []
  | some r => (List.range 24).filter fun k => r.skulkMask.getLsbD k && s.skulkServes k

/-- R152: wake the lowest-numbered gated skulk of the pool when no skulk of it is awake or waking, or
when none is waking and every awake one holds at least 32 routed commands. -/
def State.wakeForPool (p : Nat) (s : State) : State :=
  let ks := s.poolSkulks p
  if ks.any (s.waking ·) then s
  else if (ks.filter (s.awake ·)).all fun k => decide (32 ≤ s.routed k) then
    match ks.find? (s.gated ·) with
    | some k => s.beginWake k
    | none => s
  else s

/-- R151 with R668: the awake skulk of the pool with the fewest routed commands, one without a pending gate
request where the pool has such a skulk; else the waking skulk. -/
def State.routeTo? (s : State) (p : Nat) : Option Nat :=
  let ks := s.poolSkulks p
  let up := ks.filter (s.awake ·)
  let free := up.filter fun k => !s.gatePending k
  match argmin? s.routed free with
  | some k => some k
  | none => match argmin? s.routed up with
    | some k => some k
    | none => ks.find? (s.waking ·)

/-- Route the admitted command of a slot within its pool; a pool with no skulk that has a running core
completes it with 0x0F02 (R151, R152, R247). The 32 commands of R152 are counted before this one is routed (DESIGN
CHOICE, log entry 93). -/
def State.route (k p : Nat) (s : State) : State :=
  let s := s.wakeForPool p
  match s.routeTo? p with
  | some q => s.modSlot k fun sl => { sl with skulk := some q, pool := some p }
  | none => s.failCmd k 0x0F02

/-! ## Faults of a core -/

/-- Re-route the commands that were routed to a skulk and not started (R246). Where their pool has no skulk left with a
running core, each of its admitted commands completes with 0x0F02, those in the skulk's frames included (R247). -/
def State.reroute (q : Nat) (s : State) : State :=
  let here := s.host.slots.filter fun e => e.2.skulk == some q && e.2.phase != .ended
  let s := (here.filter fun e => e.2.frame.isNone).foldl (fun s e => match e.2.pool with
    | some p => s.route e.1 p
    | none => s) s
  let dead := (here.filterMap fun e => e.2.pool).filter fun p => (s.poolSkulks p).isEmpty
  s.endWhere (fun sl => (sl.pool.map dead.contains).getD false) 0x0F02

/-- A core stops (R242 to R247): its command completes with 0x0F02, CORE_STOPPED records cause and EPC, and
the core stays stopped until the next device reset. -/
def State.stopCore (c cause : Nat) (epc : Nat) (s : State) : State :=
  let cs := s.core c
  let s := s.setCore c { stopped := true, slot := cs.slot }
  let s := match cs.slot with
    | some k => s.failCmd k 0x0F02
    | none => s
  let s := s.setCore c { stopped := true, slot := none }
  let s := (s.raise 0x70 (natLe 1 c ++ natLe 1 cause ++ zeros 2 ++ natLe 8 epc)).summary 7
  if s.skulkServes (c / 4) then s else s.reroute (c / 4)

/-- Withdraw a skulk: its running and parked commands end with 0x0F01, and it is treated as a skulk whose
cores have all stopped (R452, R455). -/
def State.withdrawSkulk (q : Nat) (s : State) : State :=
  let s := { s with mem.withdrawn := s.mem.withdrawn ||| BitVec.ofNat 32 (2 ^ q) }
  let s := s.endWhere (fun sl => sl.skulk == some q && sl.frame.isSome) 0x0F01
  s.reroute q

end Sys2Proof.Machine
end

