-- ==== Sys2Proof/Machine/CoreOps.lean ====
section
/-! DEFINITION. Transaction cores: instruction fields (Table 6-4), registers (R208), the core address map
(Table 6-2), the issue of an instruction, exceptions (R237 to R241), and parking ("Transaction Cores and
Command Programs"). -/

namespace Sys2Proof.Machine

/-! ## Fields of an instruction word (Table 6-4) -/

/-- An instruction word. -/
abbrev Insn := BitVec 32

/-- The opcode, bits 31:26. -/
def Insn.op (w : BitVec 32) : Nat := (w.extractLsb' 26 6).toNat
/-- GD of formats T and I, GA of format B, FN of format C: bits 25:21. -/
def fD (w : BitVec 32) : Nat := (w.extractLsb' 21 5).toNat
/-- GA of formats T, I and C, GB of format B: bits 20:16. -/
def fA (w : BitVec 32) : Nat := (w.extractLsb' 16 5).toNat
/-- GB of format T: bits 15:11. -/
def fB (w : BitVec 32) : Nat := (w.extractLsb' 11 5).toNat
/-- GC of format T: bits 10:6. -/
def fC (w : BitVec 32) : Nat := (w.extractLsb' 6 5).toNat
/-- IMM. -/
def fImm (w : BitVec 32) : BitVec 16 := w.extractLsb' 0 16
/-- IMM sign-extended (R213). -/
def immS (w : BitVec 32) : Word := (fImm w).signExtend 64
/-- IMM zero-extended (R213). -/
def immZ (w : BitVec 32) : Word := (fImm w).zeroExtend 64
/-- CX. -/
def fX (w : BitVec 32) : Nat := (w.extractLsb' 12 4).toNat
/-- CY. -/
def fY (w : BitVec 32) : Nat := (w.extractLsb' 8 4).toNat
/-- CZ. -/
def fZ (w : BitVec 32) : Nat := (w.extractLsb' 4 4).toNat
/-- KX. -/
def fK (w : BitVec 32) : Nat := (w.extractLsb' 1 3).toNat

/-! The bits that must be zero (R212), by the fields that an instruction leaves unused. -/

/-- Bits 25:21. -/
abbrev mD : BitVec 32 := 0x03E00000
/-- Bits 20:16. -/
abbrev mA : BitVec 32 := 0x001F0000
/-- Bits 15:11. -/
abbrev mB : BitVec 32 := 0x0000F800
/-- Bits 10:6. -/
abbrev mC : BitVec 32 := 0x000007C0
/-- Bits 5:0 of format T. -/
abbrev mT : BitVec 32 := 0x0000003F
/-- CX. -/
abbrev mX : BitVec 32 := 0x0000F000
/-- CY. -/
abbrev mY : BitVec 32 := 0x00000F00
/-- CZ. -/
abbrev mZ : BitVec 32 := 0x000000F0
/-- KX. -/
abbrev mK : BitVec 32 := 0x0000000E
/-- Bit 0 of format C. -/
abbrev m0 : BitVec 32 := 0x00000001

/-! ## Registers -/

/-- A general register; g0 reads 0 (R208). -/
def Ctx.rg (x : Ctx) (i : Nat) : Word := if i = 0 then 0 else (x.g[i]?).getD 0

/-- Write a general register; a write to g0 has no effect (R208). -/
def Ctx.setG (i : Nat) (v : Word) (x : Ctx) : Ctx :=
  if i = 0 then x else { x with g := x.g.setIfInBounds i v }

/-- A handle register. -/
def Ctx.rk (x : Ctx) (i : Nat) : BitVec 32 := (x.k[i]?).getD 0
/-- Write a handle register. -/
def Ctx.setK (i : Nat) (v : BitVec 32) (x : Ctx) : Ctx := { x with k := x.k.setIfInBounds i v }
/-- A block register. -/
def Ctx.rcb (x : Ctx) (i : Nat) : BlockReg := (x.cb[i]?).getD {}
/-- Write a block register. -/
def Ctx.setCb (i : Nat) (v : BlockReg) (x : Ctx) : Ctx := { x with cb := x.cb.setIfInBounds i v }
/-- A key register. -/
def Ctx.rck (x : Ctx) (i : Nat) : Option KeyReg := (x.ck[i]?).getD none
/-- Write a key register. -/
def Ctx.setCk (i : Nat) (v : Option KeyReg) (x : Ctx) : Ctx := { x with ck := x.ck.setIfInBounds i v }
/-- A pipe. -/
def Ctx.rpipe (x : Ctx) (i : Nat) : Option Pipe := (x.pipes[i]?).getD none
/-- Write a pipe. -/
def Ctx.setPipe (i : Nat) (v : Option Pipe) (x : Ctx) : Ctx := { x with pipes := x.pipes.setIfInBounds i v }
/-- Go on at the next instruction. -/
def Ctx.step (x : Ctx) : Ctx := { x with pc := x.pc + 4 }

/-- TXC_STATE (Table 6-18). -/
def Ctx.stateWord (x : Ctx) : Nat := x.excDepth % 16 + b2n x.dfActive * 16

/-- TXC_CYCLE of a command (Table 6-13). -/
def State.cycles (s : State) (x : Ctx) : Nat := min useMax ((s.now - x.firstAt) / unitsPerCoreCycle)

/-! ## The address map -/

/-- The code of the set that serves a command. -/
def State.code (s : State) (sl : Slot) : Bytes := ((sl.setId.bind s.program?).map (·.code)).getD []

/-- The constants of the set that serves a command. -/
def State.consts (s : State) (sl : Slot) : Bytes := ((sl.setId.bind s.program?).map (·.consts)).getD []

/-- The instruction word at an address of the code region; beyond CODE_LENGTH it is 0. -/
def State.codeWord (s : State) (sl : Slot) (a : Nat) : BitVec 32 := BitVec.ofNat 32 (leField (s.code sl) a 4)

/-- Where an address of the core map lies (Table 6-2): a view that is only read, or a byte behind a gate. -/
inductive CoreLoc where
  | view (b : Bytes) (off : Nat)
  | cell (gate off : Nat)
  deriving DecidableEq, Repr

/-- The place of an address in the map of Table 6-2 for a kind of access by the command in slot k, `none`
where the table gives its world no such right (R207, Table 6-1). -/
def State.coreLoc? (s : State) (k : Nat) (sl : Slot) (a : Nat) (write : Bool) : Option CoreLoc :=
  let sealedW := sl.programWorld
  let q := sl.skulk.getD 0
  if a < 0x100000 then if write then none else some (.view (s.code sl) a)
  else if a < 0x140000 then if write then none else some (.view (s.consts sl) (a - 0x100000))
  else if a < 0x1000000 then none
  else if a < 0x1080000 then
    if 0x1060400 ≤ a ∨ (a < 0x1040000 ∧ ¬sealedW) then none
    else some (.cell (8 + q / 4) (q % 4 * 0x80000 + (a - 0x1000000)))
  else if a < 0x2000000 then none
  else if a < 0x2000040 then if write then none else some (.view sl.entry.raw (a - 0x2000000))
  else if a < 0x2010000 then none
  else if a < 0x2020000 then if write then none else some (.cell 3 (k * 0x20000 + (a - 0x2010000)))
  else if a < 0x2030000 then some (.cell 3 (k * 0x20000 + 0x10000 + (a - 0x2020000)))
  else if a < 0x3000000 then none
  else if a < 0x3700000 then if write ∧ sealedW then none else some (.cell 0 (0x1900000 + (a - 0x3000000)))
  else if a < 0x3800000 then none
  else if a < 0x3900000 then
    if write ∨ ¬sealedW then none else some (.cell 0 (0x1800000 + (a - 0x3800000)))
  else if a < 0x4000000 then none
  else if a < 0x4100000 then if sealedW then some (.cell 2 (a - 0x4000000)) else none
  else none

/-- Whether an address lies in the secure part of the larder or the sealed larder (R231). -/
def secureAddr (a : Nat) : Bool :=
  (decide (0x1000000 ≤ a) && decide (a < 0x1040000)) || (decide (0x4000000 ≤ a) && decide (a < 0x4100000))

/-- The result of an access of a core: carried out; refused, with the state that records a violation; an
uncorrectable read, with the state in which the command has ended (R446, R466, R471); or an access to a part of a
larder that is being wiped, which waits (R456). -/
inductive Acc (α : Type) where
  | done (v : α)
  | refused (s : State)
  | fatal (s : State)
  | waits

/-- Decide an access of core c: the core's own map first, then the Badger gate. -/
def State.coreAccess (s : State) (c k : Nat) (sl : Slot) (a : Nat) (write : Bool) : Acc CoreLoc :=
  match s.coreLoc? k sl a write with
  | none => .refused s
  | some (.view b o) => .done (.view b o)
  | some (.cell g o) =>
    let kind := if write then accWrite else accRead
    match s.gateRefusal? (0x10 + c) sl.programWorld g o kind with
    | none => if s.fencedAt g o then .refused s else if s.larderWaits g o then .waits else .done (.cell g o)
    | some r => .refused (s.gateViolation (0x10 + c) sl.programWorld g o kind r)

/-- Read n bytes at a core address: the bytes, and the state after the access, in which a word with a single-bit error is
corrected and counted (R445). -/
def State.coreRead (s : State) (c k : Nat) (sl : Slot) (a n : Nat) : Acc (Bytes × State) :=
  match s.coreAccess c k sl a false with
  | .done (.view b o) => .done (slice b o n, s)
  | .done (.cell g o) =>
    if s.poisonedAt (gateAddr g o) n then .fatal ((s.countError g o false).failCmd k 0x0F01)
    else .done (memBytes s.mem.mem (gateAddr g o) n, s.correct g o n)
  | .refused s => .refused s
  | .fatal s => .fatal s
  | .waits => .waits

/-- Write a string at a core address. A store to the persistent store after the power-fail warning is
refused and counted, and ends its command with 0x0F01 (R464, R465). -/
def State.coreWrite (s : State) (c k : Nat) (sl : Slot) (a : Nat) (b : Bytes) : Acc State :=
  match s.coreAccess c k sl a true with
  | .done (.cell g o) =>
    if g = 0 ∧ s.mem.fenced then
      .done (s.storeRefused.modSlot k fun sl => { sl with storeRefused := true })
    else .done (s.putTarget g o b)
  | .done (.view _ _) => .refused s
  | .refused s => .refused s
  | .fatal s => .fatal s
  | .waits => .waits

/-! ## Issue -/

/-- Change the registers of the command in a slot. -/
def State.modCtx (k : Nat) (f : Ctx → Ctx) (s : State) : State :=
  s.modSlot k fun sl => { sl with ctx := f sl.ctx }

/-- The slot and the command that a core runs, when it can issue an instruction: the command runs under a
program set of the lodge, and no CTPAD holds the core. -/
def State.running? (s : State) (c : Nat) : Option (Nat × Slot) :=
  match (s.core c).slot with
  | none => none
  | some k => match s.slot? k with
    | none => none
    | some sl => if sl.phase = .running ∧ sl.setId.isSome ∧ sl.ctx.padUntil.isNone then some (k, sl) else none

/-- What an exception records in its frame (Table 6-11). -/
structure Exc where
  cause : Nat
  status : Status := 0
  kindex : Nat := 0
  addr : Nat := 0
  trap : BitVec 32 := 0
  insn : BitVec 32 := 0
  deriving DecidableEq, Repr

/-- ILLEGAL. -/
abbrev excIllegal : Nat := 1
/-- MISALIGNED. -/
abbrev excMisaligned : Nat := 2
/-- ACCESS. -/
abbrev excAccess : Nat := 3
/-- SENSITIVE. -/
abbrev excSensitive : Nat := 4
/-- KEY. -/
abbrev excKey : Nat := 5
/-- TRAP. -/
abbrev excTrap : Nat := 6
/-- DONE_STATUS. -/
abbrev excDoneStatus : Nat := 7

/-- The 64 bytes of an exception frame (R240). -/
def frameBytes (x : Ctx) (world df : Bool) (e : Exc) : Bytes :=
  natLe 8 x.pc.toNat ++ natLe 2 e.cause ++ natLe 2 e.status.toNat ++ natLe 1 e.kindex
    ++ natLe 1 (b2n world + 2 * b2n df) ++ zeros 2 ++ natLe 8 e.addr ++ natLe 4 e.insn.toNat
    ++ natLe 4 e.trap.toNat ++ natLe 8 (x.rg 30).toNat ++ natLe 8 (x.rg 31).toNat ++ natLe 8 x.stateWord
    ++ zeros 8

/-- Write a frame at an address of the larder. -/
def State.putFrame (skulk a : Nat) (b : Bytes) (s : State) : State :=
  s.putTarget (8 + skulk / 4) (skulk % 4 * 0x80000 + (a - 0x1000000)) b

/-- The emergency frame of a core for a world (Table 6-1). -/
def emergencyFrame (c : Nat) (world : Bool) : Nat := (if world then 0x1010000 else 0x1060000) + c % 4 * 0x100

/-- The stack window admits a frame below g30 (Table 6-10 step 3). -/
def Ctx.stackOk (x : Ctx) : Bool :=
  (x.rg 30).toNat % 8 == 0 && decide (x.stackLo.toNat + 64 ≤ (x.rg 30).toNat)
    && decide ((x.rg 30).toNat ≤ x.stackHi.toNat)

/-- Double-fault entry (R238); without a TXC_DFVEC the core stops. -/
def State.doubleFault (c k : Nat) (sl : Slot) (e : Exc) (s : State) : State :=
  let x := sl.ctx
  if x.dfvec = 0 then s.stopCore c e.cause x.pc.toNat else
  let base := emergencyFrame c sl.programWorld
  let s := s.putFrame (sl.skulk.getD 0) (base + 192) (frameBytes x sl.programWorld true e)
  s.modCtx k fun x =>
    { x.setG 30 (BitVec.ofNat 64 (base + 192)) with
        stackLo := BitVec.ofNat 32 base, stackHi := BitVec.ofNat 32 (base + 256), dfActive := true,
        pc := x.dfvec.zeroExtend 64 }

/-- Raise an exception in the command of slot k on core c (R237 to R239, Table 6-10). -/
def State.raiseExc (c k : Nat) (e : Exc) (s : State) : State :=
  match s.slot? k with
  | none => s
  | some sl =>
    let x := sl.ctx
    let s := if e.cause = excKey then
        s.modSlot k fun sl => { sl with miss := none, ctx := { sl.ctx with keyFault := some (e.status, e.kindex) } }
      else s
    if x.dfActive then s.stopCore c e.cause x.pc.toNat
    else if x.evec = 0 || !x.stackOk then s.doubleFault c k sl e
    else
      let a := (x.rg 30).toNat - 64
      let s := s.putFrame (sl.skulk.getD 0) a (frameBytes x sl.programWorld false e)
      s.modCtx k fun x =>
        { x.setG 30 (BitVec.ofNat 64 a) with excDepth := min 15 (x.excDepth + 1), pc := x.evec.zeroExtend 64 }

/-- Issue the instruction word w on core c as opcode `op`. Where the core runs no command, or the word at
its program counter is not w, or w has another opcode, nothing happens. A fetch outside the code region
raises ACCESS (R207), and a bit of `zero` that is 1 raises ILLEGAL (R212). -/
def State.issue (c : Nat) (w : BitVec 32) (op : Nat) (zero : BitVec 32) (f : Nat → Slot → State → State)
    (s : State) : State :=
  match s.running? c with
  | none => s
  | some (k, sl) =>
    let pc := sl.ctx.pc.toNat
    if 0x100000 ≤ pc then s.raiseExc c k { cause := excAccess, addr := pc }
    else if pc % 4 ≠ 0 then s.raiseExc c k { cause := excMisaligned, addr := pc }
    else if s.codeWord sl pc ≠ w ∨ Insn.op w ≠ op then s
    else if w &&& zero ≠ 0 then s.raiseExc c k { cause := excIllegal, insn := w }
    else f k sl s

/-- Issue an instruction of format C whose function code is `fn`. -/
def State.issueC (c : Nat) (w : BitVec 32) (op fn : Nat) (zero : BitVec 32) (f : Nat → Slot → State → State)
    (s : State) : State :=
  if fD w = fn then s.issue c w op zero f else s

/-- An instruction that only computes on registers: it writes what `f` gives and goes on. -/
def State.issueReg (c : Nat) (w : BitVec 32) (op : Nat) (zero : BitVec 32) (f : Ctx → Ctx) (s : State) : State :=
  s.issue c w op zero fun k _ s => s.modCtx k fun x => (f x).step

/-- An instruction of format C that only computes on registers. -/
def State.issueCReg (c : Nat) (w : BitVec 32) (op fn : Nat) (zero : BitVec 32) (f : Ctx → Ctx) (s : State) :
    State :=
  s.issueC c w op fn zero fun k _ s => s.modCtx k fun x => (f x).step

/-- The end of an access: go on with what it gave, or raise ACCESS; an uncorrectable read enters no handler, and an
instruction whose access waits leaves the state `s` as it is and issues again. -/
def afterAccess {α : Type} (c k : Nat) (w : BitVec 32) (a : Nat) (s : State) (r : Acc α) (f : α → State) : State :=
  match r with
  | .done v => f v
  | .refused s => s.raiseExc c k { cause := excAccess, addr := a, insn := w }
  | .fatal s => s
  | .waits => s

/-! ## Parking -/

/-- Free the core of a command that parks with its frame (R204, R225). A command that parks outside the miss pen waits
for no record. -/
def State.park (k : Nat) (ph : SlotPhase) (s : State) : State :=
  match s.slot? k with
  | none => s
  | some sl =>
    let s := match sl.core with
      | some c => s.setCore c { s.core c with slot := none }
      | none => s
    s.modSlot k fun sl => { sl with core := none, phase := ph, miss := if ph = .missPen then sl.miss else none }

/-- Park a command in the miss pen for a key's record (R154, R225). -/
def State.parkMiss (k : Nat) (key : KeyId) (s : State) : State :=
  let s := (s.countHit false).modSlot k fun sl => { sl with miss := some { key := key, since := s.now } }
  s.park k .missPen

/-- A hit: the entry becomes the most recently used, and the lookup is counted unless it is the one that has come back
from the miss pen. -/
def State.hit (k : Nat) (key : KeyId) (s : State) : State :=
  let fromPen := (((s.slot? k).bind (·.miss)).map (·.key)) == some key
  let s := (s.hotTouch key).modSlot k fun sl => { sl with miss := none }
  if fromPen then s else s.countHit true

/-- The domain of a function as a command sees it (Table 6-14). -/
def State.cmdDomain (s : State) (f : Nat) : Nat := if f = 0 then 0xFFFF else (s.fnDomain? f).getD 0xFFFF

end Sys2Proof.Machine
end

