-- ==== Sys2Proof/Machine/EngineOps.lean ====
section
/-! DEFINITION. Engine jobs: the operations of Table 9-2, job descriptors (R358 to R360), the sending of a
job, its run on an engine and its end ("Bear and Hedgehog Engines"). -/

namespace Sys2Proof.Machine

/-! ## Job codes (Table 9-4) -/

abbrev codeOk : Nat := 0
abbrev codeDescriptor : Nat := 1
abbrev codeOperand : Nat := 2
abbrev codeAborted : Nat := 3
abbrev codeFault : Nat := 4
abbrev codeNoEngine : Nat := 5
abbrev codeBound : Nat := 6
abbrev codeFaultCheck : Nat := 7
abbrev codeQuota : Nat := 8
abbrev codeMismatch : Nat := 9

/-- Whether a code ends a job in STATE done. -/
def codeDone (c : Nat) : Bool := c == codeOk || c == codeMismatch

/-! ## Operations (Table 9-2) -/

/-- The operations by code. -/
abbrev opModmul : Nat := 0x0101
abbrev opModexp : Nat := 0x0102
abbrev opModexpPub : Nat := 0x0103
abbrev opModinv : Nat := 0x0104
abbrev opRsaSign : Nat := 0x0110
abbrev opRsaDecrypt : Nat := 0x0111
abbrev opRsaVerify : Nat := 0x0112
abbrev opRsaKeygen : Nat := 0x0114
abbrev opEcdsaSign : Nat := 0x0120
abbrev opEcdsaVerify : Nat := 0x0121
abbrev opEcdh : Nat := 0x0122
abbrev opEcKeygen : Nat := 0x0123
abbrev opEddsaSign : Nat := 0x0124
abbrev opEddsaVerify : Nat := 0x0125
abbrev opMlkemKeygen : Nat := 0x0201
abbrev opMlkemEncaps : Nat := 0x0202
abbrev opMlkemDecaps : Nat := 0x0203
abbrev opMldsaKeygen : Nat := 0x0211
abbrev opMldsaSign : Nat := 0x0212
abbrev opMldsaVerify : Nat := 0x0213

/-- Whether a code is one of Table 9-2, of the kind that a flag names. -/
def opOfKind (hedgehog : Bool) (op : Nat) : Bool :=
  if hedgehog then [0x0201, 0x0202, 0x0203, 0x0211, 0x0212, 0x0213].contains op
  else [0x0101, 0x0102, 0x0103, 0x0104, 0x0110, 0x0111, 0x0112, 0x0114, 0x0120, 0x0121, 0x0122, 0x0123,
    0x0124, 0x0125].contains op

/-- The use that an operation's key needs; `none` for an operation that takes no key. -/
def opUse? (op : Nat) : Option Nat :=
  match op with
  | 0x0110 | 0x0120 | 0x0124 | 0x0212 => some useSign
  | 0x0111 => some useDecrypt
  | 0x0112 | 0x0121 | 0x0125 | 0x0202 | 0x0213 => some useVerify
  | 0x0122 | 0x0203 => some useAgree
  | _ => none

/-- Whether a key type serves an operation (Table 9-2). -/
def opType (op t : Nat) : Bool :=
  match op with
  | 0x0110 | 0x0111 => typeRsa t
  | 0x0112 => t == 0x11
  | 0x0120 | 0x0122 => typeEcc t
  | 0x0121 => t == 0x28 || t == 0x29 || t == 0x2A
  | 0x0124 => typeEddsa t
  | 0x0125 => t == 0x2B || t == 0x2C
  | 0x0202 => t == 0x3C || t == 0x3D || t == 0x3E
  | 0x0203 => typeMlkem t
  | 0x0212 => typeMldsa t
  | 0x0213 => t == 0x34 || t == 0x35 || t == 0x36
  | _ => false

/-- Whether a key's record permits an operation (R355). -/
def opPermits (op : Nat) (r : KeyRec) : Bool :=
  match opUse? op with
  | some u => opType op r.type && r.permits u
  | none => false

/-- The output modes of an operation. -/
def opModes (op : Nat) : List Nat :=
  match op with
  | 0x0114 | 0x0123 | 0x0201 | 0x0211 => [1]
  | 0x0122 | 0x0202 | 0x0203 => [1, 2, 3]
  | _ => [0]

/-- Whether an operation is sealed-only. -/
def opSealed (op : Nat) : Bool := op == 0x0114 || op == 0x0123 || op == 0x0201 || op == 0x0211

/-- Whether an operation generates a key. -/
def opKeygen (op : Nat) : Bool := opSealed op

/-- Whether an operation works on integer operands. -/
def opInteger (op : Nat) : Bool := op == 0x0101 || op == 0x0102 || op == 0x0103 || op == 0x0104

/-- The digest length of a HASH of Table 5-6. -/
def hashLen? (h : Nat) : Option Nat :=
  match h with
  | 0x20 | 0x23 => some 32
  | 0x21 => some 48
  | 0x22 | 0x24 => some 64
  | _ => none

/-- The bytes of a curve's order, by private or public type. -/
def orderBytes (t : Nat) : Nat :=
  match t with
  | 0x20 | 0x28 => 32
  | 0x21 | 0x29 => 48
  | 0x22 | 0x2A => 66
  | _ => 0

/-- The bytes of an EdDSA signature, by private or public type. -/
def eddsaLen (t : Nat) : Nat := if t = 0x23 ∨ t = 0x2B then 64 else 114

/-- The bytes of an ML-DSA signature, by private or public type. -/
def mldsaLen (t : Nat) : Nat :=
  match t with
  | 0x30 | 0x34 => 2420
  | 0x31 | 0x35 => 3309
  | _ => 4627

/-- The bytes of an ML-KEM ciphertext, by private or public type. -/
def mlkemLen (t : Nat) : Nat :=
  match t with
  | 0x38 | 0x3C => 768
  | 0x39 | 0x3D => 1088
  | _ => 1568

/-- The bytes of the public key that belongs to a private type. -/
def publicLen (t : Nat) : Nat :=
  match t with
  | 0x20 => 65 | 0x21 => 97 | 0x22 => 133 | 0x23 => 32 | 0x24 => 57
  | 0x30 => 1312 | 0x31 => 1952 | 0x32 => 2592
  | 0x38 => 800 | 0x39 => 1184 | 0x3A => 1568
  | _ => 0

/-- The modulus of an RSA key in bytes (the first two bytes of the body are its size in bits, the model's
layout). -/
def KeyRec.modBytes (r : KeyRec) : Nat := leField r.body 0 2 / 8

/-- The random bytes of an operation (Table 9-2). -/
def opRandom (op len param keyType : Nat) : Nat :=
  match op with
  | 0x0110 => if bits param 7 0 = 0x40 then (hashLen? (bits param 15 8)).getD 0 else 0
  | 0x0114 => Config.rsaRandom len
  | 0x0120 => orderBytes keyType + 8
  | 0x0123 => if param = 0x23 then 32 else if param = 0x24 then 57 else orderBytes param + 8
  | 0x0201 => 64
  | 0x0202 | 0x0211 | 0x0212 => 32
  | _ => 0

/-- The bytes at B_ADDR: an operand, or a signature. -/
def opLenB (op len param keyType : Nat) (key : KeyRec) : Nat :=
  match op with
  | 0x0101 | 0x0102 => 8 * len
  | 0x0103 => 8 * param
  | 0x0112 => key.modBytes
  | 0x0121 => 2 * orderBytes keyType
  | 0x0125 => eddsaLen keyType
  | 0x0213 => mldsaLen keyType
  | _ => 0

/-- The most bytes that an operation writes at OUT_ADDR. -/
def opOutSize (op mode len param keyType : Nat) (key : KeyRec) : Nat :=
  match op with
  | 0x0101 | 0x0102 | 0x0103 | 0x0104 => 8 * len
  | 0x0110 => key.modBytes
  | 0x0111 => key.modBytes - 2 * (hashLen? (bits param 15 8)).getD 0 - 2
  | 0x0114 => 4 + 8 * len + 8
  | 0x0120 => 2 * orderBytes keyType
  | 0x0123 | 0x0201 | 0x0211 => 4 + publicLen param
  | 0x0122 | 0x0203 => if mode = 2 then 0 else 4
  | 0x0124 => eddsaLen keyType
  | 0x0202 => (if mode = 2 then 0 else 4) + mlkemLen keyType
  | 0x0212 => mldsaLen keyType
  | _ => 0

/-- Whether PARAM has a value that Table 9-2 gives the operation. -/
def opParamOk (op param : Nat) : Bool :=
  match op with
  | 0x0103 => decide (1 ≤ param) && decide (param ≤ 256)
  | 0x0110 | 0x0112 => (bits param 7 0 == 0x40 || bits param 7 0 == 0x41) && (hashLen? (bits param 15 8)).isSome
  | 0x0111 => bits param 7 0 == 0 && (hashLen? (bits param 15 8)).isSome
  | 0x0123 => decide (0x20 ≤ param) && decide (param ≤ 0x24)
  | 0x0201 => typeMlkem param
  | 0x0211 => typeMldsa param
  | _ => param == 0

/-- Whether LENGTH is one that Table 9-1 allows the operation. -/
def opLengthOk (op len : Nat) : Bool :=
  if opInteger op then decide (1 ≤ len) && decide (len ≤ 256)
  else if op = 0x0114 then decide (32 ≤ len) && decide (len ≤ 256)
  else len == 0

/-! ## Descriptors -/

/-- A job as a descriptor of Table 9-1 gives it. -/
def parseDescriptor (hedgehog : Bool) (b : Bytes) : Job :=
  { hedgehog := hedgehog, operation := leField b 0 2, outMode := bits (leField b 2 2) 1 0,
    length := leField b 4 2, param := leField b 6 2, aAddr := leField b 8 4, bAddr := leField b 12 4,
    cAddr := leField b 16 4, aLength := leField b 20 4, outAddr := leField b 24 4,
    outLength := leField b 28 4, attrAddr := leField b 32 4 }

/-- Whether n bytes from an address lie wholly in one range that a job of a world may name (R359). -/
def jobRange (world input : Bool) (a n : Nat) : Bool :=
  (world && decide (0x1000000 ≤ a) && decide (a + n ≤ 0x1040000))
    || (decide (0x1040000 ≤ a) && decide (a + n ≤ 0x1080000))
    || (input && decide (0x2010000 ≤ a) && decide (a + n ≤ 0x2020000))

/-- The bytes at A_ADDR. -/
def Job.lenA (j : Job) : Nat := if opInteger j.operation then 8 * j.length else j.aLength
/-- The bytes at B_ADDR. -/
def Job.lenB (j : Job) (key : KeyRec) : Nat := opLenB j.operation j.length j.param key.type key
/-- The bytes at C_ADDR. -/
def Job.lenC (j : Job) : Nat := if opInteger j.operation then 8 * j.length else 0

/-- Whether a descriptor passes R358 to R360, submitted in a world with a key or without one. -/
def Job.descriptorOk (j : Job) (b : Bytes) (world : Bool) (key : Option KeyRec) : Bool :=
  let r := key.getD {}
  allZero (slice b 0x24 28) && decide (leField b 2 2 < 4) && opOfKind j.hedgehog j.operation
    && (opUse? j.operation).isSome == key.isSome
    && opLengthOk j.operation j.length && opParamOk j.operation j.param
    && (!opSealed j.operation || world) && (opModes j.operation).contains j.outMode
    && (if opInteger j.operation || opKeygen j.operation then j.aLength == 0 else decide (j.aLength ≤ 65536))
    && (if opKeygen j.operation then jobRange world true j.attrAddr 32 else j.attrAddr == 0)
    && decide (opOutSize j.operation j.outMode j.length j.param r.type r ≤ j.outLength)
    && (j.lenA == 0 || jobRange world true j.aAddr j.lenA)
    && (j.lenB r == 0 || jobRange world true j.bAddr (j.lenB r))
    && (j.lenC == 0 || jobRange world true j.cAddr j.lenC)
    && (j.outLength == 0 || jobRange world false j.outAddr j.outLength)

/-- The gate and the offset behind it of an address that a job of the command in slot k names (R359). The rights of
Table 1-4 admit an engine at every such place of a range that R359 names, so that no gate refuses a piece of its
transfers. -/
def Slot.jobCell (sl : Slot) (k a : Nat) : Nat × Nat :=
  if 0x2010000 ≤ a then (3, k * 0x20000 + (a - 0x2010000))
  else
    let q := sl.skulk.getD 0
    (8 + q / 4, q % 4 * 0x80000 + (a - 0x1000000))

/-- The bytes that an engine reads at an address of a job. -/
def State.jobBytes (s : State) (k : Nat) (sl : Slot) (a n : Nat) : Bytes :=
  let c := sl.jobCell k a
  memBytes s.mem.mem (gateAddr c.1 c.2) n

/-- The spans that an engine loads for a job: address and bytes. A built-in program hands its operands over as bytes. -/
def Job.spans (j : Job) : List (Nat × Nat) :=
  if j.direct then [] else
  [(j.aAddr, j.lenA), (j.bAddr, j.lenB ((j.key.map (·.record)).getD {})), (j.cAddr, j.lenC),
    (j.attrAddr, if opKeygen j.operation then 32 else 0)].filter fun p => p.2 != 0

/-! ## Sending -/

/-- The lowest free job number of a command, 1 to 4 (R354). -/
def Slot.freeJob? (sl : Slot) : Option Nat := [1, 2, 3, 4].find? fun n => (tget? sl.jobs n).isNone

/-- The group that a job of the command in slot k would be sent to. -/
def State.groupFor? (s : State) (sl : Slot) (hedgehog : Bool) : Option Nat :=
  s.chooseGroup? hedgehog (s.poolGroups sl.pool hedgehog)

/-- Send a job under a number: into the queue of its group. A job for a waking group starts no earlier than
20 µs after the wake begins (R348); the engine of a waking group takes none. -/
def State.sendJob (k n g : Nat) (j : Job) (s : State) : State :=
  (s.setJob k n { j with state := .queued, group := some g }).enqueueJob j.hedgehog g k n

/-- A job that ends at once with a code, reaching no queue (R352, R360). -/
def State.failJob (k n code : Nat) (j : Job) (s : State) : State :=
  s.setJob k n { j with state := .failed, code := code }

/-! ## Running -/

/-- What an engine computes for a job. -/
structure JobOut where
  code : Nat := 0
  out : Bytes := []
  iterations : Nat := 0
  secret : Option Bytes := none
  newKey : Option KeyRec := none
  publicKey : Bytes := []
  deriving DecidableEq, Repr

/-- The engine that takes the job at the head of a group's queue: the lowest-numbered idle engine that is
not faulted (R346). -/
def State.idleEngine? (s : State) (hedgehog : Bool) (g : Nat) : Option Nat :=
  (groupEngines hedgehog g).find? fun e =>
    let x := s.engine hedgehog e
    !x.faulted && x.running.isNone && x.clearing.isNone

/-- A function and its domain, the owner of operand memory. -/
def State.ownerOf (s : State) (sl : Slot) : Nat × Nat := (sl.fn, s.cmdDomain sl.fn)

/-- The job of a slot with its operands in operand memory. -/
def State.loadOperands (s : State) (k : Nat) (sl : Slot) (j : Job) : Job :=
  if j.direct then j else
  let r := (j.key.map (·.record)).getD {}
  { j with
    operandA := s.jobBytes k sl j.aAddr j.lenA, operandB := s.jobBytes k sl j.bAddr (j.lenB r),
    operandC := s.jobBytes k sl j.cAddr j.lenC,
    attributes := if opKeygen j.operation then s.jobBytes k sl j.attrAddr 32 else [] }

/-- The bytes of operand memory of an engine of a kind ("Bear engines", "Hedgehog engines"). -/
def operandBytes (hedgehog : Bool) : Nat := if hedgehog then 0x8000 else 0x10000

/-- Operand memory once a job is loaded: the key, the random bytes and the operands from its start, what they do not
cover as it was. Where in operand memory the operands lie is the model's choice (log entry 97). -/
def Job.load (j : Job) (memory : Bytes) : Bytes :=
  let key := (j.key.map (·.record.bytes)).getD []
  let b := key ++ j.random ++ j.operandA ++ j.operandB ++ j.operandC ++ j.attributes
  (b ++ memory.drop b.length).take (operandBytes j.hedgehog)

/-- The running job of an engine ends with code FAULT, its engine staying in service (Table 12-1). -/
def State.faultJob (hedgehog : Bool) (e : Nat) (s : State) : State :=
  let x := s.engine hedgehog e
  match x.running with
  | some (k, n) =>
    ((s.setEngine hedgehog e { x with running := none, stalled := false, consecutiveFaultChecks := 0 }).countJob
      hedgehog e).endJob k n .failed codeFault
  | none => s

/-- The first of a job's spans that holds an uncorrectable word. -/
def State.badSpan? (s : State) (k : Nat) (sl : Slot) (j : Job) : Option (Nat × Nat) :=
  (j.spans.find? fun p => s.poisonedAt (gateAddr (sl.jobCell k p.1).1 (sl.jobCell k p.1).2) p.2).map
    fun p => sl.jobCell k p.1

/-- Read a job's spans: words with a single-bit error are corrected and counted (R445). -/
def State.readSpans (k : Nat) (sl : Slot) (j : Job) (s : State) : State :=
  j.spans.foldl (fun s p => s.correct (sl.jobCell k p.1).1 (sl.jobCell k p.1).2 p.2) s

/-- The engine of the head job takes it: a swap asked for is made first (R378, R379), operand memory is
cleared where its owner changes (R374), operands and key are loaded, the key's use committed (R356), and
`f` computes. An uncorrectable operand ends the job with code FAULT, and one in staging its command with 0x0F01 (R446,
R471). Where the job is not an operation `op` at the head of the queue of an awake group with an
idle engine, or an operand lies in a larder that is being wiped (R456), nothing happens. -/
def State.takeJob (k n op : Nat) (f : Job → KeyRec → JobOut) (s : State) : State :=
  match s.slot? k, s.job? k n with
  | some sl, some j =>
    match j.group with
    | none => s
    | some g =>
      if j.operation ≠ op ∨ j.state ≠ .queued ∨ (s.queue j.hedgehog g).head? ≠ some (k, n)
          ∨ s.awake (domGroup j.hedgehog g) = false
          ∨ (j.spans.any fun p => s.larderWaits (sl.jobCell k p.1).1 (sl.jobCell k p.1).2) = true then s else
      match s.idleEngine? j.hedgehog g with
      | none => s
      | some e =>
        let s := s.setQueue j.hedgehog g (s.queue j.hedgehog g).tail
        let x := s.engine j.hedgehog e
        let active := if x.swap then 1 - x.activeStore else x.activeStore
        let mine := some (s.ownerOf sl)
        let kept := if x.owner = mine then x.memory else []
        let s := (s.setEngine j.hedgehog e { x with
          running := some (k, n), owner := mine, memory := kept, activeStore := active, swap := false }).readSpans k sl j
        match s.badSpan? k sl j with
        | some (g, off) =>
          let s := s.countError g off false
          if g = 3 then s.failCmd k 0x0F01 else s.faultJob j.hedgehog e
        | none =>
          let h := j.hedgehog
          let j := s.loadOperands k sl j
          let r := (j.key.map (·.record)).getD {}
          let s := match j.key with
            | some kr => s.commitUse kr
            | none => s
          let s := s.setEngine h e { s.engine h e with memory := j.load kept }
          let o := f j r
          s.setJob k n { j with
            state := .running, engine := e, startStore := active, computed := true,
            key := j.key.map fun kr => { kr with committed := true },
            code := o.code, output := o.out, iterations := o.iterations, secret := o.secret,
            newKey := o.newKey, publicKey := o.publicKey }
  | _, _ => s

/-- The key of an agreed secret (R301). -/
def agreedKey (dom : Nat) (secret : Bytes) : KeyRec :=
  newRecord dom 0x05 0 4 0x0030 false false 0 0xFFFFFFFFFF 0 (natLe 32 (Config.kdf secret).toNat)

/-- The creation of a key by a job: code QUOTA on a refusal for quota, FAULT while field debug withholds
creation (R298, R364). -/
def State.jobKey (s : State) (r : KeyRec) : (Nat ⊕ Bytes) × State :=
  if s.antler.debug then (.inl codeFault, s) else
  match s.createKey r with
  | (.inl _, s) => (.inl codeQuota, s)
  | (.inr h, s) => (.inr (natLe 4 h.toNat), s)

/-- What a finished job delivers under its OUT_MODE (R364, R365): its code and its output bytes. -/
def State.deliver (k : Nat) (j : Job) (s : State) : Nat × Bytes × State :=
  match s.slot? k with
  | none => (j.code, [], s)
  | some sl =>
    let dom := s.cmdDomain sl.fn
    if !codeDone j.code then (j.code, [], s) else
    match j.outMode, j.newKey, j.secret with
    | 1, some r, _ =>
      match s.jobKey { r with domain := dom } with
      | (.inl c, s) => (c, [], s)
      | (.inr h, s) => (j.code, h ++ j.publicKey, s)
    | 1, none, some z =>
      match s.jobKey (agreedKey dom z) with
      | (.inl c, s) => (c, [], s)
      | (.inr h, s) => (j.code, h ++ j.output, s)
    | 2, _, some z =>
      if sl.heldSecret.isSome then (codeDescriptor, [], s)
      else (j.code, j.output, s.modSlot k fun sl => { sl with heldSecret := some z })
    | 3, _, some z =>
      match sl.heldSecret with
      | none => (codeDescriptor, [], s)
      | some y =>
        let s := s.modSlot k fun sl => { sl with heldSecret := none }
        match s.jobKey (agreedKey dom (y ++ z)) with
        | (.inl c, s) => (c, [], s)
        | (.inr h, s) => (j.code, h ++ j.output, s)
    | _, _, _ => (j.code, j.output, s)

/-- Move the queued jobs of a wholly faulted group to another group of the pool, or end them with NO_ENGINE
(R351). -/
def State.moveJobs (hedgehog : Bool) (g : Nat) (s : State) : State :=
  let q := s.queue hedgehog g
  (q.foldl (fun s e =>
    match s.slot? e.1, s.job? e.1 e.2 with
    | some sl, some j =>
      match s.groupFor? sl hedgehog with
      | some g' => s.sendJob e.1 e.2 g' j
      | none => s.endJob e.1 e.2 .failed codeNoEngine
    | _, _ => s) (s.setQueue hedgehog g []))

/-- Fault an engine (R350): its running job ends with FAULT, it takes no job until the next device reset,
and ENGINE_FAULTED names it; a group left with no engine in service loses its queue under R351. -/
def State.faultEngine (hedgehog : Bool) (e faultBit : Nat) (s : State) : State :=
  let x := s.engine hedgehog e
  let fb := x.faultBits ||| BitVec.ofNat 32 (2 ^ faultBit)
  let s := s.setEngine hedgehog e { x with
    faulted := true, faultBits := fb, running := none, stalled := false }
  let s := match x.running with
    | some (k, n) => (s.countJob hedgehog e).endJob k n .failed codeFault
    | none => s
  let s := s.raise 0x71 (natLe 1 (b2n hedgehog) ++ natLe 1 e ++ natLe 2 fb.toNat)
  let g := e / perGroup hedgehog
  if s.groupFaulted hedgehog g then s.moveJobs hedgehog g else s

/-- Whether the output of a job lies in a part of the larder that is being wiped: its transfer waits (R456). -/
def State.outputWaits (s : State) (k : Nat) (j : Job) : Bool :=
  !j.direct && match s.slot? k with
    | some sl => s.larderWaits (sl.jobCell k j.outAddr).1 (sl.jobCell k j.outAddr).2
    | none => false

/-- Where the output of a job goes: the larder from OUT_ADDR on, at most OUT_LENGTH bytes (R361), or the command that
collects it. -/
def State.putOutput (k n : Nat) (j : Job) (b : Bytes) (s : State) : State :=
  let s := s.setJob k n { j with output := if j.direct then b else [] }
  if j.direct then s else
  match s.slot? k with
  | some sl => s.putTarget (sl.jobCell k j.outAddr).1 (sl.jobCell k j.outAddr).2 (b.take j.outLength)
  | none => s

/-- The operand memory of an engine when its job ends: a Hedgehog engine has cleared the expanded private key (R382). -/
def Job.leave (j : Job) (memory : Bytes) : Bytes :=
  match j.key with
  | some kr => if j.hedgehog then zeros (min kr.record.bytes.length memory.length) ++ memory.drop kr.record.bytes.length
    else memory
  | none => memory

/-- An engine finishes its job (R361, R364 to R367): the output is written, the job reaches its terminal
state, the count of jobs advances, and a second FAULT_CHECK in a row faults the engine (R350). A group with a pending
gate request then clears the engine's operand memory (R375). -/
def State.finishJob (hedgehog : Bool) (e : Nat) (s : State) : State :=
  let x := s.engine hedgehog e
  match x.running with
  | none => s
  | some (k, n) =>
    match s.job? k n with
    | none => s
    | some j =>
      if !j.computed || s.outputWaits k j then s else
      let r := s.deliver k j
      let s := r.2.2.putOutput k n { j with computed := false, secret := none, newKey := none } r.2.1
      let s := s.endJob k n (if codeDone r.1 then .done else .failed) r.1
      let run := if r.1 = codeFaultCheck then x.consecutiveFaultChecks + 1 else 0
      let fb := if hedgehog && r.1 == codeBound then x.faultBits ||| 2 else x.faultBits
      let d := domGroup hedgehog (e / perGroup hedgehog)
      let clears := s.gatePending d && (s.queue hedgehog (e / perGroup hedgehog)).isEmpty
      let s := (s.setEngine hedgehog e { x with
        running := none, stalled := false, consecutiveFaultChecks := run, faultBits := fb, memory := j.leave x.memory,
        clearing := if clears then some s.now else none }).countJob hedgehog e
      let s := s.touchDom d
      if run = 2 then s.faultEngine hedgehog e 2 else s

/-- The status word of a job (Table 9-3). -/
def Job.statusWord (j : Job) : Nat :=
  let st := match j.state with
    | .queued => 0 | .running => 1 | .done => 2 | .failed => 3 | .aborted => 4
  st + b2n j.hedgehog * 8 + (if j.state = .queued then 0 else j.engine * 16)
    + (if j.state.terminal then j.code * 2 ^ 16 + j.iterations * 2 ^ 32 else 0)

end Sys2Proof.Machine
end

