-- ==== Sys2Proof/Machine/Operands.lean ====
section
/-! DEFINITION. The operand forms of the transaction core's instructions (Tables 6-4 and 6-5): register and
immediate arithmetic, loads and stores, branches and jumps. -/

namespace Sys2Proof.Machine

/-- What `exec` answers. -/
abbrev Answer := Host.Outcome State Fault Refusal

/-- A shift amount: bits 5:0 of a value. -/
def amount (v : Word) : Nat := v.toNat % 64

/-- A comparison's result. -/
def flag (b : Bool) : Word := if b then 1 else 0

/-- GD ← f(GA, GB). -/
def opT (f : Word → Word → Word) (w : BitVec 32) (x : Ctx) : Ctx := x.setG (fD w) (f (x.rg (fA w)) (x.rg (fB w)))

/-- GD ← f(GA, IMM), IMM sign-extended. -/
def opI (f : Word → Word → Word) (w : BitVec 32) (x : Ctx) : Ctx := x.setG (fD w) (f (x.rg (fA w)) (immS w))

/-- GD ← f(GA, IMM), IMM zero-extended. -/
def opIz (f : Word → Word → Word) (w : BitVec 32) (x : Ctx) : Ctx := x.setG (fD w) (f (x.rg (fA w)) (immZ w))

/-- Rotate right. -/
def rotr (v : Word) (n : Nat) : Word := v.rotateRight n

/-- Bits hi down to lo of a word of a width of pos + width bits; where the field reaches past bit 63 the bits
that do not exist are those of `free`. -/
def extrField (v : Word) (pos width free : Nat) : Word :=
  BitVec.ofNat 64 ((v.toNat / 2 ^ pos + (if 64 < pos + width then free * 2 ^ (64 - pos) else 0)) % 2 ^ width)

/-- Each nibble of `a`, as an index, replaced by that nibble of `t` (DECD). -/
def decd (a t : Word) : Word :=
  BitVec.ofNat 64 ((List.range 16).map fun i => bits t.toNat (4 * (a.toNat / 16 ^ i % 16) + 3)
    (4 * (a.toNat / 16 ^ i % 16)) * 16 ^ i).sum

/-- The 8 bytes of a word reversed. -/
def bswap (v : Word) : Word := BitVec.ofNat 64 (beNat (natLe 8 v.toNat))

/-- A halfword of a word replaced (INSH). -/
def insh (v : Word) (n : Nat) (h : BitVec 16) : Word :=
  (v &&& ~~~((0xFFFF : Word) <<< (16 * n))) ||| (h.zeroExtend 64 <<< (16 * n))

/-- The address of a load or a store: GA + IMM. -/
def memAddr (w : BitVec 32) (x : Ctx) : Nat := (x.rg (fA w) + immS w).toNat

/-- A load of n bytes, zero-extended (R215). -/
def State.issueLoad (c : Nat) (w : BitVec 32) (op n : Nat) (s : State) : State :=
  s.issue c w op 0 fun k sl s =>
    let a := memAddr w sl.ctx
    if a % n ≠ 0 then s.raiseExc c k { cause := excMisaligned, addr := a, insn := w }
    else afterAccess c k w a s (s.coreRead c k sl a n) fun r =>
      r.2.modCtx k fun x => (x.setG (fD w) (BitVec.ofNat 64 (leNat r.1))).step

/-- A store of the low n bytes of GD (R215, R236). -/
def State.issueStore (c : Nat) (w : BitVec 32) (op n : Nat) (s : State) : State :=
  s.issue c w op 0 fun k sl s =>
    let a := memAddr w sl.ctx
    if a % n ≠ 0 then s.raiseExc c k { cause := excMisaligned, addr := a, insn := w }
    else afterAccess c k w a s (s.coreWrite c k sl a (natLe n (sl.ctx.rg (fD w)).toNat)) fun s =>
      s.modCtx k Ctx.step

/-- The target of a branch: its own address + 4 × OFF (R213). -/
def branchTo (w : BitVec 32) (x : Ctx) : Word := x.pc + 4 * immS w

/-- A branch: GA lies in bits 25:21 and GB in bits 20:16 (Table 6-4). -/
def State.issueBranch (c : Nat) (w : BitVec 32) (op : Nat) (p : Word → Word → Bool) (s : State) : State :=
  s.issue c w op 0 fun k _ s =>
    s.modCtx k fun x => if p (x.rg (fD w)) (x.rg (fA w)) then { x with pc := branchTo w x } else x.step

/-- A CSRR or CSRW register number: IMM[11:0]. -/
def csrNumber (w : BitVec 32) : Nat := ((fImm w).extractLsb' 0 12).toNat

/-- TXC_CMDINFO (Table 6-14). -/
def State.cmdInfo (s : State) (sl : Slot) : Nat :=
  sl.fn + s.cmdDomain sl.fn * 2 ^ 16 + sl.entry.persId * 2 ^ 32 + sl.entry.streamPart * 2 ^ 36
    + b2n sl.programWorld * 2 ^ 38 + b2n s.antler.debug * 2 ^ 39 + b2n (s.pair.phase == .standby) * 2 ^ 40

/-- A core register (Table 6-12); `none` for a number that the table does not list. -/
def State.csr? (s : State) (c : Nat) (sl : Slot) (n : Nat) : Option Word :=
  let x := sl.ctx
  match n with
  | 0 => some (BitVec.ofNat 64 (s.cycles x))
  | 1 => some (BitVec.ofNat 64 (s.cmdInfo sl))
  | 2 => some (x.evec.zeroExtend 64)
  | 3 => some (x.dfvec.zeroExtend 64)
  | 4 => some (BitVec.ofNat 64 (x.stackLo.toNat + x.stackHi.toNat * 2 ^ 32))
  | 5 => some (BitVec.ofNat 64 x.stateWord)
  | 6 => some (BitVec.ofNat 64 (c + c / 4 * 2 ^ 8))
  | _ => none

end Sys2Proof.Machine
end

