-- ==== Sys2Proof/Machine/CoreSys.lean ====
section
/-! DEFINITION. The system, coprocessor and key instructions of a transaction core (Tables 6-5 to 6-7):
core registers, exceptions, the end of a program, parking, block registers, ciphers, pipes, key resolution
and engine jobs. -/

namespace Sys2Proof.Machine

/-! ## Core registers and exceptions -/

/-- CSRR: GD ← core register IMM[11:0]; GA zero (R214, Table 6-12). The specification states no value for a
number that the table does not list: it is free. -/
def execCsrr (core : Nat) (w : BitVec 32) (s : State) : Answer :=
  .next (s.issue core w 0x2C (mA ||| 0xF000) fun k sl s =>
    match s.csr? core sl (csrNumber w) with
    | some v => s.modCtx k fun x => (x.setG (fD w) v).step
    | none => s.free.2.modCtx k fun x => (x.setG (fD w) (BitVec.ofNat 64 s.free.1)).step)

/-- CSRW: TXC_EVEC ← GA, a value that is 0 or a multiple of 4 below CODE_LENGTH; any other register or value
raises ILLEGAL (R251). -/
def execCsrw (core : Nat) (w : BitVec 32) (s : State) : Answer :=
  .next (s.issue core w 0x2D (mD ||| 0xF000) fun k sl s =>
    let v := (sl.ctx.rg (fA w)).toNat
    if csrNumber w = 2 ∧ (v = 0 ∨ (v % 4 = 0 ∧ v < (s.code sl).length)) then
      s.modCtx k fun x => { x with evec := BitVec.ofNat 32 v }.step
    else s.raiseExc core k { cause := excIllegal, insn := w })

/-- FENCE: every coprocessor operation and store of the command is complete, since each instruction is one
step of this model (R214). -/
def execFence (core : Nat) (w : BitVec 32) (s : State) : Answer :=
  .next (s.issueReg core w 0x2E (mD ||| mA ||| mB ||| mC ||| mT) id)

/-- TRAP: raises TRAP with IMM, sign-extended (R214, Table 6-11). -/
def execTrap (core : Nat) (w : BitVec 32) (s : State) : Answer :=
  .next (s.issue core w 0x2F (mD ||| mA) fun k _ s =>
    s.raiseExc core k { cause := excTrap, trap := (fImm w).signExtend 32, insn := w })

/-- Whether a frame lies at g30 for ERET: exception frames are on the stack, no double fault is active, and
g30 names a frame inside the window. -/
def Ctx.hasFrame (x : Ctx) : Bool :=
  decide (0 < x.excDepth) && !x.dfActive && (x.rg 30).toNat % 8 == 0
    && decide (x.stackLo.toNat ≤ (x.rg 30).toNat) && decide ((x.rg 30).toNat + 64 ≤ x.stackHi.toNat)

/-- ERET: the program counter, g31, TXC_STATE and then g30 from the frame at g30 (R241); ILLEGAL with no
frame to return to (Table 6-9). -/
def execEret (core : Nat) (w : BitVec 32) (s : State) : Answer :=
  .next (s.issue core w 0x30 (mD ||| mA ||| mB ||| mC ||| mT) fun k sl s =>
    let x := sl.ctx
    if !x.hasFrame then s.raiseExc core k { cause := excIllegal, insn := w } else
    let b := memBytes s.mem.mem (larderAddr (sl.skulk.getD 0) ((x.rg 30).toNat - 0x1000000)) 64
    let st := leField b 0x30 8
    s.modCtx k fun x =>
      { (x.setG 31 (BitVec.ofNat 64 (leField b 0x28 8))).setG 30 (BitVec.ofNat 64 (leField b 0x20 8)) with
          pc := BitVec.ofNat 64 (leField b 0 8), excDepth := bits st 3 0, dfActive := bit st 4 })

/-! ## The end of a program -/

/-- The statuses of classes 0x00xx to 0x05xx that a completion entry may carry (Table 5-11, R249). -/
def doneStatuses : List Nat :=
  [0x0000, 0x0101, 0x0102, 0x0103, 0x0104, 0x0105, 0x0106, 0x0107, 0x0110, 0x0111, 0x0112, 0x0120, 0x0130,
   0x0131, 0x0201, 0x0202, 0x0203, 0x0204, 0x0205, 0x0206, 0x0210, 0x0211, 0x0212, 0x0213, 0x0214, 0x0215,
   0x0301, 0x0302, 0x0303, 0x0304, 0x0305, 0x0306, 0x0307, 0x0308, 0x0310, 0x0330, 0x0331, 0x0332, 0x0333,
   0x0405, 0x0410, 0x0411, 0x0412, 0x0420, 0x0421, 0x0501, 0x0502, 0x0520, 0x0521, 0x0530]

/-- Whether DONE accepts a status (R249). -/
def doneStatus (st : Nat) : Bool := doneStatuses.contains st

/-- DETAIL of a status that a program gives: for class 0x02xx the index of the handle whose KEY exception
carried that status, else 0xFF (R173, Table 6-11). -/
def doneDetail (x : Ctx) (st : Status) : Bytes :=
  if st.toNat / 256 = 2 then
    match x.keyFault with
    | some (fs, i) => if fs = st ∧ i < 4 then [BitVec.ofNat 8 i] else [0xFF]
    | none => [0xFF]
  else []

/-- The pipe that an algorithm uses (text below Table 6-7). -/
def pipeOf (alg : Nat) : Nat :=
  if alg = 0x20 ∨ alg = 0x21 ∨ alg = 0x22 then 0 else if alg = 0x23 ∨ alg = 0x24 then 1
  else if 0x10 ≤ alg ∧ alg ≤ 0x13 then 2 else 3

/-- Whether the stream of a part that has succeeded goes on: the key of the entry has not been deleted since, and a middle
part finds its context (R299). -/
def State.streamKept (s : State) (sl : Slot) : Bool :=
  let e := sl.entry
  let lives := match s.handleRec? (e.handle 0) with
    | some (_, ks, _) => ks.generation == handleGen (e.handle 0)
    | none => false
  (e.handleCount == 0 || lives)
    && (e.streamPart == 1 || s.host.streams.any fun x => x.fn == sl.fn && x.streamId == e.streamId)

/-- The epilogue of a stream part that has succeeded (R254): a first or middle part stores the pipe of its
ALG, the algorithm, the handle and the byte count; a last part discards the context. -/
def State.streamEpilogue (sl : Slot) (s : State) : State :=
  let e := sl.entry
  if e.streamPart = 0 then s else
  let rest := s.host.streams.filter fun x => !(x.fn == sl.fn && x.streamId == e.streamId)
  if e.streamPart = 3 then { s with host.streams := rest } else
  if !s.streamKept sl then s else
  let old := s.host.streams.find? fun x => x.fn == sl.fn && x.streamId == e.streamId
  let count := (old.map (·.byteCount)).getD 0 + e.inLength
  let here := s.host.streams.filter fun x => x.fn == sl.fn
  let index := match old with
    | some x => x.index
    | none => (lowest? 64 fun i => !here.any fun x => x.index == i).getD 0
  let c : StreamCtx := { fn := sl.fn, index := index, streamId := e.streamId, alg := e.p 0, handle := e.handle 0,
                         handleCount := e.handleCount, pipe := sl.ctx.rpipe (pipeOf (e.p 0)),
                         byteCount := count }
  ({ s with host.streams := rest ++ [c] } : State).storeStream c

/-- DONE: ends the program with status GA[15:0] and result length GB (R248 to R250); a status that R249 does
not accept raises DONE_STATUS. -/
def execDone (core : Nat) (w : BitVec 32) (s : State) : Answer :=
  .next (s.issue core w 0x31 (mD ||| mC ||| mT) fun k sl s =>
    let st : Status := (sl.ctx.rg (fA w)).setWidth 16
    let len := (sl.ctx.rg (fB w)).toNat
    if !doneStatus st.toNat then s.raiseExc core k { cause := excDoneStatus, insn := w }
    else if st ≠ 0 then s.endLen k st 0 [] (doneDetail sl.ctx st)
    else if resultFits sl.entry.outLength len then
      (s.streamEpilogue sl).endLen k 0 len (memBytes s.mem.mem (stagingAddr k 0x10000) len) []
    else s.endLen k 0 len [] [])

/-! ## Parking and padding -/

/-- Whether a job of the command has a terminal state that no POLL has returned. -/
def Slot.jobWaits (sl : Slot) : Bool := sl.jobs.any fun j => j.2.state.terminal

/-- YIELD: parks the command until one of its jobs reaches a terminal state that no POLL has returned; at
once where one has, or the command holds no job (R368). -/
def execYield (core : Nat) (w : BitVec 32) (s : State) : Answer :=
  .next (s.issue core w 0x32 (mD ||| mA ||| mB ||| mC ||| mT) fun k sl s =>
    let s := s.modCtx k Ctx.step
    if sl.jobWaits || sl.jobs.isEmpty then s else s.park k .parked)

/-- Resume a parked command on a free core of its skulk (R156, R204, R369). -/
def State.resumeOn (k c : Nat) (s : State) : State :=
  match s.slot? k with
  | none => s
  | some sl =>
    if sl.phase = .resume ∧ sl.skulk = some (c / 4) ∧ s.awake (domSkulk (c / 4)) = true
        ∧ (s.core c).stopped = false ∧ (s.core c).slot = none then
      (s.setCore c { s.core c with slot := some k }).modSlot k fun sl =>
        { sl with phase := .running, core := some c }
    else s

/-- YIELD_RESUME: a command released from YIELD resumes on a core of its skulk (R369). -/
def execYieldResume (slot core : Nat) (s : State) : Answer :=
  .next (if ((s.slot? slot).bind (·.miss)).isNone then s.resumeOn slot core else s)

/-- CTPAD: holds the core until TXC_CYCLE ≥ GA; a target that has passed has no effect (R222, R223). -/
def execCtpad (core : Nat) (w : BitVec 32) (s : State) : Answer :=
  .next (s.issue core w 0x33 (mD ||| mB ||| mC ||| mT) fun k sl s =>
    let t := sl.ctx.rg (fA w)
    if t.toNat ≤ s.cycles sl.ctx then s.modCtx k Ctx.step
    else s.modCtx k fun x => { x with padUntil := some t })

/-- CTPAD_RELEASE: when TXC_CYCLE reaches the target of the CTPAD that holds the core, the core goes on. -/
def execCtpadRelease (core : Nat) (s : State) : Answer :=
  .next (match (s.core core).slot with
    | none => s
    | some k => match s.slot? k with
      | none => s
      | some sl => match sl.ctx.padUntil with
        | none => s
        | some t =>
          if t.toNat ≤ s.cycles sl.ctx then s.modCtx k fun x => { x with padUntil := none }.step else s)

/-! ## Handle and block registers -/

/-- HLD: k[KX] ← GA[31:0] (R214). -/
def execHld (core : Nat) (w : BitVec 32) (s : State) : Answer :=
  .next (s.issueReg core w 0x34 (mD ||| mX ||| mY ||| mZ ||| m0) fun x =>
    x.setK (fK w) ((x.rg (fA w)).setWidth 32))

/-- HMOV: GA ← k[KX], zero-extended (R214). -/
def execHmov (core : Nat) (w : BitVec 32) (s : State) : Answer :=
  .next (s.issueReg core w 0x35 (mD ||| mX ||| mY ||| mZ ||| m0) fun x =>
    x.setG (fA w) ((x.rk (fK w)).zeroExtend 64))

/-- CBLK MOV: cb[CX] ← cb[CY], sensitive when cb[CY] is (R229). -/
def execCblkMov (core : Nat) (w : BitVec 32) (s : State) : Answer :=
  .next (s.issueCReg core w 0x36 0x00 (mA ||| mZ ||| mK ||| m0) fun x => x.setCb (fX w) (x.rcb (fY w)))

/-- A block register from two others, sensitive when either is (R229). -/
def blk2 (f : BitVec 128 → BitVec 128 → BitVec 128) (w : BitVec 32) (x : Ctx) : Ctx :=
  x.setCb (fX w) { val := f (x.rcb (fY w)).val (x.rcb (fZ w)).val,
                   sensitive := (x.rcb (fY w)).sensitive || (x.rcb (fZ w)).sensitive }

/-- CBLK XOR (R229). -/
def execCblkXor (core : Nat) (w : BitVec 32) (s : State) : Answer :=
  .next (s.issueCReg core w 0x36 0x01 (mA ||| mK ||| m0) (blk2 (fun a b => a ^^^ b) w))

/-- CBLK AND (R229). -/
def execCblkAnd (core : Nat) (w : BitVec 32) (s : State) : Answer :=
  .next (s.issueCReg core w 0x36 0x02 (mA ||| mK ||| m0) (blk2 (fun a b => a &&& b) w))

/-- CBLK ZERO: cb[CX] ← 0, not sensitive. -/
def execCblkZero (core : Nat) (w : BitVec 32) (s : State) : Answer :=
  .next (s.issueCReg core w 0x36 0x03 (mA ||| mY ||| mZ ||| mK ||| m0) fun x => x.setCb (fX w) {})

/-- CBLK LOAD: cb[CX] ← 16 bytes at GA, a multiple of 16 (R216). -/
def execCblkLoad (core : Nat) (w : BitVec 32) (s : State) : Answer :=
  .next (s.issueC core w 0x36 0x04 (mY ||| mZ ||| mK ||| m0) fun k sl s =>
    let a := (sl.ctx.rg (fA w)).toNat
    if a % 16 ≠ 0 then s.raiseExc core k { cause := excMisaligned, addr := a, insn := w }
    else afterAccess core k w a s (s.coreRead core k sl a 16) fun r =>
      r.2.modCtx k fun x => (x.setCb (fX w) { val := BitVec.ofNat 128 (leNat r.1) }).step)

/-- CBLK STORE: 16 bytes at GA ← cb[CY]; a sensitive register outside the secure part of the larder and the
sealed larder raises SENSITIVE, in either world (R216, R231). -/
def execCblkStore (core : Nat) (w : BitVec 32) (s : State) : Answer :=
  .next (s.issueC core w 0x36 0x05 (mX ||| mZ ||| mK ||| m0) fun k sl s =>
    let a := (sl.ctx.rg (fA w)).toNat
    let b := sl.ctx.rcb (fY w)
    if a % 16 ≠ 0 then s.raiseExc core k { cause := excMisaligned, addr := a, insn := w }
    else if b.sensitive && !secureAddr a then s.raiseExc core k { cause := excSensitive, insn := w }
    else afterAccess core k w a s (s.coreWrite core k sl a (natLe 16 b.val.toNat)) fun s =>
      s.modCtx k Ctx.step)

/-- GETL and GETH: a half of cb[CY] into GA; a sensitive register in the open world raises SENSITIVE (R230). -/
def State.issueGet (core : Nat) (w : BitVec 32) (fn lo : Nat) (s : State) : State :=
  s.issueC core w 0x36 fn (mX ||| mZ ||| mK ||| m0) fun k sl s =>
    let b := sl.ctx.rcb (fY w)
    if b.sensitive && !sl.programWorld then s.raiseExc core k { cause := excSensitive, insn := w }
    else s.modCtx k fun x => (x.setG (fA w) (b.val.extractLsb' lo 64)).step

/-- CBLK GETL: GA ← bytes 0–7 of cb[CY] (R230). -/
def execCblkGetl (core : Nat) (w : BitVec 32) (s : State) : Answer := .next (s.issueGet core w 0x06 0)

/-- CBLK GETH: GA ← bytes 8–15 of cb[CY] (R230). -/
def execCblkGeth (core : Nat) (w : BitVec 32) (s : State) : Answer := .next (s.issueGet core w 0x07 64)

/-- CBLK PUTL: bytes 0–7 of cb[CX] ← GA; the register is not sensitive (R229). -/
def execCblkPutl (core : Nat) (w : BitVec 32) (s : State) : Answer :=
  .next (s.issueCReg core w 0x36 0x08 (mY ||| mZ ||| mK ||| m0) fun x =>
    x.setCb (fX w) { val := (x.rcb (fX w)).val.extractLsb' 64 64 ++ x.rg (fA w) })

/-- CBLK PUTH: bytes 8–15 of cb[CX] ← GA; the register is not sensitive (R229). -/
def execCblkPuth (core : Nat) (w : BitVec 32) (s : State) : Answer :=
  .next (s.issueCReg core w 0x36 0x09 (mY ||| mZ ||| mK ||| m0) fun x =>
    x.setCb (fX w) { val := x.rg (fA w) ++ (x.rcb (fX w)).val.extractLsb' 0 64 })

/-- CBLK RAND: cb[CX] ← 16 bytes from Squirrel; a stopped Squirrel ends the command with 0x0405 (R232); a
draw that waits leaves the instruction to issue again (R402). -/
def execCblkRand (core : Nat) (w : BitVec 32) (s : State) : Answer :=
  .next (s.issueC core w 0x36 0x0A (mA ||| mY ||| mZ ||| mK ||| m0) fun k _ s =>
    match s.draw k 16 with
    | (.served b, s) => s.modCtx k fun x => (x.setCb (fX w) { val := BitVec.ofNat 128 (leNat b) }).step
    | (.refused, s) => s.failCmd k 0x0405
    | (.waits, s) => s)

/-- CBLK EQ: GA ← 1 if cb[CY] = cb[CZ], else 0 (R214). -/
def execCblkEq (core : Nat) (w : BitVec 32) (s : State) : Answer :=
  .next (s.issueCReg core w 0x36 0x0B (mX ||| mK ||| m0) fun x =>
    x.setG (fA w) (flag ((x.rcb (fY w)).val == (x.rcb (fZ w)).val)))

/-- An instruction that raises ILLEGAL in the open world (R218). -/
def sealedOnly (core k : Nat) (sl : Slot) (w : BitVec 32) (s : State) (f : State) : State :=
  if sl.programWorld then f else s.raiseExc core k { cause := excIllegal, insn := w }

/-- CBLK MARK: marks cb[CX] sensitive; sealed only (R218). -/
def execCblkMark (core : Nat) (w : BitVec 32) (s : State) : Answer :=
  .next (s.issueC core w 0x36 0x0C (mA ||| mY ||| mZ ||| mK ||| m0) fun k sl s =>
    sealedOnly core k sl w s <|
      s.modCtx k fun x => (x.setCb (fX w) { x.rcb (fX w) with sensitive := true }).step)

/-! ## Ciphers -/

/-- Whether a record permits CIPH with FN 0 or FN 1 (R228, Table 7-6): FN 0 the uses that encipher or
derive, FN 1 those that decipher or derive. -/
def cipherPermitted (decrypt : Bool) (r : KeyRec) : Bool :=
  typeSym r.type &&
    (if decrypt then [useDecrypt, useUnwrap, usePinDecrypt, usePinVerify, useDerive]
     else [useEncrypt, useWrap, usePinEncrypt, useDerive, useCard, useEmv]).any r.permits

/-- One block under a symmetric key: AES on 16 bytes, TDES on bytes 0 to 7 with zero in bytes 8 to 15. -/
def cipherBlock (decrypt : Bool) (r : KeyRec) (v : BitVec 128) : BitVec 128 :=
  if typeTdes r.type then (Config.tdes decrypt r.material (v.setWidth 64)).zeroExtend 128
  else Config.aes decrypt r.material v

/-- The handle register that a key register's key came from; KX where the register is empty. -/
def keyIndex (o : Option KeyReg) (kx : Nat) : Nat := (o.map (·.handleReg)).getD kx

/-- CIPH: cb[CX] ← cb[CY] under ck[KX]; the reserved use is committed (R227), and a deciphered block is
sensitive under a key that marks it so (R229). A key that does not permit it raises KEY 0x0204 (R228). -/
def State.issueCiph (core : Nat) (w : BitVec 32) (decrypt : Bool) (s : State) : State :=
  s.issueC core w 0x37 (b2n decrypt) (mA ||| mZ ||| m0) fun k sl s =>
    let o := sl.ctx.rck (fK w)
    let bad := s.raiseExc core k { cause := excKey, status := 0x0204, kindex := keyIndex o (fK w), insn := w }
    match o with
    | none => bad
    | some kr =>
      if !cipherPermitted decrypt kr.record then bad else
      (s.commitUse kr).modCtx k fun x =>
        let v := cipherBlock decrypt kr.record (x.rcb (fY w)).val
        ((x.setCk (fK w) (some { kr with committed := true })).setCb (fX w)
          { val := v, sensitive := decrypt && kr.record.sensitiveOut }).step

/-- CIPH with FN 0, encrypt (R227, R228). -/
def execCiphEncrypt (core : Nat) (w : BitVec 32) (s : State) : Answer := .next (s.issueCiph core w false)

/-- CIPH with FN 1, decrypt (R227 to R229). -/
def execCiphDecrypt (core : Nat) (w : BitVec 32) (s : State) : Answer := .next (s.issueCiph core w true)

/-! ## Pipes -/

/-- Whether an ALG is one of 0x5001 (keyed). -/
def algKeyed (alg : Nat) : Bool := [0x01, 0x02, 0x03, 0x10, 0x11, 0x12, 0x13].contains alg
/-- Whether an ALG is one of 0x5005. -/
def algHash (alg : Nat) : Bool := [0x20, 0x21, 0x22, 0x23, 0x24].contains alg

/-- The output of an ALG in bytes. -/
def algLen (alg : Nat) : Nat :=
  match alg with
  | 0x01 => 16
  | 0x02 | 0x03 => 8
  | 0x11 | 0x21 => 48
  | 0x12 | 0x22 | 0x24 => 64
  | _ => 32

/-- The key TYPE that a keyed ALG names (R700). -/
def algType (alg t : Nat) : Bool :=
  if alg = 0x01 then typeAes t else if alg = 0x02 ∨ alg = 0x03 then typeTdes t else typeHmac t

/-- The output of a pipe. -/
def Pipe.out (p : Pipe) : Bytes :=
  (natLe 64 (match p.key with
    | some r => Config.mac p.alg r.material p.absorbed
    | none => Config.digest p.alg p.absorbed).toNat).take (algLen p.alg)

/-- PIPE INIT: starts the pipe of the ALG in GA[7:0]; a keyed algorithm takes ck[KX], whose TYPE and usage
must permit it (R228, R700) and whose reserved use is committed (R227). An ALG that Table 5-6 does not list
raises ILLEGAL. -/
def execPipeInit (core : Nat) (w : BitVec 32) (s : State) : Answer :=
  .next (s.issueC core w 0x38 0x00 (mX ||| mY ||| mZ ||| m0) fun k sl s =>
    let alg := ((sl.ctx.rg (fA w)).extractLsb' 0 8).toNat
    let o := sl.ctx.rck (fK w)
    let bad := s.raiseExc core k { cause := excKey, status := 0x0204, kindex := keyIndex o (fK w), insn := w }
    if algHash alg then s.modCtx k fun x => (x.setPipe (pipeOf alg) (some { alg := alg })).step
    else if !algKeyed alg then s.raiseExc core k { cause := excIllegal, insn := w }
    else match o with
      | none => bad
      | some kr =>
        if !(algType alg kr.record.type && kr.record.permits useMacGen) then bad else
        (s.commitUse kr).modCtx k fun x =>
          ((x.setCk (fK w) (some { kr with committed := true })).setPipe (pipeOf alg)
            (some { alg := alg, key := some kr.record })).step)

/-- Read n bytes at successive core addresses, each decided on its own; the address of the first refusal. -/
def State.coreReadRange (c k : Nat) (sl : Slot) : Nat → Nat → State → Nat × Acc (Bytes × State)
  | _, 0, s => (0, .done ([], s))
  | a, n + 1, s =>
    match s.coreRead c k sl a 1 with
    | .refused s => (a, .refused s)
    | .fatal s => (a, .fatal s)
    | .waits => (a, .waits)
    | .done b => match State.coreReadRange c k sl (a + 1) n b.2 with
      | (_, .done t) => (0, .done (b.1 ++ t.1, t.2))
      | r => r

/-- The count of an ABSORB: GA[48:32], 0 meaning 65,536. -/
def absorbCount (v : Word) : Nat :=
  let n := (v.extractLsb' 32 17).toNat
  if n = 0 then 65536 else n

/-- PIPE ABSORB: pipe CZ[1:0] absorbs bytes from address GA[31:0] (R214). A pipe that no INIT has started
stays empty. -/
def execPipeAbsorb (core : Nat) (w : BitVec 32) (s : State) : Answer :=
  .next (s.issueC core w 0x38 0x01 (mX ||| mY ||| 0xC0 ||| mK ||| m0) fun k sl s =>
    let v := sl.ctx.rg (fA w)
    let r := State.coreReadRange core k sl (v.setWidth 32).toNat (absorbCount v) s
    afterAccess core k w r.1 s r.2 fun b =>
      b.2.modCtx k fun x =>
        (x.setPipe (fZ w) ((x.rpipe (fZ w)).map fun p => { p with absorbed := p.absorbed ++ b.1 })).step)

/-- Write a string to successive block registers from CX on, 16 bytes each, at most 4; a last part that is
shorter is filled with zeros. -/
def Ctx.putBlocks (i : Nat) (b : Bytes) (x : Ctx) : Ctx :=
  (List.range ((b.length + 15) / 16)).foldl
    (fun x j => x.setCb (i + j) { val := BitVec.ofNat 128 (leField b (16 * j) 16) }) x

/-- PIPE FINAL: the output of pipe CZ[1:0] into cb[CX] and the following registers; the pipe becomes empty
(R214). The output of an empty pipe is a free value in cb[CX]. -/
def execPipeFinal (core : Nat) (w : BitVec 32) (s : State) : Answer :=
  .next (s.issueC core w 0x38 0x02 (mA ||| mY ||| 0xC0 ||| mK ||| m0) fun k sl s =>
    match sl.ctx.rpipe (fZ w) with
    | some p => s.modCtx k fun x => ((x.putBlocks (fX w) p.out).setPipe (fZ w) none).step
    | none => s.free.2.modCtx k fun x => (x.setCb (fX w) { val := BitVec.ofNat 128 s.free.1 }).step)

/-- PIPE RESET: empties pipe CZ[1:0]. -/
def execPipeReset (core : Nat) (w : BitVec 32) (s : State) : Answer :=
  .next (s.issueCReg core w 0x38 0x03 (mA ||| mX ||| mY ||| 0xC0 ||| mK ||| m0) fun x => x.setPipe (fZ w) none)

/-! ## Keys -/

/-- Empty a key register; a reservation that it holds stays until the end of the command (R227). -/
def State.emptyCk (k i : Nat) (s : State) : State :=
  match (s.slot? k).bind fun sl => sl.ctx.rck i with
  | none => s
  | some kr =>
    (s.modSlot k fun sl => { sl with
      ctx := sl.ctx.setCk i none,
      owed := if kr.committed || kr.streamKey then sl.owed else sl.owed ++ [kr] }).noteUnpinned [kr.key]

/-- KRES: the checks of R224 on k[KX]; a hot-cache miss parks the command (R225), a failure raises KEY, and
a success reserves one use and loads ck[CX[2:0]] (R226). -/
def execKres (core : Nat) (w : BitVec 32) (s : State) : Answer :=
  .next (s.issue core w 0x39 (mD ||| mA ||| 0x8000 ||| mY ||| mZ ||| m0) fun k sl s =>
    match s.resolve (s.cmdDomain sl.fn) {} (sl.ctx.rk (fK w)) with
    | .missed key => s.parkMiss k key
    | .failed st => s.raiseExc core k { cause := excKey, status := st, kindex := fK w, insn := w }
    | .ok key r =>
      (((s.hit k key).reserveUse key).emptyCk k (fX w)).modCtx k fun x =>
        (x.setCk (fX w) (some { key := key, record := r, handleReg := fK w })).step)

/-- HCHK: GA ← 0 if k[KX] would resolve, else the status; it reserves no use, and a miss parks the command
(R214, R225). -/
def execHchk (core : Nat) (w : BitVec 32) (s : State) : Answer :=
  .next (s.issue core w 0x3D (mD ||| mX ||| mY ||| mZ ||| m0) fun k sl s =>
    match s.resolve (s.cmdDomain sl.fn) {} (sl.ctx.rk (fK w)) with
    | .missed key => s.parkMiss k key
    | .failed st =>
      (s.modSlot k fun sl => { sl with miss := none }).modCtx k fun x => (x.setG (fA w) (st.zeroExtend 64)).step
    | .ok key _ => (s.hit k key).modCtx k fun x => (x.setG (fA w) 0).step)

/-- KOP RELEASE: empties ck[KX]. -/
def execKopRelease (core : Nat) (w : BitVec 32) (s : State) : Answer :=
  .next (s.issueC core w 0x3A 0x00 (mA ||| mX ||| mY ||| mZ ||| m0) fun k _ s =>
    (s.emptyCk k (fK w)).modCtx k Ctx.step)

/-- The record that an attribute block and material describe, where R280 and R310 accept them. -/
def installRecord? (dom : Nat) (b material : Bytes) : Option KeyRec :=
  let t := leField b 0 1
  let ex := leField b 1 1
  let usage := BitVec.ofNat 16 (leField b 2 2)
  let nb := leField b 4 5
  let na := leField b 9 5
  match typeLength? t with
  | none => none
  | some n =>
    if n ≤ 32 ∧ (ex = 0 ∨ ex = 2) ∧ usageOk t usage = true ∧ nb < na ∧ leField b 14 2 = 0
        ∧ leField b 24 8 = 0 then
      some (newRecord dom t ex 5 usage false false nb na (leField b 16 8) (material.take n))
    else none

/-- KOP INSTALL: a resident key from cb[CY] and cb[CZ] with the attributes at GA, its handle in k[KX];
sealed only. A failure raises KEY with 0x0212 for a quota, 0x0310 while field debug is open (R298), and
0x0204 otherwise (R218, R310). -/
def execKopInstall (core : Nat) (w : BitVec 32) (s : State) : Answer :=
  .next (s.issueC core w 0x3A 0x01 (mX ||| m0) fun k sl s =>
    let a := (sl.ctx.rg (fA w)).toNat
    let bad := fun (st : Status) (s : State) =>
      s.raiseExc core k { cause := excKey, status := st, kindex := fK w, insn := w }
    sealedOnly core k sl w s <|
      if a % 8 ≠ 0 then bad 0x0204 s
      else afterAccess core k w a s (s.coreRead core k sl a 32) fun b =>
        let s := b.2
        let m := natLe 16 (sl.ctx.rcb (fY w)).val.toNat ++ natLe 16 (sl.ctx.rcb (fZ w)).val.toNat
        if s.antler.debug then bad 0x0310 s else
        match installRecord? (s.cmdDomain sl.fn) b.1 m with
        | none => bad 0x0204 s
        | some r => match s.createKey r with
          | (.inl st, s) => bad st s
          | (.inr h, s) => s.modCtx k fun x => (x.setK (fK w) h).step)

/-- Checks 1 to 3 of R224 on a handle that a deletion names, which needs no record in the hot cache; a
persistent handle is refused with 0x0307, as KEY_DELETE refuses it. -/
def State.deletable (s : State) (dom : Nat) (h : BitVec 32) : Status ⊕ KeyId :=
  match s.handleRec? h with
  | none => .inl 0x0201
  | some (key, sl, r) =>
    if sl.generation ≠ handleGen h then .inl 0x0202
    else if r.domain ≠ dom then .inl 0x0203
    else if isPersistent key then .inl 0x0307
    else .inr key

/-- KOP DELETE: deletes the resident key of k[KX]; sealed only; a failure raises KEY (R218, R274). -/
def execKopDelete (core : Nat) (w : BitVec 32) (s : State) : Answer :=
  .next (s.issueC core w 0x3A 0x02 (mA ||| mX ||| mY ||| mZ ||| m0) fun k sl s =>
    sealedOnly core k sl w s <|
      match s.deletable (s.cmdDomain sl.fn) (sl.ctx.rk (fK w)) with
      | .inl st => s.raiseExc core k { cause := excKey, status := st, kindex := fK w, insn := w }
      | .inr key => (s.deleteKey key).modCtx k Ctx.step)

/-! ## Engine jobs -/

/-- What SUBMIT finds when it has its key: the job is sent, waits, or fails at once (R347 to R360). -/
def State.submitJob (k : Nat) (sl : Slot) (w : BitVec 32) (n : Nat) (j : Job) (b : Bytes) (placed : Bool)
    (key : Option (KeyId × KeyRec)) (s : State) : State :=
  let go := fun (s : State) => s.modCtx k fun x => (x.setG (fA w) (BitVec.ofNat 64 n)).step
  let rec? := key.map (·.2)
  match s.groupFor? sl j.hedgehog with
  | none => go (s.failJob k n codeNoEngine j)
  | some g =>
    if !placed || !j.descriptorOk b sl.programWorld rec? then go (s.failJob k n codeDescriptor j)
    else if 128 ≤ (s.queue j.hedgehog g).length then
      (s.modSlot k fun sl => { sl with retry := some w }).park k .parked
    else
      let d := opRandom j.operation j.length j.param ((rec?.map (·.type)).getD 0)
      let send := fun (rnd : Bytes) (s : State) =>
        let s := match key with
          | some (id, _) => (s.hit k id).reserveUse id
          | none => s
        let reg := key.map fun p => { key := p.1, record := p.2, handleReg := fK w : KeyReg }
        go (s.sendJob k n g { j with random := rnd, key := reg })
      if d = 0 then send [] s else
      match s.draw k d with
      | (.served r, s) => send r s
      | (.refused, s) => s.failCmd k 0x0405
      | (.waits, s) => s

/-- ENGQ SUBMIT on a core (R353 to R360): GA ← the job number, or 0 where the command holds 4 jobs. The descriptor is
read as a load of the core reads (R446, R456). -/
def State.submit (core k : Nat) (sl : Slot) (w : BitVec 32) (s : State) : State :=
  let a := (sl.ctx.rg (fA w)).toNat
  let placed := a % 64 == 0 && jobRange sl.programWorld false a 64
  let c := sl.jobCell k a
  if placed && s.larderWaits c.1 c.2 then s
  else if placed && s.poisonedAt (gateAddr c.1 c.2) 64 then (s.countError c.1 c.2 false).failCmd k 0x0F01 else
  let b := if placed then s.jobBytes k sl a 64 else []
  let s := if placed then s.correct c.1 c.2 64 else s
  let j := parseDescriptor ((fZ w) % 2 == 1) b
  match sl.freeJob? with
  | none => s.modCtx k fun x => (x.setG (fA w) 0).step
  | some n =>
    if (fY w) % 2 = 0 then s.submitJob k sl w n j b placed none else
    match s.resolve (s.cmdDomain sl.fn) {} (sl.ctx.rk (fK w)) with
    | .missed key => s.parkMiss k key
    | .failed st => s.raiseExc core k { cause := excKey, status := st, kindex := fK w, insn := w }
    | .ok key r =>
      if placed && !opPermits j.operation r then
        s.raiseExc core k { cause := excKey, status := 0x0204, kindex := fK w, insn := w }
      else s.submitJob k sl w n j b placed (some (key, r))

/-- The bits of a SUBMIT that must be zero (R353). -/
def submitZero (w : BitVec 32) : BitVec 32 :=
  mX ||| 0x0E00 ||| 0x00E0 ||| m0 ||| (if (fY w) % 2 = 0 then mK else 0)

/-- ENGQ SUBMIT (R347, R353 to R360). -/
def execEngqSubmit (core : Nat) (w : BitVec 32) (s : State) : Answer :=
  .next (s.issueC core w 0x3B 0x00 (submitZero w) fun k sl s => s.submit core k sl w)

/-- ENGQ_SUBMIT_RETRY: a SUBMIT parked for a full job queue issues again on a free core of its skulk when an
entry has become free (R349); a built-in program resumes there. -/
def execEngqSubmitRetry (slot core : Nat) (s : State) : Answer :=
  .next (match s.slot? slot with
    | none => s
    | some sl => match sl.retry with
      | none => s
      | some w =>
        let hedgehog := (fZ w) % 2 == 1
        let free := match s.groupFor? sl hedgehog with
          | some g => decide ((s.queue hedgehog g).length < 128)
          | none => true
        if !free then s else
        let s' := (s.modSlot slot fun sl => { sl with phase := .resume, retry := none }).resumeOn slot core
        match s'.running? core with
        | some (k, sl) => if k = slot then s'.submit core k sl w else s
        | none => if sl.setId.isNone && (s'.core core).slot == some slot then s' else s)

/-- ENGQ POLL: GA ← the status word of job GA, STATE 7 for a number that names no job; a terminal state frees
the number (R354, R366). -/
def execEngqPoll (core : Nat) (w : BitVec 32) (s : State) : Answer :=
  .next (s.issueC core w 0x3B 0x01 (mX ||| mY ||| mZ ||| mK ||| m0) fun k sl s =>
    let n := (sl.ctx.rg (fA w)).toNat
    match tget? sl.jobs n with
    | none => s.modCtx k fun x => (x.setG (fA w) 7).step
    | some j =>
      let s := if j.state.terminal then s.modSlot k fun sl => { sl with jobs := terase sl.jobs n } else s
      s.modCtx k fun x => (x.setG (fA w) (BitVec.ofNat 64 j.statusWord)).step)

/-- ENGQ ABORT: aborts job GA (R370). -/
def execEngqAbort (core : Nat) (w : BitVec 32) (s : State) : Answer :=
  .next (s.issueC core w 0x3B 0x02 (mX ||| mY ||| mZ ||| mK ||| m0) fun k sl s =>
    (s.abortJob k (sl.ctx.rg (fA w)).toNat).modCtx k Ctx.step)

/-! ## Owl and unlisted functions -/

/-- OWLEV: an Owl event with code IMM[8:0] and payload GA, the function and the core; a code outside 0x120 to
0x13F is recorded as 0x12F with the code in byte 11 (R218, R576). -/
def execOwlev (core : Nat) (w : BitVec 32) (s : State) : Answer :=
  .next (s.issue core w 0x3C (mD ||| 0xFE00) fun k sl s =>
    let code := ((fImm w).extractLsb' 0 9).toNat
    let inRange := decide (0x120 ≤ code) && decide (code ≤ 0x13F)
    let last := if inRange then 0 else if code < 0x100 then code else 0xFF
    sealedOnly core k sl w s <|
      (s.raise (if inRange then code else 0x12F)
        (natLe 8 (sl.ctx.rg (fA w)).toNat ++ natLe 2 sl.fn ++ natLe 1 core ++ natLe 1 last)).modCtx k Ctx.step)

/-- Whether Tables 6-5 to 6-7 list a function code of an opcode with function codes. -/
def fnListed (op fn : Nat) : Bool :=
  match op with
  | 0x36 => decide (fn ≤ 0x0C)
  | 0x37 => decide (fn ≤ 1)
  | 0x38 => decide (fn ≤ 3)
  | 0x3A | 0x3B => decide (fn ≤ 2)
  | _ => true

/-- UNLISTED_FUNCTION_CODE: a function code that the tables do not list raises ILLEGAL (R217). -/
def execUnlistedFunctionCode (core : Nat) (w : BitVec 32) (s : State) : Answer :=
  .next (if fnListed (Insn.op w) (fD w) then s
    else s.issue core w (Insn.op w) 0 fun k _ s => s.raiseExc core k { cause := excIllegal, insn := w })

end Sys2Proof.Machine
end

