-- ==== Sys2Proof/Machine/NativeOps.lean ====
section
/-! DEFINITION. The frame of the built-in native programs: when one runs, the lengths and PARAM bytes that
an opcode accepts (R167, R181), the resolution of handles in order and their uses (R168 steps 8 and 9), and
the engine jobs of a built-in program (R367). -/

namespace Sys2Proof.Machine

/-! ## Lengths and PARAM -/

/-- The bytes of a PIN block in a format (R182). -/
def pinBlockLen (fmt : Nat) : Nat := if fmt = 4 then 16 else 8

/-- Whether a PIN format is one of 0x1001. -/
def pinFormat (fmt : Nat) : Bool := fmt == 0 || fmt == 1 || fmt == 3 || fmt == 4

/-- Whether a length is one of the PIN blocks of a format plus a constant; any format's where the format is
not listed, since PARAM is checked after the lengths. -/
def pinLenOk (fmt n mul extra : Nat) : Bool :=
  if pinFormat fmt then n == mul * pinBlockLen fmt + extra
  else n == mul * 8 + extra || n == mul * 16 + extra

/-- Whether IN_LENGTH is one that a native opcode accepts (R167, Tables 5-5 and 5-6). -/
def nativeLength (e : Entry) : Bool :=
  let n := e.inLength
  let tail := e.streamPart == 0 || e.streamPart == 3
  match e.opcode with
  | 0x0001 | 0x0002 | 0x2003 | 0x3002 | 0x3003 | 0x3004 | 0x3005 | 0x3006 | 0x6022 | 0x7001 => n == 0
  | 0x1001 => pinLenOk (e.p 0) n 1 0
  | 0x1002 => pinLenOk (e.p 0) n 2 0
  | 0x1003 => decide (pinBlockLen (e.p 0) < n)
  | 0x1004 => pinLenOk (e.p 0) n 1 10
  | 0x5002 => !tail || decide (e.p 1 ≤ n)
  | 0x5003 => (e.p 0 != 0x30 || n % 16 == 0) && (e.p 0 != 0x33 || n % 8 == 0)
  | 0x5004 => (e.p 0 != 0x30 || n % 16 == 0) && (e.p 0 != 0x33 || n % 8 == 0) && (e.p 0 != 0x32 || decide (16 ≤ n))
  | 0x6001 | 0x6010 =>
    if bit (e.p 2) 0 then
      match hashLen? (e.p 1) with
      | some h => n == h
      | none => true
    else true
  | 0x6014 => n == 65 || n == 97 || n == 133
  | 0x6023 => n == 768 || n == 1088 || n == 1568
  | 0x6032 => n == 1153 || n == 1665
  | _ => true

/-- Whether every PARAM byte that an opcode's layout does not name is zero (R181). -/
def paramZero (e : Entry) (named : List Nat) : Bool :=
  (List.range 16).all fun i => named.contains i || e.p i == 0

/-! ## When a native program runs -/

/-- Whether the command in a slot runs a built-in program now: on a core, or under the sealed controller for
a den command that no pool serves. -/
def Slot.runsNative (sl : Slot) (kind op : Nat) : Bool :=
  (sl.phase == .running || (sl.phase == .ready && sl.pool.isNone && sl.fn == 0))
    && sl.setId.isNone && sl.persKind == kind && sl.entry.opcode == op

/-- A slot as the built-in program sees it: a compatibility command runs as the native command that its frame stands
for (R194). -/
def Slot.view (sl : Slot) : Slot :=
  match sl.legacy with
  | some c => { sl with entry := c.entry, persKind := 1 }
  | none => sl

/-- Go on with the input of a command, as the program reads it from staging before it starts a job: an uncorrectable word
ends the command with 0x0F01, and a single-bit error is corrected and counted (R471). -/
def State.withInput (k : Nat) (sl : Slot) (f : State → State) (s : State) : State :=
  let off := k * 0x20000
  if !sl.jobs.isEmpty || sl.legacy.isSome then f s
  else if s.poisonedAt (gateAddr 3 off) sl.entry.inLength then (s.countError 3 off false).failCmd k 0x0F01
  else f (s.correct 3 off sl.entry.inLength)

/-- Run the built-in program of an opcode for the command in slot k; where the slot holds no such command
nothing happens. Lengths come first (R168 step 5), then the PARAM values (step 6). A command that no core starts has its
STREAM_PART checked here (R260). -/
def State.native (k op : Nat) (paramOk : Entry → Bool) (f : Slot → State → State) (s : State) : State :=
  match s.slot? k with
  | none => s
  | some raw =>
    let sl := raw.view
    if !sl.runsNative 1 op then s
    else if !nativeLength sl.entry then s.failCmd k 0x0105
    else if sl.pool.isNone && sl.entry.streamPart != 0 then s.failCmd k 0x0502
    else if !paramOk sl.entry then s.failCmd k 0x0106
    else s.withInput k sl (f sl)

/-- The input of the command in a slot: the first IN_LENGTH bytes of its input window, or what its frame stands for. -/
def State.inputOf (s : State) (k : Nat) (sl : Slot) : Bytes :=
  match sl.legacy with
  | some c => c.input
  | none => memBytes s.mem.mem (stagingAddr k 0) sl.entry.inLength

/-- The domain of the command in a slot. -/
def State.domOf (s : State) (sl : Slot) : Nat := s.cmdDomain sl.fn

/-! ## Handles -/

/-- The key that the command holds for a handle of its entry. -/
def Slot.keyAt? (sl : Slot) (i : Nat) : Option KeyReg := sl.keysHeld.find? (·.handleReg == i)

/-- Resolve the handles of an entry in order from HANDLE0 (R168 step 8), reserving one use of each; a miss
parks the command, a failure ends it with the handle's index (R173). -/
def State.resolveFrom (k dom : Nat) (e : Entry) : List Nat → State → Bool × State
  | [], s => (true, s)
  | i :: t, s =>
    match (s.slot? k).bind fun sl => sl.keyAt? i with
    | some _ => s.resolveFrom k dom e t
    | none =>
      match s.resolve dom {} (e.handle i) with
      | .missed key => (false, s.parkMiss k key)
      | .failed st => (false, s.failHandle k st i)
      | .ok key r =>
        State.resolveFrom k dom e t <|
          (((s.hit k key).reserveUse key).modSlot k fun sl =>
            { sl with keysHeld := sl.keysHeld ++ [{ key := key, record := r, handleReg := i }] })

/-- Go on with the one key of an entry when it resolves and serves the operation (steps 8 and 9). -/
def State.withKey (k : Nat) (sl : Slot) (ok : KeyRec → Bool) (f : KeyReg → State → State) (s : State) : State :=
  match s.resolveFrom k (s.domOf sl) sl.entry [0] with
  | (false, s) => s
  | (true, s) =>
    match (s.slot? k).bind fun sl => sl.keyAt? 0 with
    | none => s
    | some a => if ok a.record then f a s else s.failHandle k 0x0204 0

/-- Go on with the two keys of an entry. -/
def State.withKeys (k : Nat) (sl : Slot) (ok0 ok1 : KeyRec → Bool) (f : KeyReg → KeyReg → State → State)
    (s : State) : State :=
  match s.resolveFrom k (s.domOf sl) sl.entry [0, 1] with
  | (false, s) => s
  | (true, s) =>
    match (s.slot? k).bind fun sl => sl.keyAt? 0, (s.slot? k).bind fun sl => sl.keyAt? 1 with
    | some a, some b =>
      if !ok0 a.record then s.failHandle k 0x0204 0
      else if !ok1 b.record then s.failHandle k 0x0204 1
      else f a b s
    | _, _ => s

/-- Commit the reserved use of a key that the command holds (R227): its program makes its first CIPH or
PIPE INIT under it. -/
def State.useKey (k : Nat) (kr : KeyReg) (s : State) : State :=
  (s.commitUse kr).modSlot k fun sl =>
    { sl with keysHeld := sl.keysHeld.map fun x =>
        if x.handleReg = kr.handleReg then { x with committed := true } else x }

/-- Hand a held key to an engine job: the reservation goes with it (R356). -/
def State.handOver (k : Nat) (kr : KeyReg) (s : State) : State :=
  s.modSlot k fun sl => { sl with keysHeld := sl.keysHeld.filter fun x => x.handleReg != kr.handleReg }

/-- The result of a verification (R187). -/
def verdict (b : Bool) : Bytes := [if b then 1 else 0]

/-! ## Engine jobs of built-in programs -/

/-- A job of a built-in program, with its operands. -/
def directJob (hedgehog : Bool) (op : Nat) : Job := { hedgehog := hedgehog, operation := op, direct := true }

/-- Whether the group that a job would go to has room; a pool with no usable group has (R349, R352). -/
def State.jobRoom (s : State) (sl : Slot) (hedgehog : Bool) : Bool :=
  match s.groupFor? sl hedgehog with
  | some g => decide ((s.queue hedgehog g).length < 128)
  | none => true

/-- Send a direct job under a number, with its key and random bytes. -/
def State.sendDirect (k n : Nat) (sl : Slot) (j : Job) (key : Option KeyReg) (rnd : Bytes) (s : State) : State :=
  match s.groupFor? sl j.hedgehog with
  | none => s.failJob k n codeNoEngine j
  | some g =>
    let s := match key with
      | some kr => s.handOver k kr
      | none => s
    s.sendJob k n g { j with key := key, random := rnd }

/-- Park a command that waits for its jobs, where one of them runs; a command under the sealed controller
only waits. -/
def State.awaitJobs (k : Nat) (s : State) : State :=
  match s.slot? k with
  | none => s
  | some sl => if sl.jobs.all fun j => j.2.state.terminal then s else s.park k .parked

/-- Draw the random bytes of a built-in program: a stopped Squirrel ends the command with 0x0405 (R357,
R403), and a draw that waits leaves the program where it is. -/
def State.withDraw (k n : Nat) (f : Bytes → State → State) (s : State) : State :=
  if n = 0 then f [] s else
  match s.draw k n with
  | (.served b, s) => f b s
  | (.refused, s) => s.failCmd k 0x0405
  | (.waits, s) => s

/-- The status that a built-in program reports for a job code that is not OK (Table 9-4). -/
def codeStatus (c : Nat) : Status :=
  match c with
  | 2 => 0x0106
  | 5 => 0x0421
  | 6 => 0x0411
  | 7 => 0x0412
  | 8 => 0x0212
  | _ => 0x0410

/-- End a command on the code of its job: the result that `f` makes of the output, or the status. -/
def State.endOnJob (k : Nat) (j : Job) (f : Bytes → Bytes) (s : State) : State :=
  if j.code = codeOk then s.succeed k (f j.output) else s.failCmd k (codeStatus j.code)

/-- End a verification on the code of its job: OK is a match; MISMATCH and OPERAND are a mismatch. -/
def State.endOnVerdict (k : Nat) (j : Job) (s : State) : State :=
  if j.code = codeOk then s.succeed k (verdict true)
  else if j.code = codeMismatch ∨ j.code = codeOperand then s.succeed k (verdict false)
  else s.failCmd k (codeStatus j.code)

/-- A built-in program with one engine job: it starts the job and parks, and when the job has reached a
terminal state it ends. -/
def State.oneJob (sl : Slot) (start : State → State) (finish : Job → State → State) (s : State) :
    State :=
  match tget? sl.jobs 1 with
  | none => start s
  | some j => if j.state.terminal then finish j s else s

/-- The command of a built-in program parks in its context frame until the queue of a kind has a free entry (R349); bit
4 of `retry` is the kind, as in a SUBMIT. -/
def State.parkForRoom (k : Nat) (hedgehog : Bool) (s : State) : State :=
  (s.modSlot k fun sl => { sl with retry := some (if hedgehog then 0x10 else 0) }).park k .parked

/-- Start the one job of a built-in program: wait for room in the queue, draw, send and park. -/
def State.startJob (k : Nat) (sl : Slot) (j : Job) (key : Option KeyReg) (rnd : Nat) (s : State) : State :=
  if !s.jobRoom sl j.hedgehog then s.parkForRoom k j.hedgehog else
  s.withDraw k (if (s.groupFor? sl j.hedgehog).isSome then rnd else 0) fun b s =>
    (s.sendDirect k 1 sl j key b).awaitJobs k

end Sys2Proof.Machine
end

