-- ==== Sys2Proof/Machine/NativePin.lean ====
section
/-! DEFINITION. Native opcodes without an engine: NOP and PERSONALITY_QUERY, the PIN class, DUKPT, EMV and card
verification ("Lergen Commands, Personalities and Status", Table 5-5). -/

namespace Sys2Proof.Machine

/-! ## NOP and PERSONALITY_QUERY -/

/-- NOP (0x0001): 0x0000, no result. -/
def execNop (slot : Nat) (s : State) : Answer :=
  .next (s.native slot 0x0001 (paramZero · []) fun _ s => s.succeed slot [])

/-- A PERSONALITIES record in its 32 bytes (Table 2-9). -/
def PersonalityRec.bytes (r : PersonalityRec) : Bytes :=
  natLe 1 r.persId ++ natLe 1 r.kind ++ natLe 2 r.programSet ++ natLe 4 r.version.toNat ++ fit 16 r.name ++ zeros 8

/-- PERSONALITY_QUERY (0x0002): the record that PARAM byte 0 names; 0x0106 where it names none, 0x0301 where
the function may not use it (R701). -/
def execPersonalityQuery (slot : Nat) (s : State) : Answer :=
  .next (s.native slot 0x0002
    (fun e => paramZero e [0] && decide (e.p 0 ≤ 15) && (s.persRec? (e.p 0)).isSome)
    fun sl s =>
      match s.persRec? (sl.entry.p 0), s.fnRec? sl.fn with
      | some r, some f =>
        if f.persMask.getLsbD (sl.entry.p 0) then s.succeed slot r.bytes else s.failCmd slot 0x0301
      | _, _ => s.failCmd slot 0x0301)

/-! ## PIN blocks (ISO 9564-1) -/

/-- The nibbles of a byte string, high nibble first. -/
def nibbles (b : Bytes) : List Nat := b.flatMap fun x => [x.toNat / 16, x.toNat % 16]

/-- The byte string of a list of nibbles, high nibble first. -/
def packNibbles : List Nat → Bytes
  | a :: b :: t => BitVec.ofNat 8 (16 * (a % 16) + b % 16) :: packNibbles t
  | [a] => [BitVec.ofNat 8 (16 * (a % 16))]
  | [] => []

/-- Whether a format binds a PAN. -/
def pinBinds (fmt : Nat) : Bool := fmt != 1

/-- Whether the supplied PAN is well formed (R185): its digits and its fill. -/
def panOk (binds : Bool) (digits : Nat) (pan : Bytes) : Bool :=
  let n := nibbles pan
  (if binds then decide (12 ≤ digits) && decide (digits ≤ 19) else digits == 0)
    && (n.take digits).all (fun x => decide (x ≤ 9)) && (n.drop digits).all fun x => x == 15

/-- The PAN field of formats 0 and 3: four zero nibbles, then the rightmost 12 digits without the check
digit. -/
def panField0 (pan : List Nat) : Bytes :=
  let d := pan.dropLast
  packNibbles ([0, 0, 0, 0] ++ d.drop (d.length - 12))

/-- The PAN field of format 4: the PAN length less 12, the digits, and zeros to 32 nibbles. -/
def panField4 (pan : List Nat) : Bytes :=
  packNibbles ((pan.length - 12) :: pan ++ List.replicate (31 - pan.length) 0)

/-- One block of bytes under a key (8 bytes under TDES, 16 under AES). -/
def cipherBytes (decrypt : Bool) (tdes : Bool) (key b : Bytes) : Bytes :=
  if tdes then natLe 8 (Config.tdes decrypt key (BitVec.ofNat 64 (leNat b))).toNat
  else natLe 16 (Config.aes decrypt key (BitVec.ofNat 128 (leNat b))).toNat

/-- The clear PIN field of a block (its PAN field taken out), as nibbles. -/
def pinField (fmt : Nat) (pan : List Nat) (key b : Bytes) : List Nat :=
  if fmt = 4 then
    nibbles (cipherBytes true false key (xorBytes (cipherBytes true false key b) (panField4 pan)))
  else
    let c := cipherBytes true true key b
    nibbles (if fmt = 1 then c else xorBytes c (panField0 pan))

/-- The block of a clear PIN field. -/
def pinBlock (fmt : Nat) (pan : List Nat) (key : Bytes) (f : List Nat) : Bytes :=
  if fmt = 4 then
    cipherBytes false false key (xorBytes (cipherBytes false false key (packNibbles f)) (panField4 pan))
  else
    let c := packNibbles f
    cipherBytes false true key (if fmt = 1 then c else xorBytes c (panField0 pan))

/-- The PIN digits of a clear PIN field whose control field, length, digits and fill are right (R184). -/
def pinDigits? (fmt : Nat) (f : List Nat) : Option (List Nat) :=
  let len := f.getD 1 0
  let pin := (f.drop 2).take len
  let fill := (f.take 16).drop (2 + len)
  if f.getD 0 99 = fmt ∧ 4 ≤ len ∧ len ≤ 12 ∧ pin.all (fun x => decide (x ≤ 9)) = true
      ∧ fill.all (fun x => match fmt with
          | 0 => x == 15
          | 3 => decide (10 ≤ x)
          | 4 => x == 10
          | _ => true) = true then some pin
  else none

/-- Random bytes that a translation draws for the fill of its outgoing block: a block of another format 3 or
4; the PIN field of a like format keeps its fill. -/
def pinRandom (fin fout : Nat) : Nat := if fin = fout then 0 else if fout = 3 then 8 else if fout = 4 then 8 else 0

/-- The clear PIN field of the outgoing format. -/
def pinReformat (fin fout : Nat) (f pin : List Nat) (rnd : Bytes) : List Nat :=
  if fin = fout then f else
  let head := [fout, pin.length] ++ pin
  let n := 14 - pin.length
  match fout with
  | 3 => head ++ (List.range n).map fun i => 10 + Config.pinFill rnd i % 6
  | 4 => head ++ List.replicate n 10 ++ nibbles (fit 8 rnd)
  | _ => head ++ List.replicate n 15

/-- Whether a key serves a PIN format and a use (R182). -/
def pinKey (fmt u : Nat) (r : KeyRec) : Bool := (if fmt = 4 then typeAes r.type else typeTdes r.type) && r.permits u

/-- The PAN digits of PARAM bytes 4 to 13. -/
def Entry.pan (e : Entry) : List Nat := (nibbles (slice e.param 4 10)).take (e.p 2)

/-- The reserved bytes of PARAM for 0x1001 to 0x1003. -/
def pinNamed : List Nat := [0, 1, 2, 4, 5, 6, 7, 8, 9, 10, 11, 12, 13]

/-- End where the PAN is malformed (R185, step 6), where the formats need TDES and the domain permits none
(R186), or where the translation would unbind a PIN (R183); otherwise go on. -/
def State.pinPolicy (k : Nat) (sl : Slot) (pan : Bytes) (fout : Option Nat) (f : State → State) (s : State) :
    State :=
  let fin := sl.entry.p 0
  let binds := pinBinds fin || (fout.map pinBinds).getD false
  let tdes := fin != 4 || (fout.map (· != 4)).getD false
  if !panOk binds (sl.entry.p 2) pan then s.failCmd k 0x0111
  else if tdes && !s.tdesPermitted (s.domOf sl) then s.failCmd k 0x0303
  else if fout = some 1 ∧ fin ≠ 1 then s.failCmd k 0x0305
  else f s

/-- The end of a translation: the incoming block is deciphered, checked and enciphered under the outgoing
key. Both reserved uses are committed. -/
def State.translatePin (k fin fout : Nat) (pan : List Nat) (b : Bytes) (inKey : Bytes) (used : List KeyReg)
    (out : KeyReg) (s : State) : State :=
  let s := used.foldl (fun s kr => s.useKey k kr) s
  let f := pinField fin pan inKey b
  match pinDigits? fin f with
  | none => s.failCmd k 0x0110
  | some pin =>
    s.withDraw k (pinRandom fin fout) fun rnd s =>
      (s.useKey k out).succeed k (pinBlock fout pan out.record.material (pinReformat fin fout f pin rnd))

/-- PIN_TRANSLATE (0x1001; R182 to R186). -/
def execPinTranslate (slot : Nat) (s : State) : Answer :=
  .next (s.native slot 0x1001 (fun e => paramZero e pinNamed && pinFormat (e.p 0) && pinFormat (e.p 1))
    fun sl s =>
      let e := sl.entry
      s.pinPolicy slot sl (slice e.param 4 10) (some (e.p 1)) fun s =>
      s.withKeys slot sl (pinKey (e.p 0) usePinDecrypt) (pinKey (e.p 1) usePinEncrypt) fun a b s =>
        s.translatePin slot (e.p 0) (e.p 1) e.pan (s.inputOf slot sl) a.record.material [a] b)

/-- PIN_VERIFY_COMPARE (0x1002): the input is a PIN block under HANDLE0 and the reference block of the same
format under the PIN verification key HANDLE1 (R184 to R187). -/
def execPinVerifyCompare (slot : Nat) (s : State) : Answer :=
  .next (s.native slot 0x1002 (fun e => paramZero e pinNamed && pinFormat (e.p 0) && e.p 1 == 0)
    fun sl s =>
      let e := sl.entry
      let n := pinBlockLen (e.p 0)
      s.pinPolicy slot sl (slice e.param 4 10) none fun s =>
      s.withKeys slot sl (pinKey (e.p 0) usePinDecrypt) (pinKey (e.p 0) usePinVerify) fun a b s =>
        let inp := s.inputOf slot sl
        let s := (s.useKey slot a).useKey slot b
        match pinDigits? (e.p 0) (pinField (e.p 0) e.pan a.record.material (inp.take n)),
              pinDigits? (e.p 0) (pinField (e.p 0) e.pan b.record.material (inp.drop n)) with
        | some p, some q => s.succeed slot (verdict (p == q))
        | _, _ => s.failCmd slot 0x0110)

/-- PIN_VERIFY_OFFSET (0x1003): the input is a PIN block under HANDLE0, then the decimalisation table and the
offset for the PIN verification key HANDLE1 (R184 to R187). -/
def execPinVerifyOffset (slot : Nat) (s : State) : Answer :=
  .next (s.native slot 0x1003 (fun e => paramZero e pinNamed && pinFormat (e.p 0) && e.p 1 == 0)
    fun sl s =>
      let e := sl.entry
      let n := pinBlockLen (e.p 0)
      s.pinPolicy slot sl (slice e.param 4 10) none fun s =>
      s.withKeys slot sl (pinKey (e.p 0) usePinDecrypt) (fun r => typeSym r.type && r.permits usePinVerify)
        fun a b s =>
        let inp := s.inputOf slot sl
        let s := (s.useKey slot a).useKey slot b
        match pinDigits? (e.p 0) (pinField (e.p 0) e.pan a.record.material (inp.take n)) with
        | some p => s.succeed slot (verdict (Config.offsetOk b.record.material e.pan (inp.drop n) p))
        | none => s.failCmd slot 0x0110)

/-! ## DUKPT -/

/-- The KSN of PARAM bytes 4 to 15. -/
def Entry.ksn (e : Entry) : Bytes := slice e.param 4 (e.p 3)

/-- Whether KSN_LENGTH is 10 or 12 and the KSN is zero-padded. -/
def ksnOk (e : Entry) : Bool := (e.p 3 == 12) || (e.p 3 == 10 && e.p 14 == 0 && e.p 15 == 0)

/-- The PARAM bytes that 0x2001 to 0x2003 name. -/
def dukptNamed : List Nat := [3, 4, 5, 6, 7, 8, 9, 10, 11, 12, 13, 14, 15]

/-- Whether a base key serves a KSN: TDES with 10 bytes, AES with 12, and a use. -/
def baseKey (e : Entry) (uses : List Nat) (r : KeyRec) : Bool :=
  (if e.p 3 = 10 then typeTdes r.type else typeAes r.type) && uses.any r.permits

/-- End with 0x0303 where TDES DUKPT is not permitted (R186); otherwise go on. -/
def State.dukptPolicy (k : Nat) (sl : Slot) (f : State → State) (s : State) : State :=
  if sl.entry.p 3 = 10 ∧ s.tdesPermitted (s.domOf sl) = false then s.failCmd k 0x0303 else f s

/-- PIN_TRANSLATE_DUKPT (0x1004): the incoming block is under the DUKPT PIN key that the base key HANDLE0 gives
for the KSN; the PAN follows the block in the input (R182 to R186). -/
def execPinTranslateDukpt (slot : Nat) (s : State) : Answer :=
  .next (s.native slot 0x1004
    (fun e => pinFormat (e.p 0) && pinFormat (e.p 1) && ksnOk e)
    fun sl s =>
      let e := sl.entry
      let inp := s.inputOf slot sl
      let n := pinBlockLen (e.p 0)
      let pan := inp.drop n
      s.pinPolicy slot sl pan (some (e.p 1)) fun s =>
      s.dukptPolicy slot sl fun s =>
      s.withKeys slot sl
        (fun r => baseKey e [useDerive] r && (if e.p 0 = 4 then typeAes r.type else typeTdes r.type))
        (pinKey (e.p 1) usePinEncrypt) fun a b s =>
        s.translatePin slot (e.p 0) (e.p 1) ((nibbles pan).take (e.p 2)) (inp.take n)
          (Config.dukptKey 0 a.record.material e.ksn) [a] b)

/-- DUKPT_MAC_VERIFY (0x2001; R187). -/
def execDukptMacVerify (slot : Nat) (s : State) : Answer :=
  .next (s.native slot 0x2001 (fun e => paramZero e dukptNamed && ksnOk e) fun sl s =>
    s.dukptPolicy slot sl fun s =>
    s.withKey slot sl (baseKey sl.entry [useDerive, useMacVerify]) fun a s =>
      (s.useKey slot a).succeed slot (verdict
        (Config.dukptMacOk (Config.dukptKey 1 a.record.material sl.entry.ksn) (s.inputOf slot sl))))

/-- DUKPT_DECRYPT (0x2002). -/
def execDukptDecrypt (slot : Nat) (s : State) : Answer :=
  .next (s.native slot 0x2002 (fun e => paramZero e dukptNamed && ksnOk e) fun sl s =>
    s.dukptPolicy slot sl fun s =>
    s.withKey slot sl (baseKey sl.entry [useDerive, useDecrypt]) fun a s =>
      (s.useKey slot a).succeed slot
        (Config.dukptDecrypt (Config.dukptKey 2 a.record.material sl.entry.ksn) (s.inputOf slot sl)))

/-! ## EMV and card verification -/

/-- Whether a key serves a METHOD: 0x01 TDES, 0x02 AES. -/
def methodKey (m : Nat) (r : KeyRec) : Bool := if m = 1 then typeTdes r.type else typeAes r.type

/-- Whether METHOD is one of Table 5-6 and no other PARAM byte is set. -/
def methodOk (e : Entry) : Bool := paramZero e [0] && (e.p 0 == 1 || e.p 0 == 2)

/-- As `methodOk`, with 3 to 5 result digits in byte 1. -/
def cvvOk (e : Entry) : Bool :=
  paramZero e [0, 1] && (e.p 0 == 1 || e.p 0 == 2) && decide (3 ≤ e.p 1) && decide (e.p 1 ≤ 5)

/-- An EMV or card command under one key: METHOD 0x01 is a TDES path (R186). -/
def State.emvRun (k : Nat) (sl : Slot) (tdes : Bool) (ok : KeyRec → Bool) (f : KeyRec → Bytes → Bytes)
    (s : State) : State :=
  if tdes && !s.tdesPermitted (s.domOf sl) then s.failCmd k 0x0303 else
  s.withKey k sl ok fun a s => (s.useKey k a).succeed k (f a.record (s.inputOf k sl))

/-- ARQC_VERIFY (0x4001; R187). -/
def execArqcVerify (slot : Nat) (s : State) : Answer :=
  .next (s.native slot 0x4001 methodOk fun sl s =>
    s.emvRun slot sl (sl.entry.p 0 == 1) (fun r => methodKey (sl.entry.p 0) r && r.permits useEmv) fun r b =>
      verdict (Config.emvOk 0x4001 r.material (sl.entry.p 0) 0 b))

/-- ARPC_GENERATE (0x4002), methods 1 and 2. -/
def execArpcGenerate (slot : Nat) (s : State) : Answer :=
  .next (s.native slot 0x4002 methodOk fun sl s =>
    s.emvRun slot sl false (fun r => typeSym r.type && r.permits useEmv) fun r b =>
      Config.emv 0x4002 r.material (sl.entry.p 0) 0 b)

/-- EMV_SM_MAC (0x4003). -/
def execEmvSmMac (slot : Nat) (s : State) : Answer :=
  .next (s.native slot 0x4003 methodOk fun sl s =>
    s.emvRun slot sl (sl.entry.p 0 == 1) (fun r => methodKey (sl.entry.p 0) r && r.permits useEmv) fun r b =>
      Config.emv 0x4003 r.material (sl.entry.p 0) 0 b)

/-- EMV_SM_ENCRYPT (0x4004). -/
def execEmvSmEncrypt (slot : Nat) (s : State) : Answer :=
  .next (s.native slot 0x4004 methodOk fun sl s =>
    s.emvRun slot sl (sl.entry.p 0 == 1) (fun r => methodKey (sl.entry.p 0) r && r.permits useEncrypt) fun r b =>
      Config.emv 0x4004 r.material (sl.entry.p 0) 0 b)

/-- CVV_GENERATE (0x4005): 3 to 5 digits. -/
def execCvvGenerate (slot : Nat) (s : State) : Answer :=
  .next (s.native slot 0x4005 cvvOk fun sl s =>
    s.emvRun slot sl (sl.entry.p 0 == 1) (fun r => methodKey (sl.entry.p 0) r && r.permits useCard) fun r b =>
      fit (sl.entry.p 1) (Config.emv 0x4005 r.material (sl.entry.p 0) (sl.entry.p 1) b))

/-- CVV_VERIFY (0x4006; R187). -/
def execCvvVerify (slot : Nat) (s : State) : Answer :=
  .next (s.native slot 0x4006 cvvOk fun sl s =>
    s.emvRun slot sl (sl.entry.p 0 == 1) (fun r => methodKey (sl.entry.p 0) r && r.permits useCard) fun r b =>
      verdict (Config.emvOk 0x4006 r.material (sl.entry.p 0) (sl.entry.p 1) b))

end Sys2Proof.Machine
end

