-- ==== Sys2Proof/Machine/NativeKeys.lean ====
section
/-! DEFINITION. Native key-management opcodes: key blocks (R302 to R308), generation, deletion, check values,
legacy bindings (R195, R309, R698, R699), the DUKPT initial key, and RANDOM_GET. -/

namespace Sys2Proof.Machine

/-! ## Key blocks -/

/-- The value of a hexadecimal digit. -/
def hexDigit? (b : Byte) : Option Nat :=
  let n := b.toNat
  if 0x30 ≤ n ∧ n ≤ 0x39 then some (n - 0x30) else if 0x41 ≤ n ∧ n ≤ 0x46 then some (n - 0x37) else none

/-- The value of a string of digits in a base; nothing where a digit is not one of the base. -/
def digits? (base : Nat) (b : Bytes) : Option Nat :=
  b.foldl (fun acc x => match acc, hexDigit? x with
    | some v, some d => if d < base then some (base * v + d) else none
    | _, _ => none) (some 0)

/-- A hexadecimal digit in ASCII. -/
def hexChar (n : Nat) : Byte := BitVec.ofNat 8 (if n < 10 then 0x30 + n else 0x37 + n)

/-- n digits of a number in a base, most significant first, in ASCII. -/
def digitsOf (base : Nat) : Nat → Nat → Bytes
  | 0, _ => []
  | n + 1, v => digitsOf base n (v / base) ++ [hexChar (v % base)]

/-- The parts of a key block that its syntax gives (Table 7-14). -/
structure KeyBlock where
  usage : Bytes := []
  alg : Nat := 0
  mode : Nat := 0
  exportable : Nat := 0
  blocks : List (Bytes × Bytes) := []
  deriving DecidableEq, Repr

/-- The block size, and the characters of the MAC, of a version. -/
def keyblockSizes? (version : Nat) : Option (Nat × Nat) :=
  if version = 0x42 then some (8, 16) else if version = 0x43 then some (8, 8)
  else if version = 0x44 then some (16, 32) else none

/-- Whether an optional block's identifier is accepted (R305): the seven that X9.143 gives, and those that
begin with a digit. -/
def optionalOk (id : Bytes) : Bool :=
  [ascii "KC", ascii "KP", ascii "KS", ascii "IK", ascii "TS", ascii "HM", ascii "PB"].contains id
    || (let c := (byteAt id 0).toNat; decide (0x30 ≤ c) && decide (c ≤ 0x39))

/-- Read n optional blocks from an offset: identifiers with their data, and the offset after them. -/
def optionalBlocks (b : Bytes) : Nat → Nat → Option (List (Bytes × Bytes) × Nat)
  | 0, off => some ([], off)
  | n + 1, off =>
    let id := slice b off 2
    if !optionalOk id || b.length < off + 4 then none else
    match digits? 16 (slice b (off + 2) 2) with
    | none => none
    | some short =>
      let long := (digits? 16 (slice b (off + 4) 2)).getD 0
      let head := if short = 0 then 6 + long else 4
      let len? := if short = 0 then digits? 16 (slice b (off + 6) long) else some short
      match len? with
      | none => none
      | some len =>
        if len < head ∨ b.length < off + len then none else
        match optionalBlocks b n (off + len) with
        | none => none
        | some (t, e) => some ((id, slice b (off + head) (len - head)) :: t, e)

/-- NOT_BEFORE, NOT_AFTER and USE_LIMIT of block 9U, with no window and no limit where it is absent (R306). -/
def windowOf? (bs : List (Bytes × Bytes)) : Option (Nat × Nat × Nat) :=
  match bs.find? fun x => x.1 == ascii "9U" with
  | none => some (0, 0xFFFFFFFFFF, 0)
  | some (_, d) =>
    match digits? 16 (slice d 0 10), digits? 16 (slice d 10 10), digits? 16 (slice d 20 16) with
    | some nb, some na, some lim => if d.length = 36 ∧ nb < na then some (nb, na, lim) else none
    | _, _, _ => none

/-- Step 2 of R303: the header syntax, the optional blocks and the lengths. -/
def parseKeyBlock? (b : Bytes) : Option KeyBlock :=
  match keyblockSizes? (byteAt b 0).toNat, digits? 10 (slice b 1 4), digits? 10 (slice b 12 2) with
  | some (bs, mac), some len, some n =>
    match optionalBlocks b n 16 with
    | none => none
    | some (blocks, off) =>
      let enc := b.length - off - mac
      if len = b.length ∧ 16 ≤ b.length ∧ off % bs = 0 ∧ off + mac < b.length ∧ enc % (2 * bs) = 0
          ∧ ((b.drop off).all fun x => (hexDigit? x).isSome) = true ∧ (windowOf? blocks).isSome
          ∧ [0x45, 0x4E, 0x53].contains (byteAt b 11).toNat = true then
        some { usage := slice b 5 2, alg := (byteAt b 7).toNat, mode := (byteAt b 8).toNat,
               exportable := (byteAt b 11).toNat, blocks := blocks }
      else none
  | _, _, _ => none

/-- Whether Table 7-11 lists an algorithm letter: T, A, H, R, E. -/
def importAlg (alg : Nat) : Bool := [0x54, 0x41, 0x48, 0x52, 0x45].contains alg

/-- The TYPE that a listed algorithm letter and the length of a decrypted key fix (R304, Table 7-5). -/
def importType? (alg : Nat) (key : Bytes) : Option Nat :=
  let n := key.length
  let modulus := leField key 0 2
  match alg, n with
  | 0x54, 16 => some 1
  | 0x54, 24 => some 2
  | 0x41, 16 => some 3
  | 0x41, 24 => some 4
  | 0x41, 32 => some 5
  | 0x45, 32 => some 0x20
  | 0x45, 48 => some 0x21
  | 0x45, 66 => some 0x22
  | 0x45, 65 => some 0x28
  | 0x45, 97 => some 0x29
  | 0x45, 133 => some 0x2A
  | 0x48, _ => if 16 ≤ n ∧ n ≤ 64 then some 6 else none
  | 0x52, _ =>
    if rsaModulusOk 0x10 modulus && n == 2 + Config.rsaBodyBytes true modulus then some 0x10
    else if rsaModulusOk 0x11 modulus && n == 2 + Config.rsaBodyBytes false modulus then some 0x11
    else none
  | _, _ => none

/-- The USAGE of a key usage, an algorithm and a mode of use (Table 7-11). -/
def importUsage? (u : Bytes) (alg mode : Nat) : Option (BitVec 16) :=
  let c := (byteAt u 0).toNat
  let d := (byteAt u 1).toNat
  let ta := alg == 0x54 || alg == 0x41
  let pick := fun (a b : BitVec 16) =>
    if mode = 0x45 then some a else if mode = 0x44 then some b else if mode = 0x42 then some (a ||| b) else none
  if c = 0x42 ∧ d = 0x30 ∧ ta = true then if mode = 0x58 then some 0x0200 else none
  else if c = 0x4B ∧ (d = 0x30 ∨ d = 0x31) ∧ ta = true then pick 0x0010 0x0020
  else if c = 0x50 ∧ d = 0x30 ∧ ta = true then pick 0x0040 0x0080
  else if c = 0x56 ∧ 0x30 ≤ d ∧ d ≤ 0x32 ∧ ta = true then
    if mode = 0x43 ∨ mode = 0x56 then some 0x0100 else none
  else if c = 0x4D ∧ 0x30 ≤ d ∧ d ≤ 0x38 ∧ (ta = true ∨ alg = 0x48) then
    if mode = 0x47 then some 0x0004 else if mode = 0x56 then some 0x0008
    else if mode = 0x43 then some 0x000C else none
  else if c = 0x44 ∧ d = 0x30 ∧ ta = true then pick 0x0001 0x0002
  else if c = 0x43 ∧ d = 0x30 ∧ ta = true then
    if mode = 0x43 ∨ mode = 0x47 ∨ mode = 0x56 then some 0x2000 else none
  else if c = 0x45 ∧ 0x30 ≤ d ∧ d ≤ 0x32 ∧ ta = true then if mode = 0x58 then some 0x4200 else none
  else if c = 0x53 ∧ d = 0x30 ∧ (alg = 0x52 ∨ alg = 0x45) then
    if mode = 0x53 then some 0x0400 else if mode = 0x56 then some 0x0800 else none
  else if c = 0x44 ∧ d = 0x31 ∧ alg = 0x52 then if mode = 0x44 then some 0x0002 else none
  else none

/-- Whether the protection key's TYPE matches a version (Table 7-10). -/
def keyblockKey (version : Nat) (r : KeyRec) : Bool := if version = 0x44 then typeAes r.type else typeTdes r.type

/-- The key bytes of a decrypted key field: a 2-byte length in bits, then the key (step 5). -/
def keyOfField? (f : Bytes) : Option Bytes :=
  let n := beNat (f.take 2)
  if n % 8 = 0 ∧ n ≠ 0 ∧ n / 8 + 2 ≤ f.length then some ((f.drop 2).take (n / 8)) else none

/-- Whether an optional block KC or KP agrees with the check value of a key (R305, R698): two characters that name the
method, then the leftmost bytes of the check value in hexadecimal (the layout of X9.143). -/
def checkBlockOk (data : Bytes) (r : KeyRec) : Bool :=
  let n := (data.length - 2) / 2
  decide (2 < data.length) && data.drop 2 == ((keyCheckValue r).take n).flatMap fun x => digitsOf 16 2 x.toNat

/-- Whether the blocks of an identifier agree with a key. -/
def KeyBlock.checks (kb : KeyBlock) (id : Bytes) (r : KeyRec) : Bool :=
  kb.blocks.all fun x => x.1 != id || checkBlockOk x.2 r

/-- The record that a key block gives for a key of a TYPE, before its USAGE. -/
def KeyBlock.record (kb : KeyBlock) (dom t : Nat) (u : BitVec 16) (key : Bytes) : KeyRec :=
  let w := (windowOf? kb.blocks).getD (0, 0xFFFFFFFFFF, 0)
  let r := newRecord dom t (if kb.exportable = 0x45 then 2 else 0) 0 u false false w.1 w.2.1 w.2.2 key
  let ik := kb.blocks.find? fun x => x.1 == ascii "IK" || x.1 == ascii "KS"
  if u = 0x0200 then { r with initialKeyId := (ik.map (·.2)).getD [] } else r

/-- Steps 4 to 7 of R303 under a protection key: the status of the first failure, or the record. KP, and KC where the
key's TYPE is fixed, are compared in step 4; an algorithm letter that Table 7-11 does not list fails step 6. -/
def importRecord (dom : Nat) (kbpk : KeyRec) (b : Bytes) (kb : KeyBlock) : Status ⊕ KeyRec :=
  match Config.keyblockOpen (byteAt b 0).toNat kbpk.material b with
  | none => .inl 0x0213
  | some field =>
    if !kb.checks (ascii "KP") kbpk then .inl 0x0213 else
    match keyOfField? field with
    | none => .inl 0x0112
    | some key =>
      if !importAlg kb.alg then .inl 0x0204 else
      match importType? kb.alg key with
      | none => .inl 0x0112
      | some t =>
        if !kb.checks (ascii "KC") (kb.record dom t 0 key) then .inl 0x0213 else
        match importUsage? kb.usage kb.alg kb.mode with
        | none => .inl 0x0204
        | some u =>
          let r := kb.record dom t u key
          if !usageOk t u then .inl 0x0204
          else if kbpk.strength < r.strength then .inl 0x0215 else .inr r

/-- KEYBLOCK_IMPORT (0x3001): the steps of R303 under HANDLE0; result: the new handle (R300). -/
def execKeyblockImport (slot : Nat) (s : State) : Answer :=
  .next (s.native slot 0x3001 (paramZero · []) fun sl s =>
    let b := s.inputOf slot sl
    let version := (byteAt b 0).toNat
    if (version = 0x42 ∨ version = 0x43) ∧ s.tdesPermitted (s.domOf sl) = false then s.failCmd slot 0x0303 else
    s.withKey slot sl (fun _ => true) fun a s =>
      if (keyblockSizes? version).isNone then s.failCmd slot 0x0214 else
      match parseKeyBlock? b with
      | none => s.failCmd slot 0x0112
      | some kb =>
        if !(keyblockKey version a.record && a.record.permits useUnwrap) then s.failHandle slot 0x0204 0 else
        let s := s.useKey slot a
        match importRecord (s.domOf sl) a.record b kb with
        | .inl st => s.failCmd slot st
        | .inr r => match s.createKey r with
          | (.inl st, s) => s.failCmd slot st
          | (.inr h, s) => s.succeed slot (natLe 4 h.toNat))

/-- The mode of use of a USAGE that Table 7-11 gives as one bit, another, or both: E, D or B. -/
def modeOf (usage first : Nat) : Bytes := if usage = first then ascii "E" else if usage = 2 * first then ascii "D" else ascii "B"

/-- The key usage and mode of use of an exported key: Table 7-11 read backwards. Where several key usages or modes of a
row give one USAGE the choice among them is open, and where no row does, all of it. -/
def exportUse (r : KeyRec) : Bytes :=
  let u := r.usage.toNat
  let pick := Config.keyblockPick r.type r.usage
  let digit := fun n => digitsOf 10 1 (pick % n)
  let asym := typeRsa r.type || typeEcc r.type || r.type == 0x11 || (decide (0x28 ≤ r.type) && decide (r.type ≤ 0x2A))
  if typeSym r.type && u == 0x0200 then ascii "B0X"
  else if typeSym r.type && [0x10, 0x20, 0x30].contains u then ascii "K" ++ digit 2 ++ modeOf u 0x10
  else if typeSym r.type && [0x40, 0x80, 0xC0].contains u then ascii "P0" ++ modeOf u 0x40
  else if typeSym r.type && u == 0x0100 then ascii "V" ++ digit 3 ++ (if pick / 3 % 2 = 0 then ascii "C" else ascii "V")
  else if (typeSym r.type || typeHmac r.type) && [0x04, 0x08, 0x0C].contains u then
    ascii "M" ++ digit 9 ++ (if u = 0x04 then ascii "G" else if u = 0x08 then ascii "V" else ascii "C")
  else if typeSym r.type && [0x01, 0x02, 0x03].contains u then ascii "D0" ++ modeOf u 0x01
  else if typeSym r.type && u == 0x2000 then
    ascii "C0" ++ (if pick % 3 = 0 then ascii "C" else if pick % 3 = 1 then ascii "G" else ascii "V")
  else if typeSym r.type && u == 0x4200 then ascii "E" ++ digit 3 ++ ascii "X"
  else if asym && u == 0x0400 then ascii "S0S"
  else if asym && u == 0x0800 then ascii "S0V"
  else if typeRsa r.type && u == 0x0002 then ascii "D1D"
  else fit 3 (Config.keyblockUse r.type r.usage)

/-- The algorithm letter of a type. -/
def exportAlg (t : Nat) : Byte :=
  if typeTdes t then 0x54 else if typeAes t then 0x41 else if typeHmac t then 0x48
  else if typeRsa t || t == 0x11 then 0x52 else 0x45

/-- A key block: header, block 9U where a window or a limit asks for it (R308), padding block PB, then the
enciphered key data and the MAC. -/
def buildKeyBlock (version : Nat) (kbpk use3 : Bytes) (alg : Byte) (expo : Nat) (window : Option (Nat × Nat × Nat))
    (key : Bytes) (free : Nat) : Bytes :=
  let (bs, mac) := (keyblockSizes? version).getD (16, 32)
  let u := match window with
    | some (nb, na, lim) => ascii "9U28" ++ digitsOf 16 10 nb ++ digitsOf 16 10 na ++ digitsOf 16 16 lim
    | none => []
  let short := (bs - (16 + u.length) % bs) % bs
  let pad := if short = 0 then 0 else if short < 4 then short + bs else short
  let pb := if pad = 0 then [] else ascii "PB" ++ digitsOf 16 2 pad ++ List.replicate (pad - 4) 0x30
  let fieldLen := (key.length + 2 + bs - 1) / bs * bs
  let total := 16 + u.length + pb.length + 2 * fieldLen + mac
  let n := b2n window.isSome + b2n (pad != 0)
  let header := [BitVec.ofNat 8 version] ++ digitsOf 10 4 total ++ use3.take 2 ++ [alg] ++ use3.drop 2 ++ ascii "00"
    ++ [BitVec.ofNat 8 expo] ++ digitsOf 10 2 n ++ ascii "00" ++ u ++ pb
  header ++ fit (2 * fieldLen + mac)
    (Config.keyblockSeal version kbpk header (natBe 2 (8 * key.length) ++ key) free)

/-- KEYBLOCK_EXPORT (0x3002): HANDLE0 under HANDLE1 (R302, R307, R308). -/
def execKeyblockExport (slot : Nat) (s : State) : Answer :=
  .next (s.native slot 0x3002 (paramZero · []) fun sl s =>
    if !s.exportPermitted (s.domOf sl) then s.failCmd slot 0x0304 else
    s.withKeys slot sl (fun r => r.export == 2) (fun r => typeSym r.type && r.permits useWrap) fun a b s =>
      if b.record.strength < a.record.strength then s.failCmd slot 0x0215 else
      let r := a.record
      let w := if r.notBefore = 0 ∧ r.notAfter = 0xFFFFFFFFFF ∧ r.useLimit = 0 then none
        else some (r.notBefore, r.notAfter, r.useLimit)
      let v := s.free
      (v.2.useKey slot b).succeed slot
        (buildKeyBlock (if typeAes b.record.type then 0x44 else 0x42) b.record.material (exportUse r)
          (exportAlg r.type) 0x45 w r.bytes v.1))

/-- DUKPT_INITIAL_KEY (0x2003): the initial key that HANDLE0 gives for the KSN, in a key block under HANDLE1
(R186, R307). -/
def execDukptInitialKey (slot : Nat) (s : State) : Answer :=
  .next (s.native slot 0x2003 (fun e => paramZero e dukptNamed && ksnOk e) fun sl s =>
    s.dukptPolicy slot sl fun s =>
    s.withKeys slot sl (baseKey sl.entry [useDerive]) (fun r => typeSym r.type && r.permits useWrap) fun a b s =>
      let t := if sl.entry.p 3 = 10 then 1 else a.record.type
      let ik := fit ((typeLength? t).getD 0) (Config.dukptKey 3 a.record.material sl.entry.ksn)
      if b.record.strength < typeStrength t ik.length then s.failCmd slot 0x0215 else
      let v := s.free
      ((v.2.useKey slot a).useKey slot b).succeed slot
        (buildKeyBlock (if typeAes b.record.type then 0x44 else 0x42) b.record.material (ascii "B1X")
          (exportAlg t) 0x4E none ik v.1))

/-! ## Generation -/

/-- The record of a generated key from the PARAM of KEY_GENERATE, the layout of the attribute block's first 14
bytes (Tables 7-12 and R310): TYPE, EXPORT, USAGE, NOT_BEFORE, NOT_AFTER. -/
def attrRecord? (dom origin limit : Nat) (b material : Bytes) : Option KeyRec :=
  let t := leField b 0 1
  let ex := leField b 1 1
  let usage := BitVec.ofNat 16 (leField b 2 2)
  let nb := leField b 4 5
  let na := leField b 9 5
  if (ex = 0 ∨ ex = 2) ∧ usageOk t usage = true ∧ nb < na then
    some (newRecord dom t ex origin usage false false nb na limit material)
  else none

/-- Whether the PARAM of KEY_GENERATE is accepted (R280, R309): a private or symmetric TYPE, and a modulus for
an RSA key alone. -/
def generateOk (e : Entry) : Bool :=
  let t := e.p 0
  let modulus := leField e.param 14 2
  (attrRecord? 0 1 0 e.param []).isSome && !typePublic t
    && (if t = 0x10 then decide (2048 ≤ modulus) && decide (modulus ≤ 16384) && modulus % 64 == 0 else modulus == 0)

/-- The bytes that a key of a symmetric or SLH-DSA type draws. -/
def drawnLength (t : Nat) : Nat := if t = 6 then 16 + Config.hmacLength % 49 else (typeLength? t).getD 0

/-- The engine job of a generated key: kind and operation, with its LENGTH and PARAM; `none` for a key that is
drawn. -/
def generateJob? (e : Entry) : Option Job :=
  let t := e.p 0
  let mk := fun (h : Bool) (op len param : Nat) =>
    some { directJob h op with outMode := 1, length := len, param := param, attributes := e.param }
  if t = 0x10 then mk false opRsaKeygen (leField e.param 14 2 / 64) 0
  else if typeEcc t || typeEddsa t then mk false opEcKeygen 0 t
  else if typeMlkem t then mk true opMlkemKeygen 0 t
  else if typeMldsa t then mk true opMldsaKeygen 0 t
  else none

/-- KEY_GENERATE (0x3003): a new resident key with USE_LIMIT 0; result: the handle (R280, R298, R300, R309).
Symmetric and SLH-DSA keys are drawn; the others come from an engine. -/
def execKeyGenerate (slot : Nat) (s : State) : Answer :=
  .next (s.native slot 0x3003 generateOk fun sl s =>
    let t := sl.entry.p 0
    if s.antler.debug then s.failCmd slot 0x0310
    else if typeTdes t && !s.tdesPermitted (s.domOf sl) then s.failCmd slot 0x0303
    else match generateJob? sl.entry with
      | some j =>
        s.oneJob sl
          (fun s => s.startJob slot sl j none (opRandom j.operation j.length j.param 0))
          (fun j s => s.endOnJob slot j fun b => b.take 4)
      | none =>
        s.withDraw slot (drawnLength t) fun b s =>
          let m := if typeSlh t then fit ((typeLength? t).getD 0) (Config.slhKeygen t b) else b
          match attrRecord? (s.domOf sl) 1 0 sl.entry.param m with
          | none => s.failCmd slot 0x0106
          | some r =>
            let r := if typeSlh t then { r with paramSet := Config.slhParamSet t % 12 } else r
            match s.createKey r with
            | (.inl st, s) => s.failCmd slot st
            | (.inr h, s) => s.succeed slot (natLe 4 h.toNat))

/-! ## Deletion, check values, legacy indices -/

/-- KEY_DELETE (0x3004): empties the resident key's slot and advances its generation (R274); a persistent
handle is completed with 0x0307, ahead of the checks of the handle (R168, R309). -/
def execKeyDelete (slot : Nat) (s : State) : Answer :=
  .next (s.native slot 0x3004 (paramZero · []) fun sl s =>
    if (sl.entry.handle 0).getLsbD 31 then s.failCmd slot 0x0307 else
    match s.deletable (s.domOf sl) (sl.entry.handle 0) with
    | .inl st => s.failHandle slot st 0
    | .inr key => (s.deleteKey key).succeed slot [])

/-- KEY_CHECK_VALUE (0x3005): 3 to 8 bytes of the check value, by checks 1 to 5 and 8 of R224, charging no use
(R698, R699). -/
def execKeyCheckValue (slot : Nat) (s : State) : Answer :=
  .next (s.native slot 0x3005 (fun e => paramZero e [0] && decide (3 ≤ e.p 0) && decide (e.p 0 ≤ 8)) fun sl s =>
    match s.resolve (s.domOf sl) { window := false, usage := false } (sl.entry.handle 0) with
    | .missed key => s.parkMiss slot key
    | .failed st => s.failHandle slot st 0
    | .ok key r => (s.hit slot key).succeed slot ((keyCheckValue r).take (sl.entry.p 0)))

/-- KEY_BIND_LEGACY (0x3006): binds HANDLE0 to the index in PARAM bytes 0–1 of the domain's map (R195). -/
def execKeyBindLegacy (slot : Nat) (s : State) : Answer :=
  .next (s.native slot 0x3006 (paramZero · [0, 1]) fun sl s =>
    s.withKey slot sl (fun _ => true) fun _ s =>
      let d := s.domOf sl
      let m := tset (tget s.sett.legacy d []) (leField sl.entry.param 0 2) (sl.entry.handle 0)
      let i := leField sl.entry.param 0 2
      (({ s with sett.legacy := tset s.sett.legacy d m } : State).storeLegacy d i).succeed slot [])

/-! ## Random bytes -/

/-- RANDOM_GET (0x7001): 1 to 4,096 bytes drawn from Squirrel (R401, R403). -/
def execRandomGet (slot : Nat) (s : State) : Answer :=
  .next (s.native slot 0x7001
    (fun e => paramZero e [0, 1] && decide (1 ≤ leField e.param 0 2) && decide (leField e.param 0 2 ≤ 4096))
    fun sl s => s.withDraw slot (leField sl.entry.param 0 2) fun b s => s.succeed slot b)

end Sys2Proof.Machine
end

