-- ==== Sys2Proof/Machine/NativeMac.lean ====
section
/-! DEFINITION. Native opcodes on the hash, MAC and block units: MACs and hashes, whole or in streams (R187 to
R189, R252 to R260, R700), ENCRYPT and DECRYPT, and SLH-DSA, which runs on the cores' hash pipes. -/

namespace Sys2Proof.Machine

/-! ## MACs and hashes -/

/-- The PARAM bytes of 0x5001 and 0x5002. -/
def macNamed : List Nat := [0, 1, 12, 13, 14, 15]

/-- Whether ALG and MAC length are ones of Table 5-6. -/
def macOk (e : Entry) : Bool :=
  paramZero e macNamed && algKeyed (e.p 0) && decide (4 ≤ e.p 1) && decide (e.p 1 ≤ algLen (e.p 0))

/-- Whether a part is the last, or the command is whole. -/
def Entry.finalPart (e : Entry) : Bool := e.streamPart == 0 || e.streamPart == 3

/-- End a part that a pipe has absorbed: a first or middle part stores the pipe and has no result (R254); the
last, or the whole command, gives what `f` makes of the pipe's output. -/
def State.endPart (k : Nat) (sl : Slot) (p : Pipe) (f : Bytes → Bytes) (s : State) : State :=
  let s := s.modCtx k fun x => x.setPipe (pipeOf p.alg) (some p)
  let sl := { sl with ctx := sl.ctx.setPipe (pipeOf p.alg) (some p) }
  let s := s.streamEpilogue sl
  s.succeed k (if sl.entry.finalPart then f p.out else [])

/-- Whether a key serves a keyed ALG and one of two uses (R228, R700). -/
def macKey (alg u : Nat) (r : KeyRec) : Bool := algType alg r.type && r.permits u

/-- A MAC command: TDES algorithms where permitted (R186); a whole command or a first part resolves its key
and commits one use (R255), a later part goes on with the pipe that the prologue loaded (R253). -/
def State.macRun (k : Nat) (sl : Slot) (u : Nat) (data : Bytes) (f : Bytes → Bytes) (s : State) : State :=
  let alg := sl.entry.p 0
  if (alg == 0x02 || alg == 0x03) && !s.tdesPermitted (s.domOf sl) then s.failCmd k 0x0303
  else if sl.entry.streamPart = 0 ∨ sl.entry.streamPart = 1 then
    s.withKey k sl (macKey alg u) fun a s =>
      (s.useKey k a).endPart k sl { alg := alg, key := some a.record, absorbed := data } f
  else match sl.ctx.rpipe (pipeOf alg) with
    | some p =>
      if (p.key.map (macKey alg u)).getD false then s.endPart k sl { p with absorbed := p.absorbed ++ data } f
      else s.failHandle k 0x0204 0
    | none => s.failHandle k 0x0204 0

/-- MAC_GENERATE (0x5001). -/
def execMacGenerate (slot : Nat) (s : State) : Answer :=
  .next (s.native slot 0x5001 macOk fun sl s =>
    s.macRun slot sl useMacGen (s.inputOf slot sl) fun b => b.take (sl.entry.p 1))

/-- MAC_VERIFY (0x5002): the MAC is the last MAC-length bytes of the input of the whole command or the last
part (R187). -/
def execMacVerify (slot : Nat) (s : State) : Answer :=
  .next (s.native slot 0x5002 macOk fun sl s =>
    let inp := s.inputOf slot sl
    let n := if sl.entry.finalPart then inp.length - sl.entry.p 1 else inp.length
    s.macRun slot sl useMacVerify (inp.take n) fun b => verdict (b.take (sl.entry.p 1) == inp.drop n))

/-- HASH (0x5005). -/
def execHash (slot : Nat) (s : State) : Answer :=
  .next (s.native slot 0x5005 (fun e => paramZero e [0, 12, 13, 14, 15] && algHash (e.p 0)) fun sl s =>
    let alg := sl.entry.p 0
    let old := if sl.entry.streamPart = 0 ∨ sl.entry.streamPart = 1 then []
      else ((sl.ctx.rpipe (pipeOf alg)).map (·.absorbed)).getD []
    s.endPart slot sl { alg := alg, absorbed := old ++ s.inputOf slot sl } id)

/-! ## ENCRYPT and DECRYPT -/

/-- Whether PARAM is one of 0x5003 and 0x5004. -/
def cryptOk (e : Entry) : Bool :=
  paramZero e [0, 1, 2, 3, 4, 5, 6, 7, 8, 9, 10, 11, 12] && decide (0x30 ≤ e.p 0) && decide (e.p 0 ≤ 0x33)

/-- The length of the output: GCM's tag ends the output of ENCRYPT and the input of DECRYPT. -/
def cryptLen (decrypt : Bool) (alg n : Nat) : Nat :=
  if alg = 0x32 then if decrypt then n - 16 else n + 16 else n

/-- The status of a DECRYPT whose GCM tag does not verify: one of those that a completion entry may carry (R201); which
one is free, since Table 5-11 names none for it. -/
def gcmStatus : Status :=
  let l := doneStatuses.filter (· != 0)
  BitVec.ofNat 16 (l.getD (Config.gcmStatus % l.length) 0x0106)

/-- ENCRYPT or DECRYPT under HANDLE0. -/
def State.cryptRun (k : Nat) (sl : Slot) (decrypt : Bool) (s : State) : State :=
  let alg := sl.entry.p 0
  if alg = 0x33 ∧ s.tdesPermitted (s.domOf sl) = false then s.failCmd k 0x0303 else
  s.withKey k sl (fun r => (if alg = 0x33 then typeTdes r.type else typeAes r.type)
      && r.permits (if decrypt then useDecrypt else useEncrypt)) fun a s =>
    let inp := s.inputOf k sl
    let s := s.useKey k a
    let out := Config.cipherMode decrypt alg a.record.material (slice sl.entry.param 1 12) inp
    if decrypt && alg == 0x32 && out.isNone then s.failCmd k gcmStatus
    else s.succeed k (fit (cryptLen decrypt alg inp.length) (out.getD []))

/-- ENCRYPT (0x5003). -/
def execEncrypt (slot : Nat) (s : State) : Answer :=
  .next (s.native slot 0x5003 cryptOk fun sl s => s.cryptRun slot sl false)

/-- DECRYPT (0x5004). -/
def execDecrypt (slot : Nat) (s : State) : Answer :=
  .next (s.native slot 0x5004 cryptOk fun sl s => s.cryptRun slot sl true)

/-! ## SLH-DSA -/

/-- The bytes of an SLH-DSA signature, by parameter set in the order of FIPS 205: SHA2 and SHAKE at 128s, 128f,
192s, 192f, 256s, 256f. -/
def slhLen (set : Nat) : Nat :=
  match set % 12 / 2 with
  | 0 => 7856 | 1 => 17088 | 2 => 16224 | 3 => 35664 | 4 => 29792 | _ => 49856

/-- SLHDSA_SIGN (0x6024). -/
def execSlhdsaSign (slot : Nat) (s : State) : Answer :=
  .next (s.native slot 0x6024 (paramZero · []) fun sl s =>
    s.withKey slot sl (fun r => typeSlh r.type && r.permits useSign) fun a s =>
      let r := a.record
      (s.useKey slot a).succeed slot
        (fit (slhLen r.paramSet) (Config.slhSign r.type r.paramSet r.bytes (s.inputOf slot sl))))

/-- SLHDSA_VERIFY (0x6025): the signature ends the input (R187). -/
def execSlhdsaVerify (slot : Nat) (s : State) : Answer :=
  .next (s.native slot 0x6025 (paramZero · []) fun sl s =>
    s.withKey slot sl (fun r => (r.type == 0x44 || r.type == 0x45 || r.type == 0x46) && r.permits useVerify)
      fun a s =>
        let r := a.record
        let inp := s.inputOf slot sl
        let n := inp.length - slhLen r.paramSet
        (s.useKey slot a).succeed slot (verdict
          (decide (slhLen r.paramSet ≤ inp.length)
            && Config.slhCheck r.type r.paramSet r.bytes (inp.take n) (inp.drop n))))

end Sys2Proof.Machine
end

