-- ==== Sys2Proof/Machine/NativeLegacy.lean ====
section
/-! DEFINITION. The TSM-3300 compatibility personality (R192 to R195). The places of fields inside DATA are not
stated: `Config.legacyIndices`, `legacyParam` and `legacyInput` give the native command that a frame stands for, and
`legacyData` the answer (log entry 98). -/

namespace Sys2Proof.Machine

/-- Whether SYNC and CRC of a frame are right. -/
def frameIntact (f : Bytes) : Bool :=
  beNat (slice f 0 2) == 0x33A5 && crc16 (f.take 126) == beNat (slice f 126 2)

/-- What Table 5-9 makes of a legacy command code: the native opcodes of its group, or the status of a refused or
undefined code. -/
def legacyGroup (code : Nat) : Status ⊕ List Nat :=
  if code = 0x0014 then .inl 0x0332
  else if code = 0x0028 then .inl 0x0330
  else if code / 16 = 1 then .inr [0x3001, 0x3002, 0x3003, 0x3004, 0x3005]
  else if code / 16 = 2 then .inr [0x1001, 0x1002, 0x1003, 0x1004]
  else if code / 16 = 3 then .inr [0x5001, 0x5002]
  else if code / 16 = 4 then .inr [0x4005, 0x4006]
  else if code / 16 = 5 then .inr [0x4001, 0x4002]
  else if code / 16 = 6 then .inl 0x0331
  else if code / 16 = 15 then .inl 0x0333
  else .inl 0x0102

/-- The native opcode that a command code of a group stands for. -/
def legacyOpcode (code : Nat) (group : List Nat) : Nat := group.getD (Config.legacyChoice code % group.length) 0

/-- What Table 5-9 narrows of a native command: PIN formats 0, 1 and 3, and MACs under TDES. -/
def legacyParamOk (e : Entry) : Bool :=
  if 0x1001 ≤ e.opcode ∧ e.opcode ≤ 0x1004 then e.p 0 != 4 && e.p 1 != 4
  else if e.opcode = 0x5001 ∨ e.opcode = 0x5002 then e.p 0 == 2 || e.p 0 == 3
  else true

/-- The handles that a domain's map gives for the key indices of a frame (R195): nothing where one is unbound. -/
def State.legacyHandles? (s : State) (dom : Nat) (l : List Nat) : Option (List (BitVec 32)) :=
  l.mapM fun i => tget? (tget s.sett.legacy dom []) (i % 65536)

/-- The entry of the native command that a frame stands for. -/
def legacyEntry (f : Bytes) (op : Nat) (handles : List (BitVec 32)) : Entry :=
  { opcode := op, flags := BitVec.ofNat 16 (16 * handles.length),
    handles := handles ++ List.replicate (4 - handles.length) 0, inLength := (Config.legacyInput f).length,
    outLength := 118, param := fit 16 (Config.legacyParam f) }

/-- Run the native program that a compatibility command stands for. -/
def runLegacy (op slot : Nat) (s : State) : Answer :=
  match op with
  | 0x1001 => execPinTranslate slot s
  | 0x1002 => execPinVerifyCompare slot s
  | 0x1003 => execPinVerifyOffset slot s
  | 0x1004 => execPinTranslateDukpt slot s
  | 0x3001 => execKeyblockImport slot s
  | 0x3002 => execKeyblockExport slot s
  | 0x3003 => execKeyGenerate slot s
  | 0x3004 => execKeyDelete slot s
  | 0x3005 => execKeyCheckValue slot s
  | 0x4001 => execArqcVerify slot s
  | 0x4002 => execArpcGenerate slot s
  | 0x4005 => execCvvGenerate slot s
  | 0x4006 => execCvvVerify slot s
  | 0x5001 => execMacGenerate slot s
  | 0x5002 => execMacVerify slot s
  | _ => .next s

/-- A frame whose SYNC, CRC and DATA_LENGTH are right: the command becomes the native command that the frame stands for.
A refused or undefined code, a domain without TDES_PERMITTED, and an unbound index end it (R186, R194, R195). -/
def State.decideFrame (slot : Nat) (sl : Slot) (f : Bytes) (s : State) : State :=
  let code := beNat (slice f 2 2)
  let become := fun (e : Entry) (s : State) =>
    s.modSlot slot fun sl => { sl with legacy := some { frame := f, entry := e, input := Config.legacyInput f } }
  let refuse := fun (st : Status) => (become {} s).failCmd slot st
  match legacyGroup code with
  | .inl st => refuse st
  | .inr group =>
    if !s.tdesPermitted (s.domOf sl) then refuse 0x0303 else
    let op := legacyOpcode code group
    let n := (nativeHandles? op).getD 0
    match s.legacyHandles? (s.domOf sl) ((List.range n).map fun i => (Config.legacyIndices f).getD i 0) with
    | none => refuse 0x0206
    | some hs =>
      let e := legacyEntry f op hs
      if legacyParamOk e then become e s else refuse 0x0106

/-- TSM3300_FRAME (opcode 0x3300 of the compatibility personality; R192 to R195): the first run decides the frame, and
each run goes on with the native program that it stands for. -/
def execTsm3300Frame (slot : Nat) (s : State) : Answer :=
  match s.slot? slot with
  | none => .next s
  | some sl =>
    if !sl.runsNative 2 0x3300 then .next s else
    match sl.legacy with
    | some c => runLegacy c.entry.opcode slot s
    | none =>
      let s :=
        if sl.entry.inLength ≠ 128 then s.failCmd slot 0x0105
        else if !paramZero sl.entry [] then s.failCmd slot 0x0106
        else if sl.entry.outLength < 128 then s.endLen slot 0x0104 128 [] []
        else s.withInput slot sl fun s =>
          let f := s.inputOf slot sl
          if !frameIntact f then s.failCmd slot 0x0130
          else if 118 < leField f 7 1 then s.failCmd slot 0x0131
          else s.decideFrame slot sl f
      match (s.slot? slot).bind (·.legacy) with
      | some c => runLegacy c.entry.opcode slot s
      | none => .next s

end Sys2Proof.Machine
end

