-- ==== Sys2Proof/Machine/RingOps.lean ====
section
/-! DEFINITION. What the host side of the block shares: which registers it presents (R36, R487, R695), writes to
host memory with the dirty-page log (R438, R439), scatter lists (R165, R166), the progress word (Table 4-3),
stride arbitration (R146 to R149) and the prologue of a stream part (R252, R253). -/

namespace Sys2Proof.Machine

/-! ## Presented registers -/

/-- Whether an offset of the den BAR0 lies in the DEV_, GST_, LDG_, EVR_, TMP_ or LCS_ block: those that a
lodgeless device (R103) and a latched device (R548) present. -/
def coreBlocks (off : Nat) : Bool :=
  off < 0x100000 || (0x400000 ≤ off && off < 0x500000) || (0x600000 ≤ off && off < 0x900000)

/-- Whether the registers at an offset of a function's BAR0 are presented (R103, R409, R487, R494, R548). -/
def State.presented (s : State) (f off : Nat) : Bool :=
  if f = 0 then
    match s.boot.phase with
    | .ready => coreBlocks off || (s.lodge.inForce.isSome && (!s.tamper.locked || s.tamper.response == 1))
    | .recovery => decide (off < 0x10000)
    | _ => false
  else s.boot.phase == .ready && s.cub.vfEnable && decide (f < s.cub.numVfs) && decide (f < Config.functions)

/-- The offset of a ring register of a function in its BAR0 (Tables 4-6 and 4-18). -/
def ringOff (f off : Nat) : Nat := if f = 0 then hifBase + off else off

/-- Whether a function's ring registers are presented. -/
def State.ringShown (s : State) (f : Nat) : Bool := s.presented f (ringOff f 0x11C)

/-! ## Writes to host memory -/

/-- Mark one page of a log (R438). -/
def DirtyLog.mark (l : DirtyLog) (page : Nat) : DirtyLog :=
  let i := page - l.base / 4096
  { l with bitmap := tupd l.bitmap (i / 8) 0 fun b => b ||| BitVec.ofNat 8 (2 ^ (i % 8)) }

/-- The pages of 4 KiB that a write touches. -/
def pagesOf (addr len : Nat) : List Nat :=
  if len = 0 then [] else
  (List.range ((addr + len - 1) / 4096 - addr / 4096 + 1)).map (addr / 4096 + ·)

/-- Log a write in a function's dirty-page log (R438, R439). -/
def FnState.dirtied (v : FnState) (addr len : Nat) : FnState :=
  match v.dirty with
  | none => v
  | some l =>
    let inside := fun p => decide (l.base / 4096 ≤ p) && decide (p < l.base / 4096 + l.pages)
    let ps := pagesOf addr len
    { v with dirty := some ((ps.filter inside).foldl DirtyLog.mark l),
             dirtyOutside := v.dirtyOutside || ps.any fun p => !inside p }

/-- Log a device write on behalf of a function, one that ends in an error included: part of it may have landed (R171,
R438). -/
def State.dirtied (f addr len : Nat) (s : State) : State := s.setFn f ((s.fnSt f).dirtied addr len)

/-- A device write to host memory on behalf of a function, with or without Relaxed Ordering. -/
def State.dmaOut (f addr : Nat) (relaxed : Bool) (data : Bytes) (s : State) : State :=
  (s.dirtied f addr data.length).emit (.hostWrite f addr relaxed data)

/-- A write that is no command result data (R118). -/
def State.dmaWrite (f addr : Nat) (data : Bytes) (s : State) : State := s.dmaOut f addr false data

/-- A write of command result data: it carries Relaxed Ordering while the function's Device Control enables it (R118). -/
def State.dmaResult (f addr : Nat) (data : Bytes) (s : State) : State := s.dmaOut f addr (s.fnSt f).relaxed data

/-- Write result data into the segments of an output scatter list in order. -/
def State.dmaScatter (f : Nat) : List (Nat × Nat) → Bytes → State → State
  | [], _, s => s
  | (a, n) :: t, b, s =>
    if b.isEmpty then s else State.dmaScatter f t (b.drop n) (s.dmaResult f a (b.take n))

/-- A PCI Express error of a function: it is reported through the physical function's AER as a non-fatal error of that
function, and never as a fatal one (R414). -/
def State.pcieError (f : Nat) (s : State) : State :=
  (s.setFn f { s.fnSt f with nonFatal := true }).emit (.nonFatal f)

/-! ## Scatter lists -/

/-- The elements of a scatter list whose lengths add up to a total, in order; `none` where it is malformed
(R166). `n` counts the elements that may still be read. -/
def scatter? : Nat → Nat → Bytes → Option (List (Nat × Nat))
  | _, 0, _ => some []
  | 0, _, _ => none
  | n + 1, total, b =>
    let len := leField b 8 4
    if len = 0 ∨ leField b 12 4 ≠ 0 ∨ total < len then none
    else (scatter? n (total - len) (b.drop 16)).map fun l => (leField b 0 8, len) :: l

/-- A scatter list of at most 64 elements at an aligned address. -/
def scatterList? (addr : Word) (total : Nat) (b : Bytes) : Option (List (Nat × Nat)) :=
  if addr.toNat % 16 ≠ 0 then none else scatter? 64 total b

/-- Log the pages of a result whose write ends in an error. -/
def State.dirtyScatter (f : Nat) : List (Nat × Nat) → Nat → State → State
  | [], _, s => s
  | (a, n) :: t, len, s => if len = 0 then s else State.dirtyScatter f t (len - n) (s.dirtied f a (min len n))

/-! ## Positions and the progress word -/

/-- Whether a free completion position exists (R126). -/
def Ring.cqFree (r : Ring) : Bool := (r.cqWrite + 1) % r.cqSize != r.cqHead

/-- Whether a completion may leave this half: outside a pair's active always; on the active once the standby's
RESULT agrees (R622). -/
def State.confirmed (s : State) (k : Nat) : Bool :=
  !s.leads ||
    match s.pairCommand? k with
    | some c => c.diverged || (c.ownHash.isSome && c.ownHash == c.peerHash)
    | none => true

/-- Whether a completion of a function waits for a free completion position. -/
def State.cqStall (s : State) (f : Nat) : Bool :=
  !(s.ring f).cqFree
    && ((s.slotsOf f).any (fun e => e.2.phase == .ended && s.confirmed e.1) || s.host.due.any (·.fn == f))

/-- Entries of a function that are admitted and not counted yet (R623). -/
def State.uncounted (s : State) (f : Nat) : Nat :=
  if s.leads then (s.pair.commands.filter fun c => c.fn == f && !c.counted).length else 0

/-- SQ_FETCHED. -/
def State.sqFetchedOf (s : State) (f : Nat) : Nat := ((s.ring f).sqFetched + 65536 - s.uncounted f) % 65536

/-- SQ_HEAD: the next submission entry to fetch; a fetch in flight has not consumed its entry. -/
def State.sqHeadOf (s : State) (f : Nat) : Nat :=
  let r := s.ring f
  let flying := ((s.slotsOf f).filter fun e => e.2.phase == .fetching && !e.2.cancelled).length
  (r.sqHead + 512 * r.sqSize - flying - s.uncounted f) % r.sqSize

/-- STATE of the progress word (Table 4-3). -/
def State.ringState (s : State) (f : Nat) : Nat :=
  let r := s.ring f
  if !r.enabled then 0 else if !r.enable then 2 else if s.fnHeld f then 3 else 1

/-- The progress word of a function without its SEQ (Table 4-3). -/
def State.pwFields (s : State) (f : Nat) : Nat :=
  let r := s.ring f
  s.sqFetchedOf f + r.cqWritten % 65536 * 2 ^ 16 + s.inFlight f % 512 * 2 ^ 32 + b2n (s.cqStall f) * 2 ^ 41
    + b2n r.fetchError * 2 ^ 42 + b2n r.dbError * 2 ^ 43 + s.ringState f * 2 ^ 44

/-! ## Undelivered writes -/

/-- The offset of a function's CUBT_ entry. -/
def cubtBase (f : Nat) : Nat := 0x200000 + f * 0x200

/-- Count and record a write that is not delivered (R415): kind 0 a completion entry, 1 a progress word. -/
def State.undelivered (f tag kind : Nat) (s : State) : State :=
  let c := SatCount.add count31 1 (s.fnSt f).undelivered
  let s := (s.setFn f { s.fnSt f with undelivered := c.1 }).saturated c.2 0x200000 (f * 0x200 + 0x14)
  s.raise 0x11 (natLe 2 f ++ natLe 1 tag ++ natLe 1 kind)

/-- A completion that is not written: its slot is released (R21, R415), and a reset that covers the function
counts it. -/
def State.dropCompletion (k : Nat) (s : State) : State :=
  match s.slot? k with
  | none => s
  | some sl =>
    let s := s.undelivered sl.fn sl.entry.tag 0
    let v := s.fnSt sl.fn
    let op := fun r : ResetOp => { r with undelivered := r.undelivered + 1 }
    let s := s.setFn sl.fn { v with resets := v.resets.map op }
    s.releaseSlot k

/-! ## Arbitration -/

/-- Whether virtual time a lies before b (R149). -/
def vtBefore (a b : BitVec 32) : Bool := (a - b).msb

/-- The stride of a weight. -/
def strideOf (weight : Nat) : Nat := 1048576 / weight

/-- Take note of which cubs are eligible: one that becomes eligible takes the greater of its VT and GV
(R148). A cub without a record is not eligible. -/
def State.noteEligible (s : State) : State :=
  ((s.host.rings.map Prod.fst).filter (· != 0)).foldl (fun s f =>
    let r := s.ring f
    let e := s.eligible f
    if e = r.wasEligible then s
    else s.setRing f { r with wasEligible := e,
                              vt := if e && vtBefore r.vt s.host.gv then s.host.gv else r.vt }) s

/-- The eligible cub with the smallest VT, the lowest number among equals (R147). -/
def State.nextCub? (s : State) : Option Nat :=
  (s.cubs.filter fun f => s.eligible f).foldl (fun o f =>
    match o with
    | none => some f
    | some g => if vtBefore (s.ring f).vt (s.ring g).vt then some f else some g) none

/-! ## Streams -/

/-- Whether the program of a slot's command is flagged STREAM (Table 2-11). -/
def State.streamable (s : State) (sl : Slot) : Bool :=
  match s.persRec? sl.entry.persId with
  | none => false
  | some pr => ((s.program pr sl.entry.opcode).map fun x => x.flags.getLsbD 2).getD false

/-- The open stream that a slot's command names. -/
def State.stream? (s : State) (sl : Slot) : Option StreamCtx :=
  s.host.streams.find? fun x => x.fn == sl.fn && x.streamId == sl.entry.streamId

/-- The first instruction of a program is about to run. -/
def State.begin (k : Nat) (s : State) : State :=
  s.modSlot k fun sl => { sl with started := true, ctx := { sl.ctx with firstAt := s.now } }

/-- Load the pipe of a stream and begin the part (R253). -/
def State.loadStream (k : Nat) (c : StreamCtx) (s : State) : State :=
  (s.modCtx k fun x => x.setPipe (pipeOf c.alg) c.pipe).begin k

/-- Before the first instruction of a middle or last part, the prologue re-resolves the stream's key without
counting a use, and loads the pipe (R253). -/
def State.resumeStream (k : Nat) (sl : Slot) (c : StreamCtx) (s : State) : State :=
  if c.handleCount = 0 then s.loadStream k c else
  match s.resolve (s.cmdDomain sl.fn) { usage := false } c.handle with
  | .missed key => s.parkMiss k key
  | .failed st => s.failHandle k st 0
  | .ok key _ => (s.hit k key).loadStream k c

/-- The open streams of a function: those with a stored context, and those whose first part runs (R252). -/
def State.openStreams (s : State) (f : Nat) : Nat :=
  (s.host.streams.filter fun x => x.fn == f).length
    + ((s.slotsOf f).filter fun e => e.2.started && e.2.phase != .ended && e.2.entry.streamPart == 1).length

/-- The prologue's treatment of STREAM_PART (R188, R252, R253, R258, R260): a part that fails here leaves the
stream open unchanged (R259). -/
def State.streamPrologue (k : Nat) (s : State) : State :=
  match s.slot? k with
  | none => s
  | some sl =>
    let e := sl.entry
    if e.streamPart = 0 then s.begin k
    else if !s.streamable sl || sl.streamClash then s.failCmd k 0x0502
    else match s.stream? sl with
      | none =>
        if e.streamPart ≠ 1 then s.failCmd k 0x0502
        else if 64 ≤ s.openStreams sl.fn then s.failCmd k 0x0501
        else s.begin k
      | some c =>
        if e.streamPart = 1 ∨ c.alg ≠ e.p 0 ∨ c.handle ≠ e.handle 0 then s.failCmd k 0x0502
        else s.resumeStream k sl c

end Sys2Proof.Machine
end

