-- ==== Sys2Proof/Machine/StoreOps.lean ====
section
/-! DEFINITION. What the device keeps in the persistent store: the plaintext forms of key and enrolment records
(Tables 7-4 and 8-4), their page commits (R283, R291, R333), and the objects of the counters and configuration
region ("Larders, Persistent Store, DRAM and Badger Gates"). -/

namespace Sys2Proof.Machine

/-! ## Records as bytes -/

/-- The record in 112 bytes; `none` for an empty slot (STATE 0). -/
def parseKeyRec? (b : Bytes) : Option KeyRec :=
  if leField b 3 1 = 0 then none else
  some { domain := leField b 0 2, generation := leField b 2 1, state := if leField b 3 1 = 1 then .valid else .failed,
         type := leField b 4 1, usage := BitVec.ofNat 16 (leField b 6 2), attrs := BitVec.ofNat 16 (leField b 8 2),
         notBefore := leField b 0xA 5, paramSet := leField b 0xF 1, notAfter := leField b 0x10 5,
         useLimit := leField b 0x18 8, useCount := leField b 0x20 8,
         material := slice b 0x30 (min 64 (leField b 5 1)) }

/-- The 48 bytes of an enrolment record (Table 8-4). -/
def Enrolment.toBytes (e : Enrolment) : Bytes :=
  fit 16 e.tokenId ++ fit 16 e.keyDigest ++ natLe 2 e.domain ++ natLe 1 e.custodian ++ natLe 5 e.expiry
    ++ natLe 3 e.useLimit ++ natLe 3 e.useCount ++ zeros 2

/-- The enrolment in 48 bytes; all zero for an empty slot (R429). -/
def parseEnrolment? (b : Bytes) : Option Enrolment :=
  if allZero (b.take 48) then none else
  some { tokenId := slice b 0 16, keyDigest := slice b 0x10 16, domain := leField b 0x20 2,
         custodian := leField b 0x22 1, expiry := leField b 0x23 5, useLimit := leField b 0x28 3,
         useCount := leField b 0x2B 3 }

/-! ## Page commits -/

/-- The stored 128 bytes of a master-key slot; zero for an empty one. -/
def State.storedMaster (s : State) (i : Nat) : Bytes :=
  match (s.keySlot (persistentBase + i)).record with
  | some r => s.sealMaster i r.toBytes
  | none => zeros 128

/-- Commit the page that holds a master-key slot (R283, R291). -/
def State.commitMaster (k : KeyId) (s : State) : State :=
  let i := k - persistentBase
  s.requestCommit { page := i / 2 % 65536, source := .sett,
                    bytes := s.storedMaster (i / 2 * 2) ++ s.storedMaster (i / 2 * 2 + 1) }

/-- The objects of the counters and configuration region. -/
abbrev objLodge : Nat := 0
/-- Enrolment records. -/
abbrev objEnrolment : Nat := 1
/-- The anti-rollback counter. -/
abbrev objRollback : Nat := 2
/-- The firmware slot record. -/
abbrev objSlots : Nat := 3
/-- The time floor. -/
abbrev objTime : Nat := 4
/-- The migration identity and departing domains. -/
abbrev objMigration : Nat := 5
/-- Life-cycle and debug counters. -/
abbrev objLife : Nat := 6

/-- The page of an object of the counters and configuration region. -/
def objectPage (kind index : Nat) : Nat := 98304 + Config.controllerPage kind index % 4096

/-- The page of the time floor, which R464 names. -/
def timeFloorPage : Nat := objectPage objTime 0

/-- Commit the page of an object of the counters and configuration region. -/
def State.commitObject (kind index : Nat) (content : Bytes) (s : State) : State :=
  s.requestCommit { page := objectPage kind index,
                    source := if kind = objTime then .timeFloor else .controller,
                    bytes := Config.controllerImage kind index content }

/-- Carry out a change that a command needs a page commit of a source for; a refused request ends the command
with 0x0F01 (R465), and a command waits for a free shadow page and the arming of the warning (R462, R486). -/
def State.withStore (k : Nat) (src : CommitSource) (f : State → State) (s : State) : State :=
  if !s.storeAccepts src then s.storeRefused.failCmd k 0x0F01 else if s.storeFree then f s else s

/-- Carry out a change of the sealed controller's own that needs a page commit; a refused request changes nothing but its
count (R465), and one that cannot begin waits (R462, R486). -/
def State.onStore (f : State → State) (s : State) : State :=
  if !s.storeAccepts .controller then s.storeRefused else if s.storeFree then f s else s

/-! ## Mirroring to a standby -/

/-- Send a STATE record of a kind for the command in a slot: 1 a master-key record, 2 an enrolment record, 3 the
result (R620; the codes are the model's own). -/
def State.sendState (k kind : Nat) (b : Bytes) (s : State) : State :=
  if !s.leads then s else
  match s.admission? k with
  | some a => s.sendRecord 4 (natLe 8 a ++ natLe 1 kind ++ b)
  | none => s

/-- Put a record into a master-key slot and commit it. -/
def State.putMaster (k : Nat) (key : KeyId) (r : KeyRec) (s : State) : State :=
  let sl := s.keySlot key
  let r := { r with generation := sl.generation }
  let s := s.setKeySlot key { sl with record := some r, reserved := 0 }
  ((s.commitMaster key).sendState k 1 r.toBytes)

/-- Commit an enrolment record. -/
def State.commitEnrolment (k : Nat) (e : Enrolment) (s : State) : State :=
  (s.commitObject objEnrolment (e.domain * 8 + e.custodian) e.toBytes).sendState k 2 e.toBytes

end Sys2Proof.Machine
end

