-- ==== Sys2Proof/Machine/DenKeys.lean ====
section
/-! DEFINITION. The den's administrative commands: their frame, and the domain and master-key commands of Table
7-13 ("Keys, Key Domains and the Sett"). -/

namespace Sys2Proof.Machine

/-! ## The frame of an administrative command -/

/-- Run an administrative command that the sealed controller has ready in a slot: its input length (R167), its
PARAM (R181), then its program. A standby does not run the opcodes of R620. -/
def State.admin (k op : Nat) (lengthOk : Nat → Bool) (paramOk : Entry → Bool) (f : Slot → State → State)
    (s : State) : State :=
  match s.slot? k with
  | none => s
  | some sl =>
    if sl.phase ≠ .ready ∨ sl.fn ≠ 0 ∨ sl.entry.persId ≠ 0 ∨ sl.setId ≠ none ∨ sl.entry.opcode ≠ op
        ∨ (s.pair.phase = .standby ∧ standbyAdopts op = true) then s
    else if !lengthOk sl.entry.inLength then s.failCmd k 0x0105
    else if sl.entry.streamPart ≠ 0 then s.failCmd k 0x0502
    else if !paramOk sl.entry then s.failCmd k 0x0106
    else f sl s

/-- An opcode whose PARAM carries all of its arguments (R167). -/
def noLength (n : Nat) : Bool := n == 0

/-- DOMAIN in PARAM bytes 0–1. -/
def Entry.dom (e : Entry) : Nat := leField e.param 0 2

/-- Whether DOMAIN is a domain number. -/
def Entry.domOk (e : Entry) : Bool := decide (e.dom < Config.domains)

/-- Whether a ceremony of a domain is open. -/
def State.ceremonyOpen (s : State) (d : Nat) : Bool :=
  s.quill.ceremony.phase != .idle && s.quill.ceremony.domain == d

/-- Whether TIMEOUT has not yet passed since CEREMONY_OPEN (R343). -/
def Ceremony.inTime (c : Ceremony) (now : Nat) : Bool := decide (now < c.openedAt + c.timeoutS * unitsPerSecond)

/-- Whether an operation of the open ceremony of a domain may begin. -/
def State.ceremonyTakes (s : State) (d : Nat) : Bool := s.ceremonyOpen d && s.quill.ceremony.inTime s.now

/-- Whether a ceremony of a domain is open and quorate, and an operation that it authorises may begin. -/
def State.quorate (s : State) (d : Nat) : Bool :=
  s.quill.ceremony.phase == .quorate && s.quill.ceremony.domain == d && s.quill.ceremony.inTime s.now

/-- Whether a quorate ceremony of a domain authorises the command of a slot: one that has passed its check before
TIMEOUT goes on (R343). -/
def State.quorateFor (s : State) (sl : Slot) (d : Nat) : Bool :=
  s.quorate d || (sl.approved.isSome && s.quill.ceremony.phase == .quorate && s.quill.ceremony.domain == d)

/-- The command in a slot has passed the check of the ceremony, with the custodians counted (R343). -/
def State.approve (k : Nat) (s : State) : State :=
  s.modSlot k fun sl => { sl with approved := some (sl.approved.getD s.quill.ceremony.counted) }

/-- Whether a domain is departing (R431, R433). -/
def State.departing (s : State) (d : Nat) : Bool := s.cub.departing.contains d

/-- Whether DOMAIN and INDEX name a master-key slot of the lodge in force (R702). -/
def State.indexOk (s : State) (e : Entry) : Bool :=
  decide (e.p 2 < ((s.domRec? e.dom).map (·.masterKeySlots)).getD 0)

/-- Whether TYPE is one of Table 7-5 and EXPORT one of Table 7-4. -/
def Entry.keyParamOk (e : Entry) : Bool := typeKnown (e.p 3) && (e.p 6 == 0 || e.p 6 == 2)

/-- The slot of DOMAIN and INDEX. -/
def Entry.master (e : Entry) : KeyId := masterKeyId e.dom (e.p 2)

/-! ## Status -/

/-- The records of a domain. -/
def State.recordsOf (s : State) (d : Nat) : List (KeyId × KeyRec) :=
  s.sett.keys.filterMap fun e =>
    match e.2.record with
    | some r => if r.domain = d then some (e.1, r) else none
    | none => none

/-- DOMAIN_STATUS (0x0200). -/
def execDomainStatus (slot : Nat) (s : State) : Answer :=
  .next (s.admin slot 0x0200 noLength (fun e => paramZero e [0, 1] && e.domOk) fun sl s =>
    let d := sl.entry.dom
    let rs := s.recordsOf d
    let resident := (rs.filter fun x => !isPersistent x.1).length
    let loaded := (List.range 32).foldl
      (fun n i => n + (if rs.any fun x => x.1 == masterKeyId d i then 2 ^ i else 0)) 0
    let failed := (rs.filter fun x => x.2.state == .failed).length
    s.succeed slot (natLe 4 (s.quotaOf d) ++ natLe 4 (s.unitsOf d) ++ natLe 4 resident ++ natLe 4 loaded
      ++ natLe 4 failed ++ natLe 1 (b2n (tget? s.sett.legacy d).isSome) ++ zeros 11))

/-- SETT_STATUS (0x0207): PARAM bytes 0–1 are ignored. -/
def execSettStatus (slot : Nat) (s : State) : Answer :=
  .next (s.admin slot 0x0207 noLength (fun e => paramZero e [0, 1]) fun _ s =>
    let resident := s.sett.keys.filter fun e => !isPersistent e.1 && e.2.record.isSome
    let units := (resident.map fun e => (e.2.record.map (·.units)).getD 0).sum
    s.succeed slot (natLe 4 resident.length ++ natLe 4 units ++ natLe 8 s.sett.hits ++ natLe 8 s.sett.misses
      ++ natLe 8 s.sett.integrityFailures))

/-- DOMAIN_WIPE (0x0201): under a ceremony while the lodge in force names the domain (R315, R433). -/
def execDomainWipe (slot : Nat) (s : State) : Answer :=
  .next (s.admin slot 0x0201 noLength (fun e => paramZero e [0, 1] && e.domOk && !s.departing e.dom) fun sl s =>
    let d := sl.entry.dom
    if (s.domRec? d).isSome && !s.quorateFor sl d then s.failCmd slot 0x0307 else
    (s.approve slot).withStore slot .sett (fun s =>
      let masters := (s.keysOf d).filter isPersistent
      (masters.foldl (fun s k => s.commitMaster k) (s.wipeDomain d)).succeed slot []) )

/-! ## Master keys -/

/-- The record of a new master key. -/
def Entry.masterRecord (e : Entry) (origin : Nat) (test : Bool) (material : Bytes) : KeyRec :=
  newRecord e.dom (e.p 3) (e.p 6) origin (BitVec.ofNat 16 (leField e.param 4 2)) true test 0 0xFFFFFFFFFF 0 material

/-- Whether the Sett creates a master key with a record (R279, R280): its material is of its TYPE's length and
at most 64 bytes, and USAGE suits TYPE. -/
def masterOk (r : KeyRec) : Bool :=
  r.body.isEmpty && typeTakes r.type r.material && usageOk r.type r.usage

/-- The policy steps of a command that makes a master key, in the order of R168 step 7: field debug (R298),
TDES (R186), ceremony; then the slot is empty (R312). -/
def State.masterPolicy (s : State) (sl : Slot) : Option Status :=
  let e := sl.entry
  if s.antler.debug then some 0x0310
  else if typeTdes (e.p 3) && !s.tdesPermitted e.dom then some 0x0303
  else if !s.quorateFor sl e.dom then some 0x0307
  else if (s.keySlot e.master).record.isSome then some 0x0204
  else none

/-- The handle of a master key and its 3-byte check value. -/
def State.masterResult (s : State) (k : KeyId) : Bytes :=
  let sl := s.keySlot k
  natLe 4 (handleOf k sl.generation).toNat ++ ((sl.record.map keyCheckValue).getD []).take 3

/-- The PARAM bytes of Table 7-13 for a command that makes a master key, under R433 and R702. -/
def State.makeParamOk (s : State) (e : Entry) : Bool :=
  paramZero e [0, 1, 2, 3, 4, 5, 6] && e.domOk && e.keyParamOk && s.indexOk e && !s.departing e.dom

/-- The XOR of strings of one length. -/
def xorAll : List Bytes → Bytes
  | [] => []
  | [b] => b
  | b :: t => xorBytes b (xorAll t)

/-- The components of the ceremony for an INDEX, combined (R313): `none` where they make no key. -/
def combine? (cs : List Bytes) : Option Bytes :=
  let v := xorAll cs
  if cs.isEmpty || allZero v || cs.contains v || cs.any (fun c => c.length != v.length) then none else some v

/-- The components of an INDEX in the open ceremony of a domain. -/
def State.componentsOf (s : State) (d i : Nat) : List Bytes :=
  if s.ceremonyOpen d then (s.quill.ceremony.components.filter fun c => c.index == i).map (·.value) else []

/-- The components of an INDEX in the open ceremony of a domain are consumed (R342). -/
def State.consume (d i : Nat) (s : State) : State :=
  if s.ceremonyOpen d then
    { s with quill.ceremony.components := s.quill.ceremony.components.filter fun (c : Component) => c.index != i }
  else s

/-- MASTER_KEY_LOAD (0x0202): the components of INDEX are consumed whether it succeeds or fails (R313, R342). -/
def execMasterKeyLoad (slot : Nat) (s : State) : Answer :=
  .next (s.admin slot 0x0202 noLength s.makeParamOk fun sl s =>
    let e := sl.entry
    let after := s.consume e.dom (e.p 2)
    match s.masterPolicy sl with
    | some st => after.failCmd slot st
    | none => match combine? (s.componentsOf e.dom (e.p 2)) with
      | none => after.failCmd slot 0x0204
      | some v =>
        let r := e.masterRecord 2 false v
        if !masterOk r then after.failCmd slot 0x0204
        else if s.storeAccepts .sett && !s.storeFree then s.approve slot
        else after.withStore slot .sett fun s =>
          let s := s.putMaster slot e.master r
          s.succeed slot (s.masterResult e.master))

/-- Pieces of n bytes, each taken from its own whole units of a draw. -/
def pieces (n : Nat) : Nat → Bytes → List Bytes
  | 0, _ => []
  | c + 1, b => b.take n :: pieces n c (b.drop (16 * drawUnits n))

/-- MASTER_KEY_GENERATE (0x0203): a drawn key, split into components for the custodians counted (R314). -/
def execMasterKeyGenerate (slot : Nat) (s : State) : Answer :=
  .next (s.admin slot 0x0203 noLength s.makeParamOk fun sl s =>
    let e := sl.entry
    let len := drawnLength (e.p 3)
    match s.masterPolicy sl with
    | some st => s.failCmd slot st
    | none =>
      if !masterOk (e.masterRecord 1 false (zeros len)) then s.failCmd slot 0x0204 else
      let who := sl.approved.getD s.quill.ceremony.counted
      (s.approve slot).withStore slot .sett fun s =>
        s.withDraw slot (16 * drawUnits len * who.length) fun b s =>
          let parts := pieces len who.length b
          let key := parts.headD []
          let own := parts.drop 1
          let cs := own ++ [xorAll (key :: own)]
          let made := List.zipWith (fun c v => ({ custodian := c, index := e.p 2, value := v } : Component)) who cs
          let s := { s with quill.ceremony.generated :=
            s.quill.ceremony.generated.filter (fun (c : Component) => c.index != e.p 2) ++ made }
          let s := s.putMaster slot e.master (e.masterRecord 1 false key)
          s.succeed slot (s.masterResult e.master))

/-- MASTER_KEY_DELETE (0x0204): empties a slot under a ceremony; an empty one is reported as MASTER_KEY_QUERY
reports it. -/
def execMasterKeyDelete (slot : Nat) (s : State) : Answer :=
  .next (s.admin slot 0x0204 noLength
    (fun e => paramZero e [0, 1, 2] && e.domOk && s.indexOk e && !s.departing e.dom) fun sl s =>
      let k := sl.entry.master
      if !s.quorateFor sl sl.entry.dom then s.failCmd slot 0x0307
      else if (s.keySlot k).record.isNone then s.failCmd slot 0x0201
      else (s.approve slot).withStore slot .sett fun s => ((s.deleteKey k).commitMaster k).succeed slot [])

/-- MASTER_KEY_QUERY (0x0205). -/
def execMasterKeyQuery (slot : Nat) (s : State) : Answer :=
  .next (s.admin slot 0x0205 noLength (fun e => paramZero e [0, 1, 2] && e.domOk && s.indexOk e) fun sl s =>
    let sk := s.keySlot sl.entry.master
    match sk.record with
    | none => s.failCmd slot 0x0201
    | some r => s.succeed slot (natLe 1 r.type ++ natLe 2 r.usage.toNat ++ natLe 2 r.attrs.toNat
        ++ natLe 1 sk.generation ++ (keyCheckValue r).take 3 ++ zeros 7))

/-- KEY_ENTER_CLEAR (0x0206): in MAKER_TEST alone; the key carries ORIGIN 3 and TEST (R316). -/
def execKeyEnterClear (slot : Nat) (s : State) : Answer :=
  .next (s.admin slot 0x0206 (fun n => decide (1 ≤ n))
    (fun e => paramZero e [0, 1, 2, 3, 4, 5, 6] && e.domOk && e.keyParamOk && (s.domRec? e.dom).isSome
      && (e.p 2 == 0xFF || s.indexOk e)) fun sl s =>
      let e := sl.entry
      let m := s.inputOf slot sl
      if s.antler.state ≠ .makerTest then s.failCmd slot 0x0306
      else if s.antler.debug then s.failCmd slot 0x0310
      else if typeTdes (e.p 3) && !s.tdesPermitted e.dom then s.failCmd slot 0x0303
      else
        let r := { e.masterRecord 3 true m with
          attrs := keyAttrs (e.p 6) (BitVec.ofNat 16 (leField e.param 4 2)) (decide (64 < m.length)) 3 (e.p 2 != 0xFF) true }
        if !typeTakes r.type m || !usageOk r.type r.usage then s.failCmd slot 0x0204
        else if e.p 2 = 0xFF then
          match s.createKey r with
          | (.inl st, s) => s.failCmd slot st
          | (.inr h, s) => s.succeed slot (natLe 4 h.toNat)
        else if !r.body.isEmpty || (s.keySlot e.master).record.isSome then s.failCmd slot 0x0204
        else s.withStore slot .sett fun s =>
          let s := s.putMaster slot e.master r
          s.succeed slot ((s.masterResult e.master).take 4))

end Sys2Proof.Machine
end

