-- ==== Sys2Proof/Machine/CeremonyOps.lean ====
section
/-! DEFINITION. Ceremonies and the Quill ports: the T=1 link (Table 8-1), Quill messages (Tables 8-2 and 8-3), the
order of a presentation (R339), and the state of a ceremony (Table 8-7). -/

namespace Sys2Proof.Machine

/-! ## The ceremony -/

/-- CEREMONY_M and CEREMONY_N of a domain. -/
def State.ceremonyM (s : State) (d : Nat) : Nat := ((s.domRec? d).map (·.ceremonyM)).getD 0
def State.ceremonyN (s : State) (d : Nat) : Nat := ((s.domRec? d).map (·.ceremonyN)).getD 0

/-- STATE of QTK_CEREMONY_STATUS. -/
def CeremonyPhase.code : CeremonyPhase → Nat
  | .idle => 0
  | .gathering => 1
  | .quorate => 2

/-- The bitmap of custodian numbers. -/
def bitmapOf (l : List Nat) : Nat := (List.range 8).foldl (fun n i => n + (if l.contains i then 2 ^ i else 0)) 0

/-- The custodians of whom a component is held. -/
def Ceremony.holders (c : Ceremony) : List Nat := (c.components ++ c.generated).map (·.custodian)

/-- The phase that a count gives an open ceremony. -/
def Ceremony.settle (c : Ceremony) : Ceremony :=
  { c with phase := if c.m ≤ c.counted.length then .quorate else .gathering }

/-- Close the open ceremony for a cause: its components and counts are wiped, and Owl records it (Table 8-7). -/
def State.closeCeremony (cause : Nat) (s : State) : State :=
  if s.quill.ceremony.phase = .idle then s else
  let d := s.quill.ceremony.domain
  ({ s with quill.ceremony := {} } : State).raise 0x60
    (natLe 2 d ++ natLe 1 (Config.ceremonyEvent cause) ++ [0, 0] ++ zeros 3)

/-- The enrolment of a custodian slot. -/
def State.enrolled? (s : State) (d c : Nat) : Option Enrolment :=
  s.quill.enrolments.find? fun e => e.domain == d && e.custodian == c

/-- The enrolments of a domain. -/
def State.enrolledIn (s : State) (d : Nat) : List Enrolment := s.quill.enrolments.filter fun e => e.domain == d

/-- Replace or add an enrolment, by domain and custodian. -/
def putEnrolment (l : List Enrolment) (e : Enrolment) : List Enrolment :=
  if l.any fun x => x.domain == e.domain && x.custodian == e.custodian then
    l.map fun x => if x.domain = e.domain ∧ x.custodian = e.custodian then e else x
  else l ++ [e]

/-! ## The T=1 link -/

/-- A port. -/
def State.port (s : State) (p : Nat) : QuillPort := tget s.quill.ports p {}

/-- Replace a port. -/
def State.setPort (p : Nat) (v : QuillPort) (s : State) : State := { s with quill.ports := tset s.quill.ports p v }

/-- A block: NAD 0x00, PCB, LEN, INF and EDC. -/
def t1Block (crc : Bool) (pcb : Nat) (inf : Bytes) : Bytes :=
  let b : Bytes := [0] ++ natLe 1 pcb ++ natLe 1 inf.length ++ inf
  b ++ (if crc then fit 2 (Config.edcCrc b) else [b.foldl (· ^^^ ·) 0])

/-- The PCB and INF of a received block; `none` where its NAD, LEN or EDC is wrong. INF is at most IFSD, 254 bytes. -/
def t1Parse? (crc : Bool) (b : Bytes) : Option (Nat × Bytes) :=
  let pcb := (byteAt b 1).toNat
  let inf := slice b 3 (byteAt b 2).toNat
  if inf.length < 255 ∧ b = t1Block crc pcb inf then some (pcb, inf) else none

/-- Send the piece outstanding in an I-block, with the M bit where more follow. -/
def State.sendPiece (p : Nat) (s : State) : State :=
  let v := s.port p
  match v.tx with
  | [] => s
  | b :: t => (s.setPort p { v with waitSince := s.now }).emit
      (.quill p (t1Block v.crc (b2n v.sendN * 0x40 + b2n (!t.isEmpty) * 0x20) b))

/-- Send a Quill message on a port as one chain, in pieces of at most IFSC bytes, with the next SEQ (R322, R323). -/
def State.sendQuill (p type : Nat) (body : Bytes) (s : State) : State :=
  let v := s.port p
  let msg : Bytes := [0x51, 0x4C, 0x01] ++ natBe 1 type ++ natBe 2 body.length ++ natBe 2 v.nextSeq ++ body
  (s.setPort p { v with state := 3, nextSeq := (v.nextSeq + 1) % 65536, message := msg,
                        tx := chunks v.ifsc (msg.length + 1) msg, rx := [] }).sendPiece p

/-- A port as its activation begins in a class: 1 class A, 2 class B (R319). -/
def QuillPort.on (cls : Nat) (v : QuillPort) : QuillPort :=
  { v with powered := true, cls := cls, state := 1, ifsc := 32, crc := false, bwi := 4, cwi := 13, factors := 0x11,
           sendN := false, recvN := false, message := [], tx := [], rx := [] }

/-- A port that is deactivated. -/
def QuillPort.off (state : Nat) (v : QuillPort) : QuillPort :=
  { v with powered := false, cls := 0, state := state, warmReset := false, message := [], tx := [], rx := [] }

/-- Begin the activation of a port in a class. -/
def State.activate (p cls : Nat) (s : State) : State := s.setPort p ((s.port p).on cls)

/-- Deactivate a port. -/
def State.deactivate (p state : Nat) (s : State) : State := s.setPort p ((s.port p).off state)

/-- Deactivate every port that is powered (R345). -/
def State.portsOff (s : State) : State :=
  { s with quill.ports := tmap s.quill.ports fun _ v => if v.powered then v.off 0 else v }

/-! ## Requests -/

/-- The result of a CEREMONY_PRESENT or CUSTODIAN_ENROL that reaches a decision (Table 8-5). -/
def State.quillResult (s : State) (r : QuillRequest) (outcome custodian : Nat) : Bytes :=
  if r.enrol then natLe 1 outcome ++ natLe 1 r.custodian ++ [0, 0]
  else natLe 1 outcome ++ natLe 1 s.quill.ceremony.phase.code ++ natLe 1 custodian
    ++ natLe 1 s.quill.ceremony.counted.length

/-- End the request of a port with an outcome (R337). `custodian` is the custodian slot known, or 0xFF. -/
def State.endRequest (p outcome custodian : Nat) (s : State) : State :=
  let v := s.port p
  match v.request with
  | none => s
  | some r =>
    let s := s.setPort p { v with request := none, lastOutcome := outcome,
                                  state := if v.powered then 2 else v.state }
    s.succeed r.slot (s.quillResult r outcome custodian)

/-- End the request of a port with a status. -/
def State.failRequest (p : Nat) (st : Status) (s : State) : State :=
  let v := s.port p
  match v.request with
  | none => s
  | some r => (s.setPort p { v with request := none, state := if v.powered then 2 else v.state }).failCmd r.slot st

/-- The custodian slot that a request has learnt, or 0xFF. -/
def QuillRequest.who (r : QuillRequest) : Nat := if r.enrol || r.publicKey.isEmpty then 0xFF else r.custodian

/-- Change the request of a port. -/
def State.modRequest (p : Nat) (f : QuillRequest → QuillRequest) (s : State) : State :=
  let v := s.port p
  s.setPort p { v with request := v.request.map f }

/-- The request goes on to a stage whose Quill message carries a SEQ. -/
def QuillRequest.sends (stage : QuillStage) (seq : Nat) (r : QuillRequest) : QuillRequest :=
  { r with stage := stage, seq := seq, retries := 0, resynched := false, resyncDue := false }

/-- Send IDENTIFY on an activated port. -/
def State.startIdentify (p : Nat) (s : State) : State :=
  (s.modRequest p (·.sends .identify (s.port p).nextSeq)).sendQuill p 1 []

/-- Serve the request of a port: activation when a card is inserted and not active, else IDENTIFY. -/
def State.serveRequest (p : Nat) (s : State) : State :=
  let v := s.port p
  if !v.present then s
  else if v.powered && v.state != 1 then s.startIdentify p
  else (s.modRequest p fun r => { r with stage := .activating }).activate p 2

/-- Take a request on a port: disabled 0x02, busy 0x11, otherwise served. -/
def State.takeRequest (p : Nat) (r : QuillRequest) (s : State) : State :=
  if !s.tables.units.quillEnable.getLsbD p then
    let v := s.port p
    (s.setPort p { v with lastOutcome := 2 }).succeed r.slot (s.quillResult r 2 0xFF)
  else if (s.port p).request.isSome then s.succeed r.slot (s.quillResult r 0x11 0xFF)
  else
    let v := s.port p
    let s := s.setPort p { v with request := some r }
    (s.modSlot r.slot fun sl => { sl with phase := .waiting }).serveRequest p

/-- End every presentation of a ceremony that has been closed by CEREMONY_CLOSE or an event of Table 8-8, with
0x0307 (the specification states no outcome for it). -/
def State.dropRequests (s : State) : State :=
  (List.range Config.quillPorts).foldl (fun s p =>
    match (s.port p).request with
    | some r => if r.enrol then s else s.failRequest p 0x0307
    | none => s) s

/-- Close the open ceremony for a cause, with its presentations. -/
def State.endCeremony (cause : Nat) (s : State) : State :=
  if s.quill.ceremony.phase = .idle then s else (s.closeCeremony cause).dropRequests

/-- The Quill ports are deactivated and their requests end with a status. -/
def State.stopPorts (st : Status) (s : State) : State :=
  (List.range Config.quillPorts).foldl (fun s p => (s.failRequest p st).deactivate p 0) s

/-! ## The steps of a presentation -/

/-- Draw bytes for the request of a port, and go on with them; a stopped Squirrel ends the command with
0x0405, and a draw that waits is taken up when it is served. -/
def State.quillDraw (p : Nat) (stage : QuillStage) (f : Bytes → State → State) (s : State) : State :=
  match (s.port p).request with
  | none => s
  | some r =>
    match s.drawOwn r.slot 32 with
    | (.served b, s) => f b s
    | (.refused, s) => s.failRequest p 0x0405
    | (.waits, s) => s.modRequest p fun r => { r with stage := stage }

/-- AUTHENTICATE with a fresh challenge (R325). -/
def State.sendChallenge (p : Nat) (s : State) : State :=
  s.quillDraw p .challenge fun b s =>
    match (s.port p).request with
    | none => s
    | some r =>
      (s.modRequest p fun r => { r.sends .authenticate (s.port p).nextSeq with challenge := b }).sendQuill p 2
        (b ++ natBe 2 r.domain)

/-- The associated data of a component (R326, R327). -/
def QuillRequest.aad (r : QuillRequest) : Bytes := natBe 2 r.domain ++ natBe 1 r.index ++ r.challenge

/-- The component key: the KDF over the ECDH secret of an ephemeral key and the token's public key. -/
def QuillRequest.key (r : QuillRequest) (ephemeral : Bytes) : Bytes :=
  natLe 32 (Config.kdf ((Config.ecdh 0x20 ephemeral r.publicKey).getD [])).toNat

/-- READ_COMPONENT or WRITE_COMPONENT with a fresh ephemeral key (R326, R327, R339 step 9). -/
def State.sendComponent (p : Nat) (s : State) : State :=
  s.quillDraw p .ephemeral fun b s =>
    match (s.port p).request with
    | none => s
    | some r =>
      let kp := Config.ecKeygen 0x20 b
      let head := natBe 2 r.domain ++ natBe 1 r.index ++ fit 65 kp.2
      let s := s.modRequest p fun r => { r.sends .component (s.port p).nextSeq with ephemeral := kp.1 }
      if r.write then
        match s.quill.ceremony.generated.find? fun c => c.custodian == r.custodian && c.index == r.index with
        | none => s.endRequest p 0x14 r.who
        | some c =>
          let sealed_ := Config.gcmSeal (r.key kp.1) (zeros 12) r.aad c.value
          s.sendQuill p 4 (head ++ natBe 1 c.value.length ++ fit (c.value.length + 16) sealed_)
      else s.sendQuill p 3 head

/-- A presentation is accepted: its custodian is counted (Table 8-7). Where its ceremony has been closed, the command
ends with 0x0307. -/
def State.acceptToken (p : Nat) (s : State) : State :=
  match (s.port p).request with
  | none => s
  | some r =>
    if !s.ceremonyOpen r.domain then s.failRequest p 0x0307 else
    let c := s.quill.ceremony
    let c := if c.counted.contains r.custodian then c else { c with counted := c.counted ++ [r.custodian] }
    ({ s with quill.ceremony := c.settle } : State).endRequest p 0 r.who

/-- The response to IDENTIFY (R339 steps 2 to 7; R330 for an enrolment). -/
def State.onIdentify (p : Nat) (r : QuillRequest) (b : Bytes) (s : State) : State :=
  let tokenId := slice b 0 16
  let expiry := beNat (slice b 16 5)
  let limit := beNat (slice b 21 3)
  let verified := (byteAt b 24).getLsbD 0
  let pk := slice b 25 65
  let digest := (natLe 32 (Config.sha3 pk).toNat).take 16
  if r.enrol then
    if s.quill.enrolments.any fun e => e.domain == r.domain && e.tokenId == tokenId then s.endRequest p 0x0E 0xFF
    else if (s.enrolled? r.domain r.custodian).isSome then s.endRequest p 0x0F 0xFF
    else if 16384 ≤ s.quill.enrolments.length then s.endRequest p 0x12 0xFF
    else if !s.storeAccepts .controller then (s.storeRefused).failRequest p 0x0F01
    else if !s.storeFree then s.modRequest p fun r => { r with held := b }
    else
      let e : Enrolment := { tokenId := tokenId, keyDigest := digest, domain := r.domain, custodian := r.custodian,
                             expiry := min r.expiry expiry, useLimit := min r.useLimit limit, useCount := 0 }
      let s := { s with quill.enrolments := putEnrolment s.quill.enrolments e }
      let s := (s.commitEnrolment r.slot e).raise 0x61
        (natLe 2 r.domain ++ natLe 1 r.custodian ++ [1] ++ tokenId)
      s.endRequest p 0 0xFF
  else
    match s.quill.enrolments.find? fun e => e.domain == r.domain && e.tokenId == tokenId with
    | none => s.endRequest p 0x06 0xFF
    | some e =>
      let who := e.custodian
      if e.keyDigest ≠ digest then s.endRequest p 0x06 who
      else if s.calendar.isSet = false ∨ e.expiry ≤ s.seconds then s.endRequest p 0x07 who
      else if e.useLimit ≤ e.useCount then s.endRequest p 0x08 who
      else if !verified then s.endRequest p 0x0A who
      else if s.quill.ceremony.counted.contains who && r.index == 0xFF then s.endRequest p 0x0B who
      else (s.modRequest p fun r => { r with custodian := who, tokenId := tokenId, publicKey := pk }).sendChallenge p

/-- Whether a presentation of the same custodian on another port has verified, and is one that `p` selects
(Table 8-8). -/
def State.rival (s : State) (p : Nat) (r : QuillRequest) (sel : QuillRequest → Bool) : Bool :=
  (List.range Config.quillPorts).any fun q => q != p && match (s.port q).request with
    | some x => !x.enrol && x.verified && x.domain == r.domain && x.custodian == r.custodian && sel x
    | none => false

/-- The response to AUTHENTICATE: a signature that verifies spends a use, committed before anything else
(R325, R333); the presentation waits while the commit cannot begin. A token removed meanwhile has spent its use. -/
def State.onAuthenticate (p : Nat) (r : QuillRequest) (b : Bytes) (s : State) : State :=
  let msg : Bytes := [0x51, 0x55, 0x49, 0x4C, 0x4C, 0x2D, 0x41, 0x55, 0x54, 0x48] ++ Config.deviceId ++ r.challenge
    ++ natBe 2 r.domain ++ r.tokenId
  if !Config.ecdsaVerify 0 r.publicKey msg b then s.endRequest p 0x09 r.custodian else
  match s.enrolled? r.domain r.custodian with
  | none => s.endRequest p 0x06 r.custodian
  | some e =>
    if !s.storeAccepts .controller then (s.storeRefused).failRequest p 0x0F01 else
    let late := !r.verified && s.rival p r fun _ => true
    let second := r.second || (!r.verified && s.rival p r fun x => x.index == r.index && !x.write)
    if !s.storeFree then s.modRequest p fun r => { r with held := b, verified := !late, second := second } else
    let e := { e with useCount := e.useCount + 1 }
    let s := { s with quill.enrolments := putEnrolment s.quill.enrolments e }
    let s := s.commitEnrolment r.slot e
    let s := s.modRequest p fun r => { r with verified := !late, second := second }
    if !(s.port p).powered then s.endRequest p 0x0D r.custodian
    else if r.index = 0xFF then
      if late || s.quill.ceremony.counted.contains r.custodian then s.endRequest p 0x0B r.custodian else s.acceptToken p
    else s.sendComponent p

/-- The response to READ_COMPONENT or WRITE_COMPONENT (R326, R327, R342). -/
def State.onComponent (p : Nat) (r : QuillRequest) (b : Bytes) (s : State) : State :=
  let mine := fun (c : Component) => c.custodian == r.custodian && c.index == r.index
  if !s.ceremonyOpen r.domain then s.failRequest p 0x0307
  else if r.write then
    let keep := s.quill.ceremony.generated.filter fun (c : Component) => !mine c
    ({ s with quill.ceremony.generated := keep } : State).acceptToken p
  else
    let n := (byteAt b 0).toNat
    if n < 16 ∨ 64 < n ∨ s.quill.ceremony.components.any mine = true ∨ r.second = true then
      s.endRequest p 0x0C r.custodian else
    match Config.gcmOpen (r.key r.ephemeral) (zeros 12) r.aad (b.drop 1) with
    | none => s.endRequest p 0x0C r.custodian
    | some v =>
      let c : Component := { custodian := r.custodian, index := r.index, value := fit n v }
      ({ s with quill.ceremony.components := s.quill.ceremony.components ++ [c] } : State).acceptToken p

/-- The TYPE and body length of the response that a request waits for (Table 8-3). -/
def QuillRequest.expects (r : QuillRequest) (body : Bytes) : Option (Nat × Nat) :=
  match r.stage with
  | .identify => some (0x81, 90)
  | .authenticate => some (0x82, 64)
  | .component => some (if r.write then (0x84, 0) else (0x83, 1 + (byteAt body 0).toNat + 16))
  | _ => none

/-- A response message (R324). -/
def State.onResponse (p : Nat) (r : QuillRequest) (m : Bytes) (s : State) : State :=
  let body := m.drop 8
  let type := (byteAt m 3).toNat
  match r.expects body with
  | none => s
  | some (t, n) =>
    let len := beNat (slice m 4 2)
    if m.length < 8 ∨ 2048 < m.length ∨ slice m 0 3 ≠ [0x51, 0x4C, 0x01] ∨ beNat (slice m 6 2) ≠ r.seq
        ∨ body.length ≠ len ∨ (type ≠ t ∧ type ≠ 0xFF) ∨ len ≠ (if type = 0xFF then 1 else n) then
      s.endRequest p 0x05 r.who
    else if type = 0xFF then s.endRequest p (if r.stage = .component then 0x0C else 0x05) r.who
    else match r.stage with
      | .identify => s.onIdentify p r body
      | .authenticate => s.onAuthenticate p r body
      | _ => s.onComponent p r body

/-- Go on with the presentations and enrolments whose page commit waited (R333). -/
def State.resumeQuill (s : State) : State :=
  (List.range Config.quillPorts).foldl (fun s p =>
    match (s.port p).request with
    | none => s
    | some r =>
      if r.held.isEmpty then s else
      let s := s.modRequest p fun r => { r with held := [] }
      if r.enrol then s.onIdentify p r r.held else s.onAuthenticate p r r.held) s

/-! ## The answer to reset -/

/-- What an ATR says: whether its form is right and whether its check fails, the protocols that it offers, its classes
(bit 0 A, bit 1 B, bit 2 C; 0 where it says none), IFSC, the kind of EDC, BWI, CWI and TA1. -/
structure Atr where
  ok : Bool := true
  badCheck : Bool := false
  protocols : List Nat := []
  classes : Nat := 0
  ifsc : Nat := 32
  crc : Bool := false
  bwi : Nat := 4
  cwi : Nat := 13
  ta1 : Option Nat := none
  deriving DecidableEq, Repr

/-- Take a byte of the ATR where the format byte announces it. -/
def atrTake (present : Bool) (b : Bytes) : Option Nat × Bytes :=
  if present then (some (byteAt b 0).toNat, b.drop 1) else (none, b)

/-- The interface bytes from group i on: `y` is the format nibble, `t` the protocol of the group and `first`
whether no earlier group of T=1 has been read (ISO/IEC 7816-3). -/
def atrGroups : Nat → Nat → Nat → Nat → Bool → Bytes → Atr → Atr × Bytes
  | 0, _, _, _, _, b, a => ({ a with ok := false }, b)
  | fuel + 1, i, y, t, first, b, a =>
    let (ta, b) := atrTake (bit y 0) b
    let (tb, b) := atrTake (bit y 1) b
    let (tc, b) := atrTake (bit y 2) b
    let (td, b) := atrTake (bit y 3) b
    let a := if i = 1 then { a with ta1 := ta }
      else if 3 ≤ i ∧ t = 15 then { a with classes := (ta.map fun v => bits v 5 0 % 8).getD a.classes }
      else if 3 ≤ i ∧ t = 1 ∧ first = true then
        { a with ifsc := ta.getD 32, crc := (tc.map (bit · 0)).getD false, bwi := (tb.map (· / 16)).getD 4,
                 cwi := (tb.map (· % 16)).getD 13 }
      else a
    match td with
    | none => (a, b)
    | some v =>
      let t' := v % 16
      let a := { a with protocols := a.protocols ++ [t'] }
      atrGroups fuel (i + 1) (v / 16) t' (first && !(3 ≤ i && t == 1)) b a

/-- Read an ATR. -/
def parseAtr (b : Bytes) : Atr :=
  let ts := (byteAt b 0).toNat
  let t0 := (byteAt b 1).toNat
  if b.length < 2 ∨ (ts ≠ 0x3B ∧ ts ≠ 0x3F) then { ok := false } else
  let (a, rest) := atrGroups 8 1 (t0 / 16) 0 true (b.drop 2) {}
  let tck := a.protocols.any (· != 0)
  let form := a.ok && rest.length == t0 % 16 + b2n tck
  let check := tck && (b.drop 1).foldl (· ^^^ ·) 0 != 0
  { a with ok := form && !check, badCheck := form && check }

/-- The factors that the device asks for: those of Table 8-1 that TA1 offers, else Fi 372 and Di 1 (0x11). -/
def Atr.factors (a : Atr) : Nat :=
  match a.ta1 with
  | none => 0x11
  | some v =>
    let fi := v / 16
    let di := v % 16
    if (fi = 0 ∨ fi = 1 ∨ fi = 9) ∧ 1 ≤ di ∧ di ≤ 6 then v else 0x11

/-- A PPS request for T=1 with PPS1, and its response where the token takes the factors. -/
def ppsBytes (factors : Nat) : Bytes :=
  let b : Bytes := [0xFF, 0x11] ++ natLe 1 factors
  b ++ [b.foldl (· ^^^ ·) 0]

/-- The PPS response of a token that keeps to Fi 372 and Di 1: no PPS1. -/
def ppsPlain : Bytes := [0xFF, 0x01, 0xFE]

/-- Announce IFSD 254 by S(IFS request) (Table 8-1). -/
def State.announceIfs (p : Nat) (s : State) : State :=
  (s.modRequest p fun r => r.sends .ifs 0).emit (.quill p (t1Block (s.port p).crc 0xC1 [0xFE]))

/-- Activation fails: outcome 0x03. -/
def State.failActivation (p : Nat) (s : State) : State := (s.deactivate p 4).endRequest p 0x03 0xFF

/-- An answer to reset (R318 to R320): warm reset once after a wrong TCK, then class A when no valid ATR comes in class B
or the ATR indicates class A alone; no T=1, or class C alone, fails. A valid one is followed by PPS where TA1 offers
factors, then by the announcement of IFSD. -/
def State.onAtr (p : Nat) (b : Bytes) (s : State) : State :=
  let v := s.port p
  let a := parseAtr b
  let inA := (s.setPort p { v with warmReset := false }).activate p 1
  if !a.ok then
    if a.badCheck && !v.warmReset then s.setPort p { v with warmReset := true }
    else if v.cls = 2 then inA
    else s.failActivation p
  else if a.classes = 1 ∧ v.cls = 2 then inA
  else if a.classes = 4 ∨ a.protocols.contains 1 = false then s.failActivation p
  else
    let s := s.setPort p { v with warmReset := false, ifsc := max 1 a.ifsc, crc := a.crc, bwi := a.bwi, cwi := a.cwi,
                                  factors := a.factors }
    if a.factors = 0x11 then s.announceIfs p
    else (s.modRequest p fun r => { r with stage := .pps }).emit (.quill p (ppsBytes a.factors))

/-- The PPS response: an echo agrees the factors, one without PPS1 keeps Fi 372 and Di 1, and any other fails the
activation. -/
def State.onPps (p : Nat) (b : Bytes) (s : State) : State :=
  let v := s.port p
  if b = ppsBytes v.factors then s.announceIfs p
  else if b = ppsPlain then (s.setPort p { v with factors := 0x11 }).announceIfs p
  else s.failActivation p

/-! ## Link errors -/

/-- Count a recovery of a port; the count saturates at 0xFFFF (Table 8-14). -/
def State.countLinkError (p : Nat) (s : State) : State :=
  let v := s.port p
  let c := SatCount.add 0xFFFF 1 v.linkErrors
  (s.setPort p { v with linkErrors := c.1 }).saturated c.2 0xA00000 (0x20 + 4 * p)

/-- Send an R-block: the number of the I-block expected, and its code, 0 for none, 1 for EDC or parity and 2 for any
other error. -/
def State.sendR (p code : Nat) (s : State) : State :=
  let v := s.port p
  s.emit (.quill p (t1Block v.crc (0x80 + 0x10 * b2n v.recvN + code) []))

/-- The link has failed: outcome 0x04. -/
def State.failLink (p : Nat) (s : State) : State :=
  let who := (((s.port p).request.map (·.who))).getD 0xFF
  (s.deactivate p 4).endRequest p 0x04 who

/-- A spoilt block: up to three R-blocks for it, then one S(RESYNCH request), then the link has failed (R321). -/
def State.onBlockError (p code : Nat) (s : State) : State :=
  match (s.port p).request with
  | none => s
  | some r =>
    if r.retries < 3 then ((s.countLinkError p).modRequest p fun r => { r with retries := r.retries + 1 }).sendR p code
    else if !r.resynched then
      ((s.countLinkError p).modRequest p fun r => { r with resynched := true, resyncDue := true }).emit
        (.quill p (t1Block (s.port p).crc 0xC0 []))
    else s.failLink p

/-! ## Received blocks -/

/-- The token's number of the piece outstanding has been acknowledged. -/
def QuillPort.acked (v : QuillPort) : QuillPort :=
  if v.tx.isEmpty then v else { v with tx := v.tx.drop 1, sendN := !v.sendN }

/-- An I-block: the next of the response's chain, which acknowledges the message's last piece. An R-block acknowledges
all but the last of the chain, which completes the response (R323). -/
def State.onIBlock (p : Nat) (r : QuillRequest) (n more : Bool) (inf : Bytes) (s : State) : State :=
  let v := s.port p
  if n ≠ v.recvN ∨ 1 < v.tx.length then s.onBlockError p 2 else
  let m := v.rx ++ inf
  let s := s.setPort p { v.acked with recvN := !v.recvN, rx := if more then m else [] }
  let s := s.modRequest p fun r => { r with retries := 0 }
  if more then s.sendR p 0 else s.onResponse p r m

/-- An R-block: it acknowledges the piece outstanding, and the next follows, or it asks for that piece again. -/
def State.onRBlock (p : Nat) (n : Bool) (s : State) : State :=
  let v := s.port p
  if v.tx.isEmpty then s.onBlockError p 2
  else if n = v.sendN then s.sendPiece p
  else if v.tx.length = 1 then s.onBlockError p 2
  else ((s.setPort p v.acked).modRequest p fun r => { r with retries := 0 }).sendPiece p

/-- The block waiting time of a port in time units, without the 11 elementary time units: 2 to the power BWI times 960
times 372 clock cycles, at 4.0 MHz. -/
def QuillPort.blockWait (v : QuillPort) : Nat := 2 ^ v.bwi * 960 * 372 * (unitsPerSecond / 4000000)

/-- S(WTX request): accepted while the waiting for one response stays within 10 s in all (Table 8-1); otherwise the link
has failed. -/
def State.onWaitRequest (p factor : Nat) (s : State) : State :=
  let v := s.port p
  if s.now + factor * v.blockWait ≤ v.waitSince + 10 * unitsPerSecond then
    s.emit (.quill p (t1Block v.crc 0xE3 (natLe 1 factor)))
  else s.failLink p

/-- S(RESYNCH response): the numbers start again from 0 and the message is sent again, or the announcement of IFSD. -/
def State.onResynched (p : Nat) (r : QuillRequest) (s : State) : State :=
  let v := s.port p
  let s := s.modRequest p fun r => { r with resyncDue := false }
  let s := s.setPort p { s.port p with sendN := false, recvN := false, rx := [],
                                       tx := chunks v.ifsc (v.message.length + 1) v.message }
  if r.stage = .ifs then s.emit (.quill p (t1Block v.crc 0xC1 [0xFE])) else s.sendPiece p

/-- A block from the token (Table 8-1): one with a wrong EDC, or not in place, is recovered under R321. -/
def State.onBlock (p : Nat) (r : QuillRequest) (b : Bytes) (s : State) : State :=
  match t1Parse? (s.port p).crc b with
  | none => s.onBlockError p 1
  | some (pcb, inf) =>
    if r.resyncDue then if pcb = 0xE0 ∧ inf = [] then s.onResynched p r else s.onBlockError p 2
    else if r.stage = .ifs then if pcb = 0xE1 ∧ inf = [0xFE] then s.startIdentify p else s.onBlockError p 2
    else if pcb < 0x80 ∧ pcb % 32 = 0 then s.onIBlock p r (bit pcb 6) (bit pcb 5) inf
    else if pcb = 0xC3 ∧ inf.length = 1 then s.onWaitRequest p (byteAt inf 0).toNat
    else if pcb / 64 = 2 ∧ pcb % 16 < 3 ∧ bit pcb 5 = false ∧ inf = [] then s.onRBlock p (bit pcb 4)
    else s.onBlockError p 2

/-- Whether the request of a port waits for a block or for the PPS response. -/
def QuillRequest.listens (r : QuillRequest) : Bool :=
  r.held.isEmpty && (r.stage == .ifs || r.stage == .pps || (r.expects []).isSome)

end Sys2Proof.Machine
end

