-- ==== Sys2Proof/Machine/Ceremony.lean ====
section
/-! DEFINITION. The ceremony commands of Table 8-5 and the events of the Quill ports ("Quill Tokens and Dual
Control"). -/

namespace Sys2Proof.Machine

/-- DOMAIN names a domain of the lodge in force (R335). -/
def State.ceremonyDom (s : State) (e : Entry) : Bool := e.domOk && (s.domRec? e.dom).isSome

/-- The result of a ceremony command: outcome, state, and two bytes. -/
def State.ceremonyResult (s : State) (outcome a b : Nat) : Bytes :=
  natLe 1 outcome ++ natLe 1 s.quill.ceremony.phase.code ++ natLe 1 a ++ natLe 1 b

/-- CEREMONY_OPEN (0x0300; Table 8-7). -/
def execCeremonyOpen (slot : Nat) (s : State) : Answer :=
  .next (s.admin slot 0x0300 noLength
    (fun e => let t := leField e.param 4 2
      paramZero e [0, 1, 4, 5] && s.ceremonyDom e && (t == 0 || (decide (30 ≤ t) && decide (t ≤ 3600)))) fun sl s =>
      let d := sl.entry.dom
      let t := leField sl.entry.param 4 2
      let c := s.quill.ceremony
      if c.phase ≠ .idle then s.succeed slot (s.ceremonyResult 0x10 c.m c.counted.length)
      else if (s.enrolledIn d).length < s.ceremonyM d then s.succeed slot (s.ceremonyResult 0x13 0 0)
      else
        let c : Ceremony := { phase := .gathering, domain := d, m := s.ceremonyM d, openedAt := s.now,
                              timeoutS := if t = 0 then 600 else t }
        let s : State := { s with quill.ceremony := c }
        s.succeed slot (s.ceremonyResult 0 c.m 0))

/-- CEREMONY_PRESENT (0x0301): under an open ceremony of DOMAIN, a token is read on a port (R336, R339). -/
def execCeremonyPresent (slot : Nat) (s : State) : Answer :=
  .next (s.admin slot 0x0301 noLength
    (fun e => paramZero e [0, 1, 2, 3, 4, 5] && s.ceremonyDom e && decide (e.p 2 ≤ 3)
      && (decide (e.p 3 ≤ 31) || e.p 3 == 0xFF) && decide (1 ≤ e.p 4) && decide (e.p 4 ≤ 120) && decide (e.p 5 ≤ 1))
    fun sl s =>
      let e := sl.entry
      if !s.ceremonyTakes e.dom then s.failCmd slot 0x0307
      else s.takeRequest (e.p 2)
        { slot := slot, domain := e.dom, index := e.p 3, write := e.p 5 == 1,
          waitUntil := s.now + e.p 4 * unitsPerSecond })

/-- CEREMONY_STATUS (0x0302). -/
def execCeremonyStatus (slot : Nat) (s : State) : Answer :=
  .next (s.admin slot 0x0302 noLength (fun e => paramZero e [0, 1] && s.ceremonyDom e) fun _ s =>
    let c := s.quill.ceremony
    s.succeed slot (natLe 1 c.phase.code ++ natLe 2 c.domain ++ natLe 1 c.m ++ natLe 1 c.counted.length
      ++ natLe 1 (bitmapOf c.counted) ++ natLe 1 (bitmapOf c.holders) ++ [0]))

/-- CEREMONY_CLOSE (0x0303). Without an open ceremony of DOMAIN it is completed with 0x0307. -/
def execCeremonyClose (slot : Nat) (s : State) : Answer :=
  .next (s.admin slot 0x0303 noLength (fun e => paramZero e [0, 1] && s.ceremonyDom e) fun sl s =>
    if !s.ceremonyTakes sl.entry.dom then s.failCmd slot 0x0307
    else
      let s := s.endCeremony 0
      s.succeed slot (s.ceremonyResult 0 0 0))

/-- Whether a domain's first custodians may be enrolled without a ceremony (R341). -/
def State.firstEnrolment (s : State) (d : Nat) : Bool :=
  decide ((s.enrolledIn d).length < s.ceremonyM d) && !(s.recordsOf d).any fun x => isPersistent x.1

/-- CUSTODIAN_ENROL (0x0304): the token is on the port when the command runs (the opcode has no WAIT). -/
def execCustodianEnrol (slot : Nat) (s : State) : Answer :=
  .next (s.admin slot 0x0304 noLength
    (fun e => paramZero e [0, 1, 2, 3, 4, 5, 6, 7, 8, 9, 10, 11] && s.ceremonyDom e && decide (e.p 2 ≤ 3)
      && decide (e.p 3 < s.ceremonyN e.dom) && decide (1 ≤ leField e.param 9 3)
      && decide (leField e.param 9 3 ≤ 1000000) && !s.departing e.dom) fun sl s =>
      let e := sl.entry
      if !s.quorateFor sl e.dom && !s.firstEnrolment e.dom then s.failCmd slot 0x0307
      else
        let s := s.takeRequest (e.p 2)
          { slot := slot, enrol := true, domain := e.dom, custodian := e.p 3, expiry := leField e.param 4 5,
            useLimit := leField e.param 9 3, waitUntil := s.now }
        match (s.port (e.p 2)).request with
        | some r => if r.slot = slot ∧ r.stage = .waitCard then s.endRequest (e.p 2) 0x01 0xFF else s
        | none => s)

/-- CUSTODIAN_REVOKE (0x0305): the enrolment is removed and the custodian uncounted, with its components; a
presentation of its token in progress ends with 0x06 (Tables 8-7 and 8-8). -/
def execCustodianRevoke (slot : Nat) (s : State) : Answer :=
  .next (s.admin slot 0x0305 noLength
    (fun e => paramZero e [0, 1, 3] && s.ceremonyDom e && decide (e.p 3 < s.ceremonyN e.dom) && !s.departing e.dom)
    fun sl s =>
      let d := sl.entry.dom
      let c := sl.entry.p 3
      let answer := fun (o : Nat) => natLe 1 o ++ natLe 1 c ++ ([0, 0] : Bytes)
      if !s.quorateFor sl d then s.failCmd slot 0x0307
      else match s.enrolled? d c with
        | none => s.succeed slot (answer 0x06)
        | some en => (s.approve slot).withStore slot .controller fun s =>
          let s := { s with quill.enrolments := s.quill.enrolments.filter fun (x : Enrolment) => x != en }
          let s := (s.commitObject objEnrolment (d * 8 + c) (zeros 48)).sendState slot 2 ({ domain := d, custodian := c : Enrolment }).toBytes
          let cer := s.quill.ceremony
          let cer := { cer with counted := cer.counted.filter (fun x => x != c),
                                components := cer.components.filter (fun (x : Component) => x.custodian != c),
                                generated := cer.generated.filter (fun (x : Component) => x.custodian != c) }
          let s : State := { s with quill.ceremony := cer.settle }
          let s := s.raise 0x61 (natLe 2 d ++ natLe 1 c ++ [2] ++ en.tokenId)
          let s := (List.range Config.quillPorts).foldl (fun s p =>
            match (s.port p).request with
            | some r => if !r.enrol && r.tokenId == en.tokenId then s.endRequest p 0x06 c else s
            | none => s) s
          s.succeed slot (answer 0))

/-- CUSTODIAN_QUERY (0x0306): the record without KEY_DIGEST; zero for a slot that is not enrolled. -/
def execCustodianQuery (slot : Nat) (s : State) : Answer :=
  .next (s.admin slot 0x0306 noLength
    (fun e => paramZero e [0, 1, 3] && s.ceremonyDom e && decide (e.p 3 < s.ceremonyN e.dom)) fun sl s =>
      let b := ((s.enrolled? sl.entry.dom (sl.entry.p 3)).map Enrolment.toBytes).getD (zeros 48)
      s.succeed slot (b.take 16 ++ b.drop 32))

/-! ## Events of the ports -/

/-- Whether a Quill port of this half is in use: a standby and a fenced half keep theirs deactivated (R345). -/
def State.portsLive (s : State) (p : Nat) : Bool :=
  decide (p < Config.quillPorts) && s.pair.phase != .standby && s.pair.phase != .fenced

/-- A debounced change of the card-presence contact: removal ends an exchange in progress with 0x0D (R321), once a commit
that the exchange waits for has been made (R333). -/
def execQuillPresenceChange (port : Nat) (present : Bool) (s : State) : Answer :=
  .next (if Config.quillPorts ≤ port then s else
    let v := s.port port
    if v.present = present then s
    else if present then
      let s := s.setPort port { v with present := true }
      match v.request with
      | some r => if r.stage = .waitCard ∧ s.portsLive port = true then s.serveRequest port else s
      | none => s
    else
      let s := (s.setPort port { v with present := false }).deactivate port 0
      match v.request with
      | some r => if r.stage = .waitCard ∨ r.held.isEmpty = false then s else s.endRequest port 0x0D r.who
      | none => s)

/-- The answer to reset of an activated token; an empty string says that none came (R319, R320). -/
def execQuillAtr (port : Nat) (atr : Bytes) (s : State) : Answer :=
  .next (match (s.port port).request with
    | some r => if s.portsLive port && r.stage == .activating then s.onAtr port atr else s
    | none => s)

/-- A block with a wrong EDC, a parity error or a waiting time exceeded (R321). A PPS response that does not come whole
fails the activation. -/
def execQuillBlockError (port : Nat) (timeout : Bool) (s : State) : Answer :=
  .next (match (s.port port).request with
    | some r =>
      if !s.portsLive port || !r.listens then s
      else if r.stage = .pps then s.failActivation port
      else s.onBlockError port (if timeout then 2 else 1)
    | none => s)

/-- A block that the token sends: the PPS response, or a block of T=1. The I-block that ends a chain completes a Quill
response message, which is checked and advances the presentation (R318, R322 to R324). -/
def execQuillResponse (port : Nat) (block : Bytes) (s : State) : Answer :=
  .next (match (s.port port).request with
    | some r =>
      if !s.portsLive port || !r.listens then s
      else if r.stage = .pps then s.onPps port block
      else s.onBlock port r block
    | none => s)

/-- No token has been inserted within WAIT (outcome 0x01). -/
def execCeremonyWaitExpiry (port : Nat) (s : State) : Answer :=
  .next (match (s.port port).request with
    | some r => if r.stage = .waitCard ∧ r.waitUntil ≤ s.now then s.endRequest port 0x01 0xFF else s
    | none => s)

/-- Whether an operation that has passed the check of the open ceremony is in progress: a request of its domain on a
port, or a command that waits for the store or a draw (R343). -/
def State.ceremonyBusy (s : State) : Bool :=
  let d := s.quill.ceremony.domain
  ((List.range Config.quillPorts).any fun p => ((s.port p).request.map fun r => r.domain == d).getD false)
    || s.host.slots.any fun e => e.2.approved.isSome && e.2.phase != .ended && e.2.entry.dom == d

/-- TIMEOUT seconds after CEREMONY_OPEN the ceremony closes; an operation that has passed its check completes first
(R343). -/
def execCeremonyTimeout (s : State) : Answer :=
  .next (
    let c := s.quill.ceremony
    if c.phase ≠ .idle ∧ c.openedAt + c.timeoutS * unitsPerSecond ≤ s.now ∧ s.ceremonyBusy = false then s.closeCeremony 1 else s)

end Sys2Proof.Machine
end

