-- ==== Sys2Proof/Machine/Rings.lean ====
section
/-! DEFINITION. Rings, doorbells, progress words, admission, input, the start of command programs and
completions ("Host Interface, Rings and Polling", "Lergen Commands, Personalities and Status"). -/

namespace Sys2Proof.Machine

/-! ## Ring control -/

/-- Run an operation on a function's ring where its registers are presented. -/
def State.onRing (f : Nat) (g : Ring → State → State) (s : State) : State :=
  if s.ringShown f then g (s.ring f) s else s

/-- Writing 1 to ENABLE (R124); no effect while the ring pair is enabled or draining (R129). -/
def execRingEnable (fn : Nat) (s : State) : Answer :=
  .next (s.onRing fn fun r s =>
    if r.enabled then s else
    s.setRing fn { r with enable := true, enabled := true, sqTail := 0, sqHead := 0, cqHead := 0, cqWrite := 0,
                          phase := true, sqFetched := 0, cqWritten := 0, pwSeq := 0, wasEligible := false })

/-- Writing 0 to ENABLE: fetching stops and the ring pair drains (R129). -/
def execRingDisable (fn : Nat) (s : State) : Answer :=
  .next (s.onRing fn fun r s => s.setRing fn { r with enable := false })

/-- The end of a drain: ENABLED falls to 0 once the function holds no slot and its last completion entry has been
written (R129). -/
def execRingDrainDone (fn : Nat) (s : State) : Answer :=
  .next (if (s.ring fn).draining && (s.slotsOf fn).isEmpty && !s.host.due.any (·.fn == fn) then
    let r := s.ring fn
    s.setRing fn { r with enabled := false }
  else s)

/-! ## Doorbells -/

/-- The active tells the standby a function's doorbells (R617, Table 18-1). -/
def State.mirrorDoorbell (f : Nat) (s : State) : State :=
  if s.leads then
    s.sendRecord 3 (natLe 2 f ++ natLe 2 (s.ring f).sqTail ++ natLe 2 (s.ring f).cqHead)
  else s

/-- A write to CUB_SQ_TAIL (R134, R136). -/
def execSqTailWrite (fn : Nat) (value : Reg) (s : State) : Answer :=
  let v := bits value.toNat 11 0
  .next (s.onRing fn fun r s =>
    if !r.enabled || decide (r.sqSize ≤ v) then s.setRing fn { r with dbError := true }
    else (s.setRing fn { r with sqTail := v }).mirrorDoorbell fn)

/-- Writing 1 to CUB_RING_STATUS.FETCH_ERROR (R131). -/
def execFetchErrorClear (fn : Nat) (s : State) : Answer :=
  .next (s.onRing fn fun r s => s.setRing fn { r with fetchError := false })

/-! ## Progress word -/

/-- Writing 1 to CUB_PW_CONTROL.FORCE (R143). -/
def execPwForce (fn : Nat) (s : State) : Answer :=
  .next (s.onRing fn fun r s => s.setRing fn { r with pwForce := true })

/-- Whether R139 and R143 let the progress word of a function be written now; only an acting half writes
host memory (R611, R619). Before the first write the fields are compared with 0 (DESIGN CHOICE, log entry 93). -/
def State.pwDue (s : State) (f : Nat) : Bool :=
  let r := s.ring f
  r.pwEnable && s.acts && s.boot.phase == .ready && s.awake domHost && !s.power.warning
    && (r.pwForce || s.pwFields f != r.pwLast.toNat)
    && (match r.pwLastAt with
        | some t => decide (t + r.pwInterval * unitsPerMicro ≤ s.now)
        | none => true)

/-- A write of the progress word (R137 to R143). One that is not delivered counts under R415; SEQ advances
before the write is issued. -/
def execProgressWordWrite (fn : Nat) (ok : Bool) (s : State) : Answer :=
  .next (if !s.pwDue fn then s else
    let r := s.ring fn
    let v := s.pwFields fn
    let seq := (r.pwSeq + 1) % 256
    let s := s.setRing fn { r with pwSeq := seq, pwForce := false, pwLast := BitVec.ofNat 64 v, pwLastAt := some s.now }
    if !(s.fnSt fn).busMaster then s.undelivered fn 0 1
    else if ok then s.dmaWrite fn r.pwAddr.toNat (natLe 8 (v + seq * 2 ^ 48))
    else ((s.dirtied fn r.pwAddr.toNat 8).pcieError fn).undelivered fn 0 1)

/-! ## Admission -/

/-- A dispatcher cycle: the den first, else the cub with the smallest VT, is granted the lowest free slot, and
the fetch of its next entry starts (R144 to R149, Table 4-4). -/
def execSlotGrant (s : State) : Answer :=
  .next (
    let s := s.noteEligible
    let den := s.eligible 0
    match (if den then some 0 else s.nextCub?), lowest? Config.slots fun k => (s.slot? k).isNone with
    | none, _ => s
    | some _, none =>
      let c := SatCount.add count31 1 s.host.denied
      ({ s with host.denied := c.1 }).saturated c.2 hifBase 0xC
    | some f, some k =>
      let r := s.ring f
      let fr := (s.fnRec? f).getD {}
      let sl : Slot := { fn := f, ringIndex := r.sqHead, grant := s.host.grants,
                         pool := if f = 0 then none else some fr.poolId }
      let r' := { r with sqHead := (r.sqHead + 1) % r.sqSize }
      let s := if f = 0 then s.setRing f r' else
        let s : State := { s with host.gv := r.vt }
        s.setRing f { r' with vt := r.vt + BitVec.ofNat 32 (strideOf fr.weight) }
      let s := s.setSlot k sl
      State.noteEligible { s with host.grants := s.host.grants + 1 })

/-- The fetches in flight of a function whose entries may still be admitted. -/
def State.fetches (s : State) (f : Nat) : List (Nat × Slot) :=
  (s.slotsOf f).filter fun e => e.2.phase == .fetching && !e.2.cancelled

/-- The oldest of them by its grant. -/
def State.oldestFetch? (s : State) (f : Nat) : Option Nat :=
  (argmin? (fun e : Nat × Slot => e.2.grant) (s.fetches f)).map Prod.fst

/-- No entry in flight of a function is admitted any more (R131, R697): the oldest of them is the next to fetch, and
each slot is held until its own fetch ends (R21). -/
def State.cancelFetches (f : Nat) (s : State) : State :=
  match s.oldestFetch? f with
  | none => s
  | some k =>
    let index := ((s.slot? k).map (·.ringIndex)).getD 0
    let s := (s.fetches f).foldl (fun s e => s.modSlot e.1 fun sl => { sl with cancelled := true }) s
    s.setRing f { s.ring f with sqHead := index }

/-- Admission stops or is held on every function (R697). -/
def State.cancelAll (s : State) : State := (s.host.rings.map Prod.fst).foldl (fun s f => s.cancelFetches f) s

/-- Give an admitted command its place in the in-step stream of an active half (R617). -/
def State.joinStream (k f : Nat) (s : State) : State :=
  if !s.leads then s else
  let c : PairCommand := { admission := s.pair.admissionNext, epoch := s.pair.epoch, slot := k, fn := f }
  { s with pair.commands := s.pair.commands ++ [c], pair.admissionNext := s.pair.admissionNext + 1 }

/-- Send the ADMIT record of a command with its input (R618). -/
def State.sendAdmit (k : Nat) (input : Bytes) (s : State) : State :=
  if !s.leads then s else
  match s.slot? k, s.pair.commands.find? fun c => c.slot == k && !c.settled with
  | some sl, some c =>
    if c.admitFrame.isSome then s else
    let l := s.streamLink
    let s := s.sendOn l 1 (natLe 8 c.admission ++ natLe 2 sl.fn ++ natLe 2 sl.ringIndex ++ sl.entry.raw ++ input)
    let fr := (l, (s.link l).lastSeq)
    let f := fun x : PairCommand => if x.admission = c.admission then { x with admitFrame := some fr } else x
    { s with pair.commands := s.pair.commands.map f }
  | _, _ => s

/-- Whether a command has neither input nor a scatter list to read. -/
def Entry.noInput (e : Entry) : Bool := e.inLength == 0 && !e.inSgl && !e.outSgl

/-- Whether IN_LENGTH and OUT_LENGTH pass the check of R167 that precedes the read of the input; the lengths of
an administrative opcode are checked with its PARAM. -/
def Slot.lengthsOk (sl : Slot) : Bool :=
  decide (sl.entry.inLength ≤ 65536) && decide (sl.entry.outLength ≤ 65536)
    && (sl.setId.isSome || sl.persKind != 1 || isAdmin sl.entry.opcode || nativeLength sl.entry)

/-- Whether a lodge region of gate 3 may concern the host interface (R31). -/
def State.stagingWalls (s : State) : Bool :=
  s.tables.gates.any fun g => g.gate == 3 && decide (g.masterLo ≤ 0xA0) && decide (0xA0 ≤ g.masterHi)

/-- Move a span that begins at a multiple of 64 through gate 3 for the host interface in pieces of 64 bytes, n of them at
most, each checked by its first byte (R475). A refused piece transfers nothing (R30, R476): zeros stand for it (DESIGN
CHOICE, log entry 97). -/
def State.movePieces (kind : Nat) : Nat → Nat → Bytes → State → Bytes × State
  | 0, _, b, s => (b, s)
  | n + 1, off, b, s =>
    if b.isEmpty then ([], s) else
    let p := b.take 64
    let r := match s.gateRefusal? 0xA0 false 3 off kind with
      | none => (p, s)
      | some region => (zeros p.length, s.gateViolation 0xA0 false 3 off kind region)
    let t := State.movePieces kind n (off + 64) (b.drop 64) r.2
    (r.1 ++ t.1, t.2)

/-- The bytes that pass gate 3 to or from an offset of the staging buffer of a slot. -/
def State.hostMove (k base kind : Nat) (b : Bytes) (s : State) : Bytes × State :=
  if s.stagingWalls then s.movePieces kind ((b.length + 63) / 64) (k * 0x20000 + base) b else (b, s)

/-- Fill the input window of a slot with what passes gate 3; its other bytes, and the output window, are zero (R470). -/
def State.fillInput (k : Nat) (data : Bytes) (s : State) : State :=
  let m := s.hostMove k 0 accWrite data
  (m.2.zeroMem (stagingAddr k 0) (stagingAddr k 0x20000)).putTarget 3 (k * 0x20000) m.1

/-- Check and route the entry of an admitted command: the TAG (R150), steps 1 to 4 of R168 and R153, then the
way to a skulk of the pool, or to the sealed controller. A command without input is ready at once. -/
def State.dispatch (k : Nat) (tagHeld : Bool) (s : State) : State :=
  match s.slot? k with
  | none => s
  | some sl =>
    if tagHeld then (s.failCmd k 0x0120).sendAdmit k [] else
    match s.entryChecks sl.fn sl.entry with
    | .inl st => (s.failCmd k st).sendAdmit k []
    | .inr sel =>
      let pool := ((s.fnRec? sl.fn).map (·.poolId)).getD 0xFF
      let s := s.modSlot k fun sl =>
        { sl with setId := sel.setId, programWorld := sel.sealedWorld, persKind := sel.kind }
      let s := if isAdmin sl.entry.opcode || pool == 0xFF then s else s.route k pool
      match s.slot? k with
      | none => s
      | some sl =>
        if sl.phase = .ended then s.sendAdmit k []
        else if !sl.lengthsOk then (s.failCmd k 0x0105).sendAdmit k []
        else if sl.entry.noInput then ((s.fillInput k []).modSlot k fun sl => { sl with phase := .ready }).sendAdmit k []
        else s

/-- Whether another part of the stream of an entry is in flight for its function (R188). -/
def State.streamInFlight (s : State) (k : Nat) (sl : Slot) : Bool :=
  sl.entry.streamPart != 0 && (s.slotsOf sl.fn).any fun e =>
    e.1 != k && e.2.phase != .fetching && e.2.entry.streamPart != 0 && e.2.entry.streamId == sl.entry.streamId

/-- Admit the fetched entry of a slot: it is consumed, and is checked and routed. -/
def State.takeEntry (k f : Nat) (data : Bytes) (s : State) : State :=
  let e := parseEntry data
  let held := (s.slotsOf f).any fun x => x.1 != k && x.2.phase != .fetching && x.2.entry.tag == e.tag
  let s := s.modSlot k fun sl => { sl with entry := e, phase := .admitted, epoch := s.pair.epoch }
  let clash := match s.slot? k with
    | some sl => s.streamInFlight k sl
    | none => false
  let s := s.modSlot k fun sl => { sl with streamClash := clash }
  let r := s.ring f
  ((s.setRing f { r with sqFetched := (r.sqFetched + 1) % 65536 }).joinStream k f).dispatch k held

/-- The end of an entry's fetch. Entries are admitted in ring order (R123): only the oldest fetch of the function
ends with its admission. One that may not be admitted any more leaves its entry posted, and its slot is released
(R697). -/
def execEntryFetchDone (slot : Nat) (data : Bytes) (s : State) : Answer :=
  .next (match s.slot? slot with
    | none => s
    | some sl =>
      if sl.phase ≠ .fetching then s
      else if sl.cancelled then s.releaseSlot slot
      else if s.oldestFetch? sl.fn ≠ some slot then s
      else if s.admitting && !s.fnHeld sl.fn then s.takeEntry slot sl.fn data
      else (s.cancelFetches sl.fn).releaseSlot slot)

/-- A fetch that ends in a PCI Express error (R131): the entry is not consumed, FETCH_ERROR is set, and the slot is
released. Entries behind it that are in flight are not admitted. -/
def execEntryFetchError (slot : Nat) (s : State) : Answer :=
  .next (match s.slot? slot with
    | none => s
    | some sl =>
      if sl.phase ≠ .fetching ∨ (sl.cancelled = false ∧ s.oldestFetch? sl.fn ≠ some slot) then s else
      let s := if sl.cancelled then s else s.cancelFetches sl.fn
      let s := (s.releaseSlot slot).pcieError sl.fn
      let r := s.ring sl.fn
      (s.setRing sl.fn { r with fetchError := true }).raise 0x13 (natLe 2 sl.fn ++ zeros 2))

/-! ## Input -/

/-- The read of a command's scatter lists and input from host memory: `inList` and `outList` are the bytes of
the two lists, `data` the input (R132, R165, R166). -/
def execCommandInputRead (slot : Nat) (ok : Bool) (inList outList data : Bytes) (s : State) : Answer :=
  .next (match s.slot? slot with
    | none => s
    | some sl =>
      let e := sl.entry
      if sl.phase ≠ .admitted ∨ s.pair.phase = .standby then s else
      let ins := if e.inSgl then scatterList? e.inAddr e.inLength inList else some []
      let outs := if e.outSgl then scatterList? e.outAddr e.outLength outList else some []
      if !ok then ((s.pcieError sl.fn).failCmd slot 0x0520).sendAdmit slot []
      else match ins, outs with
        | some _, some l =>
          let d := fit e.inLength data
          ((s.fillInput slot d).modSlot slot fun sl => { sl with phase := .ready, outList := l }).sendAdmit slot d
        | _, _ => (s.failCmd slot 0x0103).sendAdmit slot [])

/-! ## The start of a program -/

/-- The registers at the start of a program (Table 6-3), after every register has been cleared (R26, R211). -/
def startCtx (sl : Slot) (frame : Nat) (evec dfvec entry : Nat) : Ctx :=
  let lo := if sl.programWorld then 0x1000000 + frame * 0x800 else 0x1040000 + frame * 0x1000
  let hi := lo + (if sl.programWorld then 0x800 else 0x1000)
  let x : Ctx := { pc := BitVec.ofNat 64 entry, evec := BitVec.ofNat 32 evec, dfvec := BitVec.ofNat 32 dfvec,
                   stackLo := BitVec.ofNat 32 lo, stackHi := BitVec.ofNat 32 hi }
  let x := (((x.setG 1 0x2000000).setG 2 (BitVec.ofNat 64 sl.entry.inLength)).setG 3
    (BitVec.ofNat 64 sl.entry.outLength)).setG 4 0x2010000
  let x := (x.setG 5 0x2020000).setG 30 (BitVec.ofNat 64 hi)
  [0, 1, 2, 3].foldl (fun x i => x.setK i (sl.entry.handle i)) x

/-- The start values of the slot's program: handlers and entry of its set's entry table (R210, R219). -/
def State.programCtx (s : State) (sl : Slot) (frame : Nat) : Ctx :=
  match sl.setId.bind s.program? with
  | none => startCtx sl frame 0 0 0
  | some p =>
    let at_ := fun op => ((p.entries.find? (·.opcode == op)).map (·.codeEntry)).getD 0
    startCtx sl frame (at_ 0xFFF0) (at_ 0xFFF1) (at_ sl.entry.opcode)

/-- Whether a core of a skulk can take a command: it runs, it is free, and its skulk is awake and not being wiped (Table
12-3). -/
def State.coreFree (s : State) (c : Nat) : Bool :=
  decide (c < Config.cores) && !(s.core c).stopped && (s.core c).slot.isNone && s.awake (domSkulk (c / 4))
    && !s.mem.withdrawn.getLsbD (c / 4) && !s.wipingLarder (c / 4)

/-- Whether a context frame of a skulk is free (R202, R203). -/
def State.frameFree (s : State) (q f : Nat) : Bool :=
  decide (f < 32) && !s.host.slots.any fun e => e.2.skulk == some q && e.2.frame == some f

/-- A command that has left the miss pen or YIELD comes before every command of its skulk that has not
started (R156, R369). -/
def State.resumeWaits (s : State) (q : Nat) : Bool :=
  s.host.slots.any fun e => e.2.phase == .resume && e.2.skulk == some q

/-- A command released from the miss pen or from YIELD takes a core; a stream part that has not begun runs its
prologue again (R253). -/
def State.takeUp (k c : Nat) (s : State) : State :=
  let s := s.resumeOn k c
  match s.slot? k with
  | some sl => if sl.phase = .running && !sl.started then s.streamPrologue k else s
  | none => s

/-- Take a routed command on a free core and frame: the prologue and the registers of Table 6-3, or, for a
command released from the miss pen, its resumption. -/
def State.startOn (k c f : Nat) (s : State) : State :=
  match s.slot? k with
  | none => s
  | some sl =>
    let q := c / 4
    if sl.phase = .resume then s.takeUp k c
    else if sl.phase ≠ .ready ∨ sl.skulk ≠ some q ∨ !s.coreFree c || !s.frameFree q f || s.resumeWaits q then s
    else
      let x := s.programCtx sl f
      let s := (s.setCore c { s.core c with slot := some k }).touchDom (domSkulk q)
      (s.modSlot k fun sl => { sl with phase := .running, core := some c, frame := some f, ctx := x }).streamPrologue k

/-- A core takes a routed command (R210). -/
def execCommandStart (slot core frame : Nat) (s : State) : Answer := .next (s.startOn slot core frame)

/-- The start of a command of an owner extension personality: the program that its set's entry table names
(R177). -/
def execExtensionCommand (slot core frame : Nat) (s : State) : Answer :=
  .next (match s.slot? slot with
    | some sl => if sl.persKind = 3 ∧ sl.setId.isSome then s.startOn slot core frame else s
    | none => s)

/-! ## Completion -/

/-- INLINE_RESULT of a completion entry (R170 to R173). -/
def Slot.inline (sl : Slot) : Bytes :=
  if sl.status = 0 then fit 16 (sl.result.take 16) else if sl.status = 0x0104 then zeros 16 else fit 16 sl.detail

/-- The 32 bytes of a completion entry (Table 5-3). -/
def State.completionEntry (s : State) (sl : Slot) (phase : Bool) : Bytes :=
  natLe 1 sl.entry.tag ++ [0] ++ natLe 2 sl.status.toNat ++ natLe 4 sl.needed ++ sl.inline
    ++ natLe 4 (s.now / unitsPerCoreCycle) ++ natLe 2 sl.entry.opcode
    ++ natLe 1 (b2n phase + b2n s.antler.debug * 2 + b2n sl.admittedAsStandby * 4) ++ [0]

/-- Write the result data of a command to its output buffer (R170, R193). -/
def State.writeResult (sl : Slot) (s : State) : State :=
  if sl.entry.outLength = 0 ∨ sl.result.isEmpty = true then s
  else if sl.entry.outSgl then s.dmaScatter sl.fn sl.outList sl.result
  else s.dmaResult sl.fn sl.entry.outAddr.toNat sl.result

/-- A write of result data that ends in a PCI Express error (R171, R414, R438). -/
def State.writeFails (sl : Slot) (s : State) : State :=
  let s := if sl.entry.outSgl then s.dirtyScatter sl.fn sl.outList sl.result.length
    else s.dirtied sl.fn sl.entry.outAddr.toNat sl.result.length
  s.pcieError sl.fn

/-- A write of a completion entry that ends in a PCI Express error: the entry is not delivered (R414, R415, R438). -/
def State.entryFails (k : Nat) (sl : Slot) (s : State) : State :=
  let r := s.ring sl.fn
  ((s.dirtied sl.fn (r.cqBase.toNat + 32 * r.cqWrite) 32).pcieError sl.fn).dropCompletion k

/-- The counts of a function for a completion entry that has been written: CUBT_SQUASHED, and the resets in
progress. -/
def State.countWritten (f : Nat) (status : Status) (s : State) : State :=
  let squash := status.toNat / 256 == 6
  let v := s.fnSt f
  let op := fun r : ResetOp =>
    if squash then { r with squashed := r.squashed + 1 } else { r with completed := r.completed + 1 }
  let c := if squash then SatCount.add count31 1 v.squashed else (v.squashed, false)
  (s.setFn f { v with squashed := c.1, resets := v.resets.map op }).saturated c.2 0x200000 (f * 0x200 + 0x10)

/-- Write the completion entry of a command at the write index in its two posted writes and advance the index (R126,
R127). -/
def State.putEntry (sl : Slot) (s : State) : State :=
  let r := s.ring sl.fn
  let b := s.completionEntry sl r.phase
  let a := r.cqBase.toNat + 32 * r.cqWrite
  let s := (s.dmaWrite sl.fn a (b.take 24)).dmaWrite sl.fn (a + 24) (b.drop 24)
  let i := (r.cqWrite + 1) % r.cqSize
  let s := s.setRing sl.fn { r with cqWrite := i, phase := if i = 0 then !r.phase else r.phase,
                                    cqWritten := (r.cqWritten + 1) % 65536 }
  let s : State := { s with pair.wrote := if s.leads then s.pair.wrote ++ [sl.fn] else s.pair.wrote }
  (s.countWritten sl.fn sl.status).touchDom domHost

/-- Write the completion entry of the command in a slot and release the slot (R20, R21). -/
def State.writeEntry (k : Nat) (sl : Slot) (s : State) : State := (s.putEntry sl).releaseSlot k

/-- Whether completion entries of a function may be written now: this half acts and holds no warning, and a position is
free. -/
def State.mayComplete (s : State) (f : Nat) : Bool :=
  s.acts && s.boot.phase == .ready && s.awake domHost && !s.power.warning && (s.ring f).enabled && (s.ring f).cqFree

/-- Whether a reset lets the completion of a slot be written: after a squash the completions of the function come in
admission order (R416), and that of the command that asked for a reset, which is its indication, comes after those of its
scope, whatever its status (R419, R422). -/
def State.resetOrder (s : State) (k : Nat) (sl : Slot) : Bool :=
  (!(s.fnSt sl.fn).resets.any (·.squashDone)
    || (s.slotsOf sl.fn).all fun e => e.1 == k || e.2.phase == .fetching || decide (sl.grant ≤ e.2.grant))
  && !s.cub.fns.any fun e => e.2.resets.any fun o => o.slot == some k && o.grant == sl.grant

/-- Whether the completion of a slot may be written now: the command has ended, the standby's RESULT agrees, and a reset
in progress lets it. -/
def State.completable (s : State) (k : Nat) (sl : Slot) : Bool :=
  sl.phase == .ended && s.mayComplete sl.fn && s.confirmed k && s.resetOrder k sl

/-- Write the completions of a removed function's entries in ring order, at most n of them, while positions are free
(R109). One that cannot be delivered counts under R415. -/
def State.writeDue (f : Nat) : Nat → State → State
  | 0, s => s
  | n + 1, s =>
    match s.host.due.find? (·.fn == f) with
    | none => s
    | some d =>
      if !s.mayComplete f then s else
      let s : State := { s with host.due := s.host.due.erase d }
      let s := if (s.fnSt f).busMaster then s.putEntry { fn := f, entry := d.entry, status := 0x0608 }
        else s.undelivered f d.entry.tag 0
      State.writeDue f n s

/-- Write what is due of a removed function; the commit of the delta is reported after the last (R113). -/
def State.settleFn (f : Nat) (s : State) : State := (s.writeDue f s.host.due.length).lodgeReport

/-- The writes of a completion, from what passes gate 3 of the output window: result data (`dataOk` its delivery), then the entry (`entryOk`). An error in
the result data turns the outcome into 0x0521 (R171); an entry that is not delivered counts under R415. -/
def execCompletionWrite (slot : Nat) (dataOk entryOk : Bool) (s : State) : Answer :=
  .next (match s.slot? slot with
    | none => s
    | some sl =>
      if !s.completable slot sl then s
      else if !(s.fnSt sl.fn).busMaster then s.dropCompletion slot
      else
        let m := s.hostMove slot 0x10000 accRead sl.result
        let s := m.2
        let sl := { sl with result := m.1 }
        let fails := sl.entry.outLength != 0 && !sl.result.isEmpty && !dataOk
        let s := if fails then (s.writeFails sl).endStream sl else s.writeResult sl
        let sl := if fails then { sl with status := 0x0521, result := [], needed := 0, detail := [] } else sl
        if entryOk then s.writeEntry slot sl else s.entryFails slot sl)

/-- A write to CUB_CQ_HEAD (R135); completions of removed functions take the positions that it frees (R109). -/
def execCqHeadWrite (fn : Nat) (value : Reg) (s : State) : Answer :=
  let v := bits value.toNat 11 0
  .next (s.onRing fn fun r s =>
    if r.cqSize ≤ v ∨ ringDiff r.cqWrite r.cqHead r.cqSize < ringDiff v r.cqHead r.cqSize then
      s.setRing fn { r with dbError := true }
    else ((s.setRing fn { r with cqHead := v }).mirrorDoorbell fn).settleFn fn)

/-! ## Power states of the physical function -/

/-- Entry to D3hot: no command is admitted from any function (R119, R697). -/
def execD3hotEntry (s : State) : Answer := .next { s.cancelAll with host.d3hot := true }

/-- Return to D0: the rings keep everything, and domain 34 wakes (R119, Table 19-2). -/
def execD0Entry (s : State) : Answer :=
  .next (if s.host.d3hot then (({ s with host.d3hot := false } : State)).beginWake domHost else s)

end Sys2Proof.Machine
end

