-- ==== Sys2Proof/Machine/CubOps.lean ====
section
/-! DEFINITION. Resets and flushes of functions: the drain sequence of Tables 11-2 to 11-4 ("Cub Functions, Tenant
Isolation and Migration"). -/

namespace Sys2Proof.Machine

/-! ## The start of a reset -/

/-- The squash status of a kind (Table 11-2). -/
def ResetKind.status : ResetKind → Status
  | .cubReset => 0x0602
  | .vfFlr => 0x0603
  | .pfFlr => 0x0601
  | .flush => 0x0604
  | .freeze => 0x0605

/-- Whether the registers of a function take their reset values at the end of a reset of a kind. -/
def ResetKind.setsRegisters : ResetKind → Bool
  | .cubReset | .vfFlr | .pfFlr => true
  | .flush | .freeze => false

/-- The functions that exist on the link: the den, and the cubs whose number is below NumVFs (R409). -/
def State.linked (s : State) : List Nat :=
  0 :: if s.cub.vfEnable then (List.range (min s.cub.numVfs Config.functions)).drop 1 else []

/-- Begin a reset on each function of its scope (Table 11-3, time T): its admission stops (R697). -/
def State.startReset (kind : ResetKind) (fns : List Nat) (slot : Option Nat) (grant : Nat) (s : State) : State :=
  let op : ResetOp := { kind := kind, start := s.now, slot := slot, grant := grant }
  fns.foldl (fun s f =>
    (s.setFn f { s.fnSt f with resets := (s.fnSt f).resets ++ [op] }).cancelFetches f) s

/-- R420: the submission head moves to the tail, the entries passed count in SQ_FETCHED, and the reset that asked
for it counts them. Entries whose fetch is in flight were never admitted (R697). -/
def State.discardPosted (slot : Nat) (f : Nat) (s : State) : State :=
  let s := s.cancelFetches f
  let r := s.ring f
  let n := ringDiff r.sqTail r.sqHead r.sqSize
  let s := s.setRing f { r with sqHead := r.sqTail, sqFetched := (r.sqFetched + n) % 65536 }
  let v := s.fnSt f
  let op := fun o : ResetOp => if o.slot = some slot then { o with discarded := o.discarded + n } else o
  s.setFn f { v with resets := v.resets.map op }

/-! ## The squash at T + 1 ms -/

/-- Whether the outcome of a command that has ended stands at a squash: that of an earlier squash (R421), of a
tamper event, a life-cycle change, a switch-over or a core stop (Table 11-4). -/
def outcomeStands (st : Status) : Bool :=
  let c := st.toNat / 256
  c == 6 || c == 7 || c == 8 || st == 0x0F02

/-- Squash the command in a slot, whose completion write has not begun (R416, R417): its jobs are aborted, its
miss-pen wait cancelled and its reservations released, and its completion carries the status alone. -/
def State.squash (k : Nat) (st : Status) (s : State) : State :=
  match s.slot? k with
  | none => s
  | some sl =>
    if sl.phase = .fetching then s
    else if sl.phase ≠ .ended then
      let s := (List.range Config.quillPorts).foldl (fun s p =>
        if ((s.port p).request.map (·.slot)) = some k then s.failRequest p st else s) s
      s.endCmd k st [] []
    else if outcomeStands sl.status then s
    else ((s.endStream sl).modSlot k fun sl =>
      { sl with status := st, result := [], needed := 0, detail := [] }).pairEnded k

/-- The slots of a function in admission order. -/
def State.admittedOf (s : State) (f : Nat) : List (Nat × Slot) :=
  ((s.slotsOf f).filter fun e => e.2.phase != .fetching).mergeSort fun a b => decide (a.2.grant ≤ b.2.grant)

/-- The squash of the reset of a function whose 1 ms has passed, the oldest first (R421). -/
def State.drainSquash (f : Nat) (s : State) : State :=
  let v := s.fnSt f
  match v.resets.find? fun o => !o.squashDone && decide (o.start + unitsPerMilli ≤ s.now) with
  | none => s
  | some o =>
    let s := (s.admittedOf f).foldl (fun s e => s.squash e.1 o.kind.status) s
    let v := s.fnSt f
    let g := fun x : ResetOp => if x.kind = o.kind ∧ x.start = o.start ∧ x.slot = o.slot then
      { x with squashDone := true } else x
    s.setFn f { v with resets := v.resets.map g }

/-! ## T + 2 ms -/

/-- The completions of a removed function's entries that still have no position are undelivered (R415). -/
def State.dropDue (f : Nat) (s : State) : State :=
  let gone := s.host.due.filter (·.fn == f)
  let s := gone.foldl (fun s d => s.undelivered f d.entry.tag 0) s
  State.lodgeReport { s with host.due := s.host.due.filter (·.fn != f) }

/-- Completions of a function that still have no position, or are not deliverable, 2 ms after the start of a reset
are undelivered (Table 11-3, R415). -/
def State.drainUndelivered (f : Nat) (s : State) : State :=
  let v := s.fnSt f
  if v.resets.any fun o => o.squashDone && decide (o.start + 2 * unitsPerMilli ≤ s.now) then
    let r := s.ring f
    let free := if v.busMaster && r.enabled then
        r.cqSize - 1 - ringDiff r.cqWrite r.cqHead r.cqSize
      else 0
    let s := (((s.admittedOf f).filter fun e => e.2.phase == .ended).drop free).foldl (fun s e => s.dropCompletion e.1) s
    s.dropDue f
  else s

/-! ## The end -/

/-- Whether two entries of the functions' lists belong to one reset. -/
def ResetOp.same (a b : ResetOp) : Bool :=
  a.kind == b.kind && a.start == b.start && a.slot == b.slot && a.grant == b.grant

/-- The scope of a reset of a function: the function alone for its own function-level reset, else every function that
the same command or the same reset of function 0 drains. -/
def State.resetScope (s : State) (f : Nat) (o : ResetOp) : List Nat :=
  if o.kind = .vfFlr then [f]
  else (s.cub.fns.filter fun e => e.2.resets.any o.same).map Prod.fst

/-- The registers of a function at their reset values. `flr` puts the fields of its configuration space at the reset values
of the PCI Express standard. The dirty-page log ends; open streams are discarded. -/
def State.resetFunction (flr : Bool) (f : Nat) (s : State) : State :=
  let s := s.setRing f { ({} : Ring) with vt := (s.ring f).vt }
  let v := s.fnSt f
  let s := s.setFn f { v with busMaster := v.busMaster && !flr, relaxed := v.relaxed || flr, dirty := none,
                              maxRead := if flr then 512 else v.maxRead,
                              maxPayload := if flr then 128 else v.maxPayload, nonFatal := v.nonFatal && !flr }
  State.reloadRing f { s with host.streams := s.host.streams.filter fun x => x.fn != f }

/-- The domain of a function that a domain-scope save has made departing. -/
def State.departingFn (s : State) (f : Nat) : Bool :=
  (s.fnSt f).migScope == 2 && match s.fnDomain? f with
    | some d => s.departing d
    | none => false

/-- Take a function out of the saved packages; a cub-scope package without a cub is dropped. -/
def State.unsave (f : Nat) (s : State) : State :=
  let out := fun p : SavedPackage => { p with cubs := p.cubs.filter (· != f) }
  { s with cub.saved := (s.cub.saved.map out).filter fun p => p.scope == 2 || !p.cubs.isEmpty }

/-- A function leaves migration (Table 11-7). -/
def State.endMigration (f : Nat) (s : State) : State :=
  let s := s.unsave f
  s.setFn f { s.fnSt f with mig := .none, migScope := 0 }

/-- What the end of a reset does to one function of its scope (Tables 11-2 and 11-7). -/
def State.finishReset (o : ResetOp) (f : Nat) (s : State) : State :=
  let s := if o.kind.setsRegisters then
      let s := s.resetFunction (o.kind == .vfFlr || o.kind == .pfFlr) f
      if (s.fnSt f).mig = .none ∨ s.departingFn f = true then s else s.endMigration f
    else if o.kind = .freeze ∧ (s.fnSt f).mig = .freezing then
      let s := s.setFn f { s.fnSt f with mig := .frozen }
      { s with host.streams := s.host.streams.filter fun x => x.fn != f }
    else s
  let v := s.fnSt f
  s.setFn f { v with resets := v.resets.filter fun x => !x.same o }

/-- The entries of one reset in the lists of its scope. -/
def State.resetOps (s : State) (o : ResetOp) (fns : List Nat) : List ResetOp :=
  fns.filterMap fun f => (s.fnSt f).resets.find? o.same

/-- The result of CUB_RESET, CUB_FLUSH and MIG_FREEZE (Table 11-8). -/
def resetResult (ops : List ResetOp) : Bytes :=
  let sum := fun g : ResetOp → Nat => natLe 2 (min 0xFFFF ((ops.map g).sum))
  [0, 0] ++ sum (·.completed) ++ sum (·.squashed) ++ sum (·.undelivered) ++ sum (·.discarded) ++ [0, 0]

/-- Give the reset-complete indication of a reset whose scope holds no slot (R199, R419). -/
def State.resetComplete (f : Nat) (s : State) : State :=
  match (s.fnSt f).resets.find? fun o => (s.resetScope f o).all fun g => (s.slotsOf g).isEmpty && !s.host.due.any (·.fn == g) with
  | none => s
  | some o =>
    let fns := s.resetScope f o
    let ops := s.resetOps o fns
    let s := fns.foldl (fun s g => s.finishReset o g) s
    let s : State := if o.kind = .pfFlr then
        { s with cub.vfEnable := false, cub.numVfs := 0, host.d3hot := false } else s
    match o.slot with
    | none => s
    | some k => match s.slot? k with
      | some sl => if sl.phase = .waiting ∧ sl.grant = o.grant ∧ sl.fn = 0 then s.succeed k (resetResult ops) else s
      | none => s

end Sys2Proof.Machine
end

