-- ==== Sys2Proof/Machine/Dram.lean ====
section
/-! DEFINITION. The content of the DRAM by offset (R467, Table 12-6): the regions that State holds as typed data, read
and written as the bytes that the Sett and the host interface keep there, and the 16-byte units as the stacks hold them
(R468, Table 12-7). -/

namespace Sys2Proof.Machine

/-! ## Regions -/

/-- The DRAM offset of a byte of the target of gates 3 to 6 (Table 12-8). -/
def dramOffset (g off : Nat) : Nat :=
  match g with
  | 3 => 0x50000000 + off
  | 5 => 0x80000000 + off
  | 6 => 0x100000000 + off
  | _ => off

/-- The address in `mem` of a byte of DRAM that the model keeps as bytes: the inverse of `dramOffset`. -/
def dramAddr (d : Nat) : Nat :=
  if d < 0x50000000 then gateAddr 4 d
  else if d < 0x80000000 then gateAddr 3 (d - 0x50000000)
  else if d < 0x100000000 then gateAddr 5 (d - 0x80000000)
  else gateAddr 6 (d - 0x100000000)

/-- A version tree by its place in the region of the trees, with the number of its units and of its levels (R468). -/
inductive TreeId where
  | key | legacy | stream
  deriving DecidableEq, Repr

/-- The units that a tree covers. -/
def TreeId.units : TreeId → Nat
  | .key => 2 ^ 23
  | .legacy => 2 ^ 22
  | .stream => 2 ^ 17

/-- The levels of a tree. -/
def TreeId.levels : TreeId → Nat
  | .key => keyLevels
  | .legacy => legacyLevels
  | .stream => streamLevels

/-- The bytes of a tree, up to the next 4 KiB boundary (Table 12-6). -/
def TreeId.span (t : TreeId) : Nat := (nodeOffset t.units t.levels 0 + 4095) / 4096 * 4096

/-- The DRAM offset of a tree. -/
def TreeId.base : TreeId → Nat
  | .key => 0x40000000
  | .legacy => 0x40000000 + TreeId.span .key
  | .stream => 0x40000000 + TreeId.span .key + TreeId.span .legacy

/-- The level and the index of the j-th node of a tree, from a level on. -/
def nodeFrom (units : Nat) : Nat → Nat → Nat → Option (Nat × Nat)
  | 0, _, _ => none
  | n + 1, l, j => if j < levelNodes units l then some (l, j) else nodeFrom units n (l + 1) (j - levelNodes units l)

/-- The tree and node in which an offset of the region of the trees lies, and the byte in the node. -/
def treeNodeAt? (d : Nat) : Option (TreeId × Nat × Nat × Nat) :=
  let t : TreeId := if d < TreeId.base .legacy then .key else if d < TreeId.base .stream then .legacy else .stream
  (nodeFrom t.units t.levels 0 ((d - t.base) / 64)).map fun n => (t, n.1, n.2, (d - t.base) % 64)

/-- A version tree of the Sett. -/
def State.tree (s : State) : TreeId → VersionTree
  | .key => s.sett.keyTree
  | .legacy => s.sett.legacyTree
  | .stream => s.sett.streamTree

/-- Replace a version tree. -/
def State.setTree (t : TreeId) (v : VersionTree) (s : State) : State :=
  match t with
  | .key => { s with sett.keyTree := v }
  | .legacy => { s with sett.legacyTree := v }
  | .stream => { s with sett.streamTree := v }

/-- The key whose body has a granule, and the place of the granule in it. -/
def State.granuleOwner? (s : State) (g : Nat) : Option (KeyId × Nat) :=
  s.sett.keys.findSome? fun e =>
    match e.2.record with
    | some r => ((chainOf s.sett.granuleMap (granulesFor r.body.length) r.granule).findIdx? (· == g)).map fun i => (e.1, i)
    | none => none

/-- The dirty-page log of a bitmap area (Table 12-6). -/
def State.logAt? (s : State) (i : Nat) : Option (Nat × DirtyLog) :=
  s.cub.fns.findSome? fun e => e.2.dirty.bind fun l => if l.area = i then some (e.1, l) else none

/-! ## Reading -/

/-- A byte of DRAM at an offset, as the gate answers it: plaintext in the regions that the stacks' XTS protects, the stored
unit elsewhere. -/
def State.dramByte (s : State) (d : Nat) : Byte :=
  if d < 0x40000000 then byteAt (tget s.sett.keys (d / 128) {}).stored (d % 128)
  else if d < 0x48000000 then
    match treeNodeAt? d with
    | some (t, l, i, o) => byteAt ((s.tree t).nodeBytes s.tableKey t.base t.units l i) o
    | none => 0
  else if d < 0x70000000 then memByte s.mem.mem (dramAddr d)
  else if d < 0x72000000 then byteAt (tget s.sett.streamUnits ((d - 0x70000000) / 256) []) (d % 256)
  else if d < 0x74000000 then
    match s.logAt? ((d - 0x72000000) / 0x200000) with
    | some (_, l) => tget l.bitmap (d % 0x200000) 0
    | none => memByte s.mem.mem (dramAddr d)
  else if d < 0x80000000 then memByte s.mem.mem (dramAddr d)
  else if d < 0xC0000000 then byteAt (tget s.sett.legacyUnits ((d - 0x80000000) / 256) []) (d % 256)
  else if d < 0xC4000000 then byteAt (tget s.sett.legacyUnits ((d - 0xC0000000) / 16) []) (256 + d % 16)
  else if d < 0xC4200000 then byteAt (tget s.sett.streamUnits ((d - 0xC4000000) / 16) []) (256 + d % 16)
  else if d < 0xC6200000 then
    byteAt (natLe 4 ((tget s.sett.granuleMap ((d - 0xC4200000) / 4) 0).toNat)) (d % 4)
  else if d < 0x100000000 then memByte s.mem.mem (dramAddr d)
  else match s.granuleOwner? ((d - 0x100000000) / 1024) with
    | some (k, i) => byteAt (tget s.sett.keys k {}).storedBody (1024 * i + d % 1024)
    | none => memByte s.mem.mem (dramAddr d)

/-- n bytes behind a gate: the DRAM of gates 3 to 6, and the bytes of the other targets. -/
def State.readTarget (s : State) (g off n : Nat) : Bytes :=
  if 3 ≤ g ∧ g ≤ 6 then (List.range n).map fun i => s.dramByte (dramOffset g (off + i))
  else memBytes s.mem.mem (gateAddr g off) n

/-- The 16 bytes of a unit as the stacks hold it (Table 12-7): enciphered under the staging key, or the table key for the
granule map, with the offset as tweak; in the other regions the stored unit itself. -/
def State.dramUnit (s : State) (d : Nat) : Bytes :=
  let b := (List.range 16).map fun i => s.dramByte (d + i)
  if (0x48000000 ≤ d ∧ d < 0x70000000) ∨ (0x72000000 ≤ d ∧ d < 0x74000000) then
    fit 16 (Config.xts (s.stagingKey.getD []) d b)
  else if 0xC4200000 ≤ d ∧ d < 0xC6200000 then fit 16 (Config.xts s.tableKey d b)
  else b

/-! ## Writing -/

/-- A byte of a string replaced; a shorter string is filled with zeros up to it. -/
def patch (b : Bytes) (i : Nat) (v : Byte) : Bytes := b.take i ++ zeros (i - b.length) ++ [v] ++ b.drop (i + 1)

/-- A byte of a number replaced. -/
def patchNat (w v i : Nat) (b : Byte) : Nat := leNat (patch (natLe w v) i b)

/-- Write a byte of a node of a version tree: a version in a leaf, a counter elsewhere. The CMAC of a node is the one that
the Sett computes for it. -/
def VersionTree.putByte (l i o : Nat) (b : Byte) (t : VersionTree) : VersionTree :=
  if l = 0 then { t with versions := tupd t.versions (8 * i + o / 8) 0 fun v => patchNat 8 v (o % 8) b }
  else if o < 56 then { t with counters := tupd t.counters (counterKey l (8 * i + o / 7)) 0 fun v => patchNat 7 v (o % 7) b }
  else t

/-- Write a byte of DRAM at an offset. -/
def State.putDramByte (d : Nat) (b : Byte) (s : State) : State :=
  let plain : State := { s with mem.mem := memPutBytes s.mem.mem (dramAddr d) [b] }
  let unit := fun (m : Tbl Bytes) (u i : Nat) => tupd m u [] fun x => patch x i b
  if d < 0x40000000 then
    { s with sett.keys := tupd s.sett.keys (d / 128) {} fun k => { k with stored := patch k.stored (d % 128) b } }
  else if d < 0x48000000 then
    match treeNodeAt? d with
    | some (t, l, i, o) => s.setTree t ((s.tree t).putByte l i o b)
    | none => s
  else if d < 0x70000000 then plain
  else if d < 0x72000000 then { s with sett.streamUnits := unit s.sett.streamUnits ((d - 0x70000000) / 256) (d % 256) }
  else if d < 0x74000000 then
    match s.logAt? ((d - 0x72000000) / 0x200000) with
    | some (f, l) =>
      let v := { l with bitmap := tset l.bitmap (d % 0x200000) b }
      { s with cub.fns := tupd s.cub.fns f {} fun x => { x with dirty := some v } }
    | none => plain
  else if d < 0x80000000 then plain
  else if d < 0xC0000000 then { s with sett.legacyUnits := unit s.sett.legacyUnits ((d - 0x80000000) / 256) (d % 256) }
  else if d < 0xC4000000 then { s with sett.legacyUnits := unit s.sett.legacyUnits ((d - 0xC0000000) / 16) (256 + d % 16) }
  else if d < 0xC4200000 then { s with sett.streamUnits := unit s.sett.streamUnits ((d - 0xC4000000) / 16) (256 + d % 16) }
  else if d < 0xC6200000 then
    { s with sett.granuleMap := tupd s.sett.granuleMap ((d - 0xC4200000) / 4) 0 fun v =>
        BitVec.ofNat 32 (patchNat 4 v.toNat (d % 4) b) }
  else if d < 0x100000000 then plain
  else match s.granuleOwner? ((d - 0x100000000) / 1024) with
    | some (k, i) =>
      { s with sett.keys := tupd s.sett.keys k {} fun x => { x with storedBody := patch x.storedBody (1024 * i + d % 1024) b } }
    | none => plain

/-- Write bytes behind a gate: the typed content of DRAM, or plain bytes. -/
def State.writeTarget (g off : Nat) (b : Bytes) (s : State) : State :=
  let t := s.putTarget g off b
  if 3 ≤ g ∧ g ≤ 6 then
    let s : State := { s with mem.poisoned := t.mem.poisoned, mem.flipped := t.mem.flipped }
    ((List.range b.length).zip b).foldl (fun s e => s.putDramByte (dramOffset g (off + e.1)) e.2) s
  else t

end Sys2Proof.Machine
end

