-- ==== Sys2Proof/Machine/Cubs.lean ====
section
/-! DEFINITION. Function resets, flushes and dirty-page logs ("Cub Functions, Tenant Isolation and Migration"). -/

namespace Sys2Proof.Machine

/-! ## Lists and outcomes -/

/-- The 2-byte function numbers of a list (R442). -/
def functionList : Nat → Bytes → List Nat
  | 0, _ => []
  | n + 1, b => if b.isEmpty then [] else leField b 0 2 :: functionList n (b.drop 2)

/-- Whether a number is that of a cub. -/
def isCub (f : Nat) : Bool := decide (1 ≤ f) && decide (f < Config.functions)

/-- Whether a length is that of a list of 1 to n functions. -/
def listLength (n len : Nat) : Bool := decide (2 ≤ len) && len % 2 == 0 && decide (len ≤ 2 * n)

/-- The 4-byte outcome header. -/
def outcomeHeader (n : Nat) : Bytes := natLe 1 n ++ zeros 3

/-- Park a den command until its reset is complete, and start the reset. -/
def State.resetFor (k : Nat) (sl : Slot) (kind : ResetKind) (fns : List Nat) (s : State) : State :=
  (s.startReset kind fns (some k) sl.grant).modSlot k fun sl => { sl with phase := .waiting }

/-! ## Resets -/

/-- CUB_RESET (0x0500). -/
def execCubReset (slot : Nat) (s : State) : Answer :=
  .next (s.admin slot 0x0500 noLength (fun e => paramZero e [0, 1] && isCub (leField e.param 0 2)) fun sl s =>
    s.resetFor slot sl .cubReset [leField sl.entry.param 0 2])

/-- CUB_FLUSH (0x0501): a cub that the list names more than once is flushed once. -/
def execCubFlush (slot : Nat) (s : State) : Answer :=
  .next (s.admin slot 0x0501 (listLength 256) (fun e => paramZero e [2] && decide (e.p 2 ≤ 1)) fun sl s =>
    let fns := functionList 256 (s.inputOf slot sl)
    if !fns.all isCub then s.failCmd slot 0x0106 else
    let fns := fns.eraseDups
    let s := s.resetFor slot sl .flush fns
    if sl.entry.p 2 = 1 then fns.foldl (fun s f => s.discardPosted slot f) s else s)

/-- A function-level reset of a cub. -/
def execVfFlr (fn : Nat) (s : State) : Answer :=
  .next (if isCub fn && s.linked.contains fn then s.startReset .vfFlr [fn] none 0 else s)

/-- Abandon the lodge operation in progress without a result (Table 3-6). -/
def State.abandonLodge (s : State) : State :=
  let c := s.lodge.ctl
  { s with lodge.ctl := { c with phase := .idle, image := [], parsed := none, affected := [], peerAccepted := false,
                                 resultStatus := 0, resultStep := 0, resultOp := 0 } }

/-- A function-level reset of the physical function: every function drains, and a lodge operation is abandoned
(Table 3-6). -/
def execPfFlr (s : State) : Answer :=
  .next ((s.abandonLodge.closeCeremony 6).startReset .pfFlr (s.linked ++ s.host.rings.map Prod.fst).eraseDups none 0)

/-- Clearing VF Enable (R411). -/
def execVfEnableClear (s : State) : Answer :=
  .next (if s.cub.vfEnable then
    let fns := s.linked.filter isCub
    { fns.foldl (fun s f => s.startReset .vfFlr [f] none 0) s with cub.vfEnable := false }
  else s)

/-- T + 1 ms of a reset (Table 11-3). -/
def execDrainSquash (fn : Nat) (s : State) : Answer := .next (s.drainSquash fn)

/-- T + 2 ms of a reset (Table 11-3). -/
def execDrainUndelivered (fn : Nat) (s : State) : Answer := .next (s.drainUndelivered fn)

/-- The end of a reset (R419). -/
def execResetComplete (fn : Nat) (s : State) : Answer := .next (s.resetComplete fn)

/-! ## Dirty-page logs -/

/-- FUNCTION in PARAM bytes 0–1. -/
def Entry.function (e : Entry) : Nat := leField e.param 0 2

/-- Whether a function's record carries DIRTY_LOG. -/
def State.mayLog (s : State) (f : Nat) : Bool := ((s.fnRec? f).map fun r => r.flags.getLsbD 1).getD false

/-- The active logs. -/
def State.logs (s : State) : Nat := (s.cub.fns.filter fun e => e.2.dirty.isSome).length

/-- DIRTY_LOG_START (0x0520): a log that is active is begun again; a new one takes the lowest free bitmap area of Table
12-6 (R440). -/
def execDirtyLogStart (slot : Nat) (s : State) : Answer :=
  .next (s.admin slot 0x0520 noLength
    (fun e => paramZero e [0, 1, 4, 5, 6, 7, 8, 9, 10, 11, 12, 13, 14, 15] && decide (e.function < Config.functions)
      && leField e.param 4 8 % 4096 == 0 && decide (1 ≤ leField e.param 12 4)
      && decide (leField e.param 12 4 ≤ 16777216)) fun sl s =>
    let e := sl.entry
    let v := s.fnSt e.function
    if !s.mayLog e.function || (v.dirty.isNone && decide (16 ≤ s.logs)) then s.succeed slot (outcomeHeader 0x09)
    else
      let area := match v.dirty with
        | some l => l.area
        | none => (lowest? 16 fun i => (s.logAt? i).isNone).getD 0
      let s := s.setFn e.function { v with
        dirty := some { base := leField e.param 4 8, pages := leField e.param 12 4, area := area } }
      s.succeed slot (outcomeHeader 0))

/-- The bytes of a log's bitmap. -/
def DirtyLog.length (l : DirtyLog) : Nat := (l.pages + 7) / 8

/-- DIRTY_LOG_HARVEST (0x0521): the bytes are copied and cleared in one step (R441). -/
def execDirtyLogHarvest (slot : Nat) (s : State) : Answer :=
  .next (s.admin slot 0x0521 noLength
    (fun e => paramZero e [0, 1, 4, 5, 6, 7] && decide (e.function < Config.functions) && leField e.param 4 4 % 64 == 0)
    fun sl s =>
      let e := sl.entry
      let off := leField e.param 4 4
      let v := s.fnSt e.function
      match v.dirty with
      | none => s.failCmd slot 0x0106
      | some l =>
        if l.length ≤ off then s.failCmd slot 0x0106 else
        let n := min e.outLength (l.length - off)
        let out := (List.range n).map fun i => tget l.bitmap (off + i) 0
        let keep := l.bitmap.filter fun x => decide (x.1 < off) || decide (off + n ≤ x.1)
        (s.setFn e.function { v with dirty := some { l with bitmap := keep } }).succeed slot out)

/-- DIRTY_LOG_STOP (0x0522). -/
def execDirtyLogStop (slot : Nat) (s : State) : Answer :=
  .next (s.admin slot 0x0522 noLength (fun e => paramZero e [0, 1] && decide (e.function < Config.functions))
    fun sl s =>
      let f := sl.entry.function
      if !s.mayLog f then s.succeed slot (outcomeHeader 0x09)
      else (s.setFn f { s.fnSt f with dirty := none }).succeed slot (outcomeHeader 0))

end Sys2Proof.Machine
end

