-- ==== Sys2Proof/Machine/SettEvents.lean ====
section
/-! DEFINITION. Events of the Sett: the arrival of a key record from DRAM, the miss pen's bound and the write of a
persistent key's count ("Keys, Key Domains and the Sett"). -/

namespace Sys2Proof.Machine

/-- Let a command leave the miss pen: it waits for a core of its skulk, or for the sealed controller. -/
def State.leavePen (k : Nat) (s : State) : State :=
  s.modSlot k fun sl => { sl with phase := if sl.skulk.isSome then .resume else .ready }

/-- The slots that wait in the miss pen for a key. -/
def State.waitingFor (s : State) (key : KeyId) : List Nat :=
  (s.host.slots.filter fun e => e.2.phase == .missPen && (e.2.miss.map (·.key)) == some key).map Prod.fst

/-- Fail what a fault of KEY_RECORD_ARRIVAL covers: it counts as an authentication failure of a DRAM unit, or from 16 on
as an uncorrectable error of the DRAM or the persistent store (R466, R471). -/
def State.arrivalFault (key fault : Nat) (s : State) : State :=
  let p := isPersistent key
  let s := if 16 ≤ fault then s.countError (if p then 0 else 4) 0 false else if p then s else s.countAuth
  s.integrityFailure key (fault % 16)

/-- KEY_RECORD_ARRIVAL: the record of a key arrives; `fault` is 0 where it authenticates, 1 for the record, 2 for
its body and 2 + l for the l-th tree node on its path that does not, and 16 more where an uncorrectable error is the
cause (R292, R466, R471). It enters its set, evicting the least recently
used entry that is not pinned, and every command that waits for it leaves the pen (R155, R287, R290); while the set
is wholly pinned the commands go on waiting (R288). -/
def execKeyRecordArrival (key fault : Nat) (s : State) : Answer :=
  .next (
    let ks := s.waitingFor key
    if ks.isEmpty then s else
    let s := if fault = 0 ∨ (s.keySlot key).record = none then s else s.arrivalFault key fault
    match s.hotInsert? key with
    | some s => ks.foldl (fun s k => s.leavePen k) s
    | none =>
      let here := fun m : MissWait => { m with arrived := true }
      ks.foldl (fun s k => s.modSlot k fun sl => { sl with miss := sl.miss.map here }) s)

/-- Whether no entry of the set that a command waits for has been unpinned since it came to the pen. -/
def State.stayedPinned (s : State) (m : MissWait) : Bool :=
  (s.hotSetOf m.key).all fun e => (tget? s.sett.unpinned e.key).all fun t => decide (t ≤ m.since)

/-- MISS_PEN_TIMEOUT: a command whose record's set has stayed wholly pinned for 1 ms is ended (R289). -/
def execMissPenTimeout (slot : Nat) (s : State) : Answer :=
  .next (match s.slot? slot with
    | none => s
    | some sl =>
      match sl.miss with
      | none => s
      | some m =>
        if sl.phase = .missPen && m.arrived && decide (m.since + unitsPerMilli ≤ s.now) && (s.hotInsert? m.key).isNone
            && s.stayedPinned m then
          s.failCmd slot 0x0530
        else s)

/-- Write the USE_COUNT of a persistent key (R291). -/
def State.writeCount (key : KeyId) (s : State) : State :=
  if (tget? s.sett.countDue key).isNone then s else
  let s := s.commitMaster key
  { s with sett.countDue := terase s.sett.countDue key, sett.storedCount := terase s.sett.storedCount key }

/-- PERSISTENT_COUNT_WRITE: the count that is due is written by one page commit (R291), once one can begin. -/
def execPersistentCountWrite (key : Nat) (s : State) : Answer :=
  .next (if s.storeAccepts .sett && !s.storeFree then s else s.writeCount key)

end Sys2Proof.Machine
end

