-- ==== Sys2Proof/Machine/PairBase.lean ====
section
/-! DEFINITION. How a half of a pair leaves what it does with its peer: discarded commands, DETACHED (Table 18-5), the
loss of every link, and tamper (R636). -/

namespace Sys2Proof.Machine

/-- Whether a link of LINK_MASK is in SYNC. -/
def State.anyLinkUp (s : State) : Bool := s.links.any fun l => (s.link l).up

/-! ## Discarded commands -/

/-- Discard the command in a slot without a completion: it holds nothing any more. -/
def State.discardSlot (k : Nat) (s : State) : State :=
  let s := ((s.abortJobs k).releaseKeys k).releaseCore k
  let port := fun (_ : Nat) (p : QuillPort) =>
    match p.request with
    | some r => if r.slot = k then { p with request := none } else p
    | none => p
  let s : State := { s with rng.waiting := s.rng.waiting.filter fun w => w.slot != some k,
                            quill.ports := tmap s.quill.ports port }
  s.releaseSlot k

/-- Discard every command. -/
def State.discardSlots (s : State) : State := (s.host.slots.map Prod.fst).foldl (fun s k => s.discardSlot k) s

/-- Leave in-step execution. -/
def State.leaveStep (s : State) : State :=
  { s with pair.inStep := false, pair.commands := [], pair.epochEnds := [], pair.digestsDue := [], pair.digests := [],
           pair.peerDigests := [], pair.wrote := [], pair.requests := [], pair.leaseUntil := 0, pair.syncing := false,
           pair.syncHold := false, pair.syncItems := [], pair.exchange := false, pair.exerciseRunning := false }

/-- Enter DETACHED: commands run in step and items received are discarded, and the Quill ports are deactivated (R345). -/
def State.detach (s : State) : State :=
  let s := s.discardSlots.portsOff
  State.leaveStep { s with pair.phase := .detached }

/-- What the loss of a lane means for the pair: with no link left, a syncing half discards its items and detaches, and
a serving half stops sending (Table 18-5). -/
def State.afterLoss (s : State) : State :=
  if s.anyLinkUp then s
  else if s.pair.phase = .syncing then s.detach
  else if s.pair.syncing then { s with pair.syncing := false, pair.syncHold := false, pair.syncItems := [] }
  else s

/-- A half that confirms a tamper event in a state other than ACTIVE sends RELEASE at once and detaches; an active
half does so after the completions of the response (R636, Table 18-5). -/
def State.pairTampered (s : State) : State :=
  let s : State := { s with pair.tampered := true }
  if s.pair.phase = .none ∨ s.pair.phase = .active then s
  else
    let s := s.sendRelease 3
    { s with pair.phase := .detached, pair.inStep := false }

/-- The RELEASE of an active half after its tamper response. -/
def State.pairTamperDone (s : State) : State :=
  if s.pair.phase ≠ .active then s
  else
    let s := s.sendRelease 3
    { s with pair.phase := .detached, pair.inStep := false }

end Sys2Proof.Machine
end

