-- ==== Sys2Proof/Machine/TamperOps.lean ====
section
/-! DEFINITION. Lynx: which monitors run, counting and confirmation (R528 to R533), the tamper response (R545 to R549),
calibrations, and the cells of the cartridge ("Lynx Tamper Monitors and the Torpor Domain"). -/

namespace Sys2Proof.Machine

/-! ## Monitors -/

/-- What is kept of a monitor. -/
def State.monitor (s : State) (m : Nat) : Monitor := tget s.tamper.monitors m {}

/-- Replace what is kept of a monitor. -/
def State.setMonitor (m : Nat) (v : Monitor) (s : State) : State :=
  { s with tamper.monitors := tset s.tamper.monitors m v }

/-- Whether the logic side is powered. -/
def State.logicPowered (s : State) : Bool := s.power.powerGood

/-- Whether a monitor runs (R530). -/
def State.monRuns (s : State) (m : Nat) : Bool :=
  match monSpec? m with
  | none => false
  | some f => s.tamper.torporPowered &&
      (f.battery || (s.logicPowered && s.boot.phase != .off && s.boot.phase != .halted))

/-- The parameters in force of a monitor: the lodge's, or the factory's (R532). -/
def State.monLower (s : State) (m : Nat) : Option Int :=
  ((s.monitor m).lower).orElse fun _ => (monSpec? m).bind (·.lower)
def State.monUpper (s : State) (m : Nat) : Option Int :=
  ((s.monitor m).upper).orElse fun _ => (monSpec? m).bind (·.upper)
def State.monK (s : State) (m : Nat) : Nat := ((s.monitor m).k).getD (((monSpec? m).map (·.k)).getD 1)
def State.monW (s : State) (m : Nat) : Nat := ((s.monitor m).w).getD (((monSpec? m).bind (·.w)).getD 0)
def State.monN (s : State) (m : Nat) : Nat := ((s.monitor m).n).getD (((monSpec? m).bind (·.n)).getD 0)

/-- The monitors that a battery keeps running. -/
def batteryMonitor (m : Nat) : Bool := ((monSpec? m).map (·.battery)).getD false

/-- The values of a LYNX_TIGHTEN section in force (R532). -/
def State.applyTighten (recs : List TightenRec) (s : State) : State :=
  let clear := fun (_ : Nat) (v : Monitor) => { v with lower := none, upper := none, k := none, w := none, n := none }
  let s : State := { s with tamper.monitors := tmap s.tamper.monitors clear }
  recs.foldl (fun s r =>
    let v := s.monitor r.monitor
    s.setMonitor r.monitor (match r.param with
      | 1 => { v with lower := some r.value.toInt }
      | 2 => { v with upper := some r.value.toInt }
      | 3 => { v with k := some r.value.toNat }
      | 4 => { v with w := some r.value.toNat }
      | 5 => { v with n := some r.value.toNat }
      | _ => v)) s

/-- The base of the TMP_ block. -/
abbrev tmpBase : Nat := 0x700000

/-! ## The response -/

/-- Every engine stops and its operand memory is cleared (Table 9-6). -/
def State.stopEngines (s : State) : State :=
  let stop := fun (_ : Nat) (x : Engine) =>
    { x with running := none, owner := none, memory := [], clearing := none, stalled := false }
  { s with compute.bears := tmap s.compute.bears stop, compute.hedgehogs := tmap s.compute.hedgehogs stop,
           compute.bearGroups := [], compute.hedgehogGroups := [] }

/-- End every admitted command whose completion write has not begun with a status (Table 5-10). -/
def State.endAll (st : Status) (s : State) : State :=
  ((s.host.slots.filter fun e => e.2.phase != .fetching).mergeSort fun a b => decide (a.2.grant ≤ b.2.grant)).foldl
    (fun s e => s.squash e.1 st) s

/-- Finish a lodge operation in progress with a status and a step of Table 3-2 (R113). -/
def State.endLodge (st : Status) (step : Nat) (s : State) : State :=
  let c := s.lodge.ctl
  if c.phase = .idle then s else
  { s with lodge.ctl := { c with phase := .idle, waits := false, image := [], parsed := none, affected := [],
                                 peerAccepted := false, resultStatus := st, resultStep := step,
                                 resultOp := c.runOp } }

/-- Finish a lodge operation in progress with a status outside the image (Table 3-3). -/
def State.endLodgeOp (st : Status) (s : State) : State := s.endLodge st 0

/-- Finish a firmware operation with an outcome (R500). -/
def State.endFwOp (outcome : Nat) (s : State) : State :=
  if s.boot.fwPhase = .idle then s else
  { s with boot.fwPhase := .idle, boot.fwWaits := false, boot.fwImage := [], boot.fwOutcome := outcome, boot.fwResultOp := s.boot.fwRunOp }

/-- Copy n of the life-cycle state takes a value. -/
def AntlerState.putCopy (a : AntlerState) (n : Nat) (c : LcCopy) : AntlerState :=
  match n with
  | 0 => { a with copy0 := c }
  | 1 => { a with copy1 := c }
  | _ => { a with copy2 := c }

/-- Copies 0 to n − 1 take a state and a bitmap, in that order. -/
def AntlerState.putCopies (a : AntlerState) (n : Nat) (st : LifeCycle) (used : BitVec 16) : AntlerState :=
  (List.range (min n 3)).foldl (fun a i => a.putCopy i { state := st, unlockUsed := used }) a

/-- Finish an Antler operation with an outcome (R525). -/
def State.endLcOp (outcome : Nat) (s : State) : State :=
  if s.antler.phase = .idle then s else
  { s with antler.phase := .idle, antler.outcome := outcome, antler.resultOp := s.antler.runOp,
           antler.target := none, antler.newOwner := 0, antler.identityBytes := [] }

/-- A confirmed tamper event meets an Antler operation: one that is writing its copies completes them (Table 14-13). -/
def State.tamperLc (s : State) : State :=
  let a := s.antler
  let s := match a.phase, a.target with
    | .copies, some st => { s with antler := { a.putCopies 3 st a.unlockUsed with state := st } }
    | _, _ => s
  s.endLcOp 0x0E

/-- Finish an EVR_ operation with an outcome (Table 16-7, R590). -/
def State.endEvrOp (outcome count : Nat) (s : State) : State :=
  if !s.owl.busy then s else
  { s with owl.busy := false, owl.outcome := outcome, owl.resultOp := s.owl.runOp, owl.resultCount := count }

/-- The steps of Table 15-3 on a powered logic side, up to the end of the commands. -/
def State.respond (s : State) : State :=
  let s : State := { s with tamper.response := 1, tamper.confirmedAt := s.now,
                            tamper.rootZeroTenths := (Config.rootZeroTenths s.tick).val,
                            antler.testOpen := false, antler.portShut := true, pins.gpioDir := 0 }
  let s := ((s.endLodgeOp 0x0840).endFwOp 0x0C).tamperLc.endEvrOp 7 0
  let s := (s.stopPorts 0x0801).cancelAll.endAll 0x0801
  let s := (s.closeCeremony 2).stopEngines
  let s := s.wipeAll true wipeTamper
  let s : State := { s with
    sett.hot := [], host.streams := [], rng.units := 0, rng.served := [], rng.drbgs := [],
    rng.started := false, rng.waiting := [],
    cub.tickets := [], pair.link0.unacked := [], pair.link0.waiting := [], pair.link1.unacked := [],
    pair.link1.waiting := [] }
  s.pairTampered

/-- R545: a monitor confirms an event. A second one only counts (R549). -/
def State.confirmTamper (m kind : Nat) (s : State) : State :=
  let bump := fun s : State =>
    let c := SatCount.add 0xFFFF 1 s.tamper.confirmed
    ({ s with tamper.confirmed := c.1 } : State).saturated (c.2 && s.logicPowered) tmpBase 0x10
  if s.tamper.latched then bump s else
  let s : State := { s with
    tamper.testRoot := none, tamper.productionRoot := none, tamper.auditRoot := none, tamper.latched := true,
    tamper.latchMonitor := m, tamper.latchKind := kind, tamper.onBattery := !s.logicPowered,
    tamper.latchTime := BitVec.ofNat 64 (calendarWord s.calNow (!s.calendar.isSet)), tamper.confirmed := {},
    tamper.derivationBlocked := true }
  let s := bump s.clearSettKeys
  if s.logicPowered then s.respond else { s with tamper.batteryEventUnlogged := true }

/-! ## Counting -/

/-- Whether an event at a tick makes K events whose first and last lie at most W − 1 ticks apart (R533). -/
def confirms (k w tick : Nat) (earlier : List Nat) : Bool :=
  k ≤ 1 || match earlier[k - 2]? with
    | some t => decide (tick < t + w)
    | none => false

/-- An event of a monitor: at most one a tick (R528), confirmed or counted (R533). -/
def State.monEvent (m kind : Nat) (s : State) : State :=
  let v := s.monitor m
  if !s.monRuns m || v.events.head? == some s.tick then s else
  let hit := confirms (s.monK m) (s.monW m) s.tick v.events
  let c := if hit then (v.count, false) else SatCount.add count31 1 v.count
  let s := s.setMonitor m { v with events := (s.tick :: v.events).take 16, count := c.1 }
  let s := s.saturated (c.2 && s.logicPowered) tmpBase (0x1008 + 0x10 * m)
  if hit then s.confirmTamper m kind else s

/-- The event of a reading against the limits in force (R529): below the lower one kind 0, above the upper one
kind 1. `margin` narrows the window (R542). -/
def State.monReading (m : Nat) (margin value : Int) (s : State) : State :=
  if ((s.monLower m).map fun l => decide (value < l + margin)).getD false then s.monEvent m 0
  else if ((s.monUpper m).map fun u => decide (u - margin < value)).getD false then s.monEvent m 1
  else s

/-! ## Calibration -/

/-- The highest and the lowest of the temperature readings. -/
def TamperState.highest (t : TamperState) : Int := (t.temps.map Prod.snd).foldl max ((t.temps.map Prod.snd).headD 0)
def TamperState.lowest (t : TamperState) : Int := (t.temps.map Prod.snd).foldl min ((t.temps.map Prod.snd).headD 0)

/-- The calibration of a monitor: the latest, or the one at boot. -/
def State.calibration (s : State) (m : Nat) : Calibration :=
  ((s.monitor m).cal).getD { temp := s.tamper.bootTemp, load := s.tamper.bootLoad, value := Config.bootCalibration m }

/-- The calibrated monitors. -/
def calibrated : List Nat := List.range 256 ++ [0x210, 0x211, 0x212]

/-- Whether a calibration tag is stale at a die temperature (R541). -/
def staleAt (tag die : Int) : Bool := decide (120 < die - tag) || decide (120 < tag - die)

/-- Whether the calibration of a monitor is stale. -/
def State.stale (s : State) (m : Nat) : Bool := staleAt (s.calibration m).temp s.tamper.highest

/-- Take note of the monitors that a change of the die temperature makes stale: each is reported and queued (R543). -/
def State.noteStale (before : Int) (s : State) : State :=
  if before = s.tamper.highest then s else
  (calibrated.filter fun m => s.stale m && !staleAt (s.calibration m).temp before).foldl (fun s m =>
    let tag := (s.calibration m).temp
    (s.setMonitor m { s.monitor m with queued := true }).raise 0xE5
      (natLe 2 m ++ natLe 2 (BitVec.ofInt 16 tag).toNat)) s

/-- The number of switched domains awake. -/
def State.load (s : State) : Nat := ((List.range 36).filter fun d => s.powered d).length

/-! ## Cells -/

/-- A cell. -/
def State.cell (s : State) (c : Nat) : Cell := tget s.tamper.cells c {}

/-- Replace a cell. -/
def State.setCell (c : Nat) (v : Cell) (s : State) : State := { s with tamper.cells := tset s.tamper.cells c v }

/-- The serving cell (R556): the lower-numbered present cell of at least 2.60 V, else a present one. -/
def State.servingCell? (s : State) : Option Nat :=
  match [0, 1].find? fun c => (s.cell c).present && decide (260 ≤ (s.cell c).volts) with
  | some c => some c
  | none => [0, 1].find? fun c => (s.cell c).present

/-- Charge the serving cell for the ticks that it has carried an unpowered domain (R559). -/
def State.settleService (s : State) : State :=
  let s := match s.tamper.onLogicSide, s.servingCell? with
    | false, some c => s.setCell c { s.cell c with ticks := (s.cell c).ticks + (s.tick - s.tamper.servedSince) }
    | _, _ => s
  { s with tamper.servedSince := s.tick }

/-- CRC-8 of Table 15-6: polynomial 0x07, initial 0x00. -/
def crc8 (b : Bytes) : Byte :=
  b.foldl (fun c x => (List.range 8).foldl (fun c _ => if c.msb then (c <<< 1) ^^^ 0x07 else c <<< 1) (c ^^^ x)) 0

/-- Read the identity of a present cell (R558): the charge count starts again for a different SERIAL (R559). -/
def State.readCell (c : Nat) (s : State) : State :=
  let v := s.cell c
  if !v.present then s else
  let raw := fit 16 v.raw
  let same := slice raw 0 8 == slice v.identity 0 8
  s.setCell c { v with identity := raw, idValid := crc8 (raw.take 15) == byteAt raw 15,
                       ticks := if same then v.ticks else 0 }

/-- The charge drawn from a cell in µAh: 18 µA for each tick of service. -/
def Cell.used (v : Cell) : Nat := v.ticks * 18 / (32768 * 3600)

/-- MADE, CAPACITY and RATED_YEARS of a cell. -/
def Cell.made (v : Cell) : Nat := leField v.identity 8 2
def Cell.capacity (v : Cell) : Nat := leField v.identity 0xA 2
def Cell.ratedYears (v : Cell) : Nat := leField v.identity 0xC 1

/-- The full years since MADE, of 365.25 days. -/
def State.cellYears (s : State) (v : Cell) : Nat := (s.seconds / 86400 - v.made) * 4 / 1461

/-- REMAINING of a cell (R559). -/
def State.remaining (s : State) (v : Cell) : Nat :=
  let cap := v.capacity * 1000
  if cap = 0 then 0 else 100 * (cap - v.used - cap * s.cellYears v / 100) / cap

/-- Whether a cell is at or beyond its rated years. -/
def State.expired (s : State) (v : Cell) : Bool := decide (v.ratedYears ≤ s.cellYears v)

/-- TMP_STATUS.CARTRIDGE_WARN (R560). -/
def State.cartridgeWarn (s : State) : Bool :=
  let ps := [0, 1].filter fun c => (s.cell c).present
  decide (ps.length < 2) || ps.any fun c => decide (s.remaining (s.cell c) < 20) || s.expired (s.cell c)

end Sys2Proof.Machine
end

