-- ==== Sys2Proof/Machine/PowerOps.lean ====
section
/-! DEFINITION. Operations on power: demand, budget and duty (R655 to R657), the target power and its ramp (R653, R654),
sealed claims (R665), gating (R661), the PWR_ fields of a lodge (R110), and the power-fail warning (R673, R675). -/

namespace Sys2Proof.Machine

/-! ## Demand, budget, duty -/

/-- The powered domains from a to b − 1. -/
def State.poweredIn (s : State) (a b : Nat) : Nat :=
  ((List.range b).filter fun d => decide (a ≤ d) && s.powered d).length

/-- D of Table 19-1, in mW. -/
def State.demand (s : State) : Nat :=
  24000 + 1420 * s.poweredIn 0 24 + 2380 * s.poweredIn 24 32 + 4000 * s.poweredIn 32 34

/-- B of Table 19-1, in mW. -/
def State.budget (s : State) : Nat := if s.power.modeInForce then 92 * s.power.ceiling - 2000 else 99200

/-- F of R656. -/
def State.duty (s : State) : Nat :=
  if s.demand ≤ s.budget then 256
  else max 16 (256 * (s.budget - 24000) / (s.demand - 24000))

/-! ## The target -/

/-- Whether the target moves (PWR_STATUS.RAMPING). -/
def PowerState.ramping (p : PowerState) : Bool := p.target != p.targetGoal

/-- The target input power now: it moves at 1 W per ms (R654). -/
def State.targetNow (s : State) : Nat :=
  let p := s.power
  let moved := (s.now - p.rampFrom) / unitsPerMicro
  if p.target < p.targetGoal then min p.targetGoal (p.target + moved) else max p.targetGoal (p.target - moved)

/-- The present draw in mW. -/
def State.drawNow' (s : State) : Nat := 100 * s.power.inputDeciwatts

/-- PWR_MODE takes a mode and a ceiling: a change moves the target (R654, R678). Still is in force from the change to
it, and until the ramp back to Sleep has ended. -/
def State.setMode (still : Bool) (ceiling : Nat) (s : State) : State :=
  let c := max 400 (min 1100 ceiling)
  let p := s.power
  let moves := p.mode != still || (still && p.ceiling != c)
  let from' := if p.modeInForce then s.targetNow else s.drawNow'
  let s : State := { s with power.mode := still, power.ceiling := c }
  if !moves then s else
  { s with power.target := from', power.targetGoal := if still then 100 * c else s.drawNow', power.rampFrom := s.now,
           power.modeInForce := still || p.modeInForce }

/-- The value that PWR_IDLE_DELAY takes of a write. -/
def idleDelayOf (v : Reg) : Reg :=
  if v = 0xFFFFFFFF then v else if v.toNat < 20 then 20 else if 1000000 < v.toNat then 1000000 else v

/-! ## Claims and gating -/

/-- Whether a domain is always-on (PWR_ALWAYS_ON). -/
def State.alwaysOn (s : State) (d : Nat) : Bool := s.power.alwaysOn.getLsbD d

/-- Whether a domain is claimed by the sealed world (R665). -/
def State.claimed (s : State) (d : Nat) : Bool :=
  if d < 24 then
    (s.host.slots.any fun e => e.2.skulk == some d && (e.2.phase != .ended || e.2.frame.isSome))
      || s.wipingLarder d
  else if d < 34 then
    let h := decide (32 ≤ d)
    let g := if h then d - 32 else d - 24
    !(s.queue h g).isEmpty || (groupEngines h g).any fun e =>
      let x := s.engine h e
      x.running.isSome || !x.memory.isEmpty || x.clearing.isSome
  else true

/-- The engines of a group that is gated (R375, R661). -/
def State.clearGroup (h : Bool) (g : Nat) (s : State) : State :=
  (groupEngines h g).foldl (fun s e => s.setEngine h e (s.engine h e).gated) s

/-- Each idle engine of a group that holds operands begins to clear its operand memory, so that the group can be gated
(R375); the end of the clear is that of R371. -/
def State.startClears (d : Nat) (s : State) : State :=
  if d < 24 ∨ 34 ≤ d then s else
  let h := decide (32 ≤ d)
  (groupEngines h (if h then d - 32 else d - 24)).foldl (fun s e =>
    let x := s.engine h e
    if x.running.isNone && x.clearing.isNone && !x.memory.isEmpty then s.setEngine h e { x with clearing := some s.now }
    else s) s

/-- A domain begins to gate: its clock stops and its memories are wiped; it is off within 20 µs (R661, R375). -/
def State.beginGate (d : Nat) (s : State) : State :=
  let s := s.setDom d { s.dom d with awake := false, gateRequestedAt := none, gatingUntil := some (s.now + 20 * unitsPerMicro) }
  if d < 24 then s.wipeSkulk wipeGating d
  else if d < 34 then s.clearGroup (decide (32 ≤ d)) (if 32 ≤ d then d - 32 else d - 24)
  else s

/-- Report a word that a wipe did not clear, by larder and word offset: VERIFY_FAIL, WIPE_VERIFY, and the withdrawal of
its skulk (R455). -/
def State.wipeFailed (cause : Nat) (bad : Option (Nat × Nat)) (s : State) : State :=
  match bad with
  | none => s
  | some (larder, word) =>
    let s : State := { s with mem.verifyFail := true }
    let s := s.raise 0xA3 (natLe 1 cause ++ natLe 1 larder ++ zeros 2 ++ natLe 4 word)
    if larder < 24 then
      let t := tget s.mem.tests larder {}
      ({ s with mem.tests := tset s.mem.tests larder { t with outOfService := true } } : State).withdrawSkulk larder
    else s

/-- What the read-back of the tamper wipe finds: nothing, or a larder and a word that is not zero (R455). It is a free
value: the event that ends the response says nothing of it (log entry 91). -/
def State.readBack (s : State) : Option (Nat × Nat) :=
  let v := s.free.1
  let larder := v / 2 % 25
  if v % 2 = 0 then none else some (larder, v / 50 % (if larder = 24 then 0x20000 else 0x10000))

/-! ## The PWR_ fields of a lodge -/

/-- The bits of units that UNITS enables. -/
def State.enabledDomains (s : State) : BitVec 64 :=
  (List.range 34).foldl (fun m d => if s.domEnabled d then m ||| BitVec.ofNat 64 (2 ^ d) else m) 0

/-- PWR_ALWAYS_ON takes a value: each newly always-on domain loses its pending request and is woken when it is gated
(R678, Table 19-3). -/
def State.setAlwaysOn (v : BitVec 64) (s : State) : State :=
  let v := v &&& s.enabledDomains
  let fresh := (List.range 34).filter fun d => v.getLsbD d && !s.alwaysOn d
  let s := State.reload 0 0x500010 { s with power.alwaysOn := v }
  fresh.foldl (fun s d => (s.endGateRequest 5 d).beginWake d) s

/-- The always-on domain bits of a POWER section. -/
def PowerSec.domains (p : PowerSec) : BitVec 64 :=
  BitVec.ofNat 64 (p.alwaysOnSkulks.toNat % 2 ^ 24 + 2 ^ 24 * p.alwaysOnBear.toNat + 2 ^ 32 * (p.alwaysOnHedgehog.toNat % 4))

/-- Load the POWER section of a lodge: fields that a lodge has locked keep their values (R14, R110). -/
def State.loadPower (p : PowerSec) (s : State) : State :=
  let s := if s.power.locked then s else
    let s := s.setMode (p.mode == 1) p.stillCeiling
    let s : State := { s with power.idleDelay := p.idleGateDelay }
    s.setAlwaysOn p.domains
  let s : State := { s with power.denPolicy := p.denPolicy, power.locked := s.power.locked || p.lock }
  if p.denPolicy then s else s.pendingGates.foldl (fun s d => s.endGateRequest 5 d) s

/-! ## The power-fail warning -/

/-- Drop every slot without a completion entry (R673, R200). -/
def State.dropSlots (s : State) : State :=
  let core := fun (_ : Nat) (c : CoreState) => { c with slot := none }
  { s with host.slots := [], compute.cores := tmap s.compute.cores core, pair.commands := [], rng.waiting := [] }

/-- The power-fail warning of a cause (Table 19-4). Before the hold-up bank has charged it makes no commit (R675). -/
def State.powerFail (cause : Nat) (s : State) : State :=
  if s.power.warning || !s.power.powerGood then s else
  let s : State := { s with power.warning := true, power.lastWarning := cause, mem.fenced := true, mem.fencedAt := s.now,
                            mem.fenceClosed := !s.power.holdupArmed, power.modeInForce := false,
                            power.target := s.drawNow', power.targetGoal := s.drawNow' }
  let s := (s.refuseWaiting.raise 0x111 (zeros 4)).stopEngines.dropSlots
  let s := (s.wipeAll true wipeGating).gateAll
  let s : State := if s.pair.phase = .active then { s with pair.phase := .fenced } else s
  if !s.power.holdupArmed then s else
  let s := (s.sett.countDue.map Prod.fst).foldl (fun s k => s.writeCount k) s
  let floor := if s.calendar.isSet then max s.timeFloor s.seconds else s.timeFloor
  let s := ({ s with calendar.floor := floor } : State).commitObject objTime 0 (natLe 8 floor)
  s.owlSettle

end Sys2Proof.Machine
end

