-- ==== Sys2Proof/Machine/LodgeOps.lean ====
section
/-! DEFINITION. Operations on lodges ("Applying Lodge Images and Lodge Deltas"): the lodge record, the start and the
checks of an operation, the pools that a delta affects, its commit, and what loading a lodge's tables does. -/

namespace Sys2Proof.Machine

/-- The base of the LDG_ block. -/
abbrev ldgBase : Nat := 0x400000

/-! ## The lodge record -/

/-- An optional entry of the lodge record in bytes (the model's own layout; the specification gives none). -/
def recordEntryBytes : Option LodgeRecordEntry → Bytes
  | none => zeros 82
  | some e => [1] ++ natLe 8 e.serial ++ natLe 8 e.fullSerial ++ natLe 32 e.fullDigest.toNat ++ natLe 1 e.chain
      ++ natLe 32 e.chainDigest.toNat

/-- The lodge slot and the chain area of a state in bytes; a staged state has no chain yet. -/
def LodgeFlash.place (f : LodgeFlash) : Bytes := natLe 1 f.slot ++ natLe 1 f.area

/-- Put the lodge record, which names the lodge slots and chain areas (R490), into the store by one page commit (R92). -/
def State.commitRecord (s : State) : State :=
  let r := s.lodge.record
  let l := s.lodge
  s.commitObject objLodge 0 (natLe 8 r.highSerial ++ recordEntryBytes r.current ++ recordEntryBytes r.previous
    ++ recordEntryBytes r.staged ++ l.flashCurrent.place ++ l.flashPrevious.place ++ l.flashStaged.place)

/-- The lowest lodge slot that holds neither the current nor the previous state (the model's choice, log entry 97). -/
def LodgeState.freeLodgeSlot (l : LodgeState) : Nat :=
  (lowest? 3 fun i => !(l.record.current.isSome && l.flashCurrent.slot == i)
    && !(l.record.previous.isSome && l.flashPrevious.slot == i)).getD 0

/-- The bytes of a lodge state by their offset in a flash device: the lodge slots of 8 MiB, and the chain areas of 4 MiB
with a delta in each 128 KiB (Table 13-5). -/
def LodgeFlash.byteAt? (f : LodgeFlash) (a : Nat) : Option Byte :=
  if 0x2000000 ≤ a ∧ a < 0x3800000 then
    if (a - 0x2000000) / 0x800000 = f.slot then f.full[(a - 0x2000000) % 0x800000]? else none
  else if 0x3800000 ≤ a ∧ a < 0x4000000 then
    if (a - 0x3800000) / 0x400000 = f.area then
      (f.deltas[(a - 0x3800000) % 0x400000 / 0x20000]?).bind fun d => d[(a - 0x3800000) % 0x20000]?
    else none
  else none

/-- The byte at an offset of a flash device (Table 13-5): device 0 holds firmware slot A and device 1 slot B, and both the
lodge states that the record names. A place that nothing has been written to is not held. -/
def State.flashByte? (s : State) (device a : Nat) : Option Byte :=
  let l := s.lodge
  if a < 0x2000000 then (if device = 0 then s.boot.slotA else s.boot.slotB).flash[a]? else
  let at' := fun (e : Option LodgeRecordEntry) (f : LodgeFlash) => if e.isSome then f.byteAt? a else none
  match at' l.record.current l.flashCurrent, at' l.record.previous l.flashPrevious with
  | some b, _ => some b
  | none, some b => some b
  | none, none => at' l.record.staged l.flashStaged

/-- The record's entry of a full image without deltas. -/
def fullEntry (b : Bytes) : LodgeRecordEntry :=
  { serial := imgSerial b, fullSerial := imgSerial b, fullDigest := Config.sha3 b, chain := 0,
    chainDigest := Config.sha3 b }

/-- The record's entry with one delta more. -/
def LodgeRecordEntry.extend (b : Bytes) (e : LodgeRecordEntry) : LodgeRecordEntry :=
  { e with serial := imgSerial b, chain := e.chain + 1, chainDigest := Config.chainDigest e.chainDigest b }

/-! ## The start of an operation -/

/-- Whether the LDG_ block is presented. -/
def State.ldgShown (s : State) : Bool := s.presented 0 ldgBase

/-- Whether a TRANSITION or DEBUG_OPEN is in progress: a lodge or firmware operation started now waits for its end
(Table 14-13). -/
def State.antlerHolds (s : State) : Bool :=
  s.antler.phase != .idle && (s.antler.runOp == 2 || s.antler.runOp == 5)

/-- The Owl event of a failing step of Table 3-2 (R96). -/
def State.lodgeEvent (op step : Nat) (st : Status) (b : Bytes) (s : State) : State :=
  s.raise 0x30 (natLe 1 op ++ natLe 1 step ++ natLe 2 st.toNat ++ natLe 8 (imgSerial b) ++ imgLabel b)

/-- Record a failing step of Table 3-2 in an Owl event and end the operation (R96, R97). -/
def State.rejectLodge (step : Nat) (st : Status) (b : Bytes) (s : State) : State :=
  (s.lodgeEvent s.lodge.ctl.runOp.toNat step st b).endLodge st step

/-- A GO while BUSY is 1 is refused with 0x0540 (R113, Table 3-6). -/
def State.refuseGo (op : BitVec 2) (s : State) : State :=
  { s with lodge.ctl.op := op, lodge.ctl.resultStatus := 0x0540, lodge.ctl.resultStep := 0, lodge.ctl.resultOp := op }

/-- A GO of an operation: LDG_CONTROL takes OP, the operation's parameters are captured, and the operation is in
progress. -/
def State.startLodge (op : BitVec 2) (phase : LodgePhase) (s : State) : State :=
  let c := s.lodge.ctl
  { s with lodge.ctl := { c with op := op, runOp := op, phase := phase, runAddr := c.srcAddr, runLen := c.srcLen.toNat,
                                 runQuiesceMs := c.quiesceMs, waits := s.antlerHolds } }

/-- Whether address and length pass step 1 of Table 3-2, for a largest length. -/
def LodgeCtl.step1 (c : LodgeCtl) (largest : Nat) : Bool :=
  c.srcAddr.toNat % 64 == 0 && decide (256 ≤ c.srcLen.toNat) && decide (c.srcLen.toNat ≤ largest)

/-- Start the fetch of an image, or report step 1. -/
def State.fetchLodge (op : BitVec 2) (largest : Nat) (s : State) : State :=
  let ok := s.lodge.ctl.step1 largest
  let s := s.startLodge op .fetch
  if ok then s else s.rejectLodge 1 0x0140 []

/-- Remove the staged image from the record (R99). -/
def State.discardStaged (s : State) : State :=
  let s : State := { s with lodge.record.staged := none }
  s.commitRecord.endLodgeOp 0

/-- A lodge operation that discards the staged image is made once nothing holds it. -/
def State.resumeDiscard (s : State) : State :=
  if s.lodge.ctl.phase = .commit ∧ s.lodge.ctl.runOp = 3 ∧ s.lodge.ctl.waits = false then s.onStore State.discardStaged else s

/-! ## Validation -/

/-- The functions frozen for migration, whose records a delta may not change or remove (step 18). -/
def State.frozenFns (s : State) : List Nat :=
  (s.cub.fns.filter fun e => e.2.mig == .freezing || e.2.mig == .frozen || e.2.mig == .saved).map Prod.fst

/-- Step 18: the resulting lodge holds the record of each frozen function unchanged. -/
def State.frozenKept (s : State) (l : Lodge) : Bool :=
  s.frozenFns.all fun f => l.functions.find? (·.fn == f) == s.fnRec? f

/-- Validate the internal copy of an image for the operation in progress (R97). -/
def State.judge (s : State) (b : Bytes) : Verdict :=
  let serialOk := decide (s.lodge.record.highSerial < imgSerial b)
  if s.lodge.ctl.runOp = 1 then validateFull s.lodgeContext b.length serialOk b
  else validateDelta s.lodgeContext b.length serialOk
    (s.lodge.inForce.isSome && imgBase b == s.tables.serial) s.frozenKept s.tables b

/-- An accepted image goes to the flash. -/
def State.writeLodge (b : Bytes) (l : Lodge) (s : State) : State :=
  let c := s.lodge.ctl
  { s with lodge.ctl := { c with phase := .flashWrite, image := b, parsed := some l,
                                 quiesced := false, deadline := s.now + c.runQuiesceMs * unitsPerMilli } }

/-! ## Deltas -/

/-- The pools that a change from one lodge state to another affects: pools added, removed or changed, and those that
serve a function whose record is added, removed or changed. -/
def affectedPools (old new : Lodge) : List Nat :=
  let poolOf := fun (l : Lodge) p => l.pools.find? (·.poolId == p)
  let fnOf := fun (l : Lodge) f => l.functions.find? (·.fn == f)
  let fns := ((old.functions ++ new.functions).map (·.fn)).filter fun f => fnOf old f != fnOf new f
  let served := fun p => fns.any fun f =>
    ((fnOf old f).map (·.poolId)) == some p || ((fnOf new f).map (·.poolId)) == some p
  (List.range 24).filter fun p => poolOf old p != poolOf new p || served p

/-- A delta has been written to flash: admission from its affected pools is held (R104, R697), and the active half of a
pair forwards it to the standby (R111). -/
def State.quiesceDelta (l : Lodge) (s : State) : State :=
  let c := s.lodge.ctl
  let s : State := { s with lodge.ctl := { c with phase := .quiescing, affected := affectedPools s.tables l } }
  let s := (((s.host.rings.map Prod.fst).filter s.deltaHold).foldl (fun s f => s.cancelFetches f) s).noteQuiescent
  if s.leads then s.sendRecord 7 c.image else s

/-- Whether a delta may commit now in the pair: a half of an in-step pair commits at an epoch boundary, the active
once the standby has accepted (R111). A delta that is pending when the halves leave step without a switch-over (a
divergence, a RELEASE of the standby) is committed by each half that holds it alone (DESIGN CHOICE, log entry 94). -/
def State.pairCommits (s : State) : Bool :=
  if s.leads then s.lodge.ctl.peerAccepted && s.pair.epochStart == s.now
  else s.pair.phase != .standby || s.pair.epochStart == s.now

/-- The skulks that leave a pool at a change of lodge. -/
def leavingSkulks (old new : Lodge) : List Nat :=
  let poolOf := fun (l : Lodge) k => (l.pools.find? fun p => bit p.skulkMask.toNat k).map (·.poolId)
  (List.range 24).filter fun k => (poolOf old k).isSome && poolOf new k != poolOf old k

/-- Fetch the entries posted to a removed function and not yet fetched, as long as the fetches succeed, and make the
completion of each due (R109). `data` holds the entries whose fetch succeeds. A function whose Bus Master Enable is 0
cannot fetch: its entries stay posted, and FETCH_ERROR stays 0 (DESIGN CHOICE, log entry 93). -/
def State.flushRemoved (f : Nat) (data : Bytes) (s : State) : State :=
  let s := s.cancelFetches f
  let s : State := { s with host.streams := s.host.streams.filter fun x => x.fn != f }
  let r := s.ring f
  if r.fetchError || !r.enabled || !(s.fnSt f).busMaster || s.pair.phase == .standby then s else
  let posted := ringDiff r.sqTail r.sqHead r.sqSize
  let got := min posted (data.length / 64)
  let due := (List.range got).map fun i => { fn := f, entry := parseEntry (slice data (64 * i) 64) }
  let s : State := { s with host.due := s.host.due ++ due }
  let r' := { r with sqHead := (r.sqHead + got) % r.sqSize, sqFetched := (r.sqFetched + got) % 65536 }
  let s := if got < posted then ((s.setRing f { r' with fetchError := true }).pcieError f).raise 0x13 (natLe 2 f ++ zeros 2)
    else s.setRing f r'
  s.writeDue f s.host.due.length

/-- The commit of a delta (R106): the record takes the new digest and HIGH_SERIAL, and every changed table is live in
the same step (Table 3-5, R110). `fetched` gives the posted entries of removed functions that their fetches return;
`bad` a word that a larder wipe does not clear. -/
def State.commitDelta (new : Lodge) (fetched : List (Nat × Bytes)) (bad : Option (Nat × Nat)) (s : State) : State :=
  let old := s.tables
  let b := s.lodge.ctl.image
  let s : State := { s with
    lodge.record.highSerial := imgSerial b,
    lodge.record.current := s.lodge.record.current.map (·.extend b),
    lodge.flashCurrent.deltas := s.lodge.flashCurrent.deltas ++ [b],
    lodge.inForce := some new, lodge.ctl.phase := .commit }
  let s := s.commitRecord
  let moved := (leavingSkulks old new).filter (s.awake ·)
  let s := moved.foldl (fun s k => s.wipeSkulk wipePool k) s
  let s := if moved.isEmpty then s else s.wipeFailed wipePool bad
  let s := if (imgEntries b).any (·.type == 8) then s.loadPower new.power else s
  let gone := (old.functions.map (·.fn)).filter fun f => !new.functions.any (·.fn == f)
  let s := gone.foldl (fun s f => s.flushRemoved f ((tget? fetched f).getD [])) s
  s.noteEligible.lodgeReport

/-! ## Bringing a lodge into force at boot -/

/-- The tables of a lodge become live at boot (R102, R110, R532, R578): those of the power controller, Owl, Lynx and
the pair with the rest. -/
def State.applyLodge (l : Lodge) (s : State) : State :=
  let s : State := { s with lodge.inForce := some l }
  let s := (s.loadPower l.power).owlLimits
  let s := (s.applyTighten l.tighten).beginWake domHost
  let s := if l.pack.isSome then
      let s : State := { s with pair.phase := .detached, pair.retryAt := s.now }
      s.beginWake domPack
    else s
  s.noteEligible

end Sys2Proof.Machine
end

