-- ==== Sys2Proof/Machine/Owl.lean ====
section
/-! DEFINITION. Owl: taking events, committing pages, folds, and the operations of the EVR_ block ("Owl Event Recorder
and Device Status"). An EVR_ operation that reads or writes host memory takes two commands of its row: GO, and the end
of its DMA. -/

namespace Sys2Proof.Machine

/-! ## The log -/

/-- OWL_EVENT: the event at the head of the intake is limited, folded or appended (R574 to R581). -/
def execOwlEvent (s : State) : Answer :=
  .next (match s.owl.intake with
    | [] => s
    | e :: t => State.owlTake { s with owl.intake := t } e)

/-- Whether a page of the log is due: full, or 1 ms after the first record was staged into it (R572). -/
def State.owlPageDue (s : State) : Bool :=
  match s.owl.records.find? fun r => !r.committed with
  | none => false
  | some r =>
    (s.owl.records.any fun x => !x.committed && x.lastPage != r.lastPage)
      || s.owl.granuleNext % 16 == 0
      || ((s.owl.stagedAt.map fun t => decide (t + unitsPerMilli ≤ s.now)).getD false)

/-- OWL_PAGE_COMMIT: the page that holds the end of the oldest staged record commits when it is due (R572), by a page
commit that takes a shadow page (R458, R462); after the fence the request is refused (R464). -/
def execOwlPageCommit (s : State) : Answer :=
  .next (
    if !s.owlPageDue || !s.power.holdupArmed || 16 ≤ s.mem.commits.length then s
    else if !s.storeAccepts .owl then s.storeRefused
    else
      let page := ((s.owl.records.find? fun r => !r.committed).map (·.lastPage)).getD 0
      let s := s.owlCommitPage
      let c : PageCommit :=
        { page := page, bytes := memBytes s.mem.mem (storeAddr (256 * page)) 256, source := .owl }
      { s with mem.commits := s.mem.commits ++ [c] })

/-- OWL_FOLD_FLUSH: the pending counts whose record is 1 s old are appended (R581). -/
def execOwlFoldFlush (s : State) : Answer := .next s.owlFlushDue

/-! ## EVR_ operations -/

/-- Whether the EVR_ block is presented. -/
def State.evrShown (s : State) : Bool := s.presented 0 evrBase

/-- GO of an operation: refused while one is in progress (R590), ended at once by an address or length error, else
begun. -/
def State.evrGo (op : Nat) (lengthOk : Bool) (s : State) : State :=
  let o := s.owl
  let s : State := { s with owl.control := BitVec.ofNat 3 op }
  if o.busy then { s with owl.outcome := 6, owl.resultOp := BitVec.ofNat 3 op, owl.resultCount := 0 }
  else if o.dstAddr.toNat % 64 ≠ 0 ∨ lengthOk = false then
    { s with owl.outcome := 1, owl.resultOp := BitVec.ofNat 3 op, owl.resultCount := 0 }
  else { s with owl.busy := true, owl.runOp := BitVec.ofNat 3 op }

/-- Finish the operation in progress with an outcome. -/
def State.evrEnd (outcome count : Nat) (s : State) : State :=
  { s with owl.busy := false, owl.outcome := outcome, owl.resultOp := s.owl.runOp, owl.resultCount := count }

/-- Whether an operation is in progress. -/
def State.evrRuns (s : State) (op : Nat) : Bool := s.owl.busy && s.owl.runOp == BitVec.ofNat 3 op

/-- The whole records from a sequence on that fit into a number of bytes. -/
def takeRecords : List OwlRecord → Nat → List OwlRecord
  | [], _ => []
  | r :: t, room =>
    let n := 16 * owlSize r.payload.length
    if r.committed && decide (n ≤ room) then r :: takeRecords t (room - n) else []

/-- EVR_READ: GO begins a READ; at its end whole records lie at EVR_DST_ADDR, and EVR_READ_SEQ names the record after
the last one copied (R583, R584). -/
def execEvrRead (go ok : Bool) (s : State) : Answer :=
  .next (
    if !s.evrShown then s
    else if go then
      let n := s.owl.dstLen.toNat
      s.evrGo 1 (n % 16 == 0 && decide (256 ≤ n) && decide (n ≤ 1048576))
    else if !s.evrRuns 1 then s
    else if s.owl.readSeq.toNat < s.owl.oldest then s.evrEnd 2 0
    else
      let rs := takeRecords (s.owl.records.filter fun r => decide (s.owl.readSeq.toNat ≤ r.seq)) s.owl.dstLen.toNat
      if rs.isEmpty then s.evrEnd 0 0
      else if !ok || !(s.fnSt 0).busMaster then s.evrEnd 1 0
      else
        let s := s.dmaWrite 0 s.owl.dstAddr.toNat (rs.flatMap OwlRecord.stored)
        let s : State := { s with owl.readSeq := s.owl.readSeq + BitVec.ofNat 64 rs.length }
        (s.reload 0 0x600018).evrEnd 0 (min 0xFFFF rs.length))

/-- Whether the audit root is usable (Table 7-1). -/
def State.auditRoot? (s : State) : Option Bytes :=
  if s.antler.state = .production ∨ s.antler.state = .endOfLife then s.tamper.auditRoot else none

/-- End an audit operation that writes bytes to the host. -/
def State.evrWrite (ok : Bool) (b : Bytes) (s : State) : State :=
  if !ok || !(s.fnSt 0).busMaster then s.evrEnd 1 0 else (s.dmaWrite 0 s.owl.dstAddr.toNat b).evrEnd 0 0

/-- The code of a life-cycle state (Table 14-1). -/
def LifeCycle.code : LifeCycle → Nat
  | .blank => 0
  | .makerTest => 1
  | .production => 2
  | .endOfLife => 3

/-- The 112 signed bytes of a checkpoint (Table 16-3). -/
def State.checkpointBody (seq : Nat) (s : State) : Bytes :=
  [0x54, 0x53, 0x4D, 0x4F, 0x57, 0x4C, 0x43, 0x50] ++ fit 16 Config.deviceId ++ natLe 8 seq
    ++ natLe 32 s.owl.chainStored.toNat ++ natLe 8 (calendarWord s.calNow (!s.calendar.isSet))
    ++ natLe 1 s.antler.state.code ++ zeros 7 ++ s.owl.nonce.toList.flatMap fun r => natLe 4 r.toNat

/-- CHECKPOINT_EXPORT: the signed statement of Table 16-3 for the newest committed record (R585). The random bytes of
its signatures, and its sequence while no record has committed, are free values. -/
def execCheckpointExport (go ok : Bool) (s : State) : Answer :=
  .next (
    if !s.evrShown then s
    else if go then s.evrGo 2 (decide (4848 ≤ s.owl.dstLen.toNat))
    else if !s.evrRuns 2 then s
    else match s.auditRoot? with
      | none => s.evrEnd 3 0
      | some root =>
        let a := s.free
        let b := a.2.free
        let s := b.2
        let body := s.checkpointBody (s.owl.seqCommitted.getD a.1)
        let hash := (natLe 64 (Config.digest 0x21 body).toNat).take 48
        let ec := Config.ecdsaSign 0x21 (auditEcdsa root).1 hash (natLe 48 a.1)
        let ml := Config.mldsaSign 0x32 (auditMldsa root).1 body (natLe 32 b.1)
        s.evrWrite ok (body ++ fit 96 ec ++ fit 4627 ml ++ zeros 13))

/-- AUDIT_KEYS: the audit public keys (R585). -/
def execAuditKeys (go ok : Bool) (s : State) : Answer :=
  .next (
    if !s.evrShown then s
    else if go then s.evrGo 3 (decide (2688 ≤ s.owl.dstLen.toNat))
    else if !s.evrRuns 3 then s
    else match s.auditRoot? with
      | none => s.evrEnd 3 0
      | some root => s.evrWrite ok (fit 96 (auditEcdsa root).2 ++ fit 2592 (auditMldsa root).2))

/-- The least ticks between two settings of the calendar (R565). -/
abbrev settingTicks : Nat := 60 * 32768

/-- The outcome of SET_TIME for a time in units of 1/65,536 s (R565). -/
def State.setTimeOutcome (s : State) (new : Nat) : Nat :=
  let below := decide (new / 65536 < s.timeFloor)
  if !s.calendar.isSet then if below then 4 else 0
  else
    let now := s.calNow
    let far := decide (new + 131072 < now) || decide (now + 131072 < new)
    if far || below || decide (s.tick < s.calendar.lastSetTick + settingTicks) then 5 else 0

/-- SET_TIME: EVR_TIME_SET becomes the calendar, the time floor is committed, and TIME_SET is recorded (R564, R565). -/
def execSetTime (s : State) : Answer :=
  .next (
    if !s.evrShown then s else
    let s : State := { s with owl.control := 4 }
    if s.owl.busy then { s with owl.outcome := 6, owl.resultOp := 4, owl.resultCount := 0 } else
    let new := s.owl.timeSet.toNat % 2 ^ 56
    let out := s.setTimeOutcome new
    let s : State := { s with owl.outcome := out, owl.resultOp := 4, owl.resultCount := 0 }
    if out ≠ 0 then s else
    let old := calendarWord s.calNow (!s.calendar.isSet)
    let s : State := { s with calendar := { s.calendar with
      seconds := new / 65536, fraction := new % 65536, atTick := s.tick, isSet := true, floor := new / 65536,
      lastSetTick := s.tick } }
    (s.commitObject objTime 0 (natLe 8 (new / 65536))).raise 3 (natLe 8 old ++ natLe 8 (calendarWord new false)))

end Sys2Proof.Machine
end

