-- ==== Sys2Proof/Machine/FirmwareOps.lean ====
section
/-! DEFINITION. Firmware images (R491, R492), the firmware slots and the operations on them (R495 to R501)
("Start-Up, Reset and Firmware Images"). -/

namespace Sys2Proof.Machine

/-! ## The image -/

/-- Offsets of the fields of a firmware header (Table 13-6). -/
def fwLcAllowed (b : Bytes) : BitVec 8 := byteAt b 0xA
def fwSvn (b : Bytes) : Nat := leField b 0xE 2
def fwVersion (b : Bytes) : BitVec 32 := BitVec.ofNat 32 (leField b 0x10 4)
def fwLength (b : Bytes) : Nat := leField b 0x14 4
def fwSig (b : Bytes) : Nat := leField b 0x18 4

/-- The entries of the section table. -/
def fwEntries (b : Bytes) : List SecEntry :=
  (List.range 5).map fun i =>
    let o := 0x100 + 16 * i
    { type := leField b o 2, flags := leField b (o + 2) 2, offset := leField b (o + 4) 4,
      length := leField b (o + 8) 4, reserved := leField b (o + 12) 4 }

/-- A section of a firmware image by its type (Table 13-7). -/
def fwSection (b : Bytes) (type : Nat) : Bytes := ((fwEntries b).getD (type - 1) {}).body b

/-- Whether a built-in set keeps the program-set format: values, reserved bytes and padding, length, and the order of its
opcodes (R67 to R69). -/
def programOk (e : SecEntry) (b : Bytes) : Bool :=
  let sec := e.body b
  programValues sec && sectionReserved { e with type := 6 } b && programLength sec
    && chained (fun x y : ProgramEntry => decide (x.opcode < y.opcode)) (parseProgram sec).entries

/-- The limit of a section (Table 13-7). -/
def fwSectionOk (b : Bytes) (e : SecEntry) : Bool :=
  let sec := e.body b
  match e.type with
  | 1 => decide (e.length ≤ 1572864)
  | 2 => e.length == 16384
  | 3 | 4 => decide (e.length ≤ 1310720) && leField sec 2 1 == 1 && programOk e b
  | 5 => e.length % 2688 == 0 && decide (e.length ≤ 43008)
  | _ => false

/-- Whether an image breaks no part of R491 and its reserved bytes are zero. -/
def fwFormat (b : Bytes) : Bool :=
  let o := fwSig b
  let es := fwEntries b
  let z := fun off n => allZero (slice b off n)
  let ends := 0x150 :: es.map fun e => e.offset + e.length
  let starts := es.map (·.offset) ++ [o]
  slice b 0 8 == [0x54, 0x53, 0x4D, 0x46, 0x57, 0x49, 0x4D, 0x47] && leField b 8 2 == 0x0100
    && fwLcAllowed b != 0 && bits (fwLcAllowed b).toNat 7 4 == 0 && z 0xB 1 && leField b 0xC 2 == 5
    && z 0x1C 4 && asciiPadded (slice b 0x20 32) && z 0x40 192
    && fwLength b == b.length && fwLength b == o + 7440 && decide (fwLength b ≤ 8388608) && o % 64 == 0
    && es.map (·.type) == [1, 2, 3, 4, 5]
    && (es.all fun e => e.flags == 0 && e.reserved == 0 && e.offset % 64 == 0 && decide (1 ≤ e.length))
    && ((ends.zip starts).all fun p => decide (p.1 ≤ p.2) && z p.1 (p.2 - p.1))
    && es.all (fwSectionOk b)
    && slice b o 4 == [0x46, 0x53, 0x49, 0x47] && leField b (o + 4) 2 == 1 && leField b (o + 6) 2 == 0
    && z (o + 8) 8 && z (o + 0x1D03) 13 && decide (Config.bootKeyIndex b < 4)

/-- The bit of LC_ALLOWED for a life-cycle state. -/
def lcAllowed (b : BitVec 8) (lc : LifeCycle) : Bool := b.getLsbD lc.code

/-- The checks of R492 in their order: 0x00, or the outcome of the first that fails. Staging omits the slot digest. -/
def fwCheck (lc : LifeCycle) (counter : Nat) (digest : Option (BitVec 256)) (b : Bytes) : Nat :=
  let o := fwSig b
  let ec := slice b (o + 0x10) 96
  let ml := slice b (o + 0x70) 2592
  if !fwFormat b then 4
  else if Config.sha3 (ec ++ ml) != Config.bootKeyDigest (Config.bootKeyIndex b) then 5
  else if !hybridVerify ec ml (b.take (o + 0xA90)) (slice b (o + 0xA90) 96) (slice b (o + 0xAF0) 4627) then 5
  else if !lcAllowed (fwLcAllowed b) lc then 7
  else if fwSvn b < counter then 6
  else match digest with
    | none => 0
    | some d => if Config.sha3 b = d then 0 else 4

/-! ## Slots -/

/-- A firmware slot: 0 A, 1 B. -/
def BootState.slotOf (b : BootState) (i : Nat) : FwSlot := if i = 0 then b.slotA else b.slotB

/-- Replace a firmware slot. -/
def BootState.setSlot (i : Nat) (v : FwSlot) (b : BootState) : BootState :=
  if i = 0 then { b with slotA := v } else { b with slotB := v }

/-- The slot that is not running; in recovery no slot runs, and it is the one that is not PREFERRED (the model's
choice). -/
def State.idleSlot (s : State) : Nat :=
  if s.boot.phase = .recovery then 1 - s.boot.preferred else 1 - s.boot.slot

/-- Commit the slot record (the layout of its bytes is the model's own). -/
def State.commitSlots (s : State) : State :=
  let b := s.boot
  let one := fun v : FwSlot => natLe 1 (b2n v.valid) ++ natLe 32 v.digest.toNat
  s.commitObject objSlots 0 (one b.slotA ++ one b.slotB ++ natLe 1 b.preferred)

/-! ## Operations -/

/-- Whether the DEV_FW_ registers take writes: ready, or in recovery (R487, R494). -/
def State.fwShown (s : State) : Bool := s.presented 0 0x48

/-- Refuse a GO while BUSY is 1 (R500). -/
def State.refuseFw (op : BitVec 2) (s : State) : State :=
  { s with boot.fwOp := op, boot.fwOutcome := 0x0B, boot.fwResultOp := op }

/-- DEV_FW_CONTROL takes OP and the operation is in progress. -/
def State.startFw (op : BitVec 2) (s : State) : State :=
  { s with boot.fwOp := op, boot.fwRunOp := op, boot.fwPhase := .fetch, boot.fwRunLen := s.boot.fwSrcLen.toNat,
           boot.fwWaits := s.antlerHolds }

/-- Report an operation with its FW_OPERATION event. -/
def State.reportFw (outcome svn : Nat) (s : State) : State :=
  (s.endFwOp outcome).raise 0xC1 (natLe 1 s.boot.fwRunOp.toNat ++ natLe 1 outcome ++ zeros 2 ++ natLe 2 svn ++ zeros 2)

/-- What refuses a staging before its fetch: END_OF_LIFE, a saturated counter (R497), the address or the length. -/
def State.stageRefusal (s : State) : Nat :=
  let b := s.boot
  if s.antler.state = .endOfLife then 8
  else if b.antiRollback = 65535 then 0xA
  else if b.fwSrcAddr.toNat % 64 ≠ 0 ∨ b.fwSrcLen.toNat < 256 ∨ 8388608 < b.fwSrcLen.toNat then 1
  else 0

/-- An image that passes its checks: the target slot is committed invalid before it is written (R495). -/
def State.beginFlash (b : Bytes) (s : State) : State :=
  let i := s.idleSlot
  let boot := s.boot.setSlot i { s.boot.slotOf i with valid := false }
  let s : State := { s with boot := { boot with fwPhase := .write, fwImage := b } }
  s.commitSlots

/-- Commit (R496, R497). -/
def State.commitFw (s : State) : State :=
  let b := s.boot
  if b.runningSvn ≤ b.antiRollback then s.reportFw 9 b.runningSvn else
  let s : State := { s with boot.antiRollback := b.runningSvn,
                            boot.saturated := b.saturated || b.runningSvn == 65535 }
  (s.commitObject objRollback 0 (natLe 2 b.runningSvn)).reportFw 0 b.runningSvn

/-- Exchange PREFERRED (R498). -/
def State.exchangeFw (s : State) : State :=
  let other := 1 - s.boot.preferred
  if !(s.boot.slotOf other).valid then s.reportFw 9 s.boot.runningSvn else
  let s : State := { s with boot.preferred := other }
  s.commitSlots.reportFw 0 s.boot.runningSvn

/-- A commit or an exchange in progress is made once nothing holds it: no TRANSITION or DEBUG_OPEN (Table 14-13), and a
page commit can begin (R462, R486). -/
def State.resumeFw (s : State) : State :=
  if s.boot.fwPhase = .fetch ∧ s.antlerHolds = false then
    if s.boot.fwRunOp = 2 then s.onStore State.commitFw else if s.boot.fwRunOp = 3 then s.onStore State.exchangeFw else s
  else s

/-- Operations that waited for the end of a TRANSITION or DEBUG_OPEN go on (Table 14-13); those that fetch nothing end. -/
def State.resumeWaiting (s : State) : State :=
  let s : State := { s with lodge.ctl.waits := false }
  s.resumeDiscard.resumeFw

end Sys2Proof.Machine
end

