-- ==== Sys2Proof/Machine/Restart.lean ====
section
/-! DEFINITION. Device resets (R482, R483): what a reset keeps of each part of the state, and the start of the boot. -/

namespace Sys2Proof.Machine

/-- What the store and the flash hold of the lodge: a boot's commit that has not been made is lost (R459, R486). -/
def LodgeState.kept (l : LodgeState) : LodgeState :=
  match l.stored with
  | some x => { record := x.record, flashCurrent := x.current, flashPrevious := x.previous, flashStaged := x.staged }
  | none => { record := l.record, flashCurrent := l.flashCurrent, flashPrevious := l.flashPrevious,
              flashStaged := l.flashStaged }

/-- The master-key region: persistent keys, each with the USE_COUNT last written (R291), and nothing resident
(R265). -/
def SettState.kept (t : SettState) : SettState :=
  let count := fun k (r : KeyRec) => { r with useCount := tget t.storedCount k r.useCount }
  let slot := fun k (v : KeySlot) => { v with reserved := 0, record := v.record.map (count k) }
  { keys := tmap (t.keys.filter fun e => isPersistent e.1) slot }

/-- The Quill side: enrolments, and the cards in the ports. -/
def QuillState.kept (q : QuillState) : QuillState :=
  let port := fun (_ : Nat) (p : QuillPort) => { ({} : QuillPort) with present := p.present }
  { enrolments := q.enrolments, ports := tmap q.ports port }

/-- Migration: the identity, and departing domains with their saved packages and cubs (R432). -/
def CubState.kept (c : CubState) : CubState :=
  let saved := c.saved.filter (·.scope == 2)
  let cubs := (c.fns.map Prod.fst).filter fun f => saved.any (·.cubs.contains f)
  { identity := c.identity, departing := c.departing, saved := saved,
    fns := cubs.map fun f => (f, { mig := MigState.saved, migScope := 2 }) }

/-- The persistent store, and its commits in progress, which the boot finishes (R460). -/
def MemState.kept (m : MemState) : MemState :=
  { mem := m.mem.filter fun c => c.1 < gateAddr 1 0, poisoned := m.poisoned.filter fun w => decide (w < gateAddr 1 0),
    flipped := m.flipped.filter fun w => decide (w < gateAddr 1 0),
    commits := m.commits, commitSeq := m.commitSeq }

/-- The flash slots and the slot record. -/
def BootState.kept (b : BootState) : BootState :=
  { slotA := b.slotA, slotB := b.slotB, preferred := b.preferred, antiRollback := b.antiRollback,
    saturated := b.saturated }

/-- The Antler store (Table 14-3). The life-cycle state stands until boot step 2 chooses it again. -/
def AntlerState.kept (a : AntlerState) : AntlerState :=
  { state := a.state, copy0 := a.copy0, copy1 := a.copy1, copy2 := a.copy2, provisioned := a.provisioned,
    digests := a.digests, ownerDigest := a.ownerDigest, rotations := a.rotations, debugCount := a.debugCount,
    debugOverflow := a.debugOverflow }

/-- The Torpor domain (Table 15-5), with the battery-operated monitors' values and windows. -/
def TamperState.kept (t : TamperState) : TamperState :=
  let mon := fun (v : Monitor) => { v with count := {}, cal := none, queued := false }
  { t with
    rootMissing := false, response := 0, confirmedAt := 0, rootZeroTenths := 0, doneMicros := 0, derivationBlocked := false,
    monitors := tmap (t.monitors.filter fun e => batteryMonitor e.1) fun _ v => mon v,
    temps := [], bootTemp := 0, bootLoad := 0, busCode := {}, sites := [] }

/-- The committed log (Table 16-1) with EVR_HARVESTED and EVR_LOST, whose reset is "store". -/
def OwlState.kept (o : OwlState) : OwlState :=
  { records := o.records, seqNext := o.seqNext, granuleNext := o.granuleNext, chain := o.chain,
    chainCommitted := o.chainCommitted, seqCommitted := o.seqCommitted, privCommitted := o.privCommitted,
    harvested := o.harvested, lost := o.lost }

/-- The power controller: over a reset of causes 1 to 5 the supply and its monitoring run on; after a loss of the rails
only PWR_LAST_WARNING stays (R674). -/
def PowerState.kept (rails : Bool) (p : PowerState) : PowerState :=
  if rails then
    { lineCentivolts := p.lineCentivolts, lineMilliamps := p.lineMilliamps, inputDeciwatts := p.inputDeciwatts,
      plls := p.plls, linkSeq := p.linkSeq, linkValidAt := p.linkValidAt, linkUp := p.linkUp,
      lastWarning := p.lastWarning, holdupArmed := p.holdupArmed, powerGood := p.powerGood, powerGoodAt := p.powerGoodAt }
  else { lastWarning := p.lastWarning }

/-- Put the log into the state that a device reset leaves: with the rails up, pending repeats and staged pages are
committed before the boot ROM restarts (R581); otherwise what is staged is lost, and a record of which only the head
had been committed counts in EVR_LOST (R573). -/
def State.settleLog (rails : Bool) (s : State) : State × Nat :=
  if rails && s.power.holdupArmed then (s.owlSettle, 0)
  else (s.owlUnstage, (s.owl.records.filter fun r => !r.committed && r.begun).length)

/-- A device reset (R483): Torpor, store and flash are kept and everything else is discarded. Time, the trace of
outputs, the queue of commands, the count of free values and the inputs from outside stand. -/
def State.restart (phase : BootPhase) (cause : Nat) (rails : Bool) (s : State) : State :=
  let l := (if rails then s.closeCeremony 6 else s).settleLog rails
  let s := if s.power.holdupArmed then l.1.finishWaiting else l.1
  let boot := { s.boot.kept with phase := phase, start := s.now, cause := cause }
  let s : State :=
    { now := s.now, lodge := s.lodge.kept, sett := s.sett.kept, quill := s.quill.kept, cub := s.cub.kept,
      rng := { head := s.rng.head }, mem := s.mem.kept, boot := boot, antler := s.antler.kept,
      tamper := s.tamper.kept, calendar := s.calendar, owl := s.owl.kept,
      pair := { witness := s.pair.witness, witnessSince := s.pair.witnessSince },
      power := s.power.kept rails,
      pins := { jtag := s.pins.jtag, flashCompliant := s.pins.flashCompliant },
      outputs := s.outputs, freeNext := s.freeNext, pending := s.pending }
  s.owlLost l.2

/-- Whether the boundary-scan port holds the device in a device reset (R687). -/
def JtagInstr.holds : JtagInstr → Bool
  | .extest | .clamp | .highz => true
  | _ => false

/-- A device reset of causes 1 to 5 (Table 13-1). During a power-fail warning the logic side already holds in reset
(Table 19-4), and so it does while the boundary-scan port holds it (R687). -/
def State.warmReset (cause : Nat) (s : State) : State :=
  if !s.power.powerGood || s.power.warning || s.pins.jtag.holds then s else s.restart .booting cause true

/-- The rails come up with POWER_GOOD: a device reset of cause 0 (Table 13-2). The four PLLs in use lock, and the
cells' identities are read (R558). -/
def State.powerUp (s : State) : State :=
  let s := s.restart (if s.pins.jtag.holds then .off else .booting) 0 false
  let s : State := { s with power.powerGood := true, power.powerGoodAt := s.now, power.plls := 0b10111 }
  (s.readCell 0).readCell 1

/-- POWER_GOOD falls: the logic side loses its state with its supply. -/
def State.powerDown (s : State) : State := { s.restart .off 0 false with pins.jtag := .idcode }

end Sys2Proof.Machine
end

