-- ==== Sys2Proof/Machine/MigOps.lean ====
section
/-! DEFINITION. Migration identities, packages and receipts (R424 to R437, Tables 11-5 and 11-6). -/

namespace Sys2Proof.Machine

/-! ## Identity -/

/-- The random bytes that a migration identity takes: its P-384 key pair and its ML-KEM-1024 key pair. -/
abbrev identityBytes : Nat := 128

/-- The migration identity that random bytes give (R424). -/
def identityFrom (b : Bytes) : MigIdentity :=
  let ec := Config.ecKeygen 0x21 (b.take 56)
  let kem := Config.mlkemKeygen 0x3A (b.drop 64)
  { p384Private := ec.1, p384 := fit 97 ec.2, mlkemPrivate := kem.1, mlkem := fit 1568 kem.2 }

/-- The 1,665 bytes of the two public keys. -/
def MigIdentity.publics (i : MigIdentity) : Bytes := i.p384 ++ i.mlkem

/-- The identity digest (R425). -/
def identityDigest (publics : Bytes) : Bytes := natLe 32 (Config.sha3 publics).toNat

/-- Take a new migration identity from random bytes and commit it: the private keys under the identity key (R424). -/
def State.setIdentity (b : Bytes) (s : State) : State :=
  let i := identityFrom b
  let hidden := Config.sealIdentity (s.identityKey.getD []) (i.p384Private ++ i.mlkemPrivate)
  ({ s with cub.identity := some i, cub.identityDue := false } : State).commitObject objMigration 0 (i.publics ++ hidden)

/-- The migration identity while its private keys can be read: the Sett master key is held. -/
def State.openIdentity (s : State) : Option MigIdentity := if s.identityKey.isSome then s.cub.identity else none

/-- Generate a migration identity: at once where Squirrel serves its bytes, else when it does (R404, R424). -/
def State.makeIdentity (s : State) : State :=
  match s.drawNow identityBytes with
  | some (b, s) => s.setIdentity b
  | none => { s with cub.identityDue := true, rng.waiting := s.rng.waiting ++ [{ bytes := identityBytes }] }

/-! ## Keys of a migration -/

/-- The 64-byte key material (R427): the one-step KDF with SHA3-256 over Z and FixedInfo. -/
def migrationKey (z source dest : Bytes) (domain : Nat) (ticket nonce : Bytes) : Bytes :=
  let label : Bytes := [0x54, 0x53, 0x4D, 0x37, 0x32, 0x39, 0x36, 0x20, 0x4D, 0x49, 0x47, 0x52, 0x41, 0x54, 0x49, 0x4F, 0x4E]
  let info := label ++ source ++ dest ++ natLe 2 domain ++ ticket ++ nonce
  let block := fun n => natLe 32 (Config.sha3 (natBe 4 n ++ z ++ info)).toNat
  block 1 ++ block 2

/-- A receipt over the SHA3-256 digest of a package (R437): verdict 0x00 accepted, 0x0A refused. -/
def receipt (key digest : Bytes) (verdict : Byte) : Bytes :=
  (natLe 64 (Config.mac 1 key (digest ++ [verdict])).toNat).take 15 ++ [verdict]

/-! ## Packages -/

/-- The cub record of a function (Table 11-6). -/
def State.cubRecord (s : State) (f : Nat) : Bytes :=
  let r := s.ring f
  natLe 2 f ++ natLe 1 (b2n r.enabled + b2n r.phase * 2 + b2n r.pwEnable * 4) ++ [0] ++ natLe 1 r.sqLog2
    ++ natLe 1 r.cqLog2 ++ natLe 2 r.pwInterval ++ natLe 8 r.sqBase.toNat ++ natLe 8 r.cqBase.toNat
    ++ natLe 8 r.pwAddr.toNat ++ natLe 2 (s.sqHeadOf f) ++ natLe 2 r.sqTail ++ natLe 2 r.cqWrite ++ natLe 2 r.cqHead
    ++ natLe 2 (s.sqFetchedOf f) ++ natLe 2 r.cqWritten ++ natLe 1 r.pwSeq ++ zeros 19

/-- Load the registers of a function from a cub record. -/
def Ring.load (b : Bytes) (r : Ring) : Ring :=
  let flags := leField b 2 1
  { r with enable := bit flags 0, enabled := bit flags 0, phase := bit flags 1, pwEnable := bit flags 2,
           sqLog2 := leField b 4 1, cqLog2 := leField b 5 1, pwInterval := leField b 6 2,
           sqBase := BitVec.ofNat 64 (leField b 8 8), cqBase := BitVec.ofNat 64 (leField b 0x10 8),
           pwAddr := BitVec.ofNat 64 (leField b 0x18 8), sqHead := leField b 0x20 2, sqTail := leField b 0x22 2,
           cqWrite := leField b 0x24 2, cqHead := leField b 0x26 2, sqFetched := leField b 0x28 2,
           cqWritten := leField b 0x2A 2, pwSeq := leField b 0x2C 1, dbError := false, fetchError := false,
           pwForce := false, pwLast := 0, pwLastAt := none }

/-- DOMAIN_PRINT of a domain (R430). -/
def State.domainPrint (s : State) (d : Nat) : Bytes :=
  let slot := fun i => match (s.keySlot (masterKeyId d i)).record with
    | some r => natLe 1 r.type ++ (keyCheckValue r).take 3
    | none => zeros 4
  natLe 32 (Config.sha3 ((List.range 32).flatMap slot)).toNat

/-- The body of a package (R429). -/
def State.packageBody (s : State) (scope d : Nat) (cubs : List Nat) : Bytes :=
  cubs.flatMap s.cubRecord ++
    if scope = 2 then
      (List.range 32).flatMap (fun i => match (s.keySlot (masterKeyId d i)).record with
        | some r => fit 112 r.toBytes
        | none => zeros 112)
      ++ (List.range 8).flatMap fun c => match s.enrolled? d c with
        | some e => fit 48 e.toBytes
        | none => zeros 48
    else []

/-- BODY_LENGTH. -/
def bodyLength (scope count : Nat) : Nat := 64 * count + if scope = 2 then 3968 else 0

/-- "TSMMIGRA". -/
def migMagic : Bytes := [0x54, 0x53, 0x4D, 0x4D, 0x49, 0x47, 0x52, 0x41]

/-- The header of a package (Table 11-5). -/
def packageHeader (scope d count : Nat) (source dest ticket print ephemeral : Bytes) : Bytes :=
  migMagic ++ natLe 2 0x0100 ++ natLe 1 scope ++ natLe 1 count ++ natLe 2 d ++ zeros 2 ++ fit 16 source ++ fit 16 dest
    ++ fit 16 ticket ++ fit 32 print ++ fit 97 ephemeral ++ zeros 3 ++ natLe 4 (bodyLength scope count) ++ zeros 56

/-- Step 1 of R435: the format of a package and the length of an input that carries it. -/
def packageOk (b : Bytes) : Bool :=
  let scope := leField b 0xA 1
  let count := leField b 0xB 1
  let body := leField b 0xC4 4
  slice b 0 8 == migMagic && leField b 8 2 == 0x0100 && (scope == 1 || scope == 2) && decide (1 ≤ count)
    && decide (count ≤ 16) && decide (leField b 0xC 2 < Config.domains) && allZero (slice b 0xE 2)
    && allZero (slice b 0xC1 3) && allZero (slice b 0xC8 56) && body == bodyLength scope count
    && b.length == 0x730 + body + 1665 + 2 * count

/-- The plaintext master-key records of a body. -/
def bodyKeys (count : Nat) (body : Bytes) : List (Nat × KeyRec) :=
  (List.range 32).filterMap fun i =>
    (parseKeyRec? (slice body (64 * count + 112 * i) 112)).map fun r => (i, r)

/-- The enrolment records of a body. -/
def bodyEnrolments (count : Nat) (body : Bytes) : List (Nat × Enrolment) :=
  (List.range 8).filterMap fun c =>
    (parseEnrolment? (slice body (64 * count + 3584 + 48 * c) 48)).map fun e => (c, e)

/-- A peer of the MIGRATION section whose public keys hash to its PEER_ID_DIGEST. -/
def State.peerOk (s : State) (device publics : Bytes) : Bool :=
  match s.tables.migration with
  | none => false
  | some m => m.peers.any fun p => p.deviceId == device && p.idDigest == identityDigest publics

/-- Whether a function's record carries MIGRATABLE and names a domain. -/
def State.migratable (s : State) (f d : Nat) : Bool :=
  match s.fnRec? f with
  | some r => r.flags.getLsbD 0 && r.domain == d
  | none => false

/-- Whether a destination domain takes a body (step 6 of R435). -/
def State.domainTakes (s : State) (scope d : Nat) (header body : Bytes) : Bool :=
  if scope = 1 then slice header 0x40 32 == s.domainPrint d else
  let count := leField header 0xB 1
  let dr := (s.domRec? d).getD {}
  (s.recordsOf d).isEmpty && (s.enrolledIn d).isEmpty
    && (bodyKeys count body).all (fun x => decide (x.1 < dr.masterKeySlots))
    && (bodyEnrolments count body).all fun x => decide (x.1 < dr.ceremonyN)

/-- Install the master keys and enrolments of a domain-scope body. -/
def State.installDomain (d count : Nat) (body : Bytes) (s : State) : State :=
  let s := (bodyKeys count body).foldl (fun s x =>
    let k := masterKeyId d x.1
    (s.setKeySlot k { generation := x.2.generation, record := some { x.2 with domain := d } }).commitMaster k) s
  (bodyEnrolments count body).foldl (fun s x =>
    let e := { x.2 with domain := d, custodian := x.1 }
    ({ s with quill.enrolments := putEnrolment s.quill.enrolments e } : State).commitObject objEnrolment
      (d * 8 + x.1) e.toBytes) s

end Sys2Proof.Machine
end

