-- ==== Sys2Proof/Machine/Squirrel.lean ====
section
/-! DEFINITION. Noise sources, instances, the output queue and waiting draws ("Squirrel Random Number Subsystem"). -/

namespace Sys2Proof.Machine

/-! ## Health tests -/

/-- Count runs of identical samples: the last sample, its run, and whether a run has reached 11 (Table 10-1). -/
def runs : Option Byte → Nat → Bool → Bytes → Option Byte × Nat × Bool
  | last, run, bad, [] => (last, run, bad)
  | last, run, bad, b :: t =>
    let run := if last = some b then run + 1 else 1
    runs (some b) run (bad || decide (11 ≤ run)) t

/-- The adaptive proportion test: occurrences of the first sample of a block. -/
def proportion (b : Bytes) : Nat := (b.filter fun x => some x == b.head?).length

/-- Failed blocks within the last 65,536 blocks, of those whose numbers are kept. -/
def NoiseSource.windowFails (n : NoiseSource) : Nat := (n.failures.filter fun x => decide (n.blocks < x + 65536)).length

/-- Test a block of 512 samples (R388 to R392, Table 10-2). Its number is that of the blocks tested with it. -/
def NoiseSource.test (b : Bytes) (n : NoiseSource) : NoiseSource :=
  let r := runs n.lastSample n.run false b
  let fails := r.2.2 || decide (177 ≤ proportion b)
  let n := { n with lastSample := r.1, run := r.2.1, blocks := n.blocks + 1 }
  if fails then
    let n := { n with failures := (n.blocks :: n.failures).take 16, fails := (SatCount.add count31 1 n.fails).1 }
    if n.state = .startup ∨ 16 ≤ n.windowFails then { n with state := .failed, fresh := [] } else n
  else match n.state with
    | .startup => if 4 ≤ n.blocks then { n with state := .healthy } else n
    | .healthy => { n with fresh := (b :: n.fresh).take 16 }
    | .failed => n

/-- A noise source. -/
def State.source (s : State) (i : Nat) : NoiseSource := if i = 0 then s.rng.source0 else s.rng.source1

/-- Replace a noise source. -/
def State.setSource (i : Nat) (n : NoiseSource) (s : State) : State :=
  if i = 0 then { s with rng.source0 := n } else { s with rng.source1 := n }

/-- The healthy sources. -/
def RngState.healthy (r : RngState) : Nat := b2n (r.source0.state == .healthy) + b2n (r.source1.state == .healthy)

/-- With no healthy source, a requested reseed of every instance is dropped (Table 10-6). -/
def State.dropReseedAll (s : State) : State :=
  { s with rng.reseedAll := false, rng.drbgs := tmap s.rng.drbgs fun _ d => { d with reseedDue := false } }

/-! ## Instances -/

/-- Replace an instance. -/
def State.setDrbg (i : Nat) (d : Drbg) (s : State) : State := { s with rng.drbgs := tset s.rng.drbgs i d }

/-- The entropy input of an instantiation or a reseed: the most recent block not yet used of each healthy source, in
source order (R395); nothing while a healthy source has none, or where no source is healthy. -/
def RngState.entropy? (r : RngState) : Option Bytes :=
  let part := fun (n : NoiseSource) => if n.state = .healthy then n.fresh.head? else some []
  if r.healthy = 0 then none else
  match part r.source0, part r.source1 with
  | some a, some b => some (a ++ b)
  | _, _ => none

/-- The blocks of an entropy input are used. -/
def State.useEntropy (s : State) : State :=
  let used := fun (n : NoiseSource) => if n.state = .healthy then { n with fresh := n.fresh.tail } else n
  { s with rng.source0 := used s.rng.source0, rng.source1 := used s.rng.source1 }

/-- Instantiate each instance that is not instantiated, the lowest number first, as far as entropy inputs are at hand
(R394, R395). -/
def State.instantiate (s : State) : State :=
  if !s.rng.started then s else
  (List.range 16).foldl (fun s i =>
    match s.rng.entropy? with
    | none => s
    | some e => if (s.rng.instance? i).state = .uninstantiated then s.useEntropy.setDrbg i (Drbg.instantiate i e) else s) s

/-- A request of an instance: 256 units join the queue (R400). -/
def State.generate (i : Nat) (s : State) : State :=
  let d := s.rng.instance? i
  let r := s.rng
  let new : Served := { start := r.head + r.units, key := d.key, v := d.v }
  let s := s.setDrbg i d.generated
  { s with rng.units := r.units + 256, rng.nextInstance := (i + 1) % 16,
           rng.served := (r.served.filter fun x => decide (r.head < x.start + 256)) ++ [new] }

/-- The next running instance in round-robin order. -/
def RngState.nextRunning? (r : RngState) : Option Nat :=
  ((List.range 16).map fun j => (r.nextInstance + j) % 16).find? fun i => (r.instance? i).state == .running

/-- Requests of the running instances in turn, until the queue is full (R400). -/
def State.fillQueue : Nat → State → State
  | 0, s => s
  | n + 1, s =>
    match s.rng.nextRunning? with
    | some i => State.fillQueue n (s.generate i)
    | none => s

/-- Squirrel afresh: the queue is zeroised, every instance is instantiated afresh from blocks not yet used, and the queue
is filled; where the known-answer tests have failed none is instantiated (R394, R395, Table 10-3). An instance for which
no block is at hand is instantiated when one arrives. -/
def State.instantiateAll (s : State) : State :=
  let r := s.rng
  let s : State := { s with rng.drbgs := [], rng.head := r.head + r.units, rng.units := 0, rng.served := [], rng.shut := false,
                            rng.nextInstance := 0, rng.reseedAll := false, rng.started := !r.katFailed }
  s.instantiate.fillQueue 16

/-- NOISE_BLOCK_TESTED: a block of 512 samples of source 0 or 1 is complete. -/
def execNoiseBlockTested (source : Nat) (samples : Bytes) (s : State) : Answer :=
  .next (if 2 ≤ source ∨ samples.length ≠ 512 then s else
    let before := s.source source
    let after := before.test samples
    let s := (s.setSource source after).saturated (!before.fails.overflow && after.fails.overflow) rngBase (0x20 + 4 * source)
    let s := if s.rng.healthy = 0 then s.dropReseedAll else s.instantiate
    if before.state ≠ .failed ∧ after.state = .failed then
      s.raise 0x80 (natLe 1 source ++ natLe 1 after.windowFails ++ zeros 2)
    else s)

/-- Reseed an instance from an entropy input: its count starts again, and the blocks are used (R395 to R397). -/
def State.reseed (i : Nat) (entropy : Bytes) (s : State) : State :=
  let c := SatCount.add count31 1 s.rng.reseeds
  let s := s.useEntropy.setDrbg i ((s.rng.instance? i).reseed entropy)
  let s : State := { s with rng.reseeds := c.1, rng.reseedAll := (List.range 16).any fun j => (s.rng.instance? j).reseedDue }
  s.saturated c.2 rngBase 0x80

/-- DRBG_GENERATE: with at least 256 units free, the next running instance serves a request; one whose count has
reached 65,536 or that must reseed reseeds first, or stops where no source is healthy (R396 to R400). -/
def execDrbgGenerate (s : State) : Answer :=
  .next (if 4096 < s.rng.units + 256 then s else
    match s.rng.nextRunning? with
    | none => s
    | some i =>
      let d := s.rng.instance? i
      if d.requests < 65536 && !d.reseedDue then s.generate i
      else if s.rng.healthy = 0 then
        let s := s.setDrbg i { d with state := .stopped, reseedDue := false }
        { s with rng.reseedAll := (List.range 16).any fun j => (s.rng.instance? j).reseedDue }
      else match s.rng.entropy? with
        | some e => (s.reseed i e).generate i
        | none => s)

/-- RNG_RESEED_ALL: every running instance reseeds before its next request, provided that a source is healthy
(R399). -/
def execRngReseedAll (s : State) : Answer :=
  .next (if s.rng.healthy = 0 ∨ s.rng.anyRunning = false ∨ s.presented 0 rngBase = false then s else
    { s with rng.reseedAll := true,
             rng.drbgs := tmap s.rng.drbgs fun _ d => { d with reseedDue := d.state == .running } })

/-! ## Waiting draws -/

/-- The port whose request a slot's command waits on. -/
def State.portOf? (s : State) (k : Nat) : Option Nat :=
  (List.range Config.quillPorts).find? fun p => ((s.port p).request.map (·.slot)) == some k

/-- The command of a slot has the bytes of its draw: a Quill request goes on at once, a core or a den command takes
them when it draws again. -/
def State.drawReady (own : Bool) (k : Nat) (b : Bytes) (s : State) : State :=
  let s := s.modSlot k fun sl => { sl with drawn := some b }
  let s := if own then s else s.mirrorDraw k b
  match s.portOf? k with
  | none => s
  | some p => match (s.port p).request.map (·.stage) with
    | some QuillStage.challenge => s.sendChallenge p
    | some QuillStage.ephemeral => s.sendComponent p
    | _ => s

/-- The bytes of a debug challenge's nonce. -/
abbrev nonceBytes : Nat := 32

/-- Issue a debug challenge with a nonce (Table 14-10, R518). -/
def State.issueChallenge (nonce : Bytes) (s : State) : State :=
  let b := s.boot
  let c := Config.deviceId ++ fit 32 nonce ++ natLe 4 b.runningVersion.toNat ++ natLe 2 b.runningSvn
    ++ natLe 2 (s.antler.debugCount + 1) ++ zeros 8
  let s : State := { s with antler.challenge := some c, antler.challengeExpires := s.now + 600 * unitsPerSecond }
  s.endLcOp 0

/-- A draw that no command issues has its bytes: a debug challenge's nonce, or those of a migration identity. -/
def State.ownDraw (n : Nat) (b : Bytes) (s : State) : State :=
  if n = nonceBytes then (if s.antler.phase = .check ∧ s.antler.runOp = 4 then s.issueChallenge b else s)
  else if s.cub.identityDue then s.setIdentity b
  else s

/-- Such a draw is refused (R518). -/
def State.ownRefused (n : Nat) (s : State) : State :=
  if n = nonceBytes then (if s.antler.phase = .check ∧ s.antler.runOp = 4 then s.endLcOp 0x11 else s)
  else { s with cub.identityDue := false }

/-- The refusal of a waiting draw (R403): its command ends with 0x0405. -/
def State.refuseDraw (w : WaitingDraw) (s : State) : State :=
  let s := s.drawRefused
  match w.slot with
  | none => s.ownRefused w.bytes
  | some k =>
    let s := if w.own then s else s.mirrorDraw k []
    match s.portOf? k with
    | some p => s.failRequest p 0x0405
    | none => s.failCmd k 0x0405

/-- RANDOM_DRAW_SERVED: the draw at the head of the queue is served whole once enough units are there, or refused
once every instance has stopped (R402, R403). -/
def execRandomDrawServed (s : State) : Answer :=
  .next (match s.rng.waiting with
    | [] => s
    | w :: t =>
      let out : State := { s with rng.waiting := t }
      if drawUnits w.bytes ≤ s.rng.units ∧ s.rng.shut = false then
        let r := out.takeUnits w.bytes
        match w.slot with
        | some k => r.2.drawReady w.own k r.1
        | none => r.2.ownDraw w.bytes r.1
      else if s.rng.allStopped then out.refuseDraw w
      else s)

end Sys2Proof.Machine
end

