-- ==== Sys2Proof/Machine/BootOps.lean ====
section
/-! DEFINITION. The boot (R488): life-cycle copies and roots (R503 to R508), the choice of a firmware slot (R493), the
start of the firmware, the choice of a lodge state (Table 3-4), and re-initialisation (R552). -/

namespace Sys2Proof.Machine

/-! ## Life-cycle copies and roots -/

/-- The latest of life-cycle states in their order. -/
def latestState (l : List LcCopy) : LifeCycle :=
  l.foldl (fun a c => if a.code < c.state.code then c.state else a) .blank

/-- The bitmap that intact copies give together. -/
def unionUnlocks (l : List LcCopy) : BitVec 16 := l.foldl (fun a c => a ||| c.unlockUsed) 0

/-- Whether a copy holds a state and a bitmap. -/
def LcCopy.holds (st : LifeCycle) (used : BitVec 16) (c : LcCopy) : Bool :=
  c.intact && c.state == st && c.unlockUsed == used

/-- Read a copy, whose bytes may have been lost. -/
def LcCopy.read (bad : Bool) (c : LcCopy) : LcCopy := { c with intact := c.intact && !bad }

/-- LCS_STATE (Table 14-15). -/
def AntlerState.stateWord (a : AntlerState) : Nat :=
  a.state.code + 4 * a.copiesIntact.toNat + 32 * b2n a.differed + 64 * b2n a.lost + 256 * b2n a.debug
    + 512 * b2n (a.testOpen && !a.portShut) + 1024 * b2n a.provisioned

/-- The choice of Table 14-5 among the three copies. -/
def AntlerState.choose (a : AntlerState) : AntlerState :=
  let cs := [a.copy0, a.copy1, a.copy2]
  let good := cs.filter (·.intact)
  let a := { a with copiesIntact := BitVec.ofNat 3 (b2n a.copy0.intact + 2 * b2n a.copy1.intact + 4 * b2n a.copy2.intact) }
  if good.isEmpty then { a with state := .endOfLife, unlockUsed := 0xFFFF, lost := true } else
  let st := latestState good
  let used := unionUnlocks good
  { a with state := st, unlockUsed := used, differed := !good.all (·.holds st used),
           copiesDue := !cs.all (·.holds st used) }

/-- Boot step 2 for the copies: `bad` names the copies whose bytes do not read intact. A choice that is not clear
raises LC_COPIES (R507). -/
def State.readCopies (bad : BitVec 3) (s : State) : State :=
  let a := s.antler
  let a := { a with copy0 := a.copy0.read (bad.getLsbD 0), copy1 := a.copy1.read (bad.getLsbD 1),
                    copy2 := a.copy2.read (bad.getLsbD 2) }
  let a := a.choose
  let s : State := { s with antler := a }
  if a.lost || a.copiesDue then s.raise 0xD0 (natLe 1 (a.stateWord % 256) ++ zeros 3) else s

/-- The state and bitmap in force stand in every copy. -/
def AntlerState.writeCopies (a : AntlerState) : AntlerState :=
  { a.putCopies 3 a.state a.unlockUsed with copiesDue := false }

/-- Zero the root slots that the state in force does not name (R503, Table 14-1). -/
def State.zeroRoots (s : State) : State :=
  let lc := s.antler.state
  { s with tamper.testRoot := if lc = .makerTest then s.tamper.testRoot else none,
           tamper.productionRoot := if lc = .production then s.tamper.productionRoot else none,
           tamper.auditRoot := if lc = .production ∨ (lc = .endOfLife ∧ s.antler.lost = false) then s.tamper.auditRoot
             else none }

/-- Whether the state in force names a root whose slot is zero (R504). -/
def State.missesRoot (s : State) : Bool :=
  match s.antler.state with
  | .blank => false
  | .makerTest => s.tamper.testRoot.isNone
  | .production => s.tamper.productionRoot.isNone || s.tamper.auditRoot.isNone
  | .endOfLife => !s.antler.lost && s.tamper.auditRoot.isNone

/-! ## Firmware -/

/-- What a read of the flash returns for an object: the bytes stored, unless they have been altered. -/
def flashRead (reads : List (Nat × Bytes)) (obj : Nat) (stored : Bytes) : Bytes := (tget? reads obj).getD stored

/-- The image that boot copies from a firmware slot: as many bytes as its header says. -/
def State.bootImage (s : State) (reads : List (Nat × Bytes)) (i : Nat) : Bytes :=
  let b := flashRead reads (100 + i) (s.boot.slotOf i).flash
  b.take (fwLength b)

/-- The outcome of a firmware slot at boot (R492, Table 13-16). -/
def State.slotOutcome (s : State) (reads : List (Nat × Bytes)) (i : Nat) : Nat :=
  let v := s.boot.slotOf i
  if !s.pins.flashCompliant then 2
  else if !v.valid then 4
  else fwCheck s.antler.state s.boot.antiRollback (some v.digest) (s.bootImage reads i)

/-- Note the outcome of a slot. -/
def State.noteOutcome (i o : Nat) (s : State) : State :=
  if i = 0 then { s with boot.outcomeA := o } else { s with boot.outcomeB := o }

/-- The internal copy of an image: its CONTROLLER section at SRAM offset 0, every other part at its own offset in the
sealed firmware area of DRAM (R489, Table 13-7). -/
def State.copyFirmware (b : Bytes) (s : State) : State :=
  let e := (fwEntries b).getD 0 {}
  let rest := b.take e.offset ++ zeros e.length ++ b.drop (e.offset + e.length)
  (s.putTarget 1 0 (fwSection b 1)).putTarget 4 0x48000000 rest

/-- Take the sections of the image that runs. -/
def State.loadFirmware (i : Nat) (b : Bytes) (s : State) : State :=
  let keys := fwSection b 5
  let s := s.copyFirmware b
  { s with boot.slot := i, boot.runningVersion := fwVersion b, boot.runningSvn := fwSvn b,
           boot.runningLcAllowed := fwLcAllowed b,
           boot.vendorKeys := (List.range (keys.length / 2688)).map fun k => slice keys (2688 * k) 2688,
           boot.microcode := (List.range 2048).map fun k => BitVec.ofNat 64 (leField (fwSection b 2) (8 * k) 8),
           boot.nativeSet := fwSection b 3, boot.compatSet := fwSection b 4 }

/-- Boot steps 4 and 5: the preferred slot first, the other second (R493). The boolean says whether a slot runs. -/
def State.chooseSlot (reads : List (Nat × Bytes)) (s : State) : State × Bool :=
  let p := s.boot.preferred
  let first := s.slotOutcome reads p
  let second := s.slotOutcome reads (1 - p)
  if first = 0 then ((s.noteOutcome p 0).loadFirmware p (s.bootImage reads p), true)
  else if second = 0 then
    let image := s.bootImage reads (1 - p)
    let s := ((s.noteOutcome p first).noteOutcome (1 - p) 0).loadFirmware (1 - p) image
    let s : State := { s with boot.fallback := true, boot.preferDue := some (1 - p) }
    (s.raise 0xC0 (natLe 1 (1 - p) ++ natLe 1 s.boot.outcomeA ++ natLe 1 s.boot.outcomeB ++ [0]), true)
  else ((s.noteOutcome p first).noteOutcome (1 - p) second, false)

/-- Whether Squirrel can be started: the start-up tests have ended, and an entropy input is at hand or no source is
healthy (R391, R395). -/
def RngState.ready (r : RngState) : Bool :=
  r.source0.state != .startup && r.source1.state != .startup && (r.healthy == 0 || r.entropy?.isSome)

/-- Squirrel's known-answer tests and instantiation, the boot nonce and the Sett's keys (R262, R394). Where Squirrel
is stopped from boot the nonce is a free value. -/
def State.startSett (kat : Option Nat) (s : State) : State :=
  let s := match kat with
    | some t => ({ s with rng.katFailed := true } : State).raise 0x81 (natLe 1 t ++ zeros 3)
    | none => s
  let s := s.instantiateAll
  let n := match s.drawNow 32 with
    | some r => r
    | none => (natLe 32 s.free.1, s.free.2.notServed)
  State.deriveSettKeys n.2.antler.state { n.2 with sett.bootNonce := n.1 }

/-! ## The lodge -/

/-- Validate a full image at boot against its entry of the lodge record (R100). -/
def State.judgeFull (s : State) (e : LodgeRecordEntry) (staged : Bool) (b : Bytes) : Verdict :=
  validateFull s.lodgeContext b.length
    (imgSerial b == e.fullSerial && Config.sha3 b == e.fullDigest
      && (!staged || decide (s.lodge.record.highSerial < e.fullSerial))) b

/-- Apply a chain of deltas to a lodge at boot: each delta's BASE_SERIAL equals the serial before it (R101). -/
def State.judgeChain (s : State) : List Bytes → Lodge → Verdict
  | [], l => .accepted l
  | b :: t, l =>
    match validateDelta s.lodgeContext b.length true (imgBase b == l.serial) (fun _ => true) l b with
    | .rejected n st => .rejected n st
    | .accepted l' => s.judgeChain t l'

/-- The deltas of a chain as one flash device returns them. -/
def readDeltas (reads : List (Nat × Bytes)) (base : Nat) (ds : List Bytes) : List Bytes :=
  ((List.range ds.length).zip ds).map fun e => flashRead reads (base + e.1) e.2

/-- Validate a whole state: the full image first, then its chain, whose running digest and last serial match the
record (R101). A state that does not match its digests on device 0 is read from device 1 (R490). `obj` and `chain`
number the objects of `reads`; those of device 1 are 256 higher. A running digest that does not match the record is
reported (step 8, 0x0344) ahead of the failing step of a delta (DESIGN CHOICE, log entry 94). -/
def State.judgeState (s : State) (reads : List (Nat × Bytes)) (obj chain : Nat) (staged : Bool) (e : LodgeRecordEntry)
    (f : LodgeFlash) : Verdict :=
  let ds := f.deltas.take e.chain
  let full := fun d => flashRead reads (256 * d + obj) f.full
  let deltas := fun d => readDeltas reads (256 * d + chain) ds
  let digestOf := fun d => (deltas d).foldl Config.chainDigest (Config.sha3 (full d))
  let d := if Config.sha3 (full 0) = e.fullDigest ∧ digestOf 0 = e.chainDigest then 0 else 1
  match s.judgeFull e staged (full d) with
  | .rejected n st => .rejected n st
  | .accepted l =>
    if digestOf d ≠ e.chainDigest then .rejected 8 0x0344 else
    match s.judgeChain (deltas d) l with
    | .rejected n st => .rejected n st
    | .accepted l' => if l'.serial = e.serial then .accepted l' else .rejected 8 0x0344

/-- The LODGE_BOOT event of a candidate that fails (Table 3-4). -/
def State.lodgeBootFailed (candidate : Nat) (st : Status) (serial : Nat) (s : State) : State :=
  s.raise 0x31 (natLe 1 candidate ++ [0] ++ natLe 2 st.toNat ++ natLe 8 serial)

/-- The staged image becomes current (row 1 of Table 3-4). -/
def LodgeState.promoteStaged (e : LodgeRecordEntry) (l : LodgeState) : LodgeState :=
  { l with record := { highSerial := e.fullSerial, current := some e, previous := l.record.current, staged := none },
           flashPrevious := l.flashCurrent, flashCurrent := { l.flashStaged with area := 1 - l.flashCurrent.area }, flashStaged := {} }

/-- The previous state becomes current (row 3 of Table 3-4). -/
def LodgeState.fallBack (l : LodgeState) : LodgeState :=
  { l with record := { l.record with current := l.record.previous, previous := none },
           flashCurrent := l.flashPrevious, flashPrevious := {}, ctl := { l.ctl with fallback := true } }

/-- Rows 2 to 4 of Table 3-4. -/
def State.bootCurrent (reads : List (Nat × Bytes)) (s : State) : Option Lodge × State :=
  let r := s.lodge.record
  let prev := fun s : State =>
    match r.previous with
    | none => (none, s)
    | some e =>
      match s.judgeState reads 2 64 false e s.lodge.flashPrevious with
      | .accepted l => (some l, { s with lodge := s.lodge.fallBack })
      | .rejected _ st => (none, ({ s with lodge.record.previous := none } : State).lodgeBootFailed 3 st e.serial)
  match r.current with
  | none => prev s
  | some e =>
    match s.judgeState reads 1 16 false e s.lodge.flashCurrent with
    | .accepted l => (some l, s)
    | .rejected _ st => prev (s.lodgeBootFailed 2 st e.serial)

/-- The lodge states in the order of Table 3-4. -/
def State.selectLodge (reads : List (Nat × Bytes)) (s : State) : Option Lodge × State :=
  match s.lodge.record.staged with
  | none => s.bootCurrent reads
  | some e =>
    match s.judgeState reads 0 0 true e s.lodge.flashStaged with
    | .accepted l => (some l, { s with lodge := s.lodge.promoteStaged e })
    | .rejected _ st =>
      State.bootCurrent reads (({ s with lodge.record.staged := none } : State).lodgeBootFailed 1 st e.serial)

/-- Keep what the store still names while the commit of a changed record waits for the arming (R486). -/
def State.commitBootRecord (before : LodgeState) (s : State) : State :=
  if s.lodge.record = before.record then s else
  let old : StoredLodge := { record := before.record, current := before.flashCurrent, previous := before.flashPrevious,
                             staged := before.flashStaged }
  let s : State := { s with lodge.stored := if s.power.holdupArmed then none else some old }
  s.commitRecord

/-! ## Re-initialisation -/

/-- Erase the whole master-key region (R264). -/
def State.eraseRegion (s : State) : State :=
  let s := s.eraseMasterKeys
  { s with mem.mem := memWipe s.mem.mem (storeAddr 0) (storeAddr 0x1000000) }

/-- Departing domains, their packages and their cubs are forgotten. -/
def State.dropDeparting (s : State) : State :=
  let out := fun (_ : Nat) (v : FnState) => if v.migScope = 2 then { v with mig := MigState.none, migScope := 0 } else v
  { s with cub.departing := [], cub.saved := s.cub.saved.filter (·.scope != 2), cub.fns := tmap s.cub.fns out }

/-- The roots of a life-cycle state from Squirrel: the test root, or the production and the audit root. Nothing where
Squirrel does not serve them. -/
def State.drawRoots (lc : LifeCycle) (s : State) : Option State :=
  match lc with
  | .makerTest => (s.drawNow 32).map fun r => { r.2 with tamper.testRoot := some r.1 }
  | .production => (s.drawNow 64).map fun r =>
      { r.2 with tamper.productionRoot := some (r.1.take 32), tamper.auditRoot := some (r.1.drop 32) }
  | _ => some s

/-- The latch is cleared (R550). -/
def State.clearLatch (s : State) : State :=
  { s with tamper.latched := false, tamper.rootMissing := false, tamper.latchMonitor := 0, tamper.latchKind := 0,
           tamper.onBattery := false, tamper.latchTime := 0, tamper.confirmed := {}, tamper.derivationBlocked := false }

/-- A re-initialisation boot with a staged image (R552): the lodge that it applies, or nothing where it stops with the
latch set. -/
def State.reinitialise (reads : List (Nat × Bytes)) (e : LodgeRecordEntry) (s : State) : Option Lodge × State :=
  match s.judgeState reads 0 0 true e s.lodge.flashStaged with
  | .rejected _ st => (none, s.lodgeBootFailed 1 st e.serial)
  | .accepted l =>
    match s.drawRoots s.antler.state with
    | none => (none, s.notServed)
    | some s =>
      let s := s.eraseRegion.dropDeparting
      let s : State := { s with quill.enrolments := [] }
      let s := s.clearLatch.deriveSettKeys s.antler.state
      let s := if s.antler.state = .production then s.makeIdentity else s
      let s : State := { s with lodge := s.lodge.promoteStaged e }
      let s : State := { s with lodge.record.previous := none, lodge.flashPrevious := {} }
      (some l, s.raise 0xE4 (natLe 8 l.serial))

/-- The lodge of a boot: re-initialisation, none on a locked device, or the selection of Table 3-4. -/
def State.bootLodge (reads : List (Nat × Bytes)) (s : State) : Option Lodge × State :=
  if s.tamper.locked then
    if s.antler.state = .makerTest ∨ s.antler.state = .production then
      match s.lodge.record.staged with
      | some e => s.reinitialise reads e
      | none => (none, s)
    else (none, s)
  else s.selectLodge reads

/-! ## The end of a boot -/

/-- The due changes of a boot to the store: PREFERRED (R493), the life-cycle copies (R508) and the lodge record, once
the warning is armed (R486). -/
def State.settleDue (s : State) : State :=
  if !s.power.holdupArmed then s else
  let s : State := { s with lodge.stored := none }
  let s := match s.boot.preferDue with
    | some i => ({ s with boot.preferred := i, boot.preferDue := none } : State).commitSlots
    | none => s
  if s.antler.copiesDue then { s with antler := s.antler.writeCopies } else s

/-- The time since POWER_GOOD or the start of the reset in ms (Table 13-17). -/
def State.bootMs (s : State) : Nat := min 0xFFFF ((s.now - s.boot.start) / unitsPerMilli)

/-- The end of a boot in recovery (R494). -/
def State.enterRecovery (s : State) : State :=
  State.settleDue { s with boot.phase := .recovery, boot.timeMs := s.bootMs }

/-- The firmware runs to READY. -/
def State.runFirmware (kat : Option Nat) (reads : List (Nat × Bytes)) (s : State) : State :=
  let s := s.startSett kat
  let s := if s.tamper.batteryEventUnlogged then
      let t := s.tamper
      let cause := t.latchMonitor % 1024 + 1024 * (t.latchKind % 8) + 8192 * b2n t.onBattery
      ({ s with tamper.batteryEventUnlogged := false } : State).raise 0xE0 (natLe 4 cause ++ natLe 8 t.latchTime.toNat)
    else s
  let before := s.lodge
  let r := s.bootLodge reads
  let s := r.2.commitBootRecord before
  let s : State := { s with tamper.bootTemp := s.tamper.highest, tamper.bootLoad := s.load,
                            boot.phase := .ready, boot.timeMs := s.bootMs }
  let s := match r.1 with
    | some l => s.applyLodge l
    | none => s.applyTighten []
  let b := s.boot
  let s := s.raise 2 (natLe 1 b.cause ++ natLe 1 b.slot ++ natLe 1 s.antler.state.code ++ [0]
    ++ natLe 4 b.runningVersion.toNat ++ natLe 8 s.tables.serial)
  s.settleDue

/-- Boot step 2 (R503, R504, R507). -/
def State.bootStep2 (lcBad : BitVec 3) (s : State) : State :=
  let s := (s.readCopies lcBad).zeroRoots
  { s with tamper.rootMissing := s.missesRoot, tamper.derivationBlocked := s.tamper.latched || s.missesRoot }

/-- Whether a shadow page is finished at boot: its marker is written and its CRC matches (R460). -/
def PageCommit.finished (c : PageCommit) : Bool := c.marked && c.crc == crc32c (fit 256 c.bytes)

/-- The controller finishes Copy and Retire for every finished shadow page, in the order of their sequence numbers, and
discards the others (R460). -/
def State.replayJournal (s : State) : State :=
  let done := (s.mem.commits.filter (·.finished)).mergeSort fun a b => decide (a.seq ≤ b.seq)
  let s := done.foldl (fun s c => s.copyPage c) s
  { s with mem.replayed := done.length, mem.commits := [] }

end Sys2Proof.Machine
end

