-- ==== Sys2Proof/Machine/Tamper.lean ====
section
/-! DEFINITION. Events of Lynx and of the Torpor domain: samples, the end of a tamper response, health periods,
calibration slots, cells and supplies ("Lynx Tamper Monitors and the Torpor Domain"). -/

namespace Sys2Proof.Machine

/-! ## Samples -/

/-- The level of a photodiode integrator with its dark level taken off: none while a stale calibration was made on a
hotter die (R542). -/
def State.compensatedLight (s : State) (site : Nat) (level : Int) : Int :=
  let c := s.calibration site
  if s.stale site && decide (s.tamper.highest < c.temp) then level else level - c.value

/-- The health tally of a site. -/
def State.site (s : State) (n : Nat) : SiteHealth := tget s.tamper.sites n {}

/-- Replace the health tally of a site. -/
def State.setSite (n : Nat) (v : SiteHealth) (s : State) : State := { s with tamper.sites := tset s.tamper.sites n v }

/-- LIGHT_SAMPLE: the integrator of a site compares its level with the limit in force (R528, R529, R542). -/
def execLightSample (site : Nat) (level : Int) (s : State) : Answer :=
  .next (
    if 256 ≤ site || !s.monRuns site then s else
    let v := s.compensatedLight site level
    let above := ((s.monUpper site).map fun u => decide (u < v)).getD false
    if !above then s else
    (s.setSite site { s.site site with photodiode := true }).monEvent site 1)

/-- CANARY_SCAN: a flipped bit of the canary block of a site is an event (R528). -/
def execCanaryScan (site : Nat) (flipped : Bool) (s : State) : Answer :=
  .next (
    if 256 ≤ site || !s.monRuns (0x100 + site) || !flipped then s else
    (s.setSite site { s.site site with canary := true }).monEvent (0x100 + site) 2)

/-- TEMPERATURE_SAMPLE: a die temperature is compared with its window (R528, R529), and calibrations that it makes
stale are reported and queued (R541, R543). -/
def execTemperatureSample (sensor : Nat) (value : Int) (s : State) : Answer :=
  .next (
    if 8 ≤ sensor || !s.monRuns (0x200 + sensor) then s else
    let before := s.tamper.highest
    let s : State := { s with tamper.temps := tset s.tamper.temps sensor value }
    let s := if s.logicPowered then s.noteStale before else s
    s.monReading (0x200 + sensor) 0 value)

/-- VOLTAGE_EXCURSION: the extreme reading of a rail in a tick. The offset of a calibrated comparator is taken off,
and a stale calibration narrows the window by 10 mV (R528, R529, R542). -/
def execVoltageExcursion (monitor : Nat) (value : Int) (s : State) : Answer :=
  .next (
    if monitor < 0x210 || 0x214 ≤ monitor || !s.monRuns monitor then s else
    if monitor = 0x213 then s.monReading monitor 0 value
    else s.monReading monitor (if s.stale monitor then 10 else 0) (value - (s.calibration monitor).value))

/-- CLOCK_EXCURSION: a clock outside its window, or the loss of lock of a PLL, is an event; the sequencer counts
ticks from the RC oscillator while the crystal is outside its window (R528, R554). -/
def execClockExcursion (monitor : Nat) (value : Int) (pllLost : Bool) (s : State) : Answer :=
  .next (
    if (monitor ≠ 0x220 ∧ monitor ≠ 0x221) ∨ s.monRuns monitor = false then s else
    if monitor = 0x220 then
      if pllLost then s.monEvent monitor 2 else s.monReading monitor 0 value
    else
      let below := ((s.monLower monitor).map fun l => decide (value < l)).getD false
      let above := ((s.monUpper monitor).map fun u => decide (u < value)).getD false
      let s : State := { s with tamper.rcClock := below || above }
      s.monReading monitor 0 value)

/-- MESH_SAMPLE: a fresh pattern is driven; an open or a short is an event (R538). -/
def execMeshSample (opens shorts : BitVec 4) (s : State) : Answer :=
  .next (
    if !s.monRuns 0x230 then s else
    let s : State := { s with tamper.lfsr := Config.lfsrNext s.tamper.lfsr,
                              tamper.meshOpen := opens, tamper.meshShort := shorts }
    if opens ≠ 0 then s.monEvent 0x230 3
    else if shorts ≠ 0 then s.monEvent 0x230 4
    else s)

/-- The state of a lid input (Table 15-2). -/
def lidState (a b : Bool) : Nat := if a && !b then 0 else if !a && b then 1 else 2

/-- LID_SAMPLE: an OPEN tick is an event (R536); the N-th consecutive DISCREPANT tick confirms, and a shorter run
that ends is a glitch (R537). -/
def execLidSample (lid : Nat) (a b : Bool) (s : State) : Answer :=
  .next (
    let m := 0x240 + lid
    if 4 ≤ lid || !s.monRuns m then s else
    let old := tget s.tamper.lids lid {}
    let st := lidState a b
    let run := if st = 2 then min 0xFFFF (old.run + 1) else 0
    let glitch := st ≠ 2 && 1 ≤ old.run && decide (old.run < s.monN m)
    let c := if glitch then SatCount.add count31 1 old.glitches else (old.glitches, false)
    let new : Lid := { chanA := a, chanB := b, state := st, run := run, glitches := c.1 }
    let s : State := { s with tamper.lids := tset s.tamper.lids lid new }
    let s := s.saturated (c.2 && s.logicPowered) tmpBase (0x30 + 4 * lid)
    if st = 1 then s.monEvent m 5
    else if st = 2 ∧ run = s.monN m ∧ old.run < run then s.confirmTamper m 6
    else s)

/-! ## The response -/

/-- Give up the completions of a response that have no position by its bound (Table 15-3, R415). -/
def State.dropEnded (s : State) : State :=
  ((s.host.slots.filter fun e => e.2.phase == .ended).mergeSort fun a b => decide (a.2.grant ≤ b.2.grant)).foldl
    (fun s e => s.dropCompletion e.1) s

/-- TAMPER_RESPONSE_DONE: the wipes and completions have ended: RESPONSE reads 2, Owl records the event, and every
switched domain stays gated (R545, R548). A larder word that the wipe did not clear is reported (R455). An active half
releases its peer (R636). -/
def execTamperResponseDone (s : State) : Answer :=
  .next (
    let late := decide (s.tamper.confirmedAt + 2 * unitsPerMilli ≤ s.now)
    let held := s.host.slots.any fun e => e.2.phase != .fetching
    if s.tamper.response ≠ 1 ∨ s.logicPowered = false ∨ (held = true ∧ late = false) ∨ s.wiping = true then s else
    let s := s.free.2.dropEnded.wipeFailed wipeTamper s.readBack
    let t := s.tamper
    let s : State := { s with tamper.response := 2,
                              tamper.doneMicros := min 0xFFFF ((s.now - t.confirmedAt) / unitsPerMicro) }
    let cause := t.latchMonitor % 1024 + 1024 * (t.latchKind % 8) + 8192 * b2n t.onBattery
    (s.raise 0xE0 (natLe 4 cause ++ natLe 8 t.latchTime.toNat)).gateAll.pairTamperDone)

/-! ## Health and calibration -/

/-- The end of a health period at one site (R535). -/
def State.endHealthPeriod (n : Nat) (s : State) : State :=
  let v := s.site n
  let lone := if v.photodiode != v.canary then v.lonePeriods + 1 else 0
  let newly := decide (4 ≤ lone) && !v.degraded
  let s := s.setSite n { photodiode := false, canary := false, lonePeriods := lone, degraded := v.degraded || newly }
  if newly then s.raise 0xE1 (natLe 1 n ++ natLe 1 (Config.designCode v.photodiode) ++ zeros 2) else s

/-- HEALTH_PERIOD_END: after 32,768 ticks a site whose designs have disagreed for four periods is degraded (R535). -/
def execHealthPeriodEnd (s : State) : Answer :=
  .next (if !s.monRuns 0 then s else (s.tamper.sites.map Prod.fst).foldl (fun s n => s.endHealthPeriod n) s)

/-- CALIBRATION_SLOT: up to 16 queued monitors are calibrated in ascending order; each result carries the die
temperature and the load at the slot (R543). The counts of the monitors stay (R544). -/
def execCalibrationSlot (values : List Int) (s : State) : Answer :=
  .next (
    if !s.monRuns 0 then s else
    let ms := (calibrated.filter fun m => (s.monitor m).queued).take 16
    let tag := s.tamper.highest
    let load := s.load
    (ms.zip values).foldl (fun s e =>
      s.setMonitor e.1 { s.monitor e.1 with queued := false, cal := some { temp := tag, load := load, value := e.2 } }) s)

/-! ## Cells and supplies -/

/-- CELL_CHANGE while the logic side is powered (R557). -/
def State.cellChange (c kind : Nat) (s : State) : State :=
  if s.logicPowered then s.raise 0xE3 (natLe 1 c ++ natLe 1 kind ++ zeros 2 ++ slice (s.cell c).identity 0 8) else s

/-- CELL_REMOVED (R556, R557). -/
def execCellRemoved (cell : Nat) (s : State) : Answer :=
  .next (
    if 2 ≤ cell || !(s.cell cell).present then s else
    let s := s.settleService
    let v := s.cell cell
    (s.setCell cell { v with present := false, volts := 0, raw := [], idValid := false }).cellChange cell 0)

/-- CELL_INSERTED: with the logic side powered the identity is read, and a different SERIAL starts the charge count
again (R558, R559). -/
def execCellInserted (cell : Nat) (raw : Bytes) (volts : Nat) (s : State) : Answer :=
  .next (
    if 2 ≤ cell || (s.cell cell).present then s else
    let s := s.settleService
    let v := s.cell cell
    let s := s.setCell cell { v with present := true, volts := volts % 1024, raw := fit 16 raw, idValid := false }
    if s.logicPowered then (s.readCell cell).cellChange cell 1 else s)

/-- CELL_LOW: the voltage of a cell is below 2.60 V; the other present cell serves from now on (R556). -/
def execCellLow (cell volts : Nat) (s : State) : Answer :=
  .next (
    if 2 ≤ cell || 260 ≤ volts || !(s.cell cell).present then s else
    let s := s.settleService
    s.setCell cell { s.cell cell with volts := volts })

/-- TORPOR_POWER_ON: the domain, which had no supply (it never had one, or neither the logic side nor a cell serves),
comes up: the root SRAM is zero, with its latch, its counts and the values of its monitors, and the latch is set with
MONITOR 0x3FF and KIND 7 (R532, R555). The calendar starts again and is not set (R562). -/
def execTorporPowerOn (s : State) : Answer :=
  .next (
    if s.tamper.torporPowered && (s.logicPowered || s.servingCell?.isSome) then s else
    let cells := tmap s.tamper.cells fun _ (v : Cell) => { v with ticks := 0 }
    let fresh := fun (m : Nat) (v : Monitor) => if batteryMonitor m then ({} : Monitor) else v
    { s with
      tamper.testRoot := none, tamper.productionRoot := none, tamper.auditRoot := none,
      tamper.latched := true, tamper.latchMonitor := 0x3FF, tamper.latchKind := 7,
      tamper.onBattery := !s.logicPowered, tamper.latchTime := BitVec.ofNat 64 (calendarWord 0 true),
      tamper.confirmed := {}, tamper.batteryEventUnlogged := false, tamper.torporPowered := true,
      tamper.onLogicSide := s.logicPowered, tamper.servedSince := s.tick, tamper.rcClock := false,
      tamper.monitors := tmap s.tamper.monitors fresh, tamper.lids := [], tamper.meshOpen := 0, tamper.meshShort := 0,
      tamper.cells := cells, tamper.temps := [],
      calendar := { atTick := s.tick, floor := s.calendar.floor, recordFloor := s.calendar.recordFloor } })

/-- TORPOR_CHANGEOVER: with POWER_GOOD asserted (`good`) the domain moves to the logic side; when POWER_GOOD falls it
moves to the serving cell, and the logic side loses its state (R553). -/
def execTorporChangeover (good : Bool) (s : State) : Answer :=
  .next (
    if good && !s.power.powerGood then s else
    let s := s.settleService
    let s : State := { s with tamper.onLogicSide := good }
    if good || !s.power.powerGood then s else s.powerDown)

end Sys2Proof.Machine
end

