-- ==== Sys2Proof/Machine/AntlerOps.lean ====
section
/-! DEFINITION. Operations of Antler ("Antler: Life-Cycle States and Debug Authorisation"): the start of an operation
(R509, R510), messages (Tables 14-7 to 14-12), tokens (R511), transitions (R513, R514) and field debug (R519 to R521). -/

namespace Sys2Proof.Machine

/-- The base of the LCS_ block. -/
abbrev lcsBase : Nat := 0x800000

/-! ## The start of an operation -/

/-- The length of an operation's message (Table 14-6). -/
def lcLength (op : Nat) : Nat :=
  match op with
  | 1 => 656
  | 2 => 80
  | 3 => 48
  | 5 => 7504
  | 6 => 7488
  | _ => 0

/-- The states of an operation (Table 14-6). -/
def lcStates (op : Nat) (lc : LifeCycle) : Bool :=
  match op, lc with
  | 1, .blank => true
  | 2, .blank | 2, .makerTest | 2, .production => true
  | 3, .makerTest => true
  | 4, .production | 5, .production => true
  | 6, .makerTest | 6, .production => true
  | _, _ => false

/-- What refuses an operation at its GO: lost copies, the state or a PACK section (R510), open debug (R522), the
address or the length (R509); 0 for none. -/
def State.lcRefusal (s : State) (op : Nat) : Nat :=
  let a := s.antler
  if a.lost then 0x10
  else if !lcStates op a.state then 3
  else if [2, 3, 5, 6].contains op && s.tables.pack.isSome then 3
  else if a.debug && (op == 2 || op == 6) then 0xF
  else if op ≠ 4 ∧ (a.srcAddr.toNat % 64 ≠ 0 ∨ a.srcLen.toNat ≠ lcLength op) then 1
  else 0

/-- GO of an operation in LCS_CONTROL: refused while BUSY is 1 (R525), ended at once, or in its fetch. -/
def State.lcGo (op : Nat) (s : State) : State :=
  let o := BitVec.ofNat 3 op
  if !s.presented 0 lcsBase then s else
  let s : State := { s with antler.op := o }
  if s.antler.phase ≠ .idle then { s with antler.outcome := 0x0D, antler.resultOp := o } else
  let r := s.lcRefusal op
  let s : State := { s with antler.runOp := o, antler.phase := if op = 4 then .check else .fetch }
  if r = 0 then s else s.endLcOp r

/-- Finish an operation; lodge and firmware operations that waited for it go on. -/
def State.finishLc (outcome : Nat) (s : State) : State := (s.endLcOp outcome).resumeWaiting

/-- The end of the fetch of an operation's message: the operation goes on with its internal copy (R509). -/
def State.lcFetched (op : Nat) (fetched : Bool × Bytes) (f : Bytes → State → State) (s : State) : State :=
  if s.antler.phase ≠ .fetch ∨ s.antler.runOp ≠ BitVec.ofNat 3 op then s
  else if !fetched.1 then s.finishLc 1
  else f (fit (lcLength op) fetched.2) s

/-! ## Tokens -/

/-- Whether a token matches a provisioned digest by its place in the provisioning message (R511). -/
def State.tokenIs (s : State) (token : Bytes) (i : Nat) : Bool :=
  s.antler.digests[i]? == some (natLe 32 (Config.sha3 token).toNat)

/-- A token that does not match: outcome 0x04, counted and recorded (R511). -/
def State.tokenFails (s : State) : State :=
  let op := s.antler.runOp.toNat
  let c := SatCount.add count31 1 s.antler.tokenFails
  let s := ({ s with antler.tokenFails := c.1 } : State).saturated c.2 lcsBase 0x28
  s.raise 0xD2 (natLe 1 op ++ zeros 3)

/-- The entry token of a target state in the provisioning message. -/
def entryToken : LifeCycle → Nat
  | .blank | .makerTest => 0
  | .production => 1
  | .endOfLife => 2

/-! ## Provisioning -/

/-- "TSMLCPRV". -/
def provisionMagic : Bytes := [0x54, 0x53, 0x4D, 0x4C, 0x43, 0x50, 0x52, 0x56]

/-- The twenty digests of a provisioning message (Table 14-7). -/
def provisionDigests (b : Bytes) : List Bytes := (List.range 20).map fun i => slice b (0x10 + 32 * i) 32

/-- PROVISION with its message (R512). -/
def State.provision (b : Bytes) (s : State) : State :=
  let ds := provisionDigests b
  if slice b 0 8 != provisionMagic || !allZero (slice b 8 8) then s.finishLc 2
  else if s.antler.provisioned || ds.any allZero || !distinct ds then s.finishLc 5
  else State.finishLc 0 { s with antler.digests := ds, antler.provisioned := true }

/-! ## Transitions -/

/-- "TSMLCTRN". -/
def transitionMagic : Bytes := [0x54, 0x53, 0x4D, 0x4C, 0x43, 0x54, 0x52, 0x4E]

/-- The life-cycle state of a code (Table 14-1). -/
def lifeCycleOf? (n : Nat) : Option LifeCycle :=
  match n with
  | 0 => some .blank
  | 1 => some .makerTest
  | 2 => some .production
  | 3 => some .endOfLife
  | _ => none

/-- Whether a transition moves to the next state of the order, or to END_OF_LIFE (R513, Table 14-2). -/
def transitionTo (a b : LifeCycle) : Bool :=
  decide (a.code < b.code) && (b.code == a.code + 1 || b == .endOfLife)

/-- The first failing check of R514 before the draws; 0 for none. -/
def State.transitionCheck (s : State) (b : Bytes) : Nat :=
  let target := lifeCycleOf? (leField b 8 1)
  let owner := slice b 0x30 32
  if slice b 0 8 != transitionMagic || !allZero (slice b 9 7) then 2
  else if !s.antler.provisioned then 5
  else match target with
    | none => 6
    | some t =>
      if !transitionTo s.antler.state t || (t == .endOfLife) != allZero owner then 6
      else if !lcAllowed s.boot.runningLcAllowed t then 7
      else if !s.tokenIs (slice b 0x10 32) (entryToken t) then 4
      else 0

/-- The random bytes of a transition, drawn before it begins: the roots of the target, and those of a migration
identity. Nothing where Squirrel does not serve them all (check 6 of R514). -/
def State.transitionDraws (t : LifeCycle) (s : State) : Option State :=
  match s.drawRoots t with
  | none => none
  | some s' =>
    if t = .production then
      (s'.drawNow identityBytes).map fun r => { r.2 with antler.identityBytes := r.1 }
    else some s'

/-- LC_TRANSITION, with the state that the message asks for. -/
def State.lcEvent (new outcome : Nat) (s : State) : State :=
  s.raise 0xD1 (natLe 1 s.antler.state.code ++ natLe 1 new ++ natLe 1 outcome ++ [0])

/-- A transition up to its copy writes (Table 14-9): admission held, every admitted command ended with 0x0802, the
wipes of a life-cycle change, Squirrel afresh, and the master-key region, the enrolments and, for END_OF_LIFE, the
migration identity and departing domains erased. -/
def State.beginTransition (t : LifeCycle) (owner : Bytes) (bad : Option (Nat × Nat)) (s : State) : State :=
  let s : State := { s with antler.phase := .wiping, antler.target := some t,
                            antler.newOwner := BitVec.ofNat 256 (leNat owner), antler.transitionAt := s.now }
  let s := (s.cancelAll.endAll 0x0802).closeCeremony 3
  let s := (s.wipeAll false wipeLifeCycle).wipeFailed wipeLifeCycle bad
  let s := s.instantiateAll.eraseRegion
  let s : State := { s with quill.enrolments := [] }
  if t = .endOfLife then
    let s := s.dropDeparting
    { s with cub.identity := none, cub.identityDue := false }
  else s

/-- TRANSITION with its message (R514). -/
def State.transition (bad : Option (Nat × Nat)) (b : Bytes) (s : State) : State :=
  let o := s.transitionCheck b
  let code := leField b 8 1
  let s := if o = 4 then s.tokenFails else s
  if o ≠ 0 then (s.lcEvent code o).finishLc o else
  match lifeCycleOf? code with
  | none => s
  | some t => match s.transitionDraws t with
    | none => (s.notServed.lcEvent code 0x11).finishLc 0x11
    | some s => s.beginTransition t (slice b 0x30 32) bad

/-- The end of a transition once its copies are written: the unused roots are zero, the Sett's keys are derived
afresh over an empty key table, the latch is cleared on entry to MAKER_TEST or PRODUCTION (R550), and the device is
lodgeless unless the lodge in force binds the new state. -/
def State.endTransition (t : LifeCycle) (s : State) : State :=
  let s := s.lcEvent t.code 0
  let s : State := { s with antler.state := t }
  let s := s.zeroRoots
  let s := if t = .endOfLife then s else s.clearLatch
  let s : State := { s with
    sett.keys := s.sett.keys.filter fun e => isPersistent e.1, sett.hot := [], sett.legacy := [], sett.granuleMap := [],
    sett.keyTree := {}, sett.legacyTree := {}, sett.streamTree := {}, sett.legacyUnits := [], sett.streamUnits := [],
    sett.unpinned := [], sett.cursor := 0 }
  let s := s.deriveSettKeys t
  let bound := s.tables.lcBinding.getLsbD (t.code - 1) && t != .endOfLife
  let s := if s.lodge.inForce.isSome && !bound then
      let s : State := { s with lodge.inForce := none }
      (s.wipeAll true wipeGating).gateAll.applyTighten []
    else s.beginWake domHost
  (s.finishLc 0).noteEligible

/-- The last steps of a transition (Table 14-9): owner key digest, migration identity, then `written` of the three
copies before the supply fails, or all of them. -/
def State.writeTransition (written : Nat) (t : LifeCycle) (s : State) : State :=
  let a := s.antler
  let s := if t = .endOfLife then s else { s with antler.ownerDigest := a.newOwner }
  let s := if t = .production then (s.deriveSettKeys t).setIdentity a.identityBytes else s
  let s : State := { s with antler := s.antler.putCopies written t a.unlockUsed }
  let s : State := { s with antler.phase := .copies }
  if written < 3 then s else s.endTransition t

/-! ## Test unlock -/

/-- "TSMLCUNL". -/
def unlockMagic : Bytes := [0x54, 0x53, 0x4D, 0x4C, 0x43, 0x55, 0x4E, 0x4C]

/-- TEST_UNLOCK with its message (R516, R517); the supply may fail after `written` copies. -/
def State.testUnlock (written : Nat) (b : Bytes) (s : State) : State :=
  let a := s.antler
  if slice b 0 8 != unlockMagic || !allZero (slice b 8 8) then s.finishLc 2
  else if a.unlockUsed = 0xFFFF then s.finishLc 8
  else match (List.range 16).find? fun i => s.tokenIs (slice b 0x10 32) (3 + i) with
    | none => s.tokenFails.finishLc 4
    | some i =>
      if a.unlockUsed.getLsbD i then s.finishLc 8 else
      let used := a.unlockUsed ||| BitVec.ofNat 16 (2 ^ i)
      let a := a.putCopies written a.state used
      if written < 3 then { s with antler := { a with phase := .copies } }
      else State.finishLc 0 { s with antler := { a with unlockUsed := used, testOpen := true, portShut := false } }

/-! ## Field debug -/

/-- "TSMDBGRS". -/
def debugMagic : Bytes := [0x54, 0x53, 0x4D, 0x44, 0x42, 0x47, 0x52, 0x53]

/-- Whether the two public keys at an offset of a message hash to a digest, and both signatures, which follow the keys,
verify over the bytes before them. -/
def signedBy (digest : BitVec 256) (off : Nat) (b : Bytes) : Bool :=
  let ec := slice b off 96
  let ml := slice b (off + 96) 2592
  let o := off + 2688
  Config.sha3 (ec ++ ml) == digest && hybridVerify ec ml (b.take o) (slice b o 96) (slice b (o + 96) 4627)

/-- DEBUG_OPEN with its message (R519, R520). -/
def State.debugOpen (b : Bytes) (s : State) : State :=
  let a := s.antler
  if slice b 0 8 != debugMagic || !allZero (slice b 8 8) || !allZero (slice b 0x1D43 13) then s.finishLc 2
  else if a.debug then s.finishLc 0xF
  else
    let s : State := { s with antler.challenge := none }
    let key := BitVec.ofNat 256 (leNat (a.digests.getD 19 []))
    if a.challenge ≠ some (slice b 0x10 64) then s.finishLc 9
    else if !signedBy key 0x50 b then s.finishLc 0xA
    else if 0xFFFF ≤ a.debugCount then s.finishLc 0xC
    else { s.cancelAll with antler.phase := .quiescing, antler.quiesceUntil := s.now + 1000 * unitsPerMilli }

/-- Entry to field debug (R521). -/
def State.enterDebug (bad : Option (Nat × Nat)) (s : State) : State :=
  let c := SatCount.add 0xFFFF 1 ⟨s.antler.debugCount, s.antler.debugOverflow⟩
  let s := ({ s with antler.debugCount := c.1.count, antler.debugOverflow := c.1.overflow,
                     tamper.derivationBlocked := true } : State).saturated c.2 lcsBase 0x24
  let s := s.endCeremony 4
  let s : State := { s with sett.hot := [] }
  let s := (s.wipeAll true wipeDebug).wipeFailed wipeDebug bad
  let s : State := { s with antler.debug := true, antler.portShut := false }
  let s := s.raise 0xD3 (natLe 2 s.antler.debugCount ++ zeros 2)
  (s.finishLc 0).noteEligible

/-! ## Owner key digest -/

/-- "TSMOWNRT". -/
def rotateMagic : Bytes := [0x54, 0x53, 0x4D, 0x4F, 0x57, 0x4E, 0x52, 0x54]

/-- OWNER_ROTATE with its message (R523). A saturated count is reported ahead of the number that it makes
impossible. -/
def State.ownerRotate (b : Bytes) (s : State) : State :=
  let a := s.antler
  let new := slice b 0x20 32
  if slice b 0 8 != rotateMagic || !allZero (slice b 9 7) || allZero new || !allZero (slice b 0x1D33 13) then s.finishLc 2
  else if !signedBy a.ownerDigest 0x40 b then s.finishLc 0xA
  else if slice b 0x10 16 != Config.deviceId then s.finishLc 6
  else if 255 ≤ a.rotations then s.finishLc 0xC
  else if leField b 8 1 ≠ a.rotations + 1 then s.finishLc 6
  else
    let s : State := { s with antler.ownerDigest := BitVec.ofNat 256 (leNat new), antler.rotations := a.rotations + 1 }
    let s := s.saturated (a.rotations + 1 == 255) lcsBase 0x2C
    (s.raise 0xD4 (natLe 1 (a.rotations + 1) ++ zeros 3)).finishLc 0

end Sys2Proof.Machine
end

