-- ==== Sys2Proof/Machine/Antler.lean ====
section
/-! DEFINITION. The commands of the LCS_ block and the events of an Antler operation ("Antler: Life-Cycle States and
Debug Authorisation"). `fetched` is none for the GO of an operation, and otherwise the end of the fetch of its
message: whether it completes without error, and the bytes. -/

namespace Sys2Proof.Machine

/-- PROVISION: OP 1 (R512). -/
def execProvision (fetched : Option (Bool × Bytes)) (s : State) : Answer :=
  .next (match fetched with
    | none => s.lcGo 1
    | some x => s.lcFetched 1 x State.provision)

/-- TRANSITION: OP 2 (R513, R514). `bad` is a larder word that the wipe does not clear. -/
def execTransition (fetched : Option (Bool × Bytes)) (bad : Option (Nat × Nat)) (s : State) : Answer :=
  .next (match fetched with
    | none => s.lcGo 2
    | some x => s.lcFetched 2 x (State.transition bad))

/-- TRANSITION_COMPLETE: once the wipes have ended (R454) and every completion of the ended commands has been written, the
copies are written and the outcome is reported (R515). Completions that cannot be written within 2 ms are dropped. -/
def execTransitionComplete (written : Nat) (s : State) : Answer :=
  .next (
    let a := s.antler
    let late := decide (a.transitionAt + 2 * unitsPerMilli ≤ s.now)
    let held := s.host.slots.any fun e => e.2.phase != .fetching
    if (held = true ∧ late = false) ∨ s.wiping = true then s
    else match a.target with
      | none => s
      | some t =>
        if a.phase = .wiping ∨ a.phase = .copies then s.dropEnded.writeTransition written t else s)

/-- TEST_UNLOCK: OP 3 (R516, R517). -/
def execTestUnlock (fetched : Option (Bool × Bytes)) (written : Nat) (s : State) : Answer :=
  .next (match fetched with
    | none => s.lcGo 3
    | some x => s.lcFetched 3 x (State.testUnlock written))

/-- DEBUG_CHALLENGE: OP 4: a nonce is drawn, which may wait in Squirrel's queue (R404, R518). -/
def execDebugChallenge (s : State) : Answer :=
  .next (
    let busy := s.antler.phase != .idle
    let s := s.lcGo 4
    if busy = true ∨ s.antler.phase ≠ .check then s
    else
      let s : State := { s with antler.challenge := none }
      match s.drawNow nonceBytes with
      | some r => r.2.issueChallenge r.1
      | none =>
        if s.rng.refuses then s.drawRefused.endLcOp 0x11
        else { s with rng.waiting := s.rng.waiting ++ [{ bytes := nonceBytes }] })

/-- DEBUG_CHALLENGE_EXPIRY: 600 s after its issue the challenge closes (R518). -/
def execDebugChallengeExpiry (s : State) : Answer :=
  .next (if s.antler.challengeExpires ≤ s.now then { s with antler.challenge := none } else s)

/-- DEBUG_OPEN: OP 5 (R519, R520). -/
def execDebugOpen (fetched : Option (Bool × Bytes)) (s : State) : Answer :=
  .next (match fetched with
    | none => s.lcGo 5
    | some x => s.lcFetched 5 x State.debugOpen)

/-- DEBUG_QUIESCED: the device holds no slot (R521). -/
def execDebugQuiesced (bad : Option (Nat × Nat)) (s : State) : Answer :=
  .next (if s.antler.phase = .quiescing ∧ s.host.slots.isEmpty = true then s.enterDebug bad else s)

/-- DEBUG_QUIESCE_TIMEOUT: the device still holds a slot 1,000 ms later (R520). -/
def execDebugQuiesceTimeout (s : State) : Answer :=
  .next (
    if s.antler.phase = .quiescing ∧ s.antler.quiesceUntil ≤ s.now ∧ s.host.slots.isEmpty = false then
      (s.finishLc 0xB).noteEligible
    else s)

/-- OWNER_ROTATE: OP 6 (R522, R523). -/
def execOwnerRotate (fetched : Option (Bool × Bytes)) (s : State) : Answer :=
  .next (match fetched with
    | none => s.lcGo 6
    | some x => s.lcFetched 6 x State.ownerRotate)

end Sys2Proof.Machine
end

