-- ==== Sys2Proof/Machine/Boot.lean ====
section
/-! DEFINITION. Device resets, the boot, the arming of the power-fail warning, and firmware operations ("Start-Up,
Reset and Firmware Images"). -/

namespace Sys2Proof.Machine

/-! ## Device resets (Table 13-1) -/

/-- POWER_ON: the line input rises into 36 V to 60 V: the power-on sequence (R482, cause 0). -/
def execPowerOn (centivolts : Nat) (s : State) : Answer :=
  .next (
    if s.power.powerGood || decide (centivolts < 3600) || decide (6000 < centivolts) then s else
    let s := s.powerUp
    { s with power.lineCentivolts := centivolts })

/-- LINE_RETURN: the line input has been back in range for 10 ms after a warning, before POWER_GOOD falls (R674). -/
def execLineReturn (s : State) : Answer :=
  .next (if s.power.warning && s.power.powerGood then s.powerUp else s)

/-- PERST_ASSERT (R482, cause 1). -/
def execPerstAssert (s : State) : Answer := .next (s.warmReset 1)

/-- PCIE_HOT_RESET (R482, cause 2). -/
def execPcieHotReset (s : State) : Answer := .next (if s.host.linkUp then s.warmReset 2 else s)

/-- PCIE_LINK_DOWN (R482, cause 3). -/
def execPcieLinkDown (s : State) : Answer := .next (if s.host.linkUp then s.warmReset 3 else s)

/-- DEV_RESET: a write of the key 0x7296_B007; any other value has no effect (R482, R487, Table 13-25). -/
def execDevReset (key : Reg) (s : State) : Answer :=
  .next (if key = 0x7296B007 ∧ (s.boot.phase = .configured ∨ s.boot.phase = .ready ∨ s.boot.phase = .recovery) then s.warmReset 4 else s)

/-- LOCKSTEP_MISMATCH of the sealed controller (R482, cause 5). -/
def execLockstepMismatch (s : State) : Answer := .next (s.warmReset 5)

/-! ## The boot -/

/-- BOOT: the steps of Table 13-3, the start of the firmware and the choice of a lodge. `selfTest` is the result of step
1, `lcBad` names the life-cycle copies that do not read intact, `dramOk` is the result of step 3, `kat` a known-answer
test of Squirrel that fails, and `reads` gives the flash objects whose bytes have been altered. The firmware starts once
both noise sources have passed or failed their start-up tests and a block not yet used of each healthy one is there for
the first instance (R391, R395). -/
def execBoot (selfTest dramOk : Bool) (lcBad : BitVec 3) (kat : Option Nat) (reads : List (Nat × Bytes))
    (s : State) : Answer :=
  .next (
    if s.boot.phase ≠ .booting ∧ s.boot.phase ≠ .configured then s
    else if !selfTest then
      { s with boot.phase := .halted, host.linkUp := false, host.linkSpeed := 0, host.linkWidth := 0 }
    else if dramOk && kat.isNone && !s.rng.ready then s
    else
      let s := s.replayJournal.bootStep2 lcBad
      if !dramOk then (s.noteOutcome s.boot.preferred 8).enterRecovery else
      match s.chooseSlot reads with
      | (s, true) => s.runFirmware kat reads
      | (s, false) => s.enterRecovery)

/-- HOLDUP_ARMED: the hold-up bank has charged: the warning is armed, and the commits that boot needs are made (R486,
R672). -/
def execHoldupArmed (s : State) : Answer :=
  .next (
    if !s.power.powerGood || s.power.warning || s.power.holdupArmed then s else
    let s : State := { s with power.holdupArmed := true }
    (s.startWaiting 16).settleDue.resumeDiscard.resumeFw.resumeQuill)

/-! ## Firmware operations -/

/-- FW_STAGE: GO with OP 1 (`fetched` none) begins the fetch of an image; the end of the fetch (`fetched` with whether it
completes without error, and the bytes) checks it and begins the write of the slot that is not running (R495, R497,
R499, R500). -/
def execFwStage (fetched : Option (Bool × Bytes)) (s : State) : Answer :=
  .next (
    match fetched with
    | none =>
      if !s.fwShown then s
      else if s.boot.fwPhase ≠ .idle then s.refuseFw 1
      else
        let o := s.stageRefusal
        let s := s.startFw 1
        if o = 0 then s else s.reportFw o 0
    | some (ok, bytes) =>
      let b := s.boot
      if b.fwPhase ≠ .fetch ∨ b.fwRunOp ≠ 1 ∨ (b.fwWaits = true ∧ s.antlerHolds = true) then s
      else if !ok then s.reportFw 1 0
      else
        let image := fit b.fwRunLen bytes
        let o := fwCheck s.antler.state b.antiRollback none image
        if o ≠ 0 then s.reportFw o (fwSvn image)
        else s.onStore fun s => s.beginFlash image)

/-- FW_FLASH_WRITE_DONE: the image has been written and read back: the slot record is committed valid and preferred
(R495); a failure reports outcome 0x03 and leaves the slot invalid. -/
def execFwFlashWriteDone (ok : Bool) (s : State) : Answer :=
  .next (
    let b := s.boot
    if b.fwPhase ≠ .write then s
    else if !ok then s.reportFw 3 (fwSvn b.fwImage)
    else s.onStore fun s =>
      let i := s.idleSlot
      let boot := b.setSlot i { valid := true, digest := Config.sha3 b.fwImage, flash := b.fwImage }
      let s : State := { s with boot := { boot with preferred := i } }
      s.commitSlots.reportFw 0 (fwSvn b.fwImage))

/-- FW_COMMIT: GO with OP 2 (R496, R497). -/
def execFwCommit (s : State) : Answer :=
  .next (
    if !s.fwShown then s
    else if s.boot.fwPhase ≠ .idle then s.refuseFw 2
    else if !s.storeAccepts .controller then s.storeRefused
    else (s.startFw 2).resumeFw)

/-- FW_EXCHANGE: GO with OP 3 (R498). -/
def execFwExchange (s : State) : Answer :=
  .next (
    if !s.fwShown then s
    else if s.boot.fwPhase ≠ .idle then s.refuseFw 3
    else if !s.storeAccepts .controller then s.storeRefused
    else (s.startFw 3).resumeFw)

end Sys2Proof.Machine
end

