-- ==== Sys2Proof/Machine/Check.lean ====
section
/-! DEFINITION. The Woodpecker units: CRC computations and alive counters ("Woodpecker Units and Burrow Queues"). -/

namespace Sys2Proof.Machine

/-- The base of the CRC_ block. -/
abbrev crcBase : Nat := 0xB00000

/-- A unit. -/
def State.crcUnit (s : State) (n : Nat) : CrcUnit := tget s.check.units n {}

/-- Replace a unit. -/
def State.setCrc (n : Nat) (v : CrcUnit) (s : State) : State := { s with check.units := tset s.check.units n v }

/-- Whether unit n exists and its registers are presented. -/
def State.crcShown (s : State) (n : Nat) : Bool := decide (n < 8) && s.presented 0 crcBase

/-! ## Parameters -/

/-- The presets of Table 17-1. -/
def crcPreset? (n : Nat) : Option CrcParams :=
  match n with
  | 1 => some { width := 32, refin := true, refout := true, poly := 0x04C11DB7, init := 0xFFFFFFFF, xorout := 0xFFFFFFFF }
  | 2 => some { width := 32, refin := true, refout := true, poly := 0x1EDC6F41, init := 0xFFFFFFFF, xorout := 0xFFFFFFFF }
  | 3 => some { width := 16, refin := false, refout := false, poly := 0x1021, init := 0xFFFF, xorout := 0 }
  | 4 => some { width := 64, refin := true, refout := true, poly := 0x42F0E1EBA9EA3693, init := 0xFFFFFFFFFFFFFFFF,
                xorout := 0xFFFFFFFFFFFFFFFF }
  | _ => none

/-- CRC_CONFIG_WRITE: a preset loads its parameters; PRESET 0, and 5 to 7, take the written fields, WIDTH within 8 to 64
(R593, Table 17-7). -/
def execCrcConfigWrite (unit : Nat) (value : Reg) (s : State) : Answer :=
  .next (
    if !s.crcShown unit then s else
    let v := s.crcUnit unit
    let w := value.toNat
    match crcPreset? (bits w 2 0) with
    | some p =>
      [8, 0x10, 0x18].foldl (fun s o => s.reload 0 (crcBase + 0x100 * unit + o))
        (s.setCrc unit { v with preset := bits w 2 0, params := p })
    | none => s.setCrc unit { v with preset := 0, params := { v.params with
        width := max 8 (min 64 (bits w 14 8)), refin := bit w 16, refout := bit w 17 } })

/-- CRC_PARAMETER_WRITE: CRC_POLY_n (0), CRC_INIT_n (1) or CRC_XOROUT_n (2) takes a value, and PRESET becomes 0
(R594). -/
def execCrcParameterWrite (unit reg : Nat) (value : Word) (s : State) : Answer :=
  .next (
    if !s.crcShown unit || decide (3 ≤ reg) then s else
    let v := s.crcUnit unit
    let p := v.params
    let p := if reg = 0 then { p with poly := value } else if reg = 1 then { p with init := value }
      else { p with xorout := value }
    (s.setCrc unit { v with preset := 0, params := p }).reload 0 (crcBase + 0x100 * unit + 8 * (reg + 1)))

/-! ## Computation -/

/-- The low n bits of a word. -/
def lowBits (n : Nat) (w : Word) : Word := BitVec.ofNat 64 (w.toNat % 2 ^ n)

/-- The low n bits of a word in reversed order. -/
def reflectBits (n : Nat) (w : Word) : Word :=
  BitVec.ofNat 64 ((List.range n).foldl (fun a i => 2 * a + w.toNat / 2 ^ i % 2) 0)

/-- One bit enters the register of a CRC (R591). -/
def crcBit (p : CrcParams) (reg : Word) (b : Bool) : Word :=
  let top := reg.getLsbD (p.width - 1)
  let shifted := lowBits p.width (reg <<< 1)
  if top != b then shifted ^^^ lowBits p.width p.poly else shifted

/-- One byte enters: bit 0 first with REFIN 1, bit 7 first with REFIN 0 (R595). -/
def crcByte (p : CrcParams) (reg : Word) (b : Byte) : Word :=
  (List.range 8).foldl (fun r i => crcBit p r (b.getLsbD (if p.refin then i else 7 - i))) reg

/-- The CRC of the bytes accepted, after REFOUT and XOROUT (R597). -/
def CrcUnit.result (v : CrcUnit) : Word :=
  let p := v.latched
  let r := if p.refout then reflectBits p.width v.reg else v.reg
  lowBits p.width (r ^^^ p.xorout)

/-- START latches the parameters, sets the register to INIT and clears the count (R592). -/
def CrcUnit.start (v : CrcUnit) : CrcUnit :=
  { v with latched := v.params, reg := lowBits v.params.width v.params.init, bytes := {} }

/-- CRC_START (R592). -/
def execCrcStart (unit : Nat) (s : State) : Answer :=
  .next (if s.crcShown unit then s.setCrc unit (s.crcUnit unit).start else s)

/-- Feed bytes to a unit (R595). -/
def State.crcFeed (unit : Nat) (b : Bytes) (s : State) : State :=
  if !s.crcShown unit then s else
  let v := s.crcUnit unit
  let c := SatCount.add count31 b.length v.bytes
  (s.setCrc unit { v with reg := b.foldl (crcByte v.latched) v.reg, bytes := c.1 }).saturated c.2 crcBase
    (0x100 * unit + 0x38)

/-- CRC_DATA_B: a write feeds 1 byte (R595). -/
def execCrcDataB (unit : Nat) (value : Reg) (s : State) : Answer := .next (s.crcFeed unit (natLe 1 value.toNat))

/-- CRC_DATA_H: a write feeds 2 bytes, the least significant first (R595). -/
def execCrcDataH (unit : Nat) (value : Reg) (s : State) : Answer := .next (s.crcFeed unit (natLe 2 value.toNat))

/-- CRC_DATA_W: a write feeds 4 bytes, the least significant first (R595). -/
def execCrcDataW (unit : Nat) (value : Reg) (s : State) : Answer := .next (s.crcFeed unit (natLe 4 value.toNat))

/-! ## Alive counters -/

/-- CRC_ALIVE_RESTART clears STARTED and LAST (R599, Table 17-7). -/
def execCrcAliveRestart (unit : Nat) (s : State) : Answer :=
  .next (
    if !s.crcShown unit then s else
    s.setCrc unit { s.crcUnit unit with aliveStarted := false, aliveLast := 0 })

/-- CRC_ALIVE: a value received (R599). -/
def execCrcAlive (unit : Nat) (value : Reg) (s : State) : Answer :=
  .next (
    if !s.crcShown unit then s else
    let v := s.crcUnit unit
    let x : BitVec 4 := value.truncate 4
    let d := (x - v.aliveLast).toNat
    let off := 0x100 * unit + 0x48
    if !v.aliveStarted then s.setCrc unit { v with aliveStarted := true, aliveLast := x }
    else if d = 1 then s.setCrc unit { v with aliveLast := x }
    else if d = 0 then
      let c := SatCount.add 0x7FFF 1 v.repeats
      (s.setCrc unit { v with aliveLast := x, aliveRepeat := true, repeats := c.1 }).saturated c.2 crcBase off
    else
      let c := SatCount.add 0x7FFF (d - 1) v.skipped
      (s.setCrc unit { v with aliveLast := x, aliveSkip := true, skipped := c.1 }).saturated c.2 crcBase off)

end Sys2Proof.Machine
end

