-- ==== Sys2Proof/Machine/EngineJobs.lean ====
section
/-! DEFINITION. The engine operations of Table 9-2, one definition each, and the events of the engines
(R346 to R387). A job is taken by an engine, which loads its operands and computes; ENGINE_JOB_DONE delivers
what it has computed. -/

namespace Sys2Proof.Machine

/-! ## Integer operations (R363) -/

/-- a^e mod m, by the bits of e from the least significant, with fuel for their number. -/
def modPow (m : Nat) : Nat → Nat → Nat → Nat → Nat
  | 0, _, _, acc => acc
  | fuel + 1, a, e, acc =>
    modPow m fuel (a * a % m) (e / 2) (if e % 2 = 1 then acc * a % m else acc)

/-- The result of an integer operation in LENGTH words; OPERAND where a value is not below its modulus. -/
def intOut (j : Job) (ok : Bool) (v : Nat) : JobOut :=
  if ok then { out := natLe (8 * j.length) v } else { code := codeOperand }

/-- JOB_MODMUL: A × B mod C. -/
def execJobModmul (slot job : Nat) (s : State) : Answer :=
  .next (s.takeJob slot job opModmul fun j _ =>
    let a := leNat j.operandA; let b := leNat j.operandB; let c := leNat j.operandC
    intOut j (decide (a < c) && decide (b < c)) (a * b % c))

/-- JOB_MODEXP: A^B mod C, B secret. -/
def execJobModexp (slot job : Nat) (s : State) : Answer :=
  .next (s.takeJob slot job opModexp fun j _ =>
    let a := leNat j.operandA; let b := leNat j.operandB; let c := leNat j.operandC
    intOut j (decide (a < c)) (modPow c (64 * j.length) a b (1 % c)))

/-- JOB_MODEXP_PUB: A^B mod C, B public, of PARAM words. -/
def execJobModexpPub (slot job : Nat) (s : State) : Answer :=
  .next (s.takeJob slot job opModexpPub fun j _ =>
    let a := leNat j.operandA; let b := leNat j.operandB; let c := leNat j.operandC
    intOut j (decide (a < c)) (modPow c (64 * j.param) a b (1 % c)))

/-- JOB_MODINV: A^(C − 2) mod C, C prime. -/
def execJobModinv (slot job : Nat) (s : State) : Answer :=
  .next (s.takeJob slot job opModinv fun j _ =>
    let a := leNat j.operandA; let c := leNat j.operandC
    intOut j (decide (a < c)) (modPow c (64 * j.length) a (c - 2) (1 % c)))

/-! ## RSA -/

/-- A verification's outcome: a match, a mismatch, or OPERAND for a malformed value (Table 9-4). -/
def verifyOut (v : Option Bool) : JobOut :=
  { code := match v with
      | some true => codeOk
      | some false => codeMismatch
      | none => codeOperand }

/-- JOB_RSA_SIGN: a signature over the digest A; a CRT result that the fault check rejects leaves no output
(R381). `crtFault` says whether a fault hit the computation. -/
def execJobRsaSign (slot job : Nat) (crtFault : Bool) (s : State) : Answer :=
  .next (s.takeJob slot job opRsaSign fun j r =>
    if crtFault then { code := codeFaultCheck } else
    { out := fit r.modBytes (Config.rsaSign (bits j.param 7 0) (bits j.param 15 8) r.bytes j.operandA j.random) })

/-- JOB_RSA_DECRYPT: OAEP decryption of A, with the fault check (R381). -/
def execJobRsaDecrypt (slot job : Nat) (crtFault : Bool) (s : State) : Answer :=
  .next (s.takeJob slot job opRsaDecrypt fun j r =>
    if crtFault then { code := codeFaultCheck } else
    match Config.rsaDecrypt (bits j.param 15 8) r.bytes j.operandA with
    | some b => { out := b.take (opOutSize opRsaDecrypt 0 0 j.param r.type r) }
    | none => { code := codeOperand })

/-- JOB_RSA_VERIFY: the signature B over the digest A. -/
def execJobRsaVerify (slot job : Nat) (s : State) : Answer :=
  .next (s.takeJob slot job opRsaVerify fun j r =>
    verifyOut (Config.rsaVerify (bits j.param 7 0) (bits j.param 15 8) r.bytes j.operandA j.operandB))

/-- A generated key pair with the attributes of its block (R364); attributes that the Sett refuses end the job
with code DESCRIPTOR. -/
def keygenOut (type : Nat) (j : Job) (p : Bytes × Bytes) (priv : Bytes) : JobOut :=
  match attrRecord? 0 1 (if j.direct then 0 else leField j.attributes 16 8) j.attributes priv with
  | some r => if r.type = type then { newKey := some r, publicKey := p.2 } else { code := codeDescriptor }
  | none => { code := codeDescriptor }

/-- JOB_RSA_KEYGEN: a new RSA key of LENGTH modulus words, e = 65,537; the body begins with the modulus size in
bits and holds the public key too. -/
def execJobRsaKeygen (slot job : Nat) (s : State) : Answer :=
  .next (s.takeJob slot job opRsaKeygen fun j _ =>
    let p := Config.rsaKeygen j.length j.random
    keygenOut 0x10 j (p.1, fit (8 * j.length + 8) p.2) (natLe 2 (64 * j.length) ++ fit (Config.rsaBodyBytes true (64 * j.length)) (p.1 ++ p.2)))

/-! ## Elliptic curves -/

/-- JOB_ECDSA_SIGN: a signature over the digest A with the drawn bytes. -/
def execJobEcdsaSign (slot job : Nat) (s : State) : Answer :=
  .next (s.takeJob slot job opEcdsaSign fun j r =>
    { out := fit (2 * orderBytes r.type) (Config.ecdsaSign r.type r.bytes j.operandA j.random) })

/-- JOB_ECDSA_VERIFY: the signature B over the digest A. -/
def execJobEcdsaVerify (slot job : Nat) (s : State) : Answer :=
  .next (s.takeJob slot job opEcdsaVerify fun j r =>
    verifyOut (Config.ecdsaCheck r.type r.bytes j.operandA j.operandB))

/-- JOB_ECDH: the secret agreed with the point A, for OUT_MODE 1, 2 or 3 (R364, R365). -/
def execJobEcdh (slot job : Nat) (s : State) : Answer :=
  .next (s.takeJob slot job opEcdh fun j r =>
    match Config.ecdh r.type r.bytes j.operandA with
    | some z => { secret := some z }
    | none => { code := codeOperand })

/-- JOB_EC_KEYGEN: a key pair of the private TYPE in PARAM. -/
def execJobEcKeygen (slot job : Nat) (s : State) : Answer :=
  .next (s.takeJob slot job opEcKeygen fun j _ =>
    let p := Config.ecKeygen j.param j.random
    keygenOut j.param j (p.1, fit (publicLen j.param) p.2) (fit ((typeLength? j.param).getD 0) p.1))

/-- JOB_EDDSA_SIGN: a signature over the message A. -/
def execJobEddsaSign (slot job : Nat) (s : State) : Answer :=
  .next (s.takeJob slot job opEddsaSign fun j r =>
    { out := fit (eddsaLen r.type) (Config.eddsaSign r.type r.bytes j.operandA) })

/-- JOB_EDDSA_VERIFY: the signature B over the message A. -/
def execJobEddsaVerify (slot job : Nat) (s : State) : Answer :=
  .next (s.takeJob slot job opEddsaVerify fun j r =>
    verifyOut (Config.eddsaCheck r.type r.bytes j.operandA j.operandB))

/-! ## Lattices -/

/-- JOB_MLKEM_KEYGEN: a key of the TYPE in PARAM; the record holds the 64-byte seed (R382). -/
def execJobMlkemKeygen (slot job : Nat) (s : State) : Answer :=
  .next (s.takeJob slot job opMlkemKeygen fun j _ =>
    let p := Config.mlkemKeygen j.param j.random
    keygenOut j.param j (p.1, fit (publicLen j.param) p.2) (fit 64 p.1))

/-- JOB_MLKEM_ENCAPS: a ciphertext and a secret for OUT_MODE 1, 2 or 3. -/
def execJobMlkemEncaps (slot job : Nat) (s : State) : Answer :=
  .next (s.takeJob slot job opMlkemEncaps fun j r =>
    match Config.mlkemEncaps r.type r.bytes j.random with
    | some (c, z) => { out := fit (mlkemLen r.type) c, secret := some z }
    | none => { code := codeOperand })

/-- JOB_MLKEM_DECAPS: the secret of the ciphertext A; a ciphertext of the right length always yields OK
(R383). -/
def execJobMlkemDecaps (slot job : Nat) (s : State) : Answer :=
  .next (s.takeJob slot job opMlkemDecaps fun j r =>
    if j.operandA.length = mlkemLen r.type then { secret := some (Config.mlkemDecaps r.type r.bytes j.operandA) }
    else { code := codeOperand })

/-- JOB_MLDSA_KEYGEN: a key of the TYPE in PARAM. -/
def execJobMldsaKeygen (slot job : Nat) (s : State) : Answer :=
  .next (s.takeJob slot job opMldsaKeygen fun j _ =>
    let p := Config.mldsaKeygen j.param j.random
    keygenOut j.param j (p.1, fit (publicLen j.param) p.2) (fit 32 p.1))

/-- JOB_MLDSA_SIGN: the hedged signature of A with the drawn rnd; after 256 rejected iterations the job ends
with BOUND and no output (R384). -/
def execJobMldsaSign (slot job : Nat) (s : State) : Answer :=
  .next (s.takeJob slot job opMldsaSign fun j r =>
    let n := Config.mldsaIterations r.type r.bytes j.operandA j.random
    if 256 < n then { code := codeBound, iterations := 256 }
    else { out := fit (mldsaLen r.type) (Config.mldsaSign r.type r.bytes j.operandA j.random),
           iterations := max 1 n })

/-- JOB_MLDSA_VERIFY: the signature B over the message A. -/
def execJobMldsaVerify (slot job : Nat) (s : State) : Answer :=
  .next (s.takeJob slot job opMldsaVerify fun j r =>
    verifyOut (Config.mldsaCheck r.type r.bytes j.operandA j.operandB))

/-! ## Events of the engines -/

/-- Whether an engine exists. -/
def engineExists (hedgehog : Bool) (e : Nat) : Bool := decide (e < (if hedgehog then Config.hedgehogs else Config.bears))

/-- ENGINE_JOB_DONE: an engine finishes its job, writes its output and sets a terminal state (R361, R364 to
R367). -/
def execEngineJobDone (hedgehog : Bool) (engine : Nat) (s : State) : Answer :=
  .next (if engineExists hedgehog engine then s.finishJob hedgehog engine else s)

/-- ENGINE_ABORT_CLEARED: an engine whose job was aborted, or whose group is to be gated, has cleared its whole operand
memory and reports idle (R371, R375). -/
def execEngineAbortCleared (hedgehog : Bool) (engine : Nat) (s : State) : Answer :=
  .next (
    let x := s.engine hedgehog engine
    if engineExists hedgehog engine && x.clearing.isSome then
      (s.setEngine hedgehog engine { x with clearing := none, memory := [], owner := none }).touchDom
        (domGroup hedgehog (engine / perGroup hedgehog))
    else s)

/-- ENGINE_FAULT: an uncorrectable error in operand memory (kind 0), or a parity error in the active program
store of a Bear engine (kind 1), faults an engine (R350); a second FAULT_CHECK in a row faults it where its job
ends. -/
def execEngineFault (hedgehog : Bool) (engine kind : Nat) (s : State) : Answer :=
  .next (
    if engineExists hedgehog engine && !(s.engine hedgehog engine).faulted
        && (kind == 0 || (kind == 1 && !hedgehog)) then s.faultEngine hedgehog engine kind
    else s)

/-- Exchange the roles of the two stores of an engine and clear SWAP (R378). -/
def State.exchangeStores (e : Nat) (s : State) : State :=
  let x := s.engine false e
  s.setEngine false e { x with activeStore := 1 - x.activeStore, swap := false }

/-- Whether a Bear engine is between jobs. -/
def Engine.idle (x : Engine) : Bool := x.running.isNone && x.clearing.isNone

/-- BEAR_SWAP_REQUEST: SWAP is set; an engine that is IDLE exchanges its stores at once (R378). -/
def execBearSwapRequest (engine : Nat) (s : State) : Answer :=
  .next (
    if !engineExists false engine then s else
    let x := s.engine false engine
    if x.idle then s.exchangeStores engine else s.setEngine false engine { x with swap := true })

/-- BEAR_STORE_EXCHANGE: at its next idle boundary an engine with SWAP set exchanges its stores (R378). -/
def execBearStoreExchange (engine : Nat) (s : State) : Answer :=
  .next (
    let x := s.engine false engine
    if engineExists false engine && x.swap && x.idle then s.exchangeStores engine else s)

/-- Write a microword of a physical store. -/
def Engine.putWord (store addr : Nat) (v : Word) (x : Engine) : Engine :=
  if store = 0 then { x with store0 := tset x.store0 addr v } else { x with store1 := tset x.store1 addr v }

/-- A write of microword `addr` of the active store by a master, accepted while the engine is IDLE; while it is BUSY or
STALLED the write gets a bus error, ACTIVE_WRITE is set and an Owl event recorded (R376). -/
def State.activeWrite (master engine addr : Nat) (value : Word) (s : State) : State :=
  let x := s.engine false engine
  if x.faulted then s
  else if x.idle then s.setEngine false engine (x.putWord x.activeStore addr value)
  else
    ((s.setEngine false engine { x with faultBits := x.faultBits ||| 8 }).raise 0x72
      (natLe 1 engine ++ natLe 1 (if x.stalled then 2 else 1) ++ zeros 2)).emit
        (.fabric master 7 (engine * 0x10000 + 0x4000 + 8 * addr) true [])

/-- BEAR_ACTIVE_WRITE: the sealed controller writes microword `addr` of the active store (R376). -/
def execBearActiveWrite (engine addr : Nat) (value : Word) (s : State) : Answer :=
  .next (if engineExists false engine && decide (addr < 2048) then s.activeWrite 0 engine addr value else s)

/-- BEAR_SHADOW_WRITE: a write of microword `addr` of the shadow store, accepted in every state (R377). -/
def execBearShadowWrite (engine addr : Nat) (value : Word) (s : State) : Answer :=
  .next (
    if !engineExists false engine || !decide (addr < 2048) then s else
    let x := s.engine false engine
    s.setEngine false engine (x.putWord (1 - x.activeStore) addr value))

end Sys2Proof.Machine
end

