-- ==== Sys2Proof/Machine/Burrow.lean ====
section
/-! DEFINITION. Burrow queues ("Woodpecker Units and Burrow Queues"). The words of a queue number as many as Table 17-5
gives it packets (the model's reading: the depth in words is not stated). -/

namespace Sys2Proof.Machine

/-- The words of a queue (Table 17-5). -/
def burrowDepth (q : Nat) : Nat :=
  if q < 10 then 128 else if q < 14 then 256 else if q = 14 then 1024 else 4096

/-- Whether a full queue drops packets with a GAP; the producer of any other queue waits (Table 17-5). -/
def burrowDrops (q : Nat) : Bool := q == 12 || q == 13 || q == 15

/-- A queue. -/
def State.burrow (s : State) (q : Nat) : BurrowQueue := tget s.check.queues q {}

/-- Replace a queue. -/
def State.setBurrow (q : Nat) (v : BurrowQueue) (s : State) : State :=
  { s with check.queues := tset s.check.queues q v }

/-- The tags of Table 17-2. -/
abbrev tagEmpty : BitVec 3 := 0
abbrev tagData : BitVec 3 := 1
abbrev tagLast : BitVec 3 := 3
abbrev tagGap : BitVec 3 := 4
abbrev tagCut : BitVec 3 := 6

/-- The free words. -/
def BurrowQueue.free (v : BurrowQueue) (q : Nat) : Nat := burrowDepth q - v.words.length - v.partialWords.length

/-- Words of a packet with their tags, visible from a time. -/
def packetWords (at' : Nat) : List Word → List BurrowWord
  | [] => []
  | [w] => [{ tag := tagLast, data := w, visibleAt := at' }]
  | w :: t => { tag := tagData, data := w, visibleAt := at' } :: packetWords at' t

/-- Place a gap marker: the count of a GAP at the tail rises, or a GAP word takes the kept word (R606). -/
def placeGap (at' : Nat) (l : List BurrowWord) : List BurrowWord :=
  match l.getLast? with
  | some w =>
    if w.tag = tagGap then
      l.dropLast ++ [{ w with data := BitVec.ofNat 64 (min 255 (w.data.toNat + 1)), visibleAt := at' }]
    else l ++ [{ tag := tagGap, data := 1, visibleAt := at' }]
  | none => [{ tag := tagGap, data := 1, visibleAt := at' }]

/-- A word is written to a packet, or meets R605 and drops it (R602, R605, R606). -/
def State.burrowPut (q : Nat) (w : Word) (last : Bool) (s : State) : State :=
  let v := s.burrow q
  let next := s.now + unitsPerFabricCycle
  if v.discarding ∨ v.flushedAt = some s.now then s.setBurrow q { v with discarding := !last, partialWords := [] }
  else if 2 ≤ v.free q then
    let ws := v.partialWords ++ [w]
    s.setBurrow q (if last then { v with words := v.words ++ packetWords next ws, partialWords := [] }
                   else { v with partialWords := ws })
  else if burrowDrops q then
    let c := SatCount.add count31 1 s.check.drops
    let s := s.setBurrow q { v with words := placeGap next v.words, partialWords := [], discarding := !last }
    ({ s with check.drops := c.1 } : State).saturated c.2 crcBase 0x1008
  else s

/-- BURROW_WRITE: the producer writes a word of a packet (`kind` 0), its LAST word (1), or abandons the packet (2, R603);
at a full queue that does not drop, the producer waits. -/
def execBurrowWrite (queue kind : Nat) (word : Word) (s : State) : Answer :=
  .next (
    if 16 ≤ queue then s
    else if kind = 2 then s.setBurrow queue { s.burrow queue with partialWords := [], discarding := false }
    else s.burrowPut queue word (kind == 1))

/-- What the consumer of a queue does with a GAP or a CUT: the receiver of a pack link asks for the missing frames
(R646). -/
def State.onLoss (q : Nat) (s : State) : State := if q = 12 ∨ q = 13 then s.askAgain (q - 12) else s

/-- BURROW_READ: the consumer reads a tagged word (R601, R602, R604); a GAP whose count has risen in this cycle gives the
count before (Table 17-4). -/
def execBurrowRead (queue : Nat) (s : State) : Answer :=
  .next (
    if 16 ≤ queue then s else
    let v := s.burrow queue
    if v.cutDue then ((s.setBurrow queue { v with cutDue := false, midPacket := false }).emit (.burrow queue 6 0)).onLoss queue
    else match v.words with
      | [] => s.emit (.burrow queue 0 0)
      | w :: t =>
        if w.visibleAt ≤ s.now then
          let s := (s.setBurrow queue { v with words := t, midPacket := w.tag == tagData }).emit
            (.burrow queue w.tag.toNat w.data)
          if w.tag = tagGap then s.onLoss queue else s
        else if w.tag = tagGap ∧ 1 < w.data.toNat then
          ((s.setBurrow queue { v with words := { w with data := 1 } :: t }).emit (.burrow queue 4 (w.data - 1))).onLoss
            queue
        else s.emit (.burrow queue 0 0))

/-- Empty a queue (R607). -/
def State.burrowClear (q : Nat) (s : State) : State :=
  let v := s.burrow q
  s.setBurrow q { words := [], partialWords := [], discarding := v.discarding || !v.partialWords.isEmpty,
                  midPacket := false, cutDue := v.cutDue || v.midPacket, flushedAt := some s.now }

/-- BURROW_FLUSH: FLUSH empties the queue in that cycle (R607). -/
def execBurrowFlush (queue : Nat) (s : State) : Answer := .next (if 16 ≤ queue then s else s.burrowClear queue)

/-- Every job in the queue of a group ends with code FAULT (Table 17-5). -/
def State.failQueue (h : Bool) (g : Nat) (s : State) : State :=
  let s' := s.setQueue h g []
  (s.queue h g).foldl (fun s e => s.endJob e.1 e.2 .failed codeFault) s'

/-- What the owner of a queue does after its reset (Table 17-5). -/
def State.burrowOwner (q : Nat) (s : State) : State :=
  if q < 8 then s.failQueue false q
  else if q < 10 then s.failQueue true (q - 8)
  else if q < 14 then (s.loseSync (q % 2)).afterLoss
  else s

/-- BURROW_POINTER_MISMATCH: the queue resets, and the fault is captured and counted; of several in one cycle the lowest
queue is captured (R608, Table 17-4). `read` says that the read pointer's copies differ. -/
def execBurrowPointerMismatch (queue : Nat) (read : Bool) (s : State) : Answer :=
  .next (
    if 16 ≤ queue then s else
    let s := s.burrowClear queue
    let c := SatCount.add count31 1 s.check.resets
    let k := s.check
    let take := !k.faultCaptured || (k.faultAt == s.now && decide (queue < k.faultQueue))
    let k := if take then { k with faultCaptured := true, faultSide := read, faultQueue := queue, faultAt := s.now } else k
    let s := ({ s with check := { k with resets := c.1 } } : State).saturated c.2 crcBase 0x1004
    s.burrowOwner queue)

end Sys2Proof.Machine
end

