-- ==== Sys2Proof/Machine/CoreAlu.lean ====
section
/-! DEFINITION. The arithmetic, logic, load, store, branch and jump instructions of a transaction core
(Table 6-5). Each row of the table is one definition over the operand forms. -/

namespace Sys2Proof.Machine

/-- ILL: opcode 0x00 raises ILLEGAL (R214). -/
def execIll (core : Nat) (w : BitVec 32) (s : State) : Answer :=
  .next (s.issue core w 0x00 0 fun k _ s => s.raiseExc core k { cause := excIllegal, insn := w })

/-- ADD: GD ← GA + GB (R214). -/
def execAdd (core : Nat) (w : BitVec 32) (s : State) : Answer :=
  .next (s.issueReg core w 0x01 (mC ||| mT) (opT (fun a b => a + b) w))

/-- SUB: GD ← GA − GB (R214). -/
def execSub (core : Nat) (w : BitVec 32) (s : State) : Answer :=
  .next (s.issueReg core w 0x02 (mC ||| mT) (opT (fun a b => a - b) w))

/-- AND: GD ← GA and GB (R214). -/
def execAnd (core : Nat) (w : BitVec 32) (s : State) : Answer :=
  .next (s.issueReg core w 0x03 (mC ||| mT) (opT (fun a b => a &&& b) w))

/-- OR: GD ← GA or GB (R214). -/
def execOr (core : Nat) (w : BitVec 32) (s : State) : Answer :=
  .next (s.issueReg core w 0x04 (mC ||| mT) (opT (fun a b => a ||| b) w))

/-- XOR: GD ← GA xor GB (R214). -/
def execXor (core : Nat) (w : BitVec 32) (s : State) : Answer :=
  .next (s.issueReg core w 0x05 (mC ||| mT) (opT (fun a b => a ^^^ b) w))

/-- SHL: GD ← GA shifted left by GB[5:0] (R214). -/
def execShl (core : Nat) (w : BitVec 32) (s : State) : Answer :=
  .next (s.issueReg core w 0x06 (mC ||| mT) (opT (fun a b => a <<< amount b) w))

/-- SHR: GD ← GA shifted right, zero fill, by GB[5:0] (R214). -/
def execShr (core : Nat) (w : BitVec 32) (s : State) : Answer :=
  .next (s.issueReg core w 0x07 (mC ||| mT) (opT (fun a b => a >>> amount b) w))

/-- SAR: GD ← GA shifted right, sign fill, by GB[5:0] (R214). -/
def execSar (core : Nat) (w : BitVec 32) (s : State) : Answer :=
  .next (s.issueReg core w 0x08 (mC ||| mT) (opT (fun a b => a.sshiftRight (amount b)) w))

/-- MUL: GD ← low 64 bits of GA × GB (R214). -/
def execMul (core : Nat) (w : BitVec 32) (s : State) : Answer :=
  .next (s.issueReg core w 0x09 (mC ||| mT) (opT (fun a b => a * b) w))

/-- MULHU: GD ← high 64 bits of unsigned GA × GB (R214). -/
def execMulhu (core : Nat) (w : BitVec 32) (s : State) : Answer :=
  .next (s.issueReg core w 0x0A (mC ||| mT) (opT (fun a b => BitVec.ofNat 64 (a.toNat * b.toNat / 2 ^ 64)) w))

/-- SLT: GD ← 1 if GA < GB signed, else 0 (R214). -/
def execSlt (core : Nat) (w : BitVec 32) (s : State) : Answer :=
  .next (s.issueReg core w 0x0B (mC ||| mT) (opT (fun a b => flag (a.slt b)) w))

/-- SLTU: GD ← 1 if GA < GB unsigned, else 0 (R214). -/
def execSltu (core : Nat) (w : BitVec 32) (s : State) : Answer :=
  .next (s.issueReg core w 0x0C (mC ||| mT) (opT (fun a b => flag (a.ult b)) w))

/-- CMPEQ: GD ← 1 if GA = GB, else 0 (R214). -/
def execCmpeq (core : Nat) (w : BitVec 32) (s : State) : Answer :=
  .next (s.issueReg core w 0x0D (mC ||| mT) (opT (fun a b => flag (a == b)) w))

/-- ROR: GD ← GA rotated right by GB[5:0] (R214). -/
def execRor (core : Nat) (w : BitVec 32) (s : State) : Answer :=
  .next (s.issueReg core w 0x0F (mC ||| mT) (opT (fun a b => rotr a (amount b)) w))

/-- CSEL: GD ← GA if GC ≠ 0, else GB (R214). -/
def execCsel (core : Nat) (w : BitVec 32) (s : State) : Answer :=
  .next (s.issueReg core w 0x0E mT fun x =>
    x.setG (fD w) (if x.rg (fC w) ≠ 0 then x.rg (fA w) else x.rg (fB w)))

/-- ADDI: GD ← GA + IMM, sign-extended (R213, R214). -/
def execAddi (core : Nat) (w : BitVec 32) (s : State) : Answer :=
  .next (s.issueReg core w 0x10 0 (opI (fun a b => a + b) w))

/-- ANDI: GD ← GA and IMM, zero-extended (R213, R214). -/
def execAndi (core : Nat) (w : BitVec 32) (s : State) : Answer :=
  .next (s.issueReg core w 0x11 0 (opIz (fun a b => a &&& b) w))

/-- ORI: GD ← GA or IMM, zero-extended (R213, R214). -/
def execOri (core : Nat) (w : BitVec 32) (s : State) : Answer :=
  .next (s.issueReg core w 0x12 0 (opIz (fun a b => a ||| b) w))

/-- XORI: GD ← GA xor IMM, zero-extended (R213, R214). -/
def execXori (core : Nat) (w : BitVec 32) (s : State) : Answer :=
  .next (s.issueReg core w 0x13 0 (opIz (fun a b => a ^^^ b) w))

/-- SHLI: GD ← GA shifted left by IMM[5:0] (R213, R214). -/
def execShli (core : Nat) (w : BitVec 32) (s : State) : Answer :=
  .next (s.issueReg core w 0x14 0xFFC0 (opIz (fun a b => a <<< amount b) w))

/-- SHRI: GD ← GA shifted right, zero fill, by IMM[5:0] (R213, R214). -/
def execShri (core : Nat) (w : BitVec 32) (s : State) : Answer :=
  .next (s.issueReg core w 0x15 0xFFC0 (opIz (fun a b => a >>> amount b) w))

/-- SARI: GD ← GA shifted right, sign fill, by IMM[5:0] (R213, R214). -/
def execSari (core : Nat) (w : BitVec 32) (s : State) : Answer :=
  .next (s.issueReg core w 0x16 0xFFC0 (opIz (fun a b => a.sshiftRight (amount b)) w))

/-- SLTI: GD ← 1 if GA < IMM signed (R213, R214). -/
def execSlti (core : Nat) (w : BitVec 32) (s : State) : Answer :=
  .next (s.issueReg core w 0x17 0 (opI (fun a b => flag (a.slt b)) w))

/-- SLTIU: GD ← 1 if GA < IMM, sign-extended, unsigned (R213, R214). -/
def execSltiu (core : Nat) (w : BitVec 32) (s : State) : Answer :=
  .next (s.issueReg core w 0x18 0 (opI (fun a b => flag (a.ult b)) w))

/-- LUI: GD ← IMM, sign-extended, shifted left by 16 (R213, R214). -/
def execLui (core : Nat) (w : BitVec 32) (s : State) : Answer :=
  .next (s.issueReg core w 0x19 mA fun x => x.setG (fD w) (immS w <<< 16))

/-- INSH: halfword GA[1:0] of GD ← IMM; the GA field is the halfword number (R214). -/
def execInsh (core : Nat) (w : BitVec 32) (s : State) : Answer :=
  .next (s.issueReg core w 0x1A 0x001C0000 fun x =>
    x.setG (fD w) (insh (x.rg (fD w)) (fA w % 4) (fImm w)))

/-- LD: GD ← 8 bytes at GA + IMM, zero-extended (R214, R215). -/
def execLd (core : Nat) (w : BitVec 32) (s : State) : Answer :=
  .next (s.issueLoad core w 0x1B 8)

/-- LW: GD ← 4 bytes at GA + IMM, zero-extended (R214, R215). -/
def execLw (core : Nat) (w : BitVec 32) (s : State) : Answer :=
  .next (s.issueLoad core w 0x1C 4)

/-- LH: GD ← 2 bytes at GA + IMM, zero-extended (R214, R215). -/
def execLh (core : Nat) (w : BitVec 32) (s : State) : Answer :=
  .next (s.issueLoad core w 0x1D 2)

/-- LB: GD ← 1 bytes at GA + IMM, zero-extended (R214, R215). -/
def execLb (core : Nat) (w : BitVec 32) (s : State) : Answer :=
  .next (s.issueLoad core w 0x1E 1)

/-- ST: 8 bytes at GA + IMM ← GD (R214, R215, R236). -/
def execSt (core : Nat) (w : BitVec 32) (s : State) : Answer :=
  .next (s.issueStore core w 0x1F 8)

/-- SW: 4 bytes at GA + IMM ← GD (R214, R215, R236). -/
def execSw (core : Nat) (w : BitVec 32) (s : State) : Answer :=
  .next (s.issueStore core w 0x20 4)

/-- SH: 2 bytes at GA + IMM ← GD (R214, R215, R236). -/
def execSh (core : Nat) (w : BitVec 32) (s : State) : Answer :=
  .next (s.issueStore core w 0x21 2)

/-- SB: 1 bytes at GA + IMM ← GD (R214, R215, R236). -/
def execSb (core : Nat) (w : BitVec 32) (s : State) : Answer :=
  .next (s.issueStore core w 0x22 1)

/-- BEQ: branch if GA = GB (R213, R214). -/
def execBeq (core : Nat) (w : BitVec 32) (s : State) : Answer :=
  .next (s.issueBranch core w 0x23 (fun a b => a == b))

/-- BNE: branch if GA ≠ GB (R213, R214). -/
def execBne (core : Nat) (w : BitVec 32) (s : State) : Answer :=
  .next (s.issueBranch core w 0x24 (fun a b => a != b))

/-- BLT: branch if GA < GB signed (R213, R214). -/
def execBlt (core : Nat) (w : BitVec 32) (s : State) : Answer :=
  .next (s.issueBranch core w 0x25 (fun a b => a.slt b))

/-- BGE: branch if GA ≥ GB signed (R213, R214). -/
def execBge (core : Nat) (w : BitVec 32) (s : State) : Answer :=
  .next (s.issueBranch core w 0x26 (fun a b => !a.slt b))

/-- BLTU: branch if GA < GB unsigned (R213, R214). -/
def execBltu (core : Nat) (w : BitVec 32) (s : State) : Answer :=
  .next (s.issueBranch core w 0x27 (fun a b => a.ult b))

/-- BGEU: branch if GA ≥ GB unsigned (R213, R214). -/
def execBgeu (core : Nat) (w : BitVec 32) (s : State) : Answer :=
  .next (s.issueBranch core w 0x28 (fun a b => !a.ult b))

/-- JAL: g31 ← address + 4; jump to address + 4 × OFF (R209, R214). -/
def execJal (core : Nat) (w : BitVec 32) (s : State) : Answer :=
  .next (s.issue core w 0x29 0 fun k _ s =>
    s.modCtx k fun x => { x.setG 31 (x.pc + 4) with pc := x.pc + 4 * (w.extractLsb' 0 26).signExtend 64 })

/-- JALR: GD ← address + 4; jump to GA + IMM, which must be a multiple of 4 (R209, R215). -/
def execJalr (core : Nat) (w : BitVec 32) (s : State) : Answer :=
  .next (s.issue core w 0x2A 0 fun k sl s =>
    let a := memAddr w sl.ctx
    if a % 4 ≠ 0 then s.raiseExc core k { cause := excMisaligned, addr := a, insn := w }
    else s.modCtx k fun x => { x.setG (fD w) (x.pc + 4) with pc := BitVec.ofNat 64 a })

/-- EXTR: GD ← GA[pos + width − 1 : pos], pos IMM[11:6], width IMM[5:0] + 1 (R214). Where the field reaches
past bit 63 the specification states no value for the bits that GA does not have: they are free. -/
def execExtr (core : Nat) (w : BitVec 32) (s : State) : Answer :=
  .next (s.issue core w 0x2B 0xF000 fun k _ s =>
    let pos := (w.extractLsb' 6 6).toNat
    let width := (w.extractLsb' 0 6).toNat + 1
    let v := s.free
    let s := if 64 < pos + width then v.2 else s
    s.modCtx k fun x => (x.setG (fD w) (extrField (x.rg (fA w)) pos width v.1)).step)

/-- DECD: each nibble n of GA is replaced by nibble n of GB, the result to GD (R214). -/
def execDecd (core : Nat) (w : BitVec 32) (s : State) : Answer :=
  .next (s.issueReg core w 0x3E (mC ||| mT) (opT decd w))

/-- BSWAP: GD ← GA with its 8 bytes reversed (R214). -/
def execBswap (core : Nat) (w : BitVec 32) (s : State) : Answer :=
  .next (s.issueReg core w 0x3F (mB ||| mC ||| mT) fun x => x.setG (fD w) (bswap (x.rg (fA w))))

end Sys2Proof.Machine
end

