-- ==== Sys2Proof/Machine/Lodge.lean ====
section
/-! DEFINITION. The commands of the LDG_ block and the events of a lodge operation ("Applying Lodge Images and Lodge
Deltas"). -/

namespace Sys2Proof.Machine

/-- STAGE_FULL_IMAGE: GO with OP 1 (R93, R113). -/
def execStageFullImage (s : State) : Answer :=
  .next (
    if !s.ldgShown then s
    else if s.lodge.ctl.phase ≠ .idle then s.refuseGo 1
    else s.fetchLodge 1 8388608)

/-- APPLY_DELTA: GO with OP 2; a chain of 32 deltas refuses it (R94, Table 3-3). -/
def execApplyDelta (s : State) : Answer :=
  .next (
    if !s.ldgShown then s
    else if s.lodge.ctl.phase ≠ .idle then s.refuseGo 2
    else if 32 ≤ (s.lodge.record.current.map (·.chain)).getD 0 then (s.startLodge 2 .fetch).endLodgeOp 0x0541
    else s.fetchLodge 2 131072)

/-- DISCARD_STAGED_IMAGE: GO with OP 3 (R99). -/
def execDiscardStagedImage (s : State) : Answer :=
  .next (
    if !s.ldgShown then s
    else if s.lodge.ctl.phase ≠ .idle then s.refuseGo 3
    else if !s.storeAccepts .controller then s.storeRefused
    else (s.startLodge 3 .commit).resumeDiscard)

/-- LODGE_FETCH_DONE: the internal copy of the image is validated; the first failing step ends the operation and
changes nothing else (R91, R96, R97). `ok` says that the fetch completes without a PCI Express error. -/
def execLodgeFetchDone (ok : Bool) (image : Bytes) (s : State) : Answer :=
  .next (
    let c := s.lodge.ctl
    if c.phase ≠ .fetch ∨ (c.waits = true ∧ s.antlerHolds = true) then s
    else if !ok then s.rejectLodge 1 0x0140 []
    else
      let b := fit c.runLen image
      match s.judge b with
      | .rejected step st => s.rejectLodge step st b
      | .accepted l => s.writeLodge b l)

/-- LODGE_FLASH_WRITE_DONE: a write that fails on either device abandons the operation with 0x0F40 (R490). Otherwise a
staged image enters the lodge record by one page commit (R92), and a delta holds its affected pools (R104). -/
def execLodgeFlashWriteDone (ok : Bool) (s : State) : Answer :=
  .next (
    let c := s.lodge.ctl
    if c.phase ≠ .flashWrite then s
    else if !ok then s.endLodgeOp 0x0F40
    else match c.parsed with
      | none => s
      | some l =>
        if c.runOp = 2 then s.quiesceDelta l
        else s.onStore fun s =>
          let s : State := { s with lodge.record.staged := some (fullEntry c.image),
                                    lodge.flashStaged := { full := c.image, slot := s.lodge.freeLodgeSlot } }
          s.commitRecord.endLodgeOp 0)

/-- DELTA_COMMIT: the first moment at which every affected pool is quiescent, within the limit (R106 to R111). -/
def execDeltaCommit (fetched : List (Nat × Bytes)) (bad : Option (Nat × Nat)) (s : State) : Answer :=
  .next (
    let c := s.lodge.ctl
    if c.phase ≠ .quiescing ∨ c.quiesced = false ∨ s.quiescent = false ∨ s.pairCommits = false then s
    else match c.parsed with
      | none => s
      | some l => s.onStore fun s => s.commitDelta l fetched bad)

/-- DELTA_QUIESCE_TIMEOUT: the pools are not all quiescent in time (R108). -/
def execDeltaQuiesceTimeout (s : State) : Answer :=
  .next (
    let c := s.lodge.ctl
    if c.phase ≠ .quiescing ∨ s.now < c.deadline ∨ c.quiesced = true then s
    else (s.endLodgeOp 0x0542).noteEligible)

/-- DELTA_PEER_VERDICT: the verdict of the standby on a forwarded delta; a rejection abandons it on both halves
(R111). -/
def execDeltaPeerVerdict (accepted : Bool) (s : State) : Answer :=
  .next (
    let c := s.lodge.ctl
    if c.phase ≠ .quiescing ∨ (s.pair.phase ≠ .active ∧ s.pair.phase ≠ .standby) then s
    else if accepted then { s with lodge.ctl.peerAccepted := true }
    else (s.endLodgeOp 0x0543).noteEligible)

end Sys2Proof.Machine
end

