-- ==== Sys2Proof/Machine/Memories.lean ====
section
/-! DEFINITION. The larders' background test, accesses of the fabric at the Badger gates, and page commits of the
persistent store ("Larders, Persistent Store, DRAM and Badger Gates"). -/

namespace Sys2Proof.Machine

/-! ## Background test -/

/-- Whether a larder's slot is skipped: its skulk gated, waking or being wiped (R450). -/
def State.testSkipped (s : State) (n : Nat) : Bool :=
  s.wipingLarder n || (n != 24 && !s.awake (domSkulk n))

/-- A region with a multi-bit fault: replaced by a spare, else its skulk is withdrawn or the region fenced (R452). -/
def State.regionFault (n region : Nat) (s : State) : State :=
  let t := tget s.mem.tests n {}
  let put := fun (t : LarderTest) (s : State) => ({ s with mem.tests := tset s.mem.tests n t } : State)
  let tell := fun (o : Nat) (s : State) =>
    s.raise 0xA2 (natLe 1 n ++ natLe 2 region ++ natLe 1 (Config.spareOutcome o))
  if t.sparesUsed < 4 then tell 0 (put { t with sparesUsed := t.sparesUsed + 1, replaced := t.replaced ++ [region] } s)
  else if n = 24 then
    if t.fenced.contains region then s
    else tell 2 (put { t with fenced := t.fenced ++ [region], outOfService := true } s)
  else if t.outOfService then s
  else tell 1 ((put { t with outOfService := true } s).withdrawSkulk n)

/-- LARDER_TEST_SLOT: the test of the next region of a larder (R449 to R453): its 32 raw words are copied to the save
buffer, and March C- runs. `fault` is 0 where March C- finds none, 1 where no word has more than one faulty bit, else 2;
`bad` is a word that step 1 finds uncorrectable, which counts as a multi-bit fault and stays poisoned (Tables 12-1 and
12-2). -/
def execLarderTestSlot (larder fault : Nat) (bad : Option Nat) (s : State) : Answer :=
  .next (
    if 24 < larder || s.testSkipped larder then s else
    let t := tget s.mem.tests larder {}
    let region := t.region
    let place := (if larder = 24 then sealedLarderAddr 0 else larderAddr larder 0) + 256 * region
    let regions := if larder = 24 then 4096 else 2048
    let s : State := { s with mem.tests := tset s.mem.tests larder { t with region := (region + 1) % regions } }
    let s : State := match bad with
      | some i =>
        let w := place + 8 * (i % 32)
        let s := if larder = 24 then s.countError 2 (256 * region) false
          else s.countError (8 + larder / 4) (larder % 4 * 0x80000) false
        { s with mem.poisoned := if s.mem.poisoned.contains w then s.mem.poisoned else s.mem.poisoned ++ [w] }
      | none => s
    let save := (List.range 32).map fun i => s.rawWord (place + 8 * i)
    let s : State := { s with mem.tests := tupd s.mem.tests larder {} fun t => { t with save := save } }
    if bad.isSome ∨ 2 ≤ fault then s.regionFault larder region
    else if fault = 1 then
      let t := tget s.mem.tests larder {}
      let c := SatCount.add 0xFFFF 1 ⟨t.singleBit, false⟩
      ({ s with mem.tests := tset s.mem.tests larder { t with singleBit := c.1.count } } : State).saturated c.2
        memBase (0x300 + 4 * larder)
    else s)

/-! ## What a master sees -/

/-- The core address of a byte behind a gate, as a core of skulk q with the command of slot k names it (Table 6-2). -/
def coreAddrOf (g off : Nat) : Nat :=
  if g = 0 then if off < 0x1900000 then 0x3800000 + (off - 0x1800000) else 0x3000000 + (off - 0x1900000)
  else if g = 2 then 0x4000000 + off
  else if g = 3 then
    if off % 0x20000 < 0x10000 then 0x2010000 + off % 0x10000 else 0x2020000 + off % 0x10000
  else 0x1000000 + off % 0x80000

/-- A bus error answers an access of a master: a core raises ACCESS, and a job of an engine ends with code FAULT
(R476, R540). -/
def State.busError (master g off : Nat) (s : State) : State :=
  if 0x10 ≤ master && master < 0x70 then
    let c := master - 0x10
    match s.running? c with
    | some (k, sl) =>
      s.raiseExc c k { cause := excAccess, addr := coreAddrOf g off, insn := s.codeWord sl sl.ctx.pc.toNat }
    | none => s
  else if 0x70 ≤ master && master < 0xA0 then
    let h := decide (0x90 ≤ master)
    s.faultJob h (if h then master - 0x90 else master - 0x70)
  else s

/-- The stream context in a unit of the stream-context region (Table 12-6). -/
def State.streamAt? (s : State) (off : Nat) : Option StreamCtx :=
  let i := (off - 0x20000000) / 256
  s.host.streams.find? fun x => x.fn == i / 64 && x.index == i % 64

/-- A legacy-map unit is lost: its 64 indices become unbound and Owl records it (R471). -/
def State.loseLegacy (unit : Nat) (s : State) : State :=
  let d := unit / 1024
  let keep := (tget s.sett.legacy d []).filter fun e => e.1 / 64 != unit % 1024
  ({ s with sett.legacy := tset s.sett.legacy d keep } : State).raise 0xA4 (natLe 2 d ++ zeros 2 ++ natLe 4 unit)

/-- A stream context is lost: the part in flight ends with 0x0F01 and the stream is closed (R471). -/
def State.loseStream (off : Nat) (s : State) : State :=
  match s.streamAt? off with
  | some c =>
    let s := s.endWhere (fun sl => sl.fn == c.fn && sl.entry.streamPart != 0 && sl.entry.streamId == c.streamId) 0x0F01
    s.closeStream c.fn c.streamId
  | none => s

/-- What an uncorrectable error or a failed authentication of a unit does beyond its count (R466, R471): in DRAM the
command, the stream, the legacy indices or the records that lose it, a tag counting as its unit and a granule-map entry
as its body; in the master-key region of the store the record that the Sett reads. -/
def State.unitLost (master g off : Nat) (s : State) : State :=
  match g with
  | 0 =>
    if master = 3 ∧ off < 0x1000000 ∧ off / 128 / 32 < Config.domains then s.integrityFailure (persistentBase + off / 128) 1
    else s
  | 3 =>
    if off < 0x20000000 then s.failCmd (off / 0x20000) 0x0F01
    else if off < 0x22000000 then s.loseStream off else s
  | 4 =>
    if off < 0x40000000 then s.integrityFailure (off / 128) 1
    else if off < 0x48000000 then
      match treeNodeAt? off with
      | some (.key, l, i, _) => s.integrityFailure (i * 8 ^ (l + 1)) (3 + l)
      | _ => s
    else s
  | 5 =>
    if off < 0x40000000 then s.loseLegacy (off / 256)
    else if off < 0x44000000 then s.loseLegacy ((off - 0x40000000) / 16)
    else if off < 0x44200000 then s.loseStream (0x20000000 + 256 * ((off - 0x44000000) / 16))
    else if off < 0x46200000 then
      match s.granuleOwner? ((off - 0x44200000) / 4) with
      | some (k, _) => s.integrityFailure k 2
      | none => s
    else s
  | 6 =>
    match s.granuleOwner? (off / 1024) with
    | some (k, _) => s.integrityFailure k 2
    | none => s
  | _ => s

/-- An operation of the sealed controller meets an uncorrectable larder error: the lodge operation in progress, else the
den command that it has run longest, ends with 0x0F03 (Table 12-1; which operation made the access is the model's choice,
log entry 97). -/
def State.controllerFault (s : State) : State :=
  if s.lodge.ctl.phase ≠ .idle then s.endLodgeOp 0x0F03 else
  let own := s.host.slots.filter fun e => e.2.pool.isNone && (e.2.phase == .ready || e.2.phase == .waiting)
  match argmin? (fun e : Nat × Slot => e.2.grant) own with
  | some e => s.failCmd e.1 0x0F03
  | none => s

/-- The outcome of an uncorrectable read for its master (Table 12-1, R466, R471). -/
def State.uncorrectable (master g off : Nat) (s : State) : State :=
  let s := s.countError g off false
  let s := s.unitLost master g off
  if 0x10 ≤ master && master < 0x70 then
    match s.running? (master - 0x10) with
    | some (k, _) => s.failCmd k 0x0F01
    | none => s
  else if (larderOf? g off).isSome then
    if master = 0 then s.controllerFault else s.busError master g off
  else s

/-! ## Engine space -/

/-- A register of the engine space (Tables 9-7 to 9-13). -/
def State.engineReg (s : State) (off : Nat) : Nat :=
  let h := decide (0x200000 ≤ off)
  let e := off % 0x200000 / 0x10000
  let x := s.engine h e
  match off % 0x10000 with
  | 0x0 =>
    let st := if x.faulted then 3 else if x.idle then 0 else if x.stalled then 2 else 1
    st + 4 * b2n (s.gated (domGroup h (e / perGroup h)))
      + if h then 0 else 8 * x.activeStore + 16 * b2n x.swap
  | 0x4 => if h then 0 else b2n x.swap
  | 0x8 => x.faultBits.toNat
  | 0xC => x.jobs
  | _ => 0

/-- Whether a write to the engine space meets the active program store of an engine that is not IDLE (R376). -/
def State.activeWriteRefused (s : State) (off : Nat) : Bool :=
  let x := s.engine false (off / 0x10000)
  decide (off < 0x200000) && decide (0x4000 ≤ off % 0x10000) && decide (off % 0x10000 < 0x8000) && !x.faulted && !x.idle

/-- The state after a write to the engine space: SWAP, the fault bits, and the program windows. -/
def State.engineWrite (master off : Nat) (data : Bytes) (s : State) : State :=
  let h := decide (0x200000 ≤ off)
  let e := off % 0x200000 / 0x10000
  let x := s.engine h e
  let o := off % 0x10000
  let after := fun a : Answer => match a with
    | .next t => t
    | _ => s
  if o = 0x4 && !h then if bit (leNat data) 0 then after (execBearSwapRequest e s) else s
  else if o = 0x8 then s.setEngine h e { x with faultBits := x.faultBits &&& ~~~BitVec.ofNat 32 (leNat data) }
  else if !h && decide (0x4000 ≤ o) && decide (o < 0x8000) then
    s.activeWrite master e ((o - 0x4000) / 8) (BitVec.ofNat 64 (leNat data))
  else if !h && decide (0x8000 ≤ o) && decide (o < 0xC000) then
    after (execBearShadowWrite e ((o - 0x8000) / 8) (BitVec.ofNat 64 (leNat data)) s)
  else s

/-! ## The gates -/

/-- Whether the debug port reaches the fabric (R516, R521, Table 15-3): debug access opens once the wipes of its entry have
ended (Table 12-3). -/
def State.portOpen (s : State) : Bool :=
  !s.antler.portShut && (s.antler.testOpen || (s.antler.debug && !s.wiping))

/-- Carry out a permitted access. `err` is what a read finds: 1 a single-bit error, which is corrected, 2 an uncorrectable
one, 3 a unit of DRAM that fails authentication; or the error, 1 or 2, that a write leaves in its word for later reads. -/
def State.fabricPerform (master g off kind size : Nat) (data : Bytes) (err : Nat) (s : State) : State :=
  if kind = accWrite then
    let b := fit size data
    if g = 0 ∧ s.mem.fenced = true then s.storeRefused.emit (.fabric master g off false [])
    else if g = 7 then
      if s.activeWriteRefused off then s.engineWrite master off b
      else (s.engineWrite master off b).emit (.fabric master g off false [])
    else ((s.writeTarget g off b).spoil g off err).emit (.fabric master g off false [])
  else if g = 7 then s.emit (.fabric master g off false (natLe size (s.engineReg off)))
  else if err = 2 ∨ s.poisonedAt (gateAddr g off) size = true then
    let s := if s.poisonedAt (gateAddr g off) size then s else s.spoil g off 2
    (s.uncorrectable master g off).emit (.fabric master g off true [])
  else if err = 3 ∧ 3 ≤ g ∧ g ≤ 6 then
    (s.countAuth.unitLost master g off).emit (.fabric master g off true [])
  else
    let s := (if err = 1 then s.spoil g off 1 else s).correct g off size
    s.emit (.fabric master g off false (s.readTarget g off size))

/-- The world of an access: that of Table 1-3 where it fixes one, that of the debug port (R516, R521), and for a core
the world of the program that it runs (R23). -/
def State.masterWorld (s : State) (master : Nat) (world : Bool) : Bool :=
  if master = 0xA3 then s.antler.testOpen
  else if 0x10 ≤ master && master < 0x70 then
    (((s.core (master - 0x10)).slot.bind s.slot?).map (·.programWorld)).getD world
  else (fixedWorld? master).getD world

/-- Whether a master is a core that runs no command: it issues no access. -/
def State.idleCore (s : State) (master : Nat) : Bool :=
  decide (0x10 ≤ master) && decide (master < 0x70) && (s.core (master - 0x10)).slot.isNone

/-- FABRIC_ACCESS: one piece of an access at a gate, by its first byte (R475). An access to a part of a larder that is
being wiped waits: it has no effect yet (R456). A beat whose code does not match is
refused and counted (R540); the gate decides under Table 1-4 and the lodge regions (R473, R474), and a refusal is a
bus error that the gate reports (R30, R477 to R480). An access beyond the target does not exist. -/
def execFabricAccess (master : Nat) (world : Bool) (gate off kind size : Nat) (data : Bytes) (codeOk : Bool) (err : Nat)
    (s : State) : Answer :=
  if gateSize gate < off + size ∨ 16 ≤ gate then .fault .noSuchAddress
  else .next (
    let world := s.masterWorld master world
    if size = 0 ∨ s.idleCore master = true ∨ s.larderWaits gate off = true ∨ 64 < off % 64 + size ∨ 256 ≤ master ∨ (master = 0xA3 ∧ s.portOpen = false) then s
    else if !codeOk then
      let c := SatCount.add count31 1 s.tamper.busCode
      let s := ({ s with tamper.busCode := c.1 } : State).saturated c.2 tmpBase 0x44
      let s := s.raise 0xE2 (natLe 1 gate ++ natLe 1 master ++ natLe 1 (b2n world) ++ zeros 5 ++ natLe 8 off)
      let s := (s.busError master gate off).emit (.fabric master gate off true [])
      s.monEvent 0x250 2
    else match s.gateRefusal? master world gate off kind with
      | some r =>
        ((s.gateViolation master world gate off kind r).busError master gate off).emit (.fabric master gate off true [])
      | none =>
        if s.fencedAt gate off then (s.busError master gate off).emit (.fabric master gate off true [])
        else s.fabricPerform master gate off kind size data err)

/-! ## Page commits -/

/-- PAGE_COMMIT: a request for a page commit; from its commit point on the page reads its new content (R458 to R462,
R464). -/
def execPageCommit (page : Nat) (bytes : Bytes) (source : Nat) (s : State) : Answer :=
  .next (
    if 131072 ≤ page then s else
    let src : CommitSource := match source with
      | 0 => .controller
      | 1 => if page = timeFloorPage then .timeFloor else .controller
      | 2 => .sett
      | _ => .owl
    s.requestCommit { page := page, bytes := bytes, source := src })

/-- PAGE_COMMIT_RETIRED: the oldest commit retires its shadow page, which a waiting request takes (R462);
operations that waited for one go on. -/
def execPageCommitRetired (s : State) : Answer := .next s.retireCommit.resumeDiscard.resumeFw.resumeQuill

/-- PSTORE_FENCE_CLOSE: 1 ms after the power-fail warning the store accepts no new commit (R464). -/
def execPstoreFenceClose (s : State) : Answer :=
  .next (
    if s.mem.fenced && decide (s.mem.fencedAt + unitsPerMilli ≤ s.now) then
      State.refuseWaiting { s with mem.fenceClosed := true }
    else s)

end Sys2Proof.Machine
end

