-- ==== Sys2Proof/Machine/Migration.lean ====
section
/-! DEFINITION. Native migration: the den commands of Table 11-8 and the states of Table 11-7 ("Cub Functions, Tenant
Isolation and Migration"). -/

namespace Sys2Proof.Machine

/-- The refusal of R423: the pack pair or the MIGRATION section first, then life cycle and debug. -/
def State.migRefusal? (s : State) : Option Nat :=
  if s.tables.pack.isSome || !((s.tables.migration.map (·.nativeMig)).getD false) then some 0x10
  else if s.antler.state ≠ .production ∨ s.antler.debug = true then some 0x0F
  else none

/-- A migration command: PARAM and lists first, then R423. -/
def State.migAdmin (k op : Nat) (lengthOk : Nat → Bool) (paramOk : Entry → Bool) (f : Slot → State → State)
    (s : State) : State :=
  s.admin k op lengthOk paramOk fun sl s =>
    match s.migRefusal? with
    | some o => s.succeed k (outcomeHeader o)
    | none => f sl s

/-- A migration command whose input is a list of 1 to 16 cubs, all in a state that lets it act; else outcome
0x02. -/
def State.migCubs (k op : Nat) (may : State → Nat → Bool) (f : Slot → List Nat → State → State) (s : State) : State :=
  s.admin k op (listLength 16) (fun e => paramZero e []) fun sl s =>
    let fns := functionList 16 (s.inputOf k sl)
    if !fns.all isCub then s.failCmd k 0x0106 else
    match s.migRefusal? with
    | some o => s.succeed k (outcomeHeader o)
    | none =>
      let fns := fns.eraseDups
      if fns.all (may s) then f sl fns s else s.succeed k (outcomeHeader 0x02)

/-- MIG_IDENTITY (0x0510). A device without an identity reports 0x0F. -/
def execMigIdentity (slot : Nat) (s : State) : Answer :=
  .next (s.admin slot 0x0510 noLength (fun e => paramZero e []) fun _ s =>
    match s.cub.identity with
    | some i => s.succeed slot (outcomeHeader 0 ++ i.publics)
    | none => s.succeed slot (outcomeHeader 0x0F))

/-- The tickets that are open now. -/
def State.openTickets (s : State) : List Ticket := s.cub.tickets.filter fun t => decide (s.now < t.expires)

/-- MIG_TICKET (0x0511, R426). -/
def execMigTicket (slot : Nat) (s : State) : Answer :=
  .next (s.migAdmin slot 0x0511 (· == 16) (fun e => paramZero e [0, 1] && e.domOk) fun sl s =>
    if 16 ≤ s.openTickets.length then s.succeed slot (outcomeHeader 0x08) else
    match s.draw slot 48 with
    | (.refused, s) => s.succeed slot (outcomeHeader 0x0D)
    | (.waits, s) => s
    | (.served b, s) =>
      let t : Ticket := { id := b.take 16, nonce := b.drop 16, domain := sl.entry.dom, source := s.inputOf slot sl,
                          expires := s.now + 600 * unitsPerSecond }
      let open_ := s.openTickets
      ({ s with cub.tickets := open_ ++ [t] } : State).succeed slot (outcomeHeader 0 ++ t.id ++ t.nonce))

/-- MIG_FREEZE (0x0512): each cub is in no migration and its record carries MIGRATABLE (Table 11-7). -/
def execMigFreeze (slot : Nat) (s : State) : Answer :=
  .next (s.migCubs slot 0x0512
    (fun s f => (s.fnSt f).mig == .none && ((s.fnRec? f).map fun r => r.flags.getLsbD 0).getD false)
    fun sl fns s =>
      let s := fns.foldl (fun s f => s.setFn f { s.fnSt f with mig := .freezing, frozenAt := s.now }) s
      s.resetFor slot sl .freeze fns)

/-- Write a package and hold what its receipt will need (R427 to R431). -/
def State.savePackage (k scope d : Nat) (dest ticket nonce publics : Bytes) (cubs : List Nat) (rnd : Bytes)
    (s : State) : State :=
  let i := s.openIdentity.getD {}
  let eph := Config.ecKeygen 0x21 (rnd.take 56)
  let peerEc := publics.take 97
  match Config.mlkemEncaps 0x3E (publics.drop 97) (rnd.drop 64), Config.ecdh 0x21 eph.1 peerEc,
      Config.ecdh 0x21 i.p384Private peerEc with
  | some (c, z1), some z2, some z3 =>
    let key := migrationKey (z1 ++ z2 ++ z3) Config.deviceId dest d ticket nonce
    let head := packageHeader scope d cubs.length Config.deviceId dest ticket (s.domainPrint d) eph.2 ++ fit 1568 c
    let body := s.packageBody scope d cubs
    let package := head ++ fit (body.length + 16) (Config.gcmSeal (key.take 32) (zeros 12) head body)
    let saved : SavedPackage := { ticketId := ticket, scope := scope, domain := d, cubs := cubs, receiptKey := key.drop 32,
                                  digest := natLe 32 (Config.sha3 package).toNat }
    let s := cubs.foldl (fun s f => s.setFn f { s.fnSt f with mig := .saved, migScope := scope }) s
    let s : State := { s with cub.saved := s.cub.saved ++ [saved] }
    let s : State := if scope = 2 then
        ({ s with cub.departing := s.cub.departing ++ [d] } : State).commitObject objMigration 1 (key.drop 32)
      else s
    s.succeed k (outcomeHeader 0 ++ package)
  | _, _, _ => s.succeed k (outcomeHeader 0x03)

/-- MIG_SAVE (0x0513): the checks of R434 in order. -/
def execMigSave (slot : Nat) (s : State) : Answer :=
  .next (s.admin slot 0x0513 (fun n => decide (1729 < n) && listLength 16 (n - 1729))
    (fun e => paramZero e [0, 2, 3] && (e.p 0 == 1 || e.p 0 == 2) && decide (leField e.param 2 2 < Config.domains))
    fun sl s =>
      let b := s.inputOf slot sl
      let scope := sl.entry.p 0
      let d := leField sl.entry.param 2 2
      let fns := functionList 16 (b.drop 1729)
      let dest := slice b 0 16
      let publics := slice b 64 1665
      if !fns.all isCub then s.failCmd slot 0x0106 else
      match s.migRefusal? with
      | some o => s.succeed slot (outcomeHeader o)
      | none =>
        if !s.peerOk dest publics then s.succeed slot (outcomeHeader 0x03)
        else if !fns.all (fun f => (s.fnSt f).mig == .frozen && s.migratable f d) || fns.eraseDups.length != fns.length then
          s.succeed slot (outcomeHeader 0x02)
        else if scope == 2 && !s.tables.functions.all (fun r => r.domain != d || r.fn == 0 || fns.contains r.fn) then
          s.succeed slot (outcomeHeader 0x07)
        else if scope == 2 && !s.storeAccepts .controller then s.storeRefused.failCmd slot 0x0F01
        else match s.drawOwn slot 96 with
          | (.refused, s) => s.succeed slot (outcomeHeader 0x0D)
          | (.waits, s) => s
          | (.served rnd, s) => s.savePackage slot scope d dest (slice b 16 16) (slice b 32 32) publics fns rnd)

/-- The keys of a package on its destination (R427): `none` where a secret cannot be agreed. -/
def State.restoreKey (s : State) (b sourceEc : Bytes) (t : Ticket) : Option Bytes :=
  match s.openIdentity with
  | none => none
  | some i =>
    match Config.ecdh 0x21 i.p384Private (slice b 0x60 97), Config.ecdh 0x21 i.p384Private sourceEc with
    | some z2, some z3 =>
      let z1 := Config.mlkemDecaps 0x3A i.mlkemPrivate (slice b 0x100 1568)
      some (migrationKey (z1 ++ z2 ++ z3) (slice b 0x10 16) Config.deviceId (leField b 0xC 2) t.id t.nonce)
    | _, _ => none

/-- Close a ticket. -/
def State.closeTicket (t : Ticket) (s : State) : State :=
  { s with cub.tickets := s.cub.tickets.filter fun x => x.id != t.id }

/-- Install a package whose checks have passed: every record at once (R436). -/
def State.install (scope d count : Nat) (fns : List Nat) (body : Bytes) (s : State) : State :=
  let s := (List.zip (List.range count) fns).foldl (fun s x =>
    let s := (s.setRing x.2 ((s.ring x.2).load (slice body (64 * x.1) 64))).reloadRing x.2
    s.setFn x.2 { s.fnSt x.2 with mig := .incoming, migScope := scope }) s
  if scope = 2 then s.installDomain d count body else s

/-- The cub list behind a package and the source's public keys. -/
def packageCubs (b : Bytes) : List Nat := functionList 16 (b.drop (0x730 + leField b 0xC4 4 + 1665))

/-- Steps 5 and 6 of R435 and what follows, for a package that has been opened. -/
def State.restore (k : Nat) (b package body : Bytes) (t : Ticket) (key : Bytes) (s : State) : State :=
  let scope := leField b 0xA 1
  let count := leField b 0xB 1
  let d := leField b 0xC 2
  let fns := packageCubs b
  let s := s.closeTicket t
  let answer := fun (o : Nat) (v : Byte) => outcomeHeader o ++ receipt key (natLe 32 (Config.sha3 package).toNat) v
  let ready := fun f => s.migratable f d && (s.fnSt f).mig == .none && !(s.ring f).enabled && (s.slotsOf f).isEmpty
  if !fns.all ready || fns.eraseDups.length != fns.length then s.succeed k (answer 0x01 0x0A)
  else if !s.domainTakes scope d b body then s.succeed k (answer 0x06 0x0A)
  else (s.install scope d count fns body).succeed k (answer 0 0)

/-- MIG_RESTORE (0x0514): a function number of the list outside the limits completes with 0x0106 (R442); then the checks
of R435 in order. -/
def execMigRestore (slot : Nat) (s : State) : Answer :=
  .next (s.admin slot 0x0514 (fun n => decide (3571 ≤ n) && decide (n ≤ 8529)) (fun e => paramZero e []) fun sl s =>
    let b := s.inputOf slot sl
    let fail := fun o => s.succeed slot (outcomeHeader o)
    if packageOk b && !(packageCubs b).all isCub then s.failCmd slot 0x0106 else
    match s.migRefusal? with
    | some o => fail o
    | none =>
    if !packageOk b then fail 0x05 else
    let package := b.take (0x730 + leField b 0xC4 4)
    let publics := slice b package.length 1665
    let source := slice b 0x10 16
    if !s.peerOk source publics then fail 0x03 else
    match s.openTickets.find? fun t => t.id == slice b 0x30 16 && t.domain == leField b 0xC 2 && t.source == source with
    | none => fail 0x04
    | some t =>
      match s.restoreKey b (publics.take 97) t with
      | none => fail 0x05
      | some key =>
        match Config.gcmOpen (key.take 32) (zeros 12) (package.take 0x720) (package.drop 0x720) with
        | none => fail 0x05
        | some body =>
          if leField b 0xA 1 == 2 && !s.storeAccepts .sett then s.storeRefused.failCmd slot 0x0F01
          else s.restore slot b package body t (key.drop 32))

/-- Release a saved package: its cubs leave migration, and its domain departs no longer. -/
def State.releasePackage (p : SavedPackage) (s : State) : State :=
  let s : State := { s with cub.saved := s.cub.saved.filter fun x => x.ticketId != p.ticketId,
                            cub.departing := if p.scope = 2 then s.cub.departing.filter (· != p.domain) else s.cub.departing }
  p.cubs.foldl (fun s f => if (s.fnSt f).mig = .saved then s.setFn f { s.fnSt f with mig := .none, migScope := 0 } else s) s

/-- MIG_CONCLUDE (0x0515, R437): an accepted receipt empties what was saved, a refused one resumes it. -/
def execMigConclude (slot : Nat) (s : State) : Answer :=
  .next (s.migAdmin slot 0x0515 (· == 32) (fun e => paramZero e []) fun sl s =>
    let b := s.inputOf slot sl
    match s.cub.saved.find? fun p => p.ticketId == slice b 0 16 with
    | none => s.succeed slot (outcomeHeader 0x0B)
    | some p =>
      let r := slice b 16 16
      let is := fun (v : Byte) => r == receipt p.receiptKey p.digest v
      if !is 0 && !is 0x0A then s.succeed slot (outcomeHeader 0x0B)
      else if p.scope == 2 && !(s.storeAccepts .sett && s.storeAccepts .controller) then
        s.storeRefused.failCmd slot 0x0F01
      else
        let saved := p.cubs.filter fun f => (s.fnSt f).mig == .saved
        let s := s.releasePackage p
        let s := if p.scope = 2 then s.commitObject objMigration 1 [] else s
        if is 0x0A then s.succeed slot (outcomeHeader 0x0A)
        else
          let s := saved.foldl (fun s f => s.resetFunction false f) s
          let s := if p.scope = 2 then
              let masters := (s.keysOf p.domain).filter isPersistent
              masters.foldl (fun s k => s.commitMaster k) (s.wipeDomain p.domain)
            else s
          s.succeed slot (outcomeHeader 0))

/-- Whether MIG_THAW may thaw a cub: frozen, or saved, in a departing domain only with its quorum (R443). -/
def State.mayThaw (s : State) (f : Nat) : Bool :=
  let v := s.fnSt f
  v.mig == .frozen ||
    (v.mig == .saved && (!s.departingFn f || match s.fnDomain? f with
      | some d => s.quorate d
      | none => false))

/-- Thaw one cub; the thaw of a cub of a departing domain ends the departure and the saved package. -/
def State.thaw (f : Nat) (s : State) : State :=
  let s : State := if s.departingFn f then
      let d := (s.fnDomain? f).getD 0
      ({ s with cub.departing := s.cub.departing.filter (· != d),
                cub.saved := s.cub.saved.filter fun p => !(p.scope == 2 && p.domain == d) } : State).commitObject
        objMigration 1 []
    else s
  s.endMigration f

/-- MIG_THAW (0x0516). -/
def execMigThaw (slot : Nat) (s : State) : Answer :=
  .next (s.migCubs slot 0x0516 State.mayThaw fun _ fns s =>
    if (fns.any s.departingFn) && !s.storeAccepts .controller then s.storeRefused.failCmd slot 0x0F01
    else (fns.foldl (fun s f => s.thaw f) s).succeed slot (outcomeHeader 0))

/-- MIG_RESUME (0x0517): fetching resumes at SQ_HEAD. -/
def execMigResume (slot : Nat) (s : State) : Answer :=
  .next (s.migCubs slot 0x0517 (fun s f => (s.fnSt f).mig == .incoming) fun _ fns s =>
    (fns.foldl (fun s f => s.endMigration f) s).succeed slot (outcomeHeader 0))

/-- FREEZE_TIMEOUT_MS of the MIGRATION section. -/
def State.freezeTimeout (s : State) : Nat := ((s.tables.migration.map (·.freezeTimeoutMs)).getD 0) * unitsPerMilli

/-- A frozen cub whose FREEZE_TIMEOUT_MS has passed (Table 11-7). -/
def execMigFreezeTimeout (fn : Nat) (s : State) : Answer :=
  .next (
    let v := s.fnSt fn
    if v.mig = .frozen ∧ v.frozenAt + s.freezeTimeout ≤ s.now then
      let c := SatCount.add count31 1 s.cub.abandoned
      let s := (({ s with cub.abandoned := c.1 } : State).saturated c.2 0xE00000 0x40).endMigration fn
      s.raise 0x90 (natLe 2 fn ++ zeros 2)
    else s)

/-- Tickets whose 600 s have passed are closed (R426). -/
def execMigTicketExpiry (s : State) : Answer :=
  .next (
    let open_ := s.openTickets
    { s with cub.tickets := open_ })

end Sys2Proof.Machine
end

