-- ==== Sys2Proof/Machine/NativeEngine.lean ====
section
/-! DEFINITION. Native opcodes that run on the engines: RSA, elliptic curves, lattices and hybrids (R187, R190,
R191, R301, R367, Table 5-5). -/

namespace Sys2Proof.Machine

/-- A program with one keyed engine job: the key's type and use are those of the operation (R228, R355). -/
def State.keyedJob (k : Nat) (sl : Slot) (ok : KeyRec → Bool) (mk : KeyRec → Job) (finish : Job → State → State)
    (s : State) : State :=
  s.oneJob sl
    (fun s => s.withKey k sl ok fun a s =>
      let j := mk a.record
      s.startJob k sl j (some a) (opRandom j.operation j.length j.param a.record.type))
    finish

/-- What the job of a signature takes as its message: the input as given, or its digest under a HASH. -/
def digestOf (hash : Nat) (isDigest : Bool) (b : Bytes) : Bytes :=
  if isDigest then b else (natLe 64 (Config.digest hash b).toNat).take ((hashLen? hash).getD 0)

/-- The input of a verification: the message, then the signature of n bytes at its end. -/
def splitEnd (n : Nat) (b : Bytes) : Bytes × Bytes := (b.take (b.length - n), b.drop (b.length - n))

/-! ## RSA -/

/-- Whether PARAM is one of RSA_SIGN and RSA_VERIFY. -/
def rsaOk (e : Entry) : Bool :=
  paramZero e [0, 1, 2] && (e.p 0 == 0x40 || e.p 0 == 0x41) && (hashLen? (e.p 1)).isSome && decide (e.p 2 ≤ 1)

/-- RSA_SIGN (0x6001). -/
def execRsaSign (slot : Nat) (s : State) : Answer :=
  .next (s.native slot 0x6001 rsaOk fun sl s =>
    let e := sl.entry
    s.keyedJob slot sl (opPermits opRsaSign)
      (fun _ => { directJob false opRsaSign with
        param := e.p 0 + 256 * e.p 1, operandA := digestOf (e.p 1) (bit (e.p 2) 0) (s.inputOf slot sl) })
      fun j s => s.endOnJob slot j id)

/-- RSA_VERIFY (0x6002; R187): the signature ends the input. -/
def execRsaVerify (slot : Nat) (s : State) : Answer :=
  .next (s.native slot 0x6002 rsaOk fun sl s =>
    let e := sl.entry
    s.keyedJob slot sl (opPermits opRsaVerify)
      (fun r =>
        let x := splitEnd r.modBytes (s.inputOf slot sl)
        { directJob false opRsaVerify with
          param := e.p 0 + 256 * e.p 1, operandA := digestOf (e.p 1) (bit (e.p 2) 0) x.1, operandB := x.2 })
      fun j s => s.endOnVerdict slot j)

/-- RSA_DECRYPT (0x6003): OAEP; INPUT_IS_DIGEST, which Table 5-6 names for it too, changes nothing of a ciphertext. -/
def execRsaDecrypt (slot : Nat) (s : State) : Answer :=
  .next (s.native slot 0x6003
    (fun e => paramZero e [0, 1, 2] && e.p 0 == 0x42 && (hashLen? (e.p 1)).isSome && decide (e.p 2 ≤ 1)) fun sl s =>
    s.keyedJob slot sl (opPermits opRsaDecrypt)
      (fun _ => { directJob false opRsaDecrypt with
        param := 256 * sl.entry.p 1, operandA := s.inputOf slot sl })
      fun j s => s.endOnJob slot j id)

/-! ## Elliptic curves -/

/-- Whether PARAM is one of the ECDSA opcodes. -/
def ecdsaOk (e : Entry) : Bool := paramZero e [1, 2] && (hashLen? (e.p 1)).isSome && decide (e.p 2 ≤ 1)

/-- ECDSA_SIGN (0x6010; R357). -/
def execEcdsaSign (slot : Nat) (s : State) : Answer :=
  .next (s.native slot 0x6010 ecdsaOk fun sl s =>
    let e := sl.entry
    s.keyedJob slot sl (opPermits opEcdsaSign)
      (fun _ => { directJob false opEcdsaSign with
        operandA := digestOf (e.p 1) (bit (e.p 2) 0) (s.inputOf slot sl) })
      fun j s => s.endOnJob slot j id)

/-- ECDSA_VERIFY (0x6011; R187): the signature ends the input. -/
def execEcdsaVerify (slot : Nat) (s : State) : Answer :=
  .next (s.native slot 0x6011 ecdsaOk fun sl s =>
    let e := sl.entry
    s.keyedJob slot sl (opPermits opEcdsaVerify)
      (fun r =>
        let x := splitEnd (2 * orderBytes r.type) (s.inputOf slot sl)
        { directJob false opEcdsaVerify with
          operandA := digestOf (e.p 1) (bit (e.p 2) 0) x.1, operandB := x.2 })
      fun j s => s.endOnVerdict slot j)

/-- Whether PARAM is one of the EdDSA opcodes; INPUT_IS_DIGEST is ECDSA's alone (Table 5-6). -/
def eddsaOk (e : Entry) : Bool := paramZero e [1] && (hashLen? (e.p 1)).isSome

/-- EDDSA_SIGN (0x6012). -/
def execEddsaSign (slot : Nat) (s : State) : Answer :=
  .next (s.native slot 0x6012 eddsaOk fun sl s =>
    s.keyedJob slot sl (opPermits opEddsaSign)
      (fun _ => { directJob false opEddsaSign with operandA := s.inputOf slot sl })
      fun j s => s.endOnJob slot j id)

/-- EDDSA_VERIFY (0x6013; R187). -/
def execEddsaVerify (slot : Nat) (s : State) : Answer :=
  .next (s.native slot 0x6013 eddsaOk fun sl s =>
    s.keyedJob slot sl (opPermits opEddsaVerify)
      (fun r =>
        let x := splitEnd (eddsaLen r.type) (s.inputOf slot sl)
        { directJob false opEddsaVerify with operandA := x.1, operandB := x.2 })
      fun j s => s.endOnVerdict slot j)

/-- ECDH_DERIVE (0x6014): the input is the peer's point; result: the handle of the agreed key (R301). -/
def execEcdhDerive (slot : Nat) (s : State) : Answer :=
  .next (s.native slot 0x6014 (paramZero · []) fun sl s =>
    s.keyedJob slot sl (opPermits opEcdh)
      (fun _ => { directJob false opEcdh with outMode := 1, operandA := s.inputOf slot sl })
      fun j s => s.endOnJob slot j id)

/-! ## Lattices -/

/-- MLDSA_SIGN (0x6020). -/
def execMldsaSign (slot : Nat) (s : State) : Answer :=
  .next (s.native slot 0x6020 (paramZero · []) fun sl s =>
    s.keyedJob slot sl (opPermits opMldsaSign)
      (fun _ => { directJob true opMldsaSign with operandA := s.inputOf slot sl })
      fun j s => s.endOnJob slot j id)

/-- MLDSA_VERIFY (0x6021; R187). -/
def execMldsaVerify (slot : Nat) (s : State) : Answer :=
  .next (s.native slot 0x6021 (paramZero · []) fun sl s =>
    s.keyedJob slot sl (opPermits opMldsaVerify)
      (fun r =>
        let x := splitEnd (mldsaLen r.type) (s.inputOf slot sl)
        { directJob true opMldsaVerify with operandA := x.1, operandB := x.2 })
      fun j s => s.endOnVerdict slot j)

/-- MLKEM_ENCAPS (0x6022): result: ciphertext, then handle; the job's output is handle, then ciphertext. -/
def execMlkemEncaps (slot : Nat) (s : State) : Answer :=
  .next (s.native slot 0x6022 (paramZero · []) fun sl s =>
    s.keyedJob slot sl (opPermits opMlkemEncaps)
      (fun _ => { directJob true opMlkemEncaps with outMode := 1 })
      fun j s => s.endOnJob slot j fun b => b.drop 4 ++ b.take 4)

/-- MLKEM_DECAPS (0x6023): result: the handle (R301, R383). -/
def execMlkemDecaps (slot : Nat) (s : State) : Answer :=
  .next (s.native slot 0x6023 (paramZero · []) fun sl s =>
    s.keyedJob slot sl (opPermits opMlkemDecaps)
      (fun _ => { directJob true opMlkemDecaps with outMode := 1, operandA := s.inputOf slot sl })
      fun j s => s.endOnJob slot j id)

/-! ## Hybrids -/

/-- The HASH and the types of a PAIR: ECDSA private and public, ML-DSA private and public. -/
def pairHash (pair : Nat) : Nat := if pair = 1 then 0x20 else 0x21
/-- Whether an ECC type is that of a PAIR. -/
def pairEcc (pair : Nat) (pub : Bool) (t : Nat) : Bool :=
  t == (if pub then (if pair = 1 then 0x28 else 0x29) else (if pair = 1 then 0x20 else 0x21))
/-- Whether an ML-DSA type is that of a PAIR. -/
def pairMldsa (pair : Nat) (pub : Bool) (t : Nat) : Bool :=
  t == (if pub then (if pair = 1 then 0x35 else 0x36) else (if pair = 1 then 0x31 else 0x32))
/-- CLASSICAL_LENGTH of a PAIR. -/
def pairLen (pair : Nat) : Nat := if pair = 1 then 64 else 96

/-- Whether PARAM is one of the hybrid signature opcodes. -/
def hybridOk (e : Entry) : Bool := paramZero e [0] && (e.p 0 == 1 || e.p 0 == 2)

/-- A program with two engine jobs, 1 on a Bear and 2 on a Hedgehog engine, which run at the same time: it
starts them and parks, and when both have reached a terminal state it ends. -/
def State.twoJobs (k : Nat) (sl : Slot) (ok0 ok1 : KeyRec → Bool) (bear hedgehog : KeyRec → Job) (draws : KeyRec → Nat)
    (finish : Job → Job → State → State) (s : State) : State :=
  match tget? sl.jobs 1, tget? sl.jobs 2 with
  | some i, some j => if i.state.terminal && j.state.terminal then finish i j s else s
  | _, _ =>
    s.withKeys k sl ok0 ok1 fun a b s =>
      if !s.jobRoom sl false then s.parkForRoom k false
      else if !s.jobRoom sl true then s.parkForRoom k true else
      let n := draws a.record
      s.withDraw k (if n = 0 then 0 else 16 * drawUnits n + 32) fun rnd s =>
        ((s.sendDirect k 1 sl (bear a.record) (some a) (rnd.take n)).sendDirect k 2 sl (hedgehog b.record)
          (some b) (rnd.drop (16 * drawUnits n))).awaitJobs k

/-- HYBRID_SIGN (0x6030): two component signatures over the input message, in the layout of Table 5-7 (R190). -/
def execHybridSign (slot : Nat) (s : State) : Answer :=
  .next (s.native slot 0x6030 hybridOk fun sl s =>
    let p := sl.entry.p 0
    let m := s.inputOf slot sl
    s.twoJobs slot sl (fun r => pairEcc p false r.type && r.permits useSign)
      (fun r => pairMldsa p false r.type && r.permits useSign)
      (fun _ => { directJob false opEcdsaSign with operandA := digestOf (pairHash p) false m })
      (fun _ => { directJob true opMldsaSign with operandA := m })
      (fun r => orderBytes r.type + 8)
      fun i j s =>
        if i.code ≠ codeOk then s.failCmd slot (codeStatus i.code)
        else if j.code ≠ codeOk then s.failCmd slot (codeStatus j.code)
        else s.succeed slot (natLe 1 p ++ [0] ++ natLe 2 (pairLen p) ++ i.output ++ j.output))

/-- Whether the code of a component verification is a verdict, and whether it is a match. -/
def codeVerdict? (c : Nat) : Option Bool :=
  if c = codeOk then some true else if c = codeMismatch ∨ c = codeOperand then some false else none

/-- HYBRID_VERIFY (0x6031): a match only when both components verify; a signature whose PAIR, reserved byte or
CLASSICAL_LENGTH is wrong is a mismatch (R187, R191). The signature ends the input. -/
def execHybridVerify (slot : Nat) (s : State) : Answer :=
  .next (s.native slot 0x6031 hybridOk fun sl s =>
    let p := sl.entry.p 0
    let n := 4 + pairLen p + mldsaLen (if p = 1 then 0x35 else 0x36)
    let x := splitEnd n (s.inputOf slot sl)
    let sig := x.2
    let head := decide (n ≤ sl.entry.inLength) && sig.take 4 == natLe 1 p ++ [0] ++ natLe 2 (pairLen p)
    s.twoJobs slot sl (fun r => pairEcc p true r.type && r.permits useVerify)
      (fun r => pairMldsa p true r.type && r.permits useVerify)
      (fun _ => { directJob false opEcdsaVerify with
        operandA := digestOf (pairHash p) false x.1, operandB := (sig.drop 4).take (pairLen p) })
      (fun _ => { directJob true opMldsaVerify with operandA := x.1, operandB := sig.drop (4 + pairLen p) })
      (fun _ => 0)
      fun i j s =>
        match codeVerdict? i.code, codeVerdict? j.code with
        | some a, some b => s.succeed slot (verdict (head && a && b))
        | none, _ => s.failCmd slot (codeStatus i.code)
        | _, none => s.failCmd slot (codeStatus j.code))

/-- HYBRID_KEM (0x6032): an ML-KEM secret and an ECDH secret combined into one resident key. HANDLE0 is the
elliptic-curve private key, HANDLE1 the ML-KEM private key; the input is the ciphertext, then the point. The
ML-KEM job holds its secret and the ECDH job combines with it (R301, R365). -/
def execHybridKem (slot : Nat) (s : State) : Answer :=
  .next (s.native slot 0x6032 (paramZero · []) fun sl s =>
    let n := if sl.entry.inLength = 1153 then 1088 else 1568
    let x := s.inputOf slot sl
    let big := sl.entry.inLength != 1153
    match tget? sl.jobs 2, tget? sl.jobs 1 with
    | none, _ =>
      s.withKeys slot sl
        (fun r => r.type == (if big then 0x21 else 0x20) && r.permits useAgree)
        (fun r => r.type == (if big then 0x3A else 0x39) && r.permits useAgree) fun _ b s =>
          if !s.jobRoom sl true then s.parkForRoom slot true else
          (s.sendDirect slot 2 sl { directJob true opMlkemDecaps with outMode := 2, operandA := x.take n }
            (some b) []).awaitJobs slot
    | some i, none =>
      if !i.state.terminal then s
      else if i.code ≠ codeOk then s.failCmd slot (codeStatus i.code)
      else if !s.jobRoom sl false then s.parkForRoom slot false
      else (s.sendDirect slot 1 sl { directJob false opEcdh with outMode := 3, operandA := x.drop n }
        (sl.keyAt? 0) []).awaitJobs slot
    | some _, some j => if j.state.terminal then s.endOnJob slot j id else s)

end Sys2Proof.Machine
end

