-- ==== Sys2Proof/Machine/PairOps.lean ====
section
/-! DEFINITION. The operations of a pack pair ("Pack Pairs: In-Step Standby and Lease"): its state changes (Table 18-5),
synchronisation (R615, R616), epochs and digests (R624), the lease (R629 to R631) and promotion (R637, R638). -/

namespace Sys2Proof.Machine

/-! ## Times -/

/-- LEASE_MS × (1 + DRIFT_PPM ÷ 1,000,000) + GUARD_MS, in units of time (R631, R640). -/
def PackSec.lapse (p : PackSec) : Nat := p.leaseMs * 192 * (1000000 + p.driftPpm) + p.guardMs * unitsPerMilli

/-- LEASE_MS in units of time. -/
def PackSec.lease (p : PackSec) : Nat := p.leaseMs * unitsPerMilli

/-- When the latest lease of an active half expires: before a first grant, LEASE_MS after the in-step start (the model's
reading; R630 counts from a granted request). -/
def State.leaseEnd (s : State) : Nat :=
  if s.pair.leaseUntil = 0 then s.pair.startedAt + s.packSec.lease else s.pair.leaseUntil

/-- PACK_STATUS.WITNESS: the PACK_WITNESS input with WITNESS 0x01, else 0 (R640). -/
def State.witnessed (s : State) : Bool := s.packSec.witness == 1 && s.pair.witness

/-! ## State changes -/

/-- A lodge delta that has not been committed is abandoned with 0x0740 (Table 18-4). -/
def State.abandonDelta (s : State) : State :=
  let c := s.lodge.ctl
  if c.runOp = 2 ∧ c.phase ≠ .idle ∧ c.phase ≠ .commit then (s.endLodgeOp 0x0740).noteEligible else s

/-- Record a switch-over on this half: PAIR_SWITCHOVER with its new role, PACK_LAST_SWITCH and PACK_SWITCHOVERS
(R634). -/
def State.noteSwitch (role cause : Nat) (s : State) : State :=
  let c := SatCount.add count31 1 s.pair.switchovers
  let s : State := { s with pair.switchovers := c.1, pair.lastCause := cause }
  (s.saturated c.2 packBase 0x24).raise 0x100 (natLe 1 role ++ natLe 1 cause ++ [0, 0] ++ natLe 4 s.pair.epoch)

/-- The half fences (R630): it issues no new act, and keeps what it holds. Its Quill ports are deactivated, any open ceremony
closes and the requests of the ports end with 0x0307 (R345). -/
def State.fence (s : State) : State :=
  let s := s.cancelAll
  (State.leaveStep { s with pair.phase := .fenced }).closeCeremony 5 |>.stopPorts 0x0307

/-- An active half gives service up for a cause: what lived in it alone ends (Table 18-4), and it fences. -/
def State.fenceActive (cause : Nat) (s : State) : State :=
  s.abandonDelta.fence.noteSwitch 7 cause

/-- Enter SOLO. -/
def State.enterSolo (s : State) : State := State.noteEligible (State.leaveStep { s with pair.phase := .solo })

/-- Enter SOLO under R640 or R642 (PACK_LAST_SWITCH.CAUSE 5). -/
def State.soloByWitness (s : State) : State := { s.enterSolo with pair.lastCause := 5 }

/-- The detachments under R626 within the last 3,600 s (PACK_STATUS.DIVERGENCES). -/
def State.recentDivergences (s : State) : List Nat :=
  s.pair.divergences.filter fun t => decide (s.now < t + 3600 * unitsPerSecond)

/-- A divergence of an epoch on the standby (R626): Owl records it, the standby sends RELEASE and detaches; the third
within 3,600 s keeps it DETACHED until its next device reset. -/
def State.detachDiverged (e : Nat) (s : State) : State :=
  let s := ((s.noteDivergence e).sendRelease 0).detach
  let l := s.recentDivergences ++ [s.now]
  { s with pair.divergences := l, pair.stayDetached := s.pair.stayDetached || decide (3 ≤ l.length) }

/-! ## Items of synchronisation -/

/-- A key record with its body in an item (the layout of items is the model's own). -/
def KeyRec.syncBytes (r : KeyRec) : Bytes := fit 112 r.toBytes ++ natLe 4 r.body.length ++ r.body ++ r.initialKeyId

/-- The record of an item. -/
def parseSyncKey? (b : Bytes) : Option KeyRec :=
  let n := leField b 112 4
  (parseKeyRec? b).map fun r => { r with body := slice b 116 n, initialKeyId := b.drop (116 + n) }

/-- The pipe of an item. -/
def Pipe.syncBytes (p : Pipe) : Bytes :=
  let k := match p.key with
    | some r => r.syncBytes
    | none => []
  natLe 1 p.alg ++ natLe 4 k.length ++ k ++ p.absorbed

/-- The pipe in an item. -/
def parsePipe? (b : Bytes) : Option Pipe :=
  if b.isEmpty then none else
  let n := leField b 1 4
  some { alg := leField b 0 1, key := if n = 0 then none else parseSyncKey? (slice b 5 n), absorbed := b.drop (5 + n) }

/-- A stream context in an item. -/
def StreamCtx.syncBytes (c : StreamCtx) : Bytes :=
  natLe 2 c.fn ++ natLe 4 c.index ++ natLe 4 c.streamId.toNat ++ natLe 1 c.alg ++ natLe 4 c.handle.toNat
    ++ natLe 1 c.handleCount ++ natLe 8 c.byteCount ++ (match c.pipe with
      | some p => p.syncBytes
      | none => [])

/-- The stream context of an item. -/
def parseStream (b : Bytes) : StreamCtx :=
  { fn := leField b 0 2, index := leField b 2 4, streamId := BitVec.ofNat 32 (leField b 6 4), alg := leField b 10 1,
    handle := BitVec.ofNat 32 (leField b 11 4), handleCount := leField b 15 1, byteCount := leField b 16 8,
    pipe := parsePipe? (b.drop 24) }

/-- Ring indices and progress-word counters of a function in an item. -/
def State.ringItem (s : State) (f : Nat) : Bytes :=
  let r := s.ring f
  natLe 2 r.sqTail ++ natLe 2 (s.sqHeadOf f) ++ natLe 2 r.cqHead ++ natLe 2 r.cqWrite ++ natLe 2 (s.sqFetchedOf f)
    ++ natLe 2 r.cqWritten ++ natLe 1 (b2n r.phase) ++ natLe 1 r.pwSeq

/-- Take the indices and counters of an item. -/
def Ring.takeItem (b : Bytes) (r : Ring) : Ring :=
  { r with sqTail := leField b 0 2, sqHead := leField b 2 2, cqHead := leField b 4 2, cqWrite := leField b 6 2,
           sqFetched := leField b 8 2, cqWritten := leField b 10 2, phase := leField b 12 1 == 1,
           pwSeq := leField b 13 1 }

/-- Every item of R615 as it stands now. -/
def State.syncState (s : State) : List SyncItem :=
  let keys := s.sett.keys.flatMap fun e =>
    ⟨6, e.1, natLe 1 e.2.generation⟩ :: match e.2.record with
      | some r => [⟨if isPersistent e.1 then 1 else 3, e.1, r.syncBytes⟩]
      | none => []
  keys ++ s.quill.enrolments.map (fun e => ⟨2, e.domain * 8 + e.custodian, e.toBytes⟩)
    ++ s.sett.legacy.map (fun e => ⟨4, e.1, e.2.flatMap fun x => natLe 4 x.1 ++ natLe 4 x.2.toNat⟩)
    ++ [⟨5, 0, natLe 4 s.sett.cursor⟩]
    ++ s.host.streams.map (fun c => ⟨7, c.fn * 65536 + c.index, c.syncBytes⟩)
    ++ (0 :: s.cubs).map fun f => ⟨8, f, s.ringItem f⟩

/-- Send an item as a SYNC_ITEM record. -/
def State.sendItem (i : SyncItem) (s : State) : State := s.sendRecord 8 (natLe 1 i.kind ++ natLe 4 i.key ++ i.data)

/-- What the sending half keeps of an item that it has sent: its digest. The copies of the keys are wiped once sent
(R28). -/
def SyncItem.trace (i : SyncItem) : SyncItem := { i with data := natLe 32 (Config.sha3 i.data).toNat }

/-- Send the items that differ from those sent before; an item that has gone is sent with no bytes (R615, R616). -/
def State.sendChanged (s : State) : State :=
  let old := s.pair.syncItems
  let new := s.syncState
  let gone := old.filter fun o => !new.any fun n => n.kind == o.kind && n.key == o.key
  let s := (gone.map fun o => (⟨o.kind, o.key, []⟩ : SyncItem)).foldl (fun s i => s.sendItem i) s
  let s := (new.filter fun n => !old.contains n.trace).foldl (fun s i => s.sendItem i) s
  { s with pair.syncItems := new.map SyncItem.trace }

/-- Keep an item received; a later one replaces it, and one without bytes removes it. -/
def putItem (l : List SyncItem) (i : SyncItem) : List SyncItem :=
  let l := l.filter fun x => !(x.kind == i.kind && x.key == i.key)
  if i.data.isEmpty then l else l ++ [i]

/-- The items of a kind. -/
def State.itemsOf (s : State) (kind : Nat) : List SyncItem := s.pair.syncItems.filter fun i => i.kind == kind

/-- Put a key record of an item into its slot under this half's own keys. -/
def State.installKey (i : SyncItem) (s : State) : State :=
  match parseSyncKey? i.data with
  | none => s
  | some r =>
    let p := if isPersistent i.key then (r, s) else s.placeBody r
    (p.2.setKeySlot i.key { p.2.keySlot i.key with record := some p.1 }).writeBack i.key

/-- Replace this half's state by the items received (R615): keys, enrolments, legacy maps, cursor, stream contexts and
ring indices; its store takes the master keys and the enrolments. -/
def State.installItems (s : State) : State :=
  let masters := fun (s : State) => (s.sett.keys.map Prod.fst).filter isPersistent
  let before := masters s
  let enrolled := s.quill.enrolments
  let keys : Tbl KeySlot := (s.itemsOf 6).foldl (fun t i => tset t i.key { generation := leField i.data 0 1 }) []
  let legacy := (s.itemsOf 4).map fun i =>
    (i.key, (chunks 8 (i.data.length + 1) i.data).map fun b => (leField b 0 4, BitVec.ofNat 32 (leField b 4 4)))
  let cursor := ((s.itemsOf 5).head?.map fun i => leField i.data 0 4).getD 0
  let enrol := (s.itemsOf 2).filterMap fun i => parseEnrolment? i.data
  let streams := (s.itemsOf 7).map fun i => parseStream i.data
  let s : State := { s with
    sett.keys := keys, sett.granuleMap := [], sett.legacy := legacy, sett.cursor := cursor, sett.hot := [], sett.countDue := [],
    sett.storedCount := [], quill.enrolments := enrol, host.streams := streams }
  let s := (s.itemsOf 1 ++ s.itemsOf 3).foldl (fun s i => s.installKey i) s
  let s := (s.itemsOf 8).foldl (fun s i => (s.setRing i.key ((s.ring i.key).takeItem i.data)).reloadRing i.key) s
  let s := (before ++ (masters s).filter fun k => !before.contains k).foldl (fun s k => s.commitMaster k) s
  let gone := enrolled.filter fun e => !enrol.any fun x => x.domain == e.domain && x.custodian == e.custodian
  let s := gone.foldl (fun s e => s.commitObject objEnrolment (e.domain * 8 + e.custodian) (zeros 48)) s
  enrol.foldl (fun s e => s.commitObject objEnrolment (e.domain * 8 + e.custodian) e.toBytes) s

/-! ## Epochs -/

/-- Bytewise exclusive or of the own result hashes of commands. -/
def hashXor (l : List PairCommand) : Bytes :=
  l.foldl (fun a c => xorBytes a (fit 16 (c.ownHash.getD []))) (zeros 16)

/-- The commands of an epoch. -/
def State.commandsOf (s : State) (e : Nat) : List PairCommand := s.pair.commands.filter fun c => c.epoch == e

/-- The epoch digest (R624). -/
def epochDigest (e n : Nat) (l : List PairCommand) : Bytes :=
  natLe 32 (Config.sha3 (natLe 8 e ++ natLe 8 n ++ hashXor l ++ natLe 8 (l.map (·.drawn)).sum)).toNat

/-- Whether every command of an epoch has ended on this half. -/
def State.epochDone (s : State) (e : Nat) : Bool :=
  let r := tget s.pair.epochEnds e (0, 0)
  let l := s.commandsOf e
  l.length == r.2 - r.1 && l.all fun c => c.ownHash.isSome

/-- Forget an epoch whose digests agree. -/
def State.closeEpoch (e : Nat) (s : State) : State :=
  { s with pair.digests := terase s.pair.digests e, pair.peerDigests := terase s.pair.peerDigests e,
           pair.epochEnds := terase s.pair.epochEnds e }

/-- Forget the commands of forgotten epochs whose completion has been written and whose entry counts. -/
def State.pruneCommands (s : State) : State :=
  let keep := fun c : PairCommand =>
    !c.settled || !(c.counted || s.pair.phase == .standby) || decide (s.pair.epoch ≤ c.epoch)
      || (tget? s.pair.epochEnds c.epoch).isSome
  { s with pair.commands := s.pair.commands.filter keep }

/-- Compare the two digests of an epoch once both are there; digests that differ are a divergence (R625). -/
def State.compareDigests (e : Nat) (s : State) : State :=
  match tget? s.pair.digests e, tget? s.pair.peerDigests e with
  | some a, some b =>
    if a = b then s.closeEpoch e
    else if s.pair.phase = .standby then s.detachDiverged e
    else (s.closeEpoch e).diverge e
  | _, _ => s

/-- Send the digest of an epoch, and compare it. -/
def State.sendDigest (e : Nat) (s : State) : State :=
  let r := tget s.pair.epochEnds e (0, 0)
  let d := epochDigest e (r.2 - r.1) (s.commandsOf e)
  let due := s.pair.digestsDue.filter (· != e)
  let s : State := { s with pair.digests := tset s.pair.digests e d, pair.digestsDue := due }
  (s.sendRecord 0x11 (natLe 8 e ++ d)).compareDigests e

/-- An epoch boundary on this half: the present epoch ends with the admissions before `next`, the digests of every epoch
whose commands have ended are sent (R624), and the next epoch begins. -/
def State.endEpoch (next : Nat) (s : State) : State :=
  let e := s.pair.epoch
  let s : State := { s with pair.epochEnds := tset s.pair.epochEnds e (s.pair.epochFirst, next), pair.epochFirst := next,
                            pair.digestsDue := s.pair.digestsDue ++ [e], pair.epoch := e + 1, pair.epochStart := s.now }
  let s := (s.pair.digestsDue.filter s.epochDone).foldl (fun s e =>
    if s.leads || s.pair.phase == .standby then s.sendDigest e else s) s
  s.pruneCommands

/-! ## The lease -/

/-- Send LEASE_REQ with the next request number on every link in SYNC (R629). -/
def State.requestLease (s : State) : State :=
  let n := s.pair.requestNext
  let live := s.pair.requests.filter fun r => decide (s.now < r.2 + s.packSec.lease)
  let s : State := { s with pair.requests := tset live n s.now, pair.requestNext := n + 1, pair.lastRequestAt := s.now }
  (s.links.filter fun l => (s.link l).up).foldl (fun s l => s.sendOn l 0x20 (natLe 4 n)) s

/-- Start in-step execution: admissions, epochs and requests count from 0. -/
def State.startStep (s : State) : State :=
  let s := s.leaveStep
  { s with pair.startedAt := s.now, pair.admissionNext := 0, pair.epoch := 0, pair.epochStart := s.now,
           pair.epochFirst := 0, pair.requestNext := 0, pair.exerciseAt := s.now }

/-- The in-step start of the serving half (R616, Table 18-5). -/
def State.startActive (s : State) : State :=
  let s : State := { s.startStep with pair.phase := .active, pair.inStep := true }
  s.requestLease

/-- Answer a LEASE_REQ on the link that carried it (R629, R631). -/
def State.grantLease (l n : Nat) (s : State) : State :=
  State.sendOn l 0x21 (natLe 4 n) { s with pair.lastGrantAt := s.now }

/-- The in-step start of the syncing half: its items take effect, and the first GRANT is sent (R616, Table 18-5). -/
def State.startStandby (l n : Nat) (s : State) : State :=
  let s := s.installItems
  State.grantLease l n { s.startStep.portsOff with pair.phase := .standby }

/-! ## Completions written by the active -/

/-- The write index n positions on, with its phase and CQ_WRITTEN. -/
def Ring.advance (n : Nat) (r : Ring) : Ring :=
  let i := r.cqWrite + n
  { r with cqWrite := i % r.cqSize, phase := if i / r.cqSize % 2 = 1 then !r.phase else r.phase,
           cqWritten := (r.cqWritten + n) % 65536 }

/-- The command of a function that ended on this half before every other that it still holds. -/
def State.oldestEnded? (s : State) (f : Nat) : Option Nat :=
  let l := s.pair.commands.filter fun c =>
    c.fn == f && !c.settled && c.ownHash.isSome && ((s.slot? c.slot).map fun sl => sl.phase == .ended).getD false
  (argmin? (fun c => c.endedAt * 2 ^ 64 + c.admission) l).map (·.slot)

/-- The active has written n completions of a function: the commands that ended first are taken as those (the model's
reading; the records do not name them). -/
def State.written (f : Nat) : Nat → State → State
  | 0, s => s
  | n + 1, s =>
    match s.oldestEnded? f with
    | some k => State.written f n (s.discardSlot k)
    | none => s

/-- Take the CQ write index of a function from an EPOCH or RELEASE record. -/
def State.takeIndex (f i : Nat) (s : State) : State :=
  let r := s.ring f
  let n := (i + r.cqSize - r.cqWrite) % r.cqSize
  (s.setRing f (r.advance n)).written f n

/-! ## Promotion -/

/-- The scan of a completion ring (R637 step 2): each command whose TAG it finds is completed. -/
def State.scanRing (f : Nat) (tags : List Nat) (s : State) : State :=
  let s := tags.foldl (fun s t =>
    match (s.slotsOf f).find? fun e => e.2.phase != .fetching && e.2.entry.tag == t with
    | some e => s.discardSlot e.1
    | none => s) s
  s.setRing f ((s.ring f).advance tags.length)

/-- The new active reads the output scatter list of a command that it may have to complete. -/
def State.readList (k : Nat) (b : Bytes) (s : State) : State :=
  s.modSlot k fun sl =>
    if sl.entry.outSgl then { sl with outList := (scatterList? sl.entry.outAddr sl.entry.outLength b).getD [] } else sl

/-- Whether a command ends with 0x0701 at promotion: an opcode of R620 without its STATE record, and PAIR_EXERCISE
(Table 18-4). -/
def Slot.lostAtSwitch (sl : Slot) : Bool :=
  sl.phase != .ended && sl.entry.persId == 0 && (standbyAdopts sl.entry.opcode || sl.entry.opcode == 0x0600)

/-- Promotion of the standby (R637, R638). `found` gives the TAGs that the scan finds for each function, `lists` the
output scatter lists by slot. Completions that are due are written by COMPLETION_WRITE. How long it takes is not
modelled: PROMOTE_US is a free value up to 29 ms. -/
def State.promote (cause : Nat) (found : List (Nat × List Nat)) (lists : List (Nat × Bytes)) (s : State) : State :=
  let s := found.foldl (fun s e => s.scanRing e.1 e.2) s
  let s := lists.foldl (fun s e => s.readList e.1 e.2) s
  let lost := (s.host.slots.filter fun e => e.2.lostAtSwitch).map Prod.fst
  let s := lost.foldl (fun s k => s.cutLen k 0x0701 0 [] []) s
  let s := s.abandonDelta.closeCeremony 5
  let commands := s.pair.commands
  let r := s.leaveStep.free
  let s : State := { r.2 with pair.phase := .active, pair.commands := commands, pair.promoteMicros := r.1 % 29001,
                              pair.exerciseAt := s.now, pair.lastRequestAt := s.now }
  (s.noteSwitch 5 cause).noteEligible

end Sys2Proof.Machine
end

