-- ==== Sys2Proof/Machine/PairLink.lean ====
section
/-! DEFINITION. The pack links ("Pack-link framing"), the pairing exchange (R612 to R614) and synchronisation (R615,
R616). -/

namespace Sys2Proof.Machine

/-! ## The pairing exchange -/

/-- Whether the pack links work: a lodge with a PACK section is in force and their domain is awake. -/
def State.packLive (s : State) : Bool :=
  s.boot.phase == .ready && s.tables.pack.isSome && s.awake domPack

/-- Whether a link takes frames: it is a link of LINK_MASK in SYNC. -/
def State.linkTakes (s : State) (l : Nat) : Bool := s.packLive && s.links.contains l && (s.link l).up

/-- The pairing digest of this half: LODGE_SERIAL, running chain digest, NATIVE_SET, COMPAT_SET and BEAR_MICROCODE. -/
def State.pairDigest (s : State) : Bytes :=
  let chain := ((s.lodge.record.current.map fun e => e.chainDigest.toNat)).getD 0
  natLe 32 (Config.sha3 (natLe 8 s.tables.serial ++ natLe 32 chain ++ s.boot.nativeSet ++ s.boot.compatSet
    ++ s.boot.microcode.flatMap fun w => natLe 8 w.toNat)).toNat

/-- This half's pairing frame (the layout is the model's own): device identifier, PAIR_ID, PEER_DEVICE_ID, life-cycle
state, pair state, ROLE_PREF, pairing digest, public keys and ciphertext. -/
def State.offer (s : State) : Bytes :=
  let p := s.packSec
  Config.deviceId ++ fit 16 p.pairId ++ fit 16 p.peerDeviceId ++ natLe 1 s.antler.state.code ++ natLe 1 s.pair.phase.code
    ++ natLe 1 p.rolePref ++ s.pairDigest ++ fit 1665 ((s.cub.identity.map (·.publics)).getD []) ++ s.pair.cipherOut

/-- Send the pairing frame on a link. -/
def State.sendOffer (l : Nat) (s : State) : State := s.emit (.packFrame l 4 0 0 s.offer)

/-- Whether a half serves while it pairs (R613): SOLO, or ACTIVE after a switch-over. -/
def State.servesAlone (s : State) : Bool :=
  s.pair.phase == .solo || (s.pair.phase == .active && !s.pair.inStep)

/-- Whether a half looks for a peer (Table 18-5). -/
def State.pairable (s : State) : Bool :=
  !s.pair.tampered && !s.pair.stayDetached && decide (s.pair.retryAt ≤ s.now)
    && (s.pair.phase == .detached || s.pair.phase == .pairing || s.pair.phase == .fenced || s.servesAlone)

/-- What a pairing frame says of the peer. -/
structure PairOffer where
  device : Bytes := []
  pairId : Bytes := []
  names : Bytes := []
  publics : Bytes := []
  lifeCycle : Nat := 0
  digest : Bytes := []
  state : Nat := 0
  pref : Nat := 0
  deriving DecidableEq, Repr

/-- The first failing item of R612. -/
def State.pairRefusal? (s : State) (o : PairOffer) : Option Nat :=
  let p := s.packSec
  if o.pairId ≠ p.pairId ∨ o.names ≠ Config.deviceId ∨ o.device ≠ p.peerDeviceId then some 1
  else if !s.peerOk o.device o.publics || s.cub.identity.isNone then some 2
  else if o.lifeCycle ≠ s.antler.state.code then some 3
  else if o.digest ≠ s.pairDigest then some 4
  else none

/-- A refusal: the item is recorded, and this half tries again 1 s later (R612, Table 18-5). -/
def State.refusePair (item : Nat) (s : State) : State :=
  { s with pair.refusal := item, pair.retryAt := s.now + unitsPerSecond, pair.exchange := false, pair.cipherOut := [],
           pair.phase := if s.pair.phase = .pairing then .detached else s.pair.phase }

/-- Begin the exchange: encapsulate a secret to the peer's ML-KEM key with random bytes of this half (R404, R614); it
waits while Squirrel has none. -/
def State.beginExchange (s : State) : Option State :=
  if s.pair.exchange then some s else
  match s.drawNow 32 with
  | none => none
  | some (rnd, s) => (Config.mlkemEncaps 0x3E (s.pair.peer.publics.drop 97) rnd).map fun x =>
      { s with pair.exchange := true, pair.cipherOut := x.1, pair.secretOut := x.2 }

/-- A link under a new pair key: SEQ and XMIT count from 0, and the frames not acknowledged are numbered again. -/
def PackLink.rekey (v : PackLink) : PackLink :=
  let w := v.unacked.map (·.2) ++ v.waiting
  PackLink.fill w.length { v with sendSeq := 0, recvSeq := 0, xmit := 0, unacked := [], waiting := w }

/-- The frame that ends an ADMIT record, numbered again. -/
def State.renumber (s : State) (c : PairCommand) : PairCommand :=
  { c with admitFrame := c.admitFrame.map fun x =>
      let v := s.link x.1
      (x.1, x.2 - (v.sendSeq - v.unacked.length)) }

/-- Whether this half has the lower device identifier. -/
def State.lower (s : State) : Bool := decide (beNat Config.deviceId < beNat s.pair.peer.device)

/-- "TSM7296 PACK PAIR". -/
def pairLabel : Bytes :=
  [0x54, 0x53, 0x4D, 0x37, 0x32, 0x39, 0x36, 0x20, 0x50, 0x41, 0x43, 0x4B, 0x20, 0x50, 0x41, 0x49, 0x52]

/-- Agree the pair key from the peer's ciphertext (R614). -/
def State.agreeKey (cipher : Bytes) (s : State) : Option State :=
  match s.openIdentity with
  | none => none
  | some i =>
    (Config.ecdh 0x21 i.p384Private (s.pair.peer.publics.take 97)).map fun z3 =>
      let secretIn := Config.mlkemDecaps 0x3A i.mlkemPrivate cipher
      let z := if s.lower then s.pair.secretOut ++ secretIn else secretIn ++ s.pair.secretOut
      let ids := if s.lower then Config.deviceId ++ s.pair.peer.device else s.pair.peer.device ++ Config.deviceId
      let key := natLe 32 (Config.sha3 (natBe 4 1 ++ z ++ z3 ++ pairLabel ++ ids ++ s.packSec.pairId)).toNat
      { s with pair.pairKey := key, pair.exchange := false, pair.cipherOut := [], pair.secretOut := [],
               pair.commands := s.pair.commands.map s.renumber,
               pair.link0 := s.pair.link0.rekey, pair.link1 := s.pair.link1.rekey }

/-- Whether this half becomes the active (R613, Table 18-5): the one that serves, else the one that is not fenced, else
by ROLE_PREF, else by device identifier. -/
def State.becomesActive (s : State) : Bool :=
  let p := s.pair.peer
  let peerServes := p.state == 5 || p.state == 6
  if s.servesAlone != peerServes then s.servesAlone
  else if s.pair.toStandby != (p.state == 7) then !s.pair.toStandby
  else if s.packSec.rolePref ≠ p.pref then s.packSec.rolePref == 1
  else s.lower

/-- Take the role that a pairing gives (Table 18-5): the active serves on and sends the items of R615; the other half
discards what it ran and receives them. -/
def State.takeRole (s : State) : State :=
  if s.becomesActive then
    let s := if s.servesAlone then s else s.enterSolo
    { s with pair.syncing := true, pair.syncHold := false, pair.syncRetryAt := s.now, pair.syncItems := [],
             pair.toStandby := false : State }.sendChanged
  else
    let s := s.detach
    { s with pair.phase := .syncing, pair.toStandby := false }

/-- A frame of the exchange for a half that looks for a peer. -/
def State.pairWith (link : Nat) (o : PairOffer) (cipher : Bytes) (s : State) : State :=
  match s.pairRefusal? o with
  | some i => s.refusePair i
  | none =>
    let st := if s.pair.exchange ∧ o.state = 2 then s.pair.peer.state else o.state
    let s : State := { s with pair.refusal := 0, pair.peer := ⟨o.device, o.publics, st, o.pref⟩ }
    let first := !s.pair.exchange
    match s.beginExchange with
    | none => s
    | some s =>
      let s : State := if s.servesAlone then s else
        { s with pair.toStandby := s.pair.toStandby || s.pair.phase == .fenced, pair.phase := .pairing }
      let s := if first then s.sendOffer link else s
      if cipher.length ≠ 1568 then s else ((s.agreeKey cipher).map State.takeRole).getD s

/-- A frame of the exchange between halves in step: a new pair key (R614). -/
def State.refreshKey (link : Nat) (cipher : Bytes) (s : State) : State :=
  let first := !s.pair.exchange
  match s.beginExchange with
  | none => s
  | some s =>
    let s := if first then s.sendOffer link else s
    (s.agreeKey cipher).getD s

/-- PAIRING_FRAME: what the peer offers, with the ciphertext of its secret once it has this half's keys. -/
def execPairingFrame (link : Nat) (device pairId names publics : Bytes) (lifeCycle : Nat) (digest : Bytes)
    (state pref : Nat) (cipher : Bytes) (s : State) : Answer :=
  .next (
    if !s.linkTakes link then s
    else if s.leads ∨ s.pair.phase = .standby then
      if device = s.pair.peer.device ∧ cipher.length = 1568 then s.refreshKey link cipher else s
    else if !s.pairable then s
    else s.pairWith link ⟨device, pairId, names, publics, lifeCycle, digest, state, pref⟩ cipher)

/-- PAIRING_RETRY: 1 s after a refusal the half offers itself again (R612). -/
def execPairingRetry (s : State) : Answer :=
  .next (
    if s.pair.refusal = 0 || !s.packLive || !s.pairable then s
    else (s.links.filter fun l => (s.link l).up).foldl (fun s l => s.sendOffer l) s)

/-! ## Synchronisation -/

/-- SYNC_ITEM: the syncing half keeps an item; one that comes again replaces the former (R615). -/
def execSyncItem (kind key : Nat) (data : Bytes) (s : State) : Answer :=
  .next (if s.pair.phase = .syncing then { s with pair.syncItems := putItem s.pair.syncItems ⟨kind, key, data⟩ } else s)

/-- SYNC_ITEMS_SENT: every item has been sent once; admission is held (R616). -/
def execSyncItemsSent (s : State) : Answer :=
  .next (
    if s.servesAlone && s.pair.syncing && !s.pair.syncHold && decide (s.pair.syncRetryAt ≤ s.now)
        && (s.link s.streamLink).waiting.isEmpty then
      { s.cancelAll with pair.syncHold := true, pair.syncHoldAt := s.now }
    else s)

/-- SYNC_QUIESCED: the serving half holds no slot; it sends the items changed since, closes any open ceremony and starts
in-step execution (R616). No epoch runs before, so its first epoch boundary is this moment (the model's reading). -/
def execSyncQuiesced (s : State) : Answer :=
  .next (
    if s.servesAlone && s.pair.syncHold && s.host.slots.isEmpty && s.anyLinkUp then
      (s.sendChanged.closeCeremony 5).startActive
    else s)

/-- SYNC_HOLD_TIMEOUT: slots are still held 100 ms after admission was held; it resumes, and the step is repeated 1 s
later (R616). -/
def execSyncHoldTimeout (s : State) : Answer :=
  .next (
    if s.pair.syncHold && !s.host.slots.isEmpty && decide (s.pair.syncHoldAt + 100 * unitsPerMilli ≤ s.now) then
      State.noteEligible { s with pair.syncHold := false, pair.syncRetryAt := s.now + unitsPerSecond }
    else s)

/-! ## Frames -/

/-- What a header does to a lane (Table 18-7), and whether it is counted and whether the lane is lost. The valid header
found in HUNT is the first of the three in a row. -/
def Lane.header (ok : Bool) (v : Lane) : Lane × Bool × Bool :=
  match v.state, ok with
  | .hunt, true => ({ state := .presync, good := 1 }, false, false)
  | .hunt, false => (v, false, false)
  | .presync, true => (if v.good + 1 < 3 then { v with good := v.good + 1 } else { state := .sync }, false, false)
  | .presync, false => ({}, false, false)
  | .sync, true => ({ v with bad := 0 }, false, false)
  | .sync, false => if v.bad + 1 < 4 then ({ v with bad := v.bad + 1 }, true, false) else (v, true, true)

/-- FRAME_HEADER: a header at the expected spacing, valid or not, or in HUNT a SYNC pattern found (R645). -/
def execFrameHeader (link lane : Nat) (ok : Bool) (s : State) : Answer :=
  .next (
    if !s.packLive || !s.links.contains link || decide (2 ≤ lane) then s else
    let was := (s.link link).up
    let r := ((s.link link).lane lane).header ok
    let s := s.setLink link ((s.link link).setLane lane r.1)
    let s := if r.2.1 then s.countLinkErrors link 1 else s
    if r.2.2 then
      let s := (s.loseLane link lane).burrowClear (12 + link)
      (if (s.link link).up then s else s.burrowClear (10 + link)).afterLoss
    else if !was && (s.link link).up && s.pairable then s.sendOffer link
    else s)

/-- An ACK covers every frame before it (R647): waiting payloads take the room, and entries whose ADMIT record has been
acknowledged count (R623). -/
def State.takeAck (l ack : Nat) (s : State) : State :=
  let v := s.link l
  if v.sendSeq < ack then s else
  let v := { v with unacked := v.unacked.filter fun f => decide (ack ≤ f.1) }
  let f := fun c : PairCommand =>
    match c.admitFrame with
    | some (m, q) => if m = l ∧ q < ack then { c with counted := true } else c
    | none => c
  let s := s.setLink l (v.fill v.waiting.length)
  { s with pair.commands := s.pair.commands.map f }

/-- DATA_FRAME: a frame whose tag holds is accepted in SEQ order; a duplicate is discarded; a gap asks for the missing
frames (R644, R646). The records that its payload completes come as commands of their own. -/
def execDataFrame (link seq ack : Nat) (payload : Bytes) (tagOk : Bool) (s : State) : Answer :=
  .next (
    if !s.linkTakes link || !tagOk || decide (976 < payload.length) then s else
    let s := s.takeAck link ack
    let v := s.link link
    if seq = v.recvSeq then s.setLink link { v with recvSeq := seq + 1 }
    else if v.recvSeq < seq then s.askAgain link
    else s)

/-- IDLE_FRAME: acknowledgements without data. -/
def execIdleFrame (link ack : Nat) (tagOk : Bool) (s : State) : Answer :=
  .next (if s.linkTakes link && tagOk then s.takeAck link ack else s)

/-- RETRANSMISSION_REQUEST: every frame from the named SEQ is sent again with a new XMIT (R646). -/
def execRetransmissionRequest (link seq ack : Nat) (tagOk : Bool) (s : State) : Answer :=
  .next (
    if !s.linkTakes link || !tagOk then s else
    let s := s.takeAck link ack
    let v := s.link link
    let again := v.unacked.filter fun f => decide (seq ≤ f.1)
    let s := s.setLink link { v with xmit := (v.xmit + again.length) % 2 ^ 48 }
    let s := again.foldl (fun s f => s.emit (.packFrame link 1 f.1 v.recvSeq f.2)) s
    s.countLinkErrors link again.length)

end Sys2Proof.Machine
end

