-- ==== Sys2Proof/Machine/Pair.lean ====
section
/-! DEFINITION. The pack pair in step: the records of Table 18-1, divergence, the lease, switch-over, the witness and the
exercise ("Pack Pairs: In-Step Standby and Lease"). The records come complete and in the order of the stream. -/

namespace Sys2Proof.Machine

/-! ## Records to the standby -/

/-- Whether this half is the standby. -/
def State.standby (s : State) : Bool := s.pair.phase == .standby

/-- The command of the stream with an admission sequence. -/
def State.commandAt? (s : State) (a : Nat) : Option PairCommand :=
  s.pair.commands.find? fun c => c.admission == a && !c.settled

/-- The epoch of an admission on the standby: an epoch that has ended and holds it, else the present one. -/
def State.epochOf (s : State) (a : Nat) : Nat :=
  ((s.pair.epochEnds.find? fun x => decide (x.2.1 ≤ a) && decide (a < x.2.2)).map (·.1)).getD s.pair.epoch

/-- Make room on the standby for an entry of a function with a TAG: an ended command with the same TAG has been completed
by the active; with no free slot the ended command of the lowest admission is taken as completed. -/
def State.makeRoom (f tag : Nat) (s : State) : State :=
  let ended := fun c : PairCommand => !c.settled && ((s.slot? c.slot).map fun sl => sl.phase == .ended).getD false
  let same := (s.slotsOf f).filter fun e => e.2.phase == .ended && e.2.entry.tag == tag
  let s' := same.foldl (fun s e => s.discardSlot e.1) s
  if s'.host.slots.length < Config.slots then s' else
  match argmin? (·.admission) (s.pair.commands.filter ended) with
  | some c => s'.discardSlot c.slot
  | none => s'

/-- The input of an ADMIT record fills the window of its command. A record without the whole input says that the active
could not read it: the command ends with 0x0520 or 0x0103, which of them is a free value. -/
def State.admitInput (k : Nat) (input : Bytes) (s : State) : State :=
  match s.slot? k with
  | none => s
  | some sl =>
    if sl.phase ≠ .admitted then s
    else if input.length = sl.entry.inLength then
      (s.fillInput k input).modSlot k fun sl => { sl with phase := .ready }
    else
      let r := s.free
      r.2.failCmd k (if r.1 % 2 = 0 then 0x0520 else 0x0103)

/-- ADMIT: the standby runs the command from its entry and input (R618, R619); the mirrored SQ head passes the entry. -/
def execAdmit (admission fn position : Nat) (entry input : Bytes) (s : State) : Answer :=
  .next (
    if !s.standby || (s.commandAt? admission).isSome then s else
    let e := parseEntry entry
    let s := s.makeRoom fn e.tag
    match lowest? Config.slots fun k => (s.slot? k).isNone with
    | none => s
    | some k =>
      let epoch := s.epochOf admission
      let held := (s.slotsOf fn).any fun x => x.2.entry.tag == e.tag
      let pool := if fn = 0 then none else some ((s.fnRec? fn).getD {}).poolId
      let sl : Slot := { fn := fn, ringIndex := position, grant := s.host.grants, entry := e, phase := .admitted,
                         pool := pool, admittedAsStandby := true, epoch := epoch }
      let c : PairCommand := { admission := admission, epoch := epoch, slot := k, fn := fn }
      let r := s.ring fn
      let s := s.setRing fn { r with sqHead := (position + 1) % r.sqSize, sqFetched := (r.sqFetched + 1) % 65536 }
      let s := (s.setSlot k sl : State)
      let s : State := { s with host.grants := s.host.grants + 1, pair.commands := s.pair.commands ++ [c] }
      let clash := s.streamInFlight k sl
      ((s.modSlot k fun sl => { sl with streamClash := clash }).dispatch k held).admitInput k input)

/-- DRAW: the random bytes of a command, in draw order (R405); an empty record is a refusal (R406). The bytes of a
command that the standby does not run only count (R624). -/
def execDraw (admission : Nat) (data : Bytes) (s : State) : Answer :=
  .next (
    if !s.standby then s else
    match s.commandAt? admission with
    | none => s
    | some c =>
      let adopts := ((s.slot? c.slot).map fun sl => standbyAdopts sl.entry.opcode && sl.entry.persId == 0).getD false
      let c' := if adopts then { c with drawn := c.drawn + data.length }
        else { c with drawBytes := c.drawBytes ++ data, drawRefused := c.drawRefused || data.isEmpty }
      { s with pair.commands := s.pair.commands.map fun x => if x.admission = admission then c' else x })

/-- DOORBELL: a function's SQ tail and CQ head are mirrored (R617, R639). -/
def execDoorbell (fn tail head : Nat) (s : State) : Answer :=
  .next (if s.standby then s.setRing fn { s.ring fn with sqTail := tail, cqHead := head } else s)

/-- Adopt the result of a command that the standby does not run (R620). -/
def State.adopt (k : Nat) (b : Bytes) (s : State) : State :=
  let n := leField b 6 1
  let status : Status := BitVec.ofNat 16 (leField b 0 2)
  let s := s.cutLen k status 0 [] []
  let s := s.modSlot k fun sl =>
    { sl with status := status, needed := leField b 2 4, detail := slice b 7 n, result := b.drop (7 + n) }
  s.pairEnded k

/-- STATE: a master-key record (kind 1), an enrolment record (2) or the result (3) of a command that the standby does not
run (R620). -/
def execState (admission kind : Nat) (record : Bytes) (s : State) : Answer :=
  .next (
    if !s.standby then s else
    match s.commandAt? admission with
    | none => s
    | some c =>
      match s.slot? c.slot with
      | none => s
      | some sl =>
        if kind = 1 then match parseKeyRec? record with
          | some r =>
            let key := sl.entry.master
            let gen := (s.keySlot key).generation
            (s.setKeySlot key { s.keySlot key with record := some { r with generation := gen }, reserved := 0 }).commitMaster key
          | none => s
        else if kind = 2 then
          let d := leField record 0x20 2
          let n := leField record 0x22 1
          let s : State := { s with quill.enrolments := s.quill.enrolments.filter fun e => !(e.domain == d && e.custodian == n) }
          if allZero (record.take 32) then s.commitObject objEnrolment (d * 8 + n) (zeros 48)
          else match parseEnrolment? record with
            | some e => ({ s with quill.enrolments := s.quill.enrolments ++ [e] } : State).commitObject objEnrolment
                (d * 8 + n) e.toBytes
            | none => s
        else if kind = 3 ∧ sl.phase ≠ .ended then s.adopt c.slot record
        else s)

/-- EPOCH: an epoch of the active has ended, with its last admission and the CQ write indices of the functions that wrote
completions in it (R617). -/
def execEpoch (epoch last : Nat) (written : List (Nat × Nat)) (s : State) : Answer :=
  .next (
    if !s.standby || s.pair.epoch != epoch then s else
    let s := written.foldl (fun s w => s.takeIndex w.1 w.2) s
    s.endEpoch ((last + 1) % 2 ^ 64))

/-- GPIO: the standby drives its outputs to the active's values (R633); not while every GPIO is an input (R685). -/
def execGpio (value : BitVec 16) (s : State) : Answer :=
  .next (if s.standby then { s with pins.gpioOut := value } else s)

/-- The verdict of this half on a delta, whatever operation is in progress. -/
def State.judgeDelta (s : State) (b : Bytes) : Verdict :=
  State.judge { s with lodge.ctl.runOp := 2 } b

/-- A forwarded delta that finds an operation of the standby's own in progress: it is validated, its failing step is
recorded, and it is rejected either way, as a GO is (DESIGN CHOICE, log entry 94). -/
def State.refuseDelta (delta : Bytes) (s : State) : State :=
  let s := match s.judgeDelta delta with
    | .rejected step st => s.lodgeEvent 2 step st delta
    | .accepted _ => s
  { s with lodge.ctl.resultStatus := 0x0543, lodge.ctl.resultStep := 0, lodge.ctl.resultOp := 2 }

/-- DELTA: the standby validates a forwarded lodge delta for itself; what it rejects both halves abandon with 0x0543
(R111), STEP 0 (Table 3-13). It is an operation with OP 2 of the standby's LDG_ block, under its own
LDG_QUIESCE_TIMEOUT (DESIGN CHOICE, log entry 94). -/
def execDelta (delta : Bytes) (s : State) : Answer :=
  .next (
    if !s.standby then s
    else if s.lodge.ctl.phase ≠ .idle then s.refuseDelta delta
    else
      let chain := (s.lodge.record.current.map (·.chain)).getD 0
      let s := s.startLodge 2 .validate
      let s : State := { s with lodge.ctl.runLen := delta.length }
      match s.judge delta with
      | .rejected step st => (s.lodgeEvent 2 step st delta).endLodgeOp 0x0543
      | .accepted l => if 32 ≤ chain then s.endLodgeOp 0x0543 else s.writeLodge delta l)

/-! ## Confirmation and divergence -/

/-- RESULT: the standby's result hash of a command; one that differs from the active's own is a divergence of its epoch
(R622, R625). -/
def execResult (admission : Nat) (hash : Bytes) (s : State) : Answer :=
  .next (
    if !s.leads then s else
    match s.commandAt? admission with
    | none => s
    | some c =>
      let f := fun x : PairCommand => if x.admission = admission then { x with peerHash := some hash } else x
      let s : State := { s with pair.commands := s.pair.commands.map f }
      match c.ownHash with
      | some h => if h = hash then s else s.diverge c.epoch
      | none => s)

/-- DIGEST: the peer's digest of an epoch (R624, R625). -/
def execDigest (epoch : Nat) (digest : Bytes) (s : State) : Answer :=
  .next (
    if s.leads || s.standby then
      State.compareDigests epoch { s with pair.peerDigests := tset s.pair.peerDigests epoch digest }
    else s)

/-- RESULT_TIMEOUT: no RESULT has come within 10 ms after a command ended on the active (R625). Without a link in SYNC
the completions stay held until the lease lapses (R632). -/
def execResultTimeout (s : State) : Answer :=
  .next (
    if !s.leads || !s.anyLinkUp then s else
    let late := fun c : PairCommand =>
      !c.settled && !c.diverged && c.ownHash.isSome && c.peerHash.isNone
        && decide (c.endedAt + 10 * unitsPerMilli ≤ s.now)
    match s.pair.commands.find? late with
    | some c => s.diverge c.epoch
    | none => s)

/-- Begin the agreement of a new pair key when XMIT of a link has reached 2^47, at an epoch boundary (R614). -/
def State.refreshDue (s : State) : State :=
  if s.links.any fun l => decide (2 ^ 47 ≤ (s.link l).xmit) then
    match s.beginExchange with
    | some s => s.sendOffer s.streamLink
    | none => s
  else s

/-- EPOCH_BOUNDARY: 1 ms of the active's clock has passed; an EPOCH record names the last admission and the write indices
of the functions that wrote completions (R617, R624). -/
def execEpochBoundary (s : State) : Answer :=
  .next (
    if !s.leads || decide (s.now < s.pair.epochStart + unitsPerMilli) then s else
    let fs := (0 :: s.cubs).filter fun f => s.pair.wrote.contains f
    let last := (s.pair.admissionNext + (2 ^ 64 - 1)) % 2 ^ 64
    let s := s.sendRecord 5 (natLe 8 s.pair.epoch ++ natLe 8 last
      ++ fs.flatMap fun f => natLe 2 f ++ natLe 2 (s.ring f).cqWrite)
    let s : State := { s with pair.wrote := [] }
    (s.endEpoch s.pair.admissionNext).refreshDue)

/-! ## The lease -/

/-- LEASE_RENEWAL: every RENEW_MS an active half asks for the lease (R629). -/
def execLeaseRenewal (s : State) : Answer :=
  .next (
    if s.pair.phase = .active ∧ s.pair.lastRequestAt + s.packSec.renewMs * unitsPerMilli ≤ s.now then s.requestLease
    else s)

/-- LEASE_REQ: a standby grants it on its link; the first that a syncing half receives is the in-step start (R616, R629,
Table 18-5). -/
def execLeaseReq (link request : Nat) (s : State) : Answer :=
  .next (
    if !s.linkTakes link || decide (2 ^ 32 ≤ request) then s
    else if s.standby then s.grantLease link request
    else if s.pair.phase = .syncing then s.startStandby link request
    else s)

/-- GRANT: the lease runs to R + LEASE_MS, R being when the request was sent (R630). -/
def execGrant (request : Nat) (s : State) : Answer :=
  .next (
    if !s.leads then s else
    match tget? s.pair.requests request with
    | none => s
    | some r => { s with pair.leaseUntil := max s.pair.leaseUntil (r + s.packSec.lease) })

/-- LEASE_EXPIRY: the latest lease of an active half has expired; it fences, or enters SOLO with its witness input at 1
(R630, R640). -/
def execLeaseExpiry (s : State) : Answer :=
  .next (
    if !s.leads || decide (s.now < s.leaseEnd) then s
    else if s.witnessed then s.soloByWitness
    else s.fenceActive (if s.packSec.witness = 1 then 4 else 1))

/-- LEASE_LAPSE_TAKEOVER: the standby begins promotion at the time of R631; with WITNESS 0x01 only while its input reads 1
(R640). -/
def execLeaseLapseTakeover (found : List (Nat × List Nat)) (lists : List (Nat × Bytes)) (s : State) : Answer :=
  .next (
    if !s.standby || decide (s.now < s.pair.lastGrantAt + s.packSec.lapse) then s
    else if s.packSec.witness = 1 then if s.witnessed then s.promote 4 found lists else s
    else s.promote 1 found lists)

/-! ## Switch-over -/

/-- PACK_SWITCH: the active stops admission and fetching, sends RELEASE and fences (R635). -/
def execPackSwitch (s : State) : Answer :=
  .next (
    if s.pair.phase ≠ .active ∨ s.presented 0 packBase = false then s
    else (s.cancelAll.sendRelease 2).fenceActive 2)

/-- RELEASE: from the active, cause 2 or 3 starts promotion on the standby (R635 to R637), any other a divergence (R626);
from the standby it leaves the active in SOLO; a syncing half discards its items (Table 18-5). -/
def execRelease (cause last : Nat) (indices : List (Nat × Nat)) (found : List (Nat × List Nat))
    (lists : List (Nat × Bytes)) (s : State) : Answer :=
  .next (
    if 256 ≤ cause ∨ 2 ^ 64 ≤ last then s else
    match s.pair.phase with
    | .standby =>
      if cause = 2 ∨ cause = 3 then
        (indices.foldl (fun s w => s.takeIndex w.1 w.2) s).promote cause found lists
      else s.detachDiverged s.pair.epoch
    | .active => if s.pair.inStep then s.enterSolo else s
    | .syncing => s.detach
    | .solo => { s with pair.syncing := false, pair.syncHold := false, pair.syncItems := [] }
    | _ => s)

/-- PACK_SOLO: the solo key moves a DETACHED or FENCED half to SOLO (R642); a half that a tamper event has detached never
acts again before its re-initialisation (R636). -/
def execPackSolo (key : Reg) (s : State) : Answer :=
  .next (
    if s.presented 0 packBase = false ∨ key ≠ 0x50107296 ∨ s.pair.tampered = true then s
    else if s.pair.phase = .detached ∨ s.pair.phase = .fenced then s.soloByWitness
    else s)

/-- PACK_WITNESS_CHANGE: the input has a new value; a SOLO half whose input falls fences (R640). -/
def execPackWitnessChange (level : Bool) (s : State) : Answer :=
  .next (
    let s : State := { s with pair.witness := level, pair.witnessSince := if level = s.pair.witness then s.pair.witnessSince else s.now }
    if !level && s.packSec.witness == 1 && s.pair.phase == .solo then s.fence else s)

/-- WITNESS_HOLD_EXPIRY: a DETACHED half whose input has read 1 for the time of R631 enters SOLO (R640). -/
def execWitnessHoldExpiry (s : State) : Answer :=
  .next (
    if s.pair.phase = .detached ∧ s.witnessed = true ∧ s.pair.tampered = false
        ∧ s.pair.witnessSince + s.packSec.lapse ≤ s.now then s.soloByWitness
    else s)

/-! ## The exercise -/

/-- Units that fail their known answer, as the exercise finds them. -/
structure ExerciseFound where
  cores : List Nat := []
  bears : BitVec 32 := 0
  hedgehogs : BitVec 16 := 0
  keys : List KeyId := []
  deriving DecidableEq, Repr

/-- The domains that the exercise wakes: skulks and engine groups that UNITS enables and that are not awake. -/
def State.asleep (s : State) : List Nat := (List.range 34).filter fun d => s.domEnabled d && !s.awake d

/-- The bits of a mask that a test selects. -/
def maskBits (n m : Nat) (p : Nat → Bool) : Nat :=
  (List.range n).foldl (fun a i => a + (if bit m i && p i then 2 ^ i else 0)) 0

/-- Run the exercise (R628): the cores of awake skulks, the engines of enabled groups and every loaded master key. The
result is that of Table 18-2. -/
def State.exercise (x : ExerciseFound) (s : State) : Bytes × State :=
  let cores := (List.range Config.cores).filter fun c => x.cores.contains c && s.awake (domSkulk (c / 4))
  let bears := maskBits 32 x.bears.toNat fun m => s.domEnabled (domGroup false (m / 4))
  let hedgehogs := maskBits 16 x.hedgehogs.toNat fun j => s.domEnabled (domGroup true (j / 8))
  let keys := (s.sett.keys.filter fun e => isPersistent e.1 && e.2.record.isSome && x.keys.contains e.1).map Prod.fst
  let s := keys.foldl (fun s k => s.integrityFailure k 1) s
  let fine := cores.isEmpty && bears == 0 && hedgehogs == 0 && keys.isEmpty
  let map := (List.range 12).map fun i =>
    BitVec.ofNat 8 ((List.range 8).foldl (fun a b => a + (if cores.contains (8 * i + b) then 2 ^ b else 0)) 0)
  (natLe 1 (b2n !fine) ++ [0] ++ natLe 2 cores.length ++ natLe 4 bears ++ natLe 2 hedgehogs ++ natLe 4 keys.length ++ [0, 0]
    ++ map, s)

/-- The result of an exercise that does not run. -/
def exerciseRefused (outcome : Nat) : Bytes := natLe 1 outcome ++ zeros 27

/-- Whether an exercise is running: the active's own, or one of a command that still waits. -/
def State.exercising (s : State) : Bool :=
  s.pair.exerciseRunning &&
    match s.pair.exerciseSlot with
    | none => true
    | some k => ((s.slot? k).map fun sl => sl.phase == .waiting && sl.entry.opcode == 0x0600).getD false

/-- Wake what the exercise needs, and note who runs it. -/
def State.wakeForExercise (who : Option Nat) (s : State) : State :=
  let s := s.asleep.foldl (fun s d => s.beginWake d) s
  { s with pair.exerciseRunning := true, pair.exerciseSlot := who }

/-- PAIR_EXERCISE (0x0600): with WAKE it first wakes what is gated, and goes on when all of it is awake (R627, R628). -/
def execPairExercise (slot : Nat) (cores : List Nat) (bears : BitVec 32) (hedgehogs : BitVec 16) (keys : List Nat)
    (s : State) : Answer :=
  .next (
    let run := fun s : State =>
      let r := s.exercise ⟨cores, bears, hedgehogs, keys⟩
      r.2.succeed slot r.1
    if s.exercising && s.pair.exerciseSlot == some slot then
      if s.asleep.isEmpty then run { s with pair.exerciseRunning := false } else s
    else s.admin slot 0x0600 noLength (fun e => paramZero e [0] && decide (e.p 0 < 2)) fun sl s =>
      if s.pair.phase ≠ .active ∧ sl.admittedAsStandby = false then s.succeed slot (exerciseRefused 2)
      else if s.exercising then s.succeed slot (exerciseRefused 3)
      else if sl.entry.p 0 = 1 ∧ s.asleep ≠ [] then
        (s.wakeForExercise (some slot)).modSlot slot fun sl => { sl with phase := .waiting }
      else run s)

/-- The Owl event of an exercise that the active issues itself. -/
def State.exerciseEvent (outcome : Nat) (s : State) : State :=
  State.raise 0x103 (natLe 1 outcome ++ zeros 3 ++ natLe 4 s.pair.epoch) { s with pair.exerciseAt := s.now }

/-- EXERCISE_INTERVAL_EXPIRY: every EXERCISE_INTERVAL seconds the active issues an exercise of its own, with WAKE 1
(R627). -/
def execExerciseIntervalExpiry (cores : List Nat) (bears : BitVec 32) (hedgehogs : BitVec 16) (keys : List Nat)
    (s : State) : Answer :=
  .next (
    let p := s.packSec
    let run := fun s : State =>
      let r := s.exercise ⟨cores, bears, hedgehogs, keys⟩
      r.2.exerciseEvent (byteAt r.1 0).toNat
    if p.exerciseInterval = 0 ∨ s.pair.phase ≠ .active then s
    else if s.exercising && s.pair.exerciseSlot.isNone then
      if s.asleep.isEmpty then run { s with pair.exerciseRunning := false } else s
    else if s.now < s.pair.exerciseAt + p.exerciseInterval * unitsPerSecond then s
    else if s.exercising then s.exerciseEvent 3
    else if s.asleep.isEmpty then run s
    else s.wakeForExercise none)

end Sys2Proof.Machine
end

