-- ==== Sys2Proof/Machine/Pins.lean ====
section
/-! DEFINITION. GPIO, the IEEE 1149.1 port ("Package, Signals and Electrical Characteristics") and the PCI Express link
with its configuration requests ("Host Interface, Rings and Polling", "Start-Up, Reset and Firmware Images"). -/

namespace Sys2Proof.Machine

/-! ## GPIO -/

/-- Whether the DEV_ registers take writes: from READY or RECOVERY on (R487). -/
def State.devWritable (s : State) : Bool := s.boot.phase == .ready || s.boot.phase == .recovery

/-- A write to DEV_GPIO_DIR: on a half that acts, and not while every GPIO is an input (R684, R685). -/
def execDevGpioDirWrite (value : Reg) (s : State) : Answer :=
  .next (
    if s.devWritable && s.acts && !s.tamper.latched then { s with pins.gpioDir := value.setWidth 16 } else s)

/-- A write to DEV_GPIO_OUT: on a half that acts (R684); the active sends the values to its standby (R633). -/
def execDevGpioOutWrite (value : Reg) (s : State) : Answer :=
  .next (
    if s.devWritable && s.acts then
      let s : State := { s with pins.gpioOut := value.setWidth 16 }
      if s.leads then s.sendRecord 6 (natLe 2 s.pins.gpioOut.toNat) else s
    else s)

/-! ## The IEEE 1149.1 port -/

/-- The instruction of a number: 0 BYPASS, 1 IDCODE, 2 SAMPLE/PRELOAD, 3 EXTEST, 4 CLAMP, 5 HIGHZ, 6 DBG_ACCESS (the
codes are the model's own); any other is BYPASS. -/
def jtagInstr : Nat → JtagInstr
  | 1 => .idcode
  | 2 => .sample
  | 3 => .extest
  | 4 => .clamp
  | 5 => .highz
  | 6 => .dbgAccess
  | _ => .bypass

/-- What an instruction does in the state in force (R686, Table 14-2). -/
def State.jtagApplied (s : State) (i : JtagInstr) : JtagInstr :=
  if i.holds then if s.antler.state = .blank ∨ s.antler.state = .makerTest then i else .bypass
  else if i = .dbgAccess then if s.portOpen then i else .bypass
  else i

/-- IDCODE: 0x1729_6 and the maker's identity with a final 1. -/
def idcode : BitVec 32 := BitVec.ofNat 32 (0x17296000 + 2 * Config.jep106.toNat + 1)

/-- JTAG_INSTRUCTION: EXTEST, CLAMP and HIGHZ hold the device in a device reset with the link down; the next other
instruction ends the hold with a device reset of cause 3 (R686, R687). Without power the port does nothing. -/
def execJtagInstruction (code : Nat) (s : State) : Answer :=
  .next (
    if !s.power.powerGood || s.power.warning then s else
    let i := s.jtagApplied (jtagInstr code)
    let held := s.pins.jtag.holds
    if i.holds then
      let s := if held then s else s.restart .off 3 true
      { s with pins.jtag := i }
    else if held then State.warmReset 3 { s with pins.jtag := i }
    else
      let s : State := { s with pins.jtag := i }
      if i = .idcode then s.emit (.idcode idcode) else s)

/-! ## The link and configuration space -/

/-- Whether the link can be up: the device is powered and its boot ROM has not halted it. -/
def State.linkable (s : State) : Bool := s.boot.phase != .off && s.boot.phase != .halted

/-- Whether Configuration Request Retry Status ends while the device boots: 60 ms after the start of the reset (R484). -/
def State.retryEnds (s : State) : Bool :=
  s.boot.phase == .booting && s.host.linkUp && decide (s.boot.start + 60 * unitsPerMilli ≤ s.now)

/-- PCIE_LINK_UP: the link reaches L0 with a speed and a width of Table 4-19; later than the bound it ends Configuration
Request Retry Status (R484). -/
def execPcieLinkUp (speed width : Nat) (s : State) : Answer :=
  .next (
    if !s.linkable || speed == 0 || decide (5 < speed) || !([1, 2, 4, 8, 16] : List Nat).contains width then s else
    let s : State := { s with host.linkUp := true, host.linkSpeed := speed, host.linkWidth := width }
    if s.retryEnds then { s with boot.phase := .configured } else s)

/-- Whether a function answers configuration requests: function 0, and the virtual functions that exist (R409),
none in recovery (R494). -/
def State.configurable (s : State) (f : Nat) : Bool :=
  f == 0 || (s.boot.phase != .recovery && s.cub.vfEnable && decide (f < s.cub.numVfs) && decide (f < Config.functions))

/-- The PCI Express Vendor ID and Device ID of a function (Table 4-1). -/
def configIds (f : Nat) : Nat := Config.vendorId.toNat + (if f = 0 then 0x7296 else 0x7297) * 2 ^ 16

/-- The size of BAR0 of a function (R34, R37). -/
def barSize (f : Nat) : Nat := if f = 0 then 0x2000000 else 0x10000

/-- Transactions Pending of a function: it reads 1 while a read of the function's is outstanding, and from the start of a
function-level reset of it to the reset-complete indication (Table 11-2, R419). -/
def State.transactionsPending (s : State) (f : Nat) : Bool :=
  ((s.fnSt f).resets.any fun o => o.kind == .vfFlr || o.kind == .pfFlr)
    || (s.slotsOf f).any fun e => e.2.phase == .fetching || e.2.phase == .admitted

/-- What a configuration read of an item returns. Items 16 to 28 are the identity, SR-IOV and power fields, items 29 to 43
the other features of Table 4-1; item 64 + c says whether the function has the capability of number c, 128 + c whether it has
the extended capability c. Any other item is the standard's and its value is free. -/
def State.configValue (s : State) (f item : Nat) : Option Nat :=
  match item with
  | 16 => some (configIds f)
  | 17 => some 0x108000
  | 18 => some 0
  | 19 => some 2047
  | 20 => some 2047
  | 21 => some 1
  | 22 => some 1
  | 23 => some 1
  | 24 => some s.cub.numVfs
  | 25 => some (b2n s.cub.vfEnable)
  | 26 => some (b2n (s.fnSt f).busMaster)
  | 27 => some (b2n (s.fnSt f).relaxed)
  | 28 => some (if f = 0 ∧ s.host.d3hot = true then 3 else 0)
  | 29 => some 512
  | 30 => some (s.fnSt f).maxPayload
  | 31 => some (s.fnSt f).maxRead
  | 32 => some (b2n (s.transactionsPending f))
  | 33 => some (b2n (s.fnSt f).nonFatal)
  | 34 => some (barSize f)
  | 35 => some 0b0100
  | 36 => some 0
  | 37 => some 0x10000
  | 38 => some 0b0100
  | 39 => some 1
  | 40 => some 1
  | 41 => some 0
  | 42 => some 0b10
  | 43 => some 5
  | _ =>
    if 64 ≤ item ∧ item < 128 then
      if item = 64 + 5 ∨ item = 64 + 0x11 then some 0 else if item = 64 + 0x10 then some 1 else none
    else if 128 ≤ item then
      if [1, 0x10].contains (item - 128) then some (b2n (f == 0))
      else if item - 128 = 0xE then some 1
      else if [0xF, 0x13, 0x17, 0x1B, 0x1E].contains (item - 128) then some 0
      else none
    else none

/-- Bus Master Enable of a function. -/
def State.setBusMaster (f : Nat) (b : Bool) (s : State) : State :=
  (s.setFn f { s.fnSt f with busMaster := b }).noteEligible

/-- A size in bytes that a Device Control field of 3 bits encodes, up to a largest one. -/
def controlSize (v largest : Nat) : Option Nat := if 128 * 2 ^ v ≤ largest then some (128 * 2 ^ v) else none

/-- A configuration write of an item: 0 Bus Master Enable, 1 Enable Relaxed Ordering, 2 Initiate Function-Level Reset, 3
NumVFs, 4 VF Enable, 5 the power state, 6 Max_Payload_Size, 7 Max_Read_Request_Size, 8 a 1 to Non-Fatal Error Detected.
NumVFs stands while VF Enable is set, virtual functions have only D0, and recovery offers none (R494). -/
def State.configWrite (f item : Nat) (value : Word) (s : State) : Answer :=
  let v := value.toNat
  match item with
  | 0 => .next (s.setBusMaster f (bit v 0))
  | 1 => .next (s.setFn f { s.fnSt f with relaxed := bit v 0 })
  | 2 => if bit v 0 then if f = 0 then execPfFlr s else execVfFlr f s else .next s
  | 3 =>
    .next (
      if f = 0 ∧ s.cub.vfEnable = false ∧ s.boot.phase ≠ .recovery ∧ v ≤ 2047 then { s with cub.numVfs := v } else s)
  | 4 =>
    if f ≠ 0 ∨ s.boot.phase = .recovery then .next s
    else if bit v 0 then .next { s with cub.vfEnable := true }
    else execVfEnableClear s
  | 5 =>
    if f ≠ 0 then .next s
    else if v % 4 = 3 then execD3hotEntry s
    else if v % 4 = 0 then execD0Entry s
    else .next s
  | 6 => .next (s.setFn f { s.fnSt f with maxPayload := (controlSize v 512).getD (s.fnSt f).maxPayload })
  | 7 => .next (s.setFn f { s.fnSt f with maxRead := (controlSize v 4096).getD (s.fnSt f).maxRead })
  | 8 => .next (s.setFn f { s.fnSt f with nonFatal := (s.fnSt f).nonFatal && !bit v 0 })
  | _ => .next s

/-- CONFIGURATION_REQUEST: a request to a function's configuration space; items below 16 are writes. Before readiness it
is answered with Configuration Request Retry Status (R117, R484). -/
def execConfigurationRequest (fn item : Nat) (value : Word) (s : State) : Answer :=
  if !s.host.linkUp || !s.linkable then .next s else
  let s : State := if s.retryEnds then { s with boot.phase := .configured } else s
  if s.boot.phase = .booting then .next (s.emit (.config fn true 0))
  else if !s.configurable fn then .next s
  else if item < 16 then (s.emit (.config fn false 0)).configWrite fn item value
  else match s.configValue fn item with
    | some v => .next (s.emit (.config fn false (BitVec.ofNat 64 v)))
    | none =>
      let r := s.free
      .next (r.2.emit (.config fn false (BitVec.ofNat 64 r.1)))

end Sys2Proof.Machine
end

