-- ==== Sys2Proof/Machine/Power.lean ====
section
/-! DEFINITION. The isolated link, the switched domains, den requests and the PWR_ writes ("Power, Clocks and
Isolation"). -/

namespace Sys2Proof.Machine

/-! ## The isolated link and the line input -/

/-- ISOLATED_LINK_FRAME: a valid frame brings line voltage and input current and is answered; a frame whose CRC fails or
whose sequence number does not follow is counted and ignored (R648, R649). -/
def execIsolatedLinkFrame (crcOk follows : Bool) (centivolts milliamps : Nat) (s : State) : Answer :=
  .next (
    if !s.power.powerGood then s
    else if !crcOk || !follows then
      let c := SatCount.add count31 1 s.power.linkErrors
      ({ s with power.linkErrors := c.1 } : State).saturated c.2 pwrBase 0x58
    else
      let s : State := { s with
        power.lineCentivolts := centivolts, power.lineMilliamps := milliamps,
        power.inputDeciwatts := centivolts * milliamps / 10000, power.linkValidAt := s.now, power.linkUp := true,
        power.linkSeq := s.power.linkSeq + 1 }
      s.emit (.isolated s.power.modeInForce s.targetNow s.power.linkSeq))

/-- ISOLATED_LINK_LOST: no valid frame for 50 µs loses the link and raises the warning with cause 3 (R649, R650). -/
def execIsolatedLinkLost (s : State) : Answer :=
  .next (
    if !s.power.linkUp || decide (s.now < s.power.linkValidAt + 50 * unitsPerMicro) then s
    else State.powerFail 3 { s with power.linkUp := false })

/-- LINE_UNDERVOLTAGE: below 34.0 V for 10 µs (R651). -/
def execLineUndervoltage (centivolts : Nat) (s : State) : Answer :=
  .next (if centivolts < 3400 then s.powerFail 1 else s)

/-- LINE_OVERVOLTAGE: above 62.0 V for 10 µs (R651). -/
def execLineOvervoltage (centivolts : Nat) (s : State) : Answer :=
  .next (if 6200 < centivolts then s.powerFail 2 else s)

/-- CONVERTER_FAULT (R651). -/
def execConverterFault (s : State) : Answer := .next (s.powerFail 4)

/-- POWER_RAMP_DONE: the target has reached its end value; a return to Sleep is then in force (R654). -/
def execPowerRampDone (s : State) : Answer :=
  .next (
    if !s.power.ramping || s.targetNow != s.power.targetGoal then s
    else { s with power.target := s.power.targetGoal, power.modeInForce := s.power.mode })

/-! ## Gating and waking -/

/-- Whether the idle delay of an awake unit has passed (R663); domain 34 in D3hot with no slot held and no completion
due (Table 19-2). -/
def State.idleLong (s : State) (d : Nat) : Bool :=
  s.awake d &&
    if d = domHost then s.host.d3hot && s.host.slots.isEmpty && s.host.due.isEmpty
    else decide (d < 34) && s.domEnabled d && !s.alwaysOn d && s.power.idleDelay != 0xFFFFFFFF
      && decide ((s.dom d).idleSince + s.power.idleDelay.toNat * unitsPerMicro ≤ s.now)

/-- Whether a unit may be gated at its idle delay (R663). -/
def State.idleGate (s : State) (d : Nat) : Bool := s.idleLong d && (d == domHost || !s.claimed d)

/-- IDLE_GATE_EXPIRY: an unclaimed unit that has been idle for IDLE_GATE_DELAY is gated (R663); a pending request of
the domain is done (Table 19-3). A group that only its operand memories claim clears them first (R375). -/
def execIdleGateExpiry (domain : Nat) (s : State) : Answer :=
  .next (
    if s.idleGate domain then (s.endGateRequest 0 domain).beginGate domain
    else if s.idleLong domain then s.startClears domain
    else s)

/-- GATE_COMPLETE: the wipe is verified and the domain is isolated and switched off (R661, R455). -/
def execGateComplete (domain : Nat) (bad : Option (Nat × Nat)) (s : State) : Answer :=
  .next (
    if (s.dom domain).gatingUntil.isNone then s else
    let s := s.setDom domain { s.dom domain with gatingUntil := none }
    s.wipeFailed wipeGating bad)

/-- DOMAIN_WAKE_DONE: 20 µs after the wake began the memories are initialised and the domain takes work: a skulk's
larder, wiped since the wake began, is zero and verified, and its context store is zero; a Bear group's program stores hold BEAR_MICROCODE (R662, R455). -/
def execDomainWakeDone (domain : Nat) (bad : Option (Nat × Nat)) (s : State) : Answer :=
  .next (
    match (s.dom domain).wakingUntil with
    | none => s
    | some t =>
      if s.now < t ∨ (s.dom domain).gatingUntil.isSome = true then s else
      let s := s.setDom domain { s.dom domain with awake := true, wakingUntil := none, idleSince := s.now }
      let s := if domain < 24 then s.wipeContexts (· == domain)
        else if domain < 32 then
          let words := (List.range s.boot.microcode.length).zip s.boot.microcode
          (groupEngines false (domain - 24)).foldl (fun s e =>
            s.setEngine false e { s.engine false e with store0 := words, store1 := words }) s
        else s
      s.wipeFailed wipeWake bad)

/-! ## Den requests -/

/-- Whether the PWR_ block is presented. -/
def State.pwrShown (s : State) : Bool := s.presented 0 pwrBase

/-- Whether the device accepts a gate or wake request for a domain (R666). -/
def State.reqPermitted (s : State) (d : Nat) : Bool :=
  decide (d < 34) && s.power.denPolicy && s.lodge.inForce.isSome && !s.tamper.locked && s.domEnabled d

/-- PWR_WAKE: a gated domain wakes; the idle timer of an awake one restarts; a pending gate request is cancelled (R670,
Table 19-3). -/
def execPwrWake (domain : Nat) (s : State) : Answer :=
  .next (
    if !s.pwrShown then s
    else if 36 ≤ domain then s.reqResult 4 (domain % 64) 1
    else if !s.reqPermitted domain then s.reqResult 3 domain 1
    else
      let s := s.endGateRequest 5 domain
      let s := if s.awake domain then s.touchDom domain else s.beginWake domain
      s.reqResult 0 domain 1)

/-- PWR_GATE: an unclaimed domain is gated at once; a claimed or waking one is deferred (R667, Table 19-3), and its idle
engines begin to clear their operand memories (R375). -/
def execPwrGate (domain : Nat) (s : State) : Answer :=
  .next (
    if !s.pwrShown then s
    else if 36 ≤ domain then s.reqResult 4 (domain % 64) 2
    else if !s.reqPermitted domain || s.alwaysOn domain then s.reqResult 3 domain 2
    else if s.gated domain then s.reqResult 0 domain 2
    else if s.waking domain || s.claimed domain then
      let at' := (s.dom domain).gateRequestedAt.getD s.now
      ((s.setDom domain { s.dom domain with gateRequestedAt := some at' }).reqResult 1 domain 2).startClears domain
    else (s.beginGate domain).reqResult 0 domain 2)

/-- PWR_CANCEL: a pending gate request is cleared (R670). -/
def execPwrCancel (domain : Nat) (s : State) : Answer :=
  .next (
    if !s.pwrShown then s
    else if 36 ≤ domain then s.reqResult 4 (domain % 64) 3
    else if s.gatePending domain then
      (s.setDom domain { s.dom domain with gateRequestedAt := none }).reqResult 5 domain 3
    else s.reqResult 0 domain 3)

/-- DEFERRED_GATE: the domain of a pending request is gated at the first moment at which it is not claimed (R667); a
group that its operand memories still claim clears them (R375). -/
def execDeferredGate (domain : Nat) (s : State) : Answer :=
  .next (
    if !s.gatePending domain || !s.awake domain then s
    else if s.claimed domain then s.startClears domain
    else (s.endGateRequest 0 domain).beginGate domain)

/-- GATE_REQUEST_TIMEOUT: a request still deferred 50,000 µs after its write is refused and recorded (R669). -/
def execGateRequestTimeout (domain : Nat) (s : State) : Answer :=
  .next (
    match (s.dom domain).gateRequestedAt with
    | none => s
    | some t =>
      if s.now < t + 50000 * unitsPerMicro then s else
      let s := s.endGateRequest 2 domain
      let c := SatCount.add count31 1 s.power.refusals
      let s := ({ s with power.refused := s.power.refused ||| BitVec.ofNat 64 (2 ^ domain), power.refusals := c.1 } : State).reload
        0 0x500038
      (s.saturated c.2 pwrBase 0x54).raise 0x110 (natLe 1 domain ++ zeros 3))

/-! ## Register writes -/

/-- PWR_MODE_WRITE: MODE and CEILING take effect through the ramp (R678); a locked register keeps its value (R14). -/
def execPwrModeWrite (value : Reg) (s : State) : Answer :=
  .next (
    if !s.pwrShown || s.power.locked then s
    else s.setMode (value.getLsbD 0) (bits value.toNat 26 16))

/-- PWR_ALWAYS_ON_WRITE: every newly always-on domain that is gated is woken (R678); a locked register keeps its value
(R14). -/
def execPwrAlwaysOnWrite (value : Word) (s : State) : Answer :=
  .next (if !s.pwrShown || s.power.locked then s else s.setAlwaysOn value)

end Sys2Proof.Machine
end

