-- ==== Sys2Proof/Machine/RegRead.lean ====
section
/-! DEFINITION. The value of every register of the den BAR0 and of a cub BAR0 (Tables 1-9 and 1-10), and what a read
clears (R13). -/

namespace Sys2Proof.Machine

/-! ## Fields -/

/-- A field of n bits of a signed value. -/
def signedField (n : Nat) (v : Int) : Nat := (BitVec.ofInt n v).toNat

/-- The domain bits that satisfy a test. -/
def domainBits (p : Nat → Bool) : Nat := (List.range 36).foldl (fun n d => n + b2n (p d) * 2 ^ d) 0

/-- The 32 bits n of a number of 256 or 512 bits. -/
def word32 (v n : Nat) : Nat := v / 2 ^ (32 * n) % 2 ^ 32

/-- Whether an offset is an element of an array of words: base, stride and number of elements. -/
def inArray (off base stride n : Nat) : Bool := decide (base ≤ off) && decide (off < base + stride * n) && (off - base) % stride == 0

/-! ## Ring registers (Tables 4-6 to 4-17) -/

/-- CUB_RING_STATUS. -/
def State.ringStatus (s : State) (f : Nat) : Nat :=
  let r := s.ring f
  b2n r.enabled + 2 * b2n r.draining + 4 * b2n r.dbError + 8 * b2n r.fetchError + 16 * b2n (s.cqStall f)
    + 32 * b2n (s.fnHeld f) + s.sqHeadOf f * 2 ^ 16

/-- A ring register of a function, at its offset in a cub BAR0. -/
def State.ringReg (s : State) (f off : Nat) : Nat :=
  let r := s.ring f
  match off with
  | 0x100 => r.sqBase.toNat
  | 0x108 => r.sqLog2
  | 0x110 => r.cqBase.toNat
  | 0x118 => r.cqLog2
  | 0x11C => b2n r.enable
  | 0x120 => s.ringStatus f
  | 0x124 => r.cqWrite + b2n r.phase * 2 ^ 16
  | 0x1000 => r.sqTail
  | 0x1004 => r.cqHead
  | 0x2000 => r.pwAddr.toNat
  | 0x2008 => b2n r.pwEnable + r.pwInterval * 2 ^ 8
  | _ => 0

/-! ## Function registers (Tables 11-10 to 11-22) -/

/-- STATE and SCOPE of CUB_MIG_STATE, with the activity of the dirty-page log. -/
def FnState.migWord (v : FnState) : Nat :=
  (match v.mig with
    | .none => 0
    | .freezing => 1
    | .frozen => 2
    | .saved => 3
    | .incoming => 4) + 8 * v.migScope + 32 * b2n v.dirty.isSome

/-- RESET_KIND of the reset in progress; of two that combine, the one that began first. -/
def FnState.resetKind (v : FnState) : Nat :=
  match v.resets with
  | [] => 0
  | o :: _ => match o.kind with
    | .cubReset => 1
    | .vfFlr | .pfFlr => 2
    | .flush => 3
    | .freeze => 4

/-- A register of a cub's BAR0 outside its ring registers. -/
def State.cubReg (s : State) (f off : Nat) : Nat :=
  let r := s.fnRec? f
  let v := s.fnSt f
  match off with
  | 0 => f + ((r.map (·.domain)).getD 0xFFFF) * 2 ^ 16
  | 4 => b2n r.isSome + 2 * b2n s.antler.debug + 4 * b2n (!v.resets.isEmpty) + 8 * b2n (v.mig != .none)
      + 16 * b2n (s.deltaHold f)
  | 8 => (r.map fun x => x.creditLimit + x.persMask.toNat * 2 ^ 16).getD 0
  | 0x3000 => v.migWord
  | _ => 0

/-- A register of a CUBT_ entry. -/
def State.cubtReg (s : State) (f off : Nat) : Nat :=
  let r := s.fnRec? f
  let v := s.fnSt f
  match off with
  | 0 => (r.map fun x => x.poolId + 2 ^ 8 + x.domain * 2 ^ 16).getD 0xFFFF00FF
  | 4 => (r.map fun x => x.weight + x.creditLimit * 2 ^ 16).getD 0
  | 8 => (r.map fun x => x.persMask.toNat + bits x.flags.toNat 1 0 * 2 ^ 16).getD 0
  | 0xC => s.inFlight f + s.ringState f * 2 ^ 12 + b2n (!v.resets.isEmpty) * 2 ^ 16 + v.resetKind * 2 ^ 17
  | 0x10 => countWord v.squashed
  | 0x14 => countWord v.undelivered
  | 0x18 => v.migWord + 64 * b2n v.dirtyOutside
  | _ => 0

/-! ## DEV_ (Tables 13-9 to 13-25, 20-3) -/

/-- DEV_FW_STATUS. -/
def State.fwStatus (s : State) : Nat :=
  let b := s.boot
  let other := b.slotOf (1 - b.slot)
  b2n (b.fwPhase != .idle) + 2 * b.preferred + 4 * b2n b.slotA.valid + 8 * b2n b.slotB.valid
    + 16 * b2n (decide (b.antiRollback < b.runningSvn))
    + 32 * b2n (other.valid && decide (b.antiRollback ≤ fwSvn other.flash)) + 64 * b2n b.saturated

/-- A DEV_ register; DEV_GPIO_IN is read by `State.gpioLevels`. -/
def State.devReg (s : State) (off : Nat) : Nat :=
  let b := s.boot
  if inArray off 0x10 4 4 then leField Config.deviceId (off - 0x10) 4 else
  match off with
  | 0 => configIds 0
  | 0x20 => Config.skulks + 8 * 2 ^ 8 + 2 * 2 ^ 12 + Config.quillPorts * 2 ^ 16 + Config.packLinks * 2 ^ 20
  | 0x24 => 16
  | 0x30 => b2n (b.phase == .ready) + 2 * b2n (b.phase == .recovery)
  | 0x34 => b.slot + 2 * b2n b.fallback + b.outcomeA * 2 ^ 8 + b.outcomeB * 2 ^ 16 + b.cause * 2 ^ 24
  | 0x38 => b.timeMs
  | 0x40 => b.runningVersion.toNat
  | 0x44 => b.runningSvn + b.antiRollback * 2 ^ 16
  | 0x48 => b.fwOp.toNat
  | 0x50 => b.fwSrcAddr.toNat
  | 0x58 => b.fwSrcLen.toNat
  | 0x5C => s.fwStatus
  | 0x60 => b.fwOutcome + b.fwResultOp.toNat * 2 ^ 8
  | 0x100 => s.pins.gpioDir.toNat
  | 0x104 => s.pins.gpioOut.toNat
  | _ => 0

/-! ## GST_ and EVR_ (Tables 16-6 to 16-9) -/

/-- HIF_RING_ERROR_n: a bit of each function whose ring has an error (R161). -/
def State.ringError (s : State) (n : Nat) : Nat :=
  (List.range 32).foldl (fun w b => w + b2n ((s.ring (32 * n + b)).dbError || (s.ring (32 * n + b)).fetchError) * 2 ^ b) 0

/-- Whether any ring has an error. -/
def State.anyRingError (s : State) : Bool := s.host.rings.any fun e => e.2.dbError || e.2.fetchError

/-- The granules of the retained records that host software has not harvested. -/
def OwlState.unharvested (o : OwlState) : Nat :=
  (o.records.filter fun r => decide (o.harvested ≤ r.seq)).foldl (fun n r => n + owlSize r.payload.length) 0

/-- GST_SUMMARY: level bits follow their sources, W1C bits stand (R589). -/
def State.summaryWord (s : State) : Nat :=
  let level : Nat :=
    4 * b2n s.tamper.latched + 8 * b2n s.lodge.inForce.isNone + 16 * b2n s.lodge.ctl.fallback
      + 32 * b2n s.boot.fallback + 64 * b2n s.antler.debug + 2 ^ 9 * b2n (decide (s.rng.healthy < 2))
      + 2 ^ 10 * b2n s.rng.stopped + 2 ^ 11 * b2n (s.mem.withdrawn != 0) + 2 ^ 12 * b2n s.anyRingError
      + 2 ^ 15 * b2n (decide (3 * owlGranules ≤ 4 * s.owl.unharvested)) + 2 ^ 17 * b2n s.cartridgeWarn
      + 2 ^ 18 * b2n (calibrated.any fun m => s.stale m) + 2 ^ 21 * b2n (!s.calendar.isSet)
  (s.status.sticky ||| BitVec.ofNat 32 level).toNat

/-- A GST_ register. -/
def State.gstReg (s : State) (off : Nat) : Nat :=
  match off with
  | 0 => s.summaryWord
  | 8 => s.owl.seqCommitted.getD Config.noSequence.toNat
  | 0x10 => s.owl.privCommitted.getD Config.noSequence.toNat
  | _ => 0

/-- An EVR_ register. -/
def State.evrReg (s : State) (off : Nat) : Nat :=
  let o := s.owl
  if inArray off 0x60 4 8 then (o.nonce.toList.getD ((off - 0x60) / 4) 0).toNat
  else if inArray off 0x80 4 8 then word32 o.chainStored.toNat ((off - 0x80) / 4)
  else match off with
  | 0 => b2n o.busy
  | 4 => o.control.toNat
  | 8 => o.dstAddr.toNat
  | 0x10 => o.dstLen.toNat
  | 0x14 => o.outcome + o.resultOp.toNat * 2 ^ 8 + o.resultCount * 2 ^ 16
  | 0x18 => o.readSeq.toNat
  | 0x20 => o.seqNext
  | 0x28 => o.oldest
  | 0x30 => o.harvested
  | 0x38 => calendarWord s.calNow (!s.calendar.isSet)
  | 0x40 => o.timeSet.toNat
  | 0x48 => countWord o.lost
  | 0x4C => countWord o.dropped
  | 0x50 => countWord o.folded
  | _ => 0

/-! ## HIF_ (Tables 4-18 to 4-24) -/

/-- A HIF_ register. -/
def State.hifReg (s : State) (off : Nat) : Nat :=
  if inArray off 0x3000 4 64 then s.ringError ((off - 0x3000) / 4) else
  match off with
  | 0 => s.host.linkSpeed + s.host.linkWidth * 2 ^ 4
  | 4 => s.host.slots.length + (s.slotsOf 0).length * 2 ^ 16
  | 8 => s.host.slotHigh
  | 0xC => countWord s.host.denied
  | 0x10 => (s.host.slots.filter fun e => e.2.phase == .missPen).length
  | _ => s.ringReg 0 off

/-! ## LDG_ (Tables 3-7 to 3-19) -/

/-- PHASE of LDG_STATUS. -/
def LodgePhase.code : LodgePhase → Nat
  | .idle => 0
  | .fetch => 1
  | .validate => 2
  | .flashWrite => 3
  | .quiescing => 4
  | .commit => 5

/-- The affected pools that hold slots during phase 4. -/
def State.heldPools (s : State) : Nat :=
  if s.lodge.ctl.phase = .quiescing then
    (List.range 24).foldl (fun n p => n + b2n (s.lodge.ctl.affected.contains p && s.poolSlots p != 0) * 2 ^ p) 0
  else 0

/-- An LDG_ register. -/
def State.ldgReg (s : State) (off : Nat) : Nat :=
  let c := s.lodge.ctl
  let r := s.lodge.record
  match off with
  | 0 => c.op.toNat
  | 8 => c.srcAddr.toNat
  | 0x10 => c.srcLen.toNat
  | 0x14 => c.quiesceMs
  | 0x18 => b2n (c.phase != .idle) + 2 * c.phase.code + 16 * b2n r.staged.isSome + 32 * b2n c.fallback
      + 64 * b2n s.lodge.inForce.isNone
  | 0x1C => c.resultStatus.toNat + c.resultStep * 2 ^ 16 + c.resultOp.toNat * 2 ^ 24
  | 0x20 => (s.lodge.inForce.map (·.serial)).getD 0
  | 0x28 => r.highSerial
  | 0x30 => (r.previous.map (·.serial)).getD 0
  | 0x38 => (r.staged.map (·.serial)).getD 0
  | 0x40 => s.heldPools
  | 0x44 => if s.lodge.inForce.isSome then (r.current.map (·.chain)).getD 0 else 0
  | _ => 0

/-! ## PWR_ (Tables 19-6, 19-7) -/

/-- PWR_STATUS. -/
def State.pwrStatus (s : State) : Nat :=
  let p := s.power
  b2n p.modeInForce + 2 * b2n p.ramping + 4 * b2n (decide (s.duty < 256)) + 8 * b2n p.holdupArmed + 16 * b2n p.warning
    + 32 * b2n p.linkUp + 64 * b2n p.denPolicy + 128 * b2n p.locked

/-- A PWR_ register. -/
def State.pwrReg (s : State) (off : Nat) : Nat :=
  let p := s.power
  match off with
  | 0 => s.pwrStatus
  | 4 => b2n p.mode + p.ceiling * 2 ^ 16
  | 8 => p.idleDelay.toNat
  | 0x10 => p.alwaysOn.toNat
  | 0x18 => domainBits s.powered
  | 0x20 => domainBits s.claimed
  | 0x28 => domainBits s.gatePending
  | 0x34 => p.reqOutcome + p.reqDomain * 2 ^ 8 + p.reqOp * 2 ^ 14
  | 0x38 => p.refused.toNat
  | 0x40 => p.lineCentivolts + p.lineMilliamps * 2 ^ 16
  | 0x44 => p.inputDeciwatts + s.demand / 100 * 2 ^ 16
  | 0x48 => s.duty + s.budget / 100 * 2 ^ 16
  | 0x4C => p.plls.toNat
  | 0x50 => countWord p.wakes
  | 0x54 => countWord p.refusals
  | 0x58 => countWord p.linkErrors
  | 0x5C => p.lastWarning
  | _ => 0

/-! ## TMP_ (Tables 15-7 to 15-19) -/

/-- TMP_CELL_n. -/
def State.cellWord (s : State) (c : Nat) : Nat :=
  let v := s.cell c
  b2n v.present + 2 * b2n v.idValid + 4 * b2n (s.servingCell? == some c) + 8 * b2n (decide (v.volts < 260))
    + v.volts * 2 ^ 16

/-- TMP_CELL_LIFE_n. -/
def State.cellLife (s : State) (c : Nat) : Nat :=
  let v := s.cell c
  s.remaining v + 128 * b2n (s.expired v) + min 0x1FFFFF v.used * 2 ^ 8

/-- TMP_LID_n. -/
def Lid.word (l : Lid) : Nat := b2n l.chanA + 2 * b2n l.chanB + 4 * l.state + l.run * 2 ^ 16

/-- TMP_MON_AUX_m. -/
def State.monAux (s : State) (m : Nat) : Nat :=
  if calibrated.contains m then
    let c := s.calibration m
    signedField 12 c.temp + c.load % 64 * 2 ^ 12 + b2n (s.stale m) * 2 ^ 18 + signedField 12 c.value * 2 ^ 20
  else s.monN m

/-- The registers of a monitor of Table 15-1 (R561). -/
def State.monReg (s : State) (m off : Nat) : Nat :=
  if (monSpec? m).isNone then 0 else
  match off with
  | 0 => signedField 16 ((s.monLower m).getD 0) + signedField 16 ((s.monUpper m).getD 0) * 2 ^ 16
  | 4 => s.monK m + s.monW m * 2 ^ 16
  | 8 => countWord (s.monitor m).count
  | 0xC => s.monAux m
  | _ => 0

/-- TMP_STATUS. -/
def State.tmpStatus (s : State) : Nat :=
  b2n s.tamper.latched + 2 * s.tamper.response + 8 * b2n (s.tamper.sites.any fun e => e.2.degraded)
    + 16 * b2n (calibrated.any fun m => s.stale m) + 32 * b2n s.cartridgeWarn

/-- A TMP_ register outside arrays. -/
def State.tmpWord (s : State) (off : Nat) : Nat :=
  let t := s.tamper
  match off with
  | 0 => s.tmpStatus
  | 4 => t.latchMonitor + t.latchKind * 2 ^ 10 + b2n t.onBattery * 2 ^ 13
  | 8 => t.latchTime.toNat
  | 0x10 => countWord t.confirmed
  | 0x14 => min 0xFF t.rootZeroTenths + min 0xFFFF t.doneMicros * 2 ^ 8
  | 0x18 => signedField 12 t.highest + signedField 12 t.lowest * 2 ^ 16
  | 0x40 => t.meshOpen.toNat + 16 * t.meshShort.toNat
  | 0x44 => countWord t.busCode
  | 0x60 => leField (s.cell 0).identity 0 8
  | 0x68 => leField (s.cell 1).identity 0 8
  | 0xA0 => (calibrated.filter fun m => s.stale m).length
      + (calibrated.filter fun m => (s.monitor m).queued).length * 2 ^ 16
  | _ => 0

/-- TMP_CELL_INFO_n. -/
def Cell.infoWord (v : Cell) : Nat := v.made + v.capacity % 2 ^ 12 * 2 ^ 16 + v.ratedYears % 16 * 2 ^ 28

/-- A TMP_ register. -/
def State.tmpReg (s : State) (off : Nat) : Nat :=
  if 0x1000 ≤ off then s.monReg ((off - 0x1000) / 16) (off % 16)
  else if inArray off 0x20 4 4 then (tget s.tamper.lids ((off - 0x20) / 4) {}).word
  else if inArray off 0x30 4 4 then countWord (tget s.tamper.lids ((off - 0x30) / 4) {}).glitches
  else if inArray off 0x50 4 2 then s.cellWord ((off - 0x50) / 4)
  else if inArray off 0x58 4 2 then s.cellLife ((off - 0x58) / 4)
  else if inArray off 0x70 4 2 then (s.cell ((off - 0x70) / 4)).infoWord
  else if inArray off 0x80 4 8 then
    (List.range 32).foldl (fun n b => n + b2n ((tget s.tamper.sites (8 * (off - 0x80) + b) {}).degraded) * 2 ^ b) 0
  else s.tmpWord off

/-! ## LCS_ (Tables 14-14 to 14-24) -/

/-- PHASE of LCS_STATUS. -/
def LcPhase.code : LcPhase → Nat
  | .idle => 0
  | .fetch => 1
  | .check => 2
  | .quiescing => 3
  | .wiping => 4
  | .copies => 5

/-- The unlock tokens that are spent. -/
def unlocksSpent (u : BitVec 16) : Nat := ((List.range 16).filter fun i => u.getLsbD i).length

/-- An LCS_ register. -/
def State.lcsReg (s : State) (off : Nat) : Nat :=
  let a := s.antler
  if inArray off 0x40 4 16 then leField (a.challenge.getD []) (off - 0x40) 4
  else if inArray off 0x80 4 8 then
    if a.state = .blank then 0 else word32 a.ownerDigest.toNat ((off - 0x80) / 4)
  else match off with
  | 0 => a.stateWord
  | 4 => a.unlockUsed.toNat + (16 - unlocksSpent a.unlockUsed) * 2 ^ 16
  | 8 => a.op.toNat
  | 0x10 => a.srcAddr.toNat
  | 0x18 => a.srcLen.toNat
  | 0x1C => b2n (a.phase != .idle) + 2 * a.phase.code
  | 0x20 => a.outcome + a.resultOp.toNat * 2 ^ 8
  | 0x24 => a.debugCount + b2n a.debugOverflow * 2 ^ 31
  | 0x28 => countWord a.tokenFails
  | 0x2C => a.rotations
  | _ => 0

/-! ## PACK_ (Tables 18-8, 18-9) -/

/-- LANE0 and LANE1 of PACK_LINK_n. -/
def LaneState.code : LaneState → Nat
  | .hunt => 0
  | .presync => 1
  | .sync => 2

/-- PACK_LINK_n. -/
def PackLink.word (l : PackLink) : Nat :=
  l.lane0.state.code + 4 * l.lane1.state.code + 16 * b2n l.up + 32 * l.unacked.length

/-- PACK_LEASE.MS: on the active the time to the expiry of its lease, on the standby to the earliest takeover. -/
def State.leaseMs (s : State) : Nat :=
  let ms := fun t => min 0xFFFF ((t - s.now) / unitsPerMilli)
  match s.pair.phase with
  | .active => if s.pair.inStep then ms s.leaseEnd else 0
  | .standby => ms (s.pair.lastGrantAt + s.packSec.lapse)
  | _ => 0

/-- The completions that await a RESULT (R622). -/
def State.heldCompletions (s : State) : Nat :=
  (s.host.slots.filter fun e => e.2.phase == .ended && !s.confirmed e.1).length

/-- A PACK_ register. -/
def State.packReg (s : State) (off : Nat) : Nat :=
  let p := s.pair
  if inArray off 0x30 4 2 then (s.link ((off - 0x30) / 4)).word
  else if inArray off 0x40 4 2 then countWord (s.link ((off - 0x40) / 4)).errors
  else match off with
  | 0 => p.phase.code + 8 * p.refusal + 128 * b2n s.witnessed + 256 * min 3 s.recentDivergences.length
  | 0xC => s.leaseMs
  | 0x10 => if s.leads || p.phase == .standby then p.epoch else 0
  | 0x18 => p.divergentEpoch
  | 0x20 => p.lastCause + min 0xFFFF p.promoteMicros * 2 ^ 16
  | 0x24 => countWord p.switchovers
  | 0x28 => s.heldCompletions
  | _ => 0

/-! ## QTK_ (Tables 8-9 to 8-15) -/

/-- QTK_PORT_STATUS_n. -/
def State.portWord (s : State) (n : Nat) : Nat :=
  let p := s.port n
  b2n p.present + 2 * b2n p.powered + 4 * p.cls + 16 * b2n (s.tables.units.quillEnable.getLsbD n) + 32 * p.state
    + p.lastOutcome * 2 ^ 8

/-- QTK_CEREMONY_STATUS. -/
def Ceremony.word (c : Ceremony) : Nat :=
  if c.phase = .idle then 0 else
  c.phase.code + 16 * c.m + c.counted.length * 2 ^ 8 + bitmapOf c.counted * 2 ^ 16 + bitmapOf c.holders * 2 ^ 24

/-- A QTK_ register. -/
def State.qtkReg (s : State) (off : Nat) : Nat :=
  let c := s.quill.ceremony
  if inArray off 0 4 4 then s.portWord (off / 4)
  else if inArray off 0x20 4 4 then countWord (s.port ((off - 0x20) / 4)).linkErrors
  else match off with
  | 0x10 => c.word
  | 0x14 => if c.phase = .idle then 0 else c.domain
  | 0x18 => if c.phase = .idle then 0 else (c.openedAt + c.timeoutS * unitsPerSecond - s.now) / unitsPerSecond
  | 0x30 => s.quill.enrolments.length
  | _ => 0

/-! ## CRC_ (Tables 17-6, 17-7) -/

/-- A register of a Woodpecker unit. -/
def CrcUnit.regAt (v : CrcUnit) (off : Nat) : Nat :=
  match off with
  | 0 => v.preset + v.params.width * 2 ^ 8 + b2n v.params.refin * 2 ^ 16 + b2n v.params.refout * 2 ^ 17
  | 8 => v.params.poly.toNat
  | 0x10 => v.params.init.toNat
  | 0x18 => v.params.xorout.toNat
  | 0x30 => v.result.toNat
  | 0x38 => countWord v.bytes
  | 0x44 => v.aliveLast.toNat + 16 * b2n v.aliveStarted + 32 * b2n v.aliveRepeat + 64 * b2n v.aliveSkip
  | 0x48 => v.repeats.count + b2n v.repeats.overflow * 2 ^ 15 + v.skipped.count * 2 ^ 16
      + b2n v.skipped.overflow * 2 ^ 31
  | _ => 0

/-- A CRC_ register. -/
def State.crcReg (s : State) (off : Nat) : Nat :=
  if off < 0x800 then (s.crcUnit (off / 0x100)).regAt (off % 0x100) else
  match off with
  | 0x1000 => b2n s.check.faultCaptured + 2 * b2n s.check.faultSide + 16 * s.check.faultQueue
  | 0x1004 => countWord s.check.resets
  | 0x1008 => countWord s.check.drops
  | _ => 0

/-! ## RNG_ (Tables 10-4 to 10-12) -/

/-- A noise source by its number. -/
def RngState.source (r : RngState) (n : Nat) : NoiseSource := if n = 0 then r.source0 else r.source1

/-- STATE of RNG_SRC_STATUS_n. -/
def SourceState.code : SourceState → Nat
  | .startup => 0
  | .healthy => 1
  | .failed => 2

/-- RNG_DRBG_n. -/
def Drbg.word (d : Drbg) : Nat :=
  d.requests + (match d.state with
    | .uninstantiated => 0
    | .running => 1
    | .stopped => 2) * 2 ^ 17

/-- An RNG_ register. -/
def State.rngReg (s : State) (off : Nat) : Nat :=
  let r := s.rng
  if inArray off 0x10 4 2 then
    let n := r.source ((off - 0x10) / 4)
    n.state.code + 16 * min 16 n.windowFails
  else if inArray off 0x20 4 2 then countWord (r.source ((off - 0x20) / 4)).fails
  else if inArray off 0x40 4 16 then (r.instance? ((off - 0x40) / 4)).word
  else match off with
  | 0 => r.healthy + 4 * ((List.range 16).filter fun i => (r.instance? i).state == .running).length
      + 128 * b2n r.stopped + 256 * b2n r.katFailed
  | 4 => b2n r.reseedAll
  | 0x80 => countWord r.reseeds
  | 0x84 => r.units
  | 0x88 => countWord r.refused
  | _ => 0

/-! ## MEM_ and GATE_ (Tables 12-9 to 12-22) -/

/-- MEM_LARDER_TEST_n. -/
def LarderTest.word (t : LarderTest) : Nat :=
  t.region + t.sparesUsed * 2 ^ 12 + b2n t.outOfService * 2 ^ 15 + t.singleBit * 2 ^ 16

/-- The background test of a larder. -/
def State.larderTest (s : State) (n : Nat) : LarderTest := tget s.mem.tests n {}

/-- A MEM_ register. -/
def State.memReg (s : State) (off : Nat) : Nat :=
  let m := s.mem
  if inArray off 0x100 4 25 then countWord (s.larderTest ((off - 0x100) / 4)).ce
  else if inArray off 0x200 4 25 then countWord (s.larderTest ((off - 0x200) / 4)).ue
  else if inArray off 0x300 4 25 then (s.larderTest ((off - 0x300) / 4)).word
  else match off with
  | 0 => b2n s.wiping + 2 * m.lastCause + 16 * b2n m.verifyFail
  | 4 => m.withdrawn.toNat
  | 8 => m.replayed + b2n m.fenced * 2 ^ 8 + m.commits.length * 2 ^ 16
  | 0xC => countWord m.pstoreRefused
  | 0x10 => countWord m.pstoreCe
  | 0x14 => countWord m.pstoreUe
  | 0x20 => countWord m.dramCe
  | 0x24 => countWord m.dramUe
  | 0x28 => countWord m.dramAuth
  | _ => 0

/-- A gate. -/
def State.gateSt (s : State) (g : Nat) : GateState := tget s.mem.gates g {}

/-- GATE_VIOL_STATUS. -/
def GateState.word (v : GateState) : Nat :=
  b2n v.captured + 2 * v.held.kind + 8 * b2n v.held.world + 16 * v.held.region + v.held.master * 2 ^ 16

/-- A register of a region of a gate: the record at the region, or nothing. -/
def GateRec.regAt (r : GateRec) (off : Nat) : Nat :=
  match off with
  | 0 => r.masterLo + r.masterHi * 2 ^ 8 + bits r.permit.toNat 2 0 * 2 ^ 16 + 2 ^ 31
  | 4 => r.baseBlock
  | 8 => r.blockCount
  | _ => 0

/-- A register of a gate. -/
def State.gateReg (s : State) (g off : Nat) : Nat :=
  if 16 ≤ g then 0
  else if 0x100 ≤ off then
    if off < 0x500 then ((s.gateRec? g ((off - 0x100) / 16)).map fun r => r.regAt (off % 16)).getD 0 else 0
  else match off with
  | 0 => gateSize g / 64
  | 4 => (s.tables.gates.filter fun r => r.gate == g).length
  | 8 => (s.gateSt g).word
  | 0x10 => (s.gateSt g).held.offset
  | 0x18 => countWord (s.gateSt g).count
  | _ => 0

/-! ## MIG_ (Tables 11-23 to 11-26) -/

/-- A MIG_ register. -/
def State.migReg (s : State) (off : Nat) : Nat :=
  let sec := s.tables.migration.getD {}
  if inArray off 0x10 4 8 then
    (s.cub.identity.map fun i => leField (identityDigest i.publics) (off - 0x10) 4).getD 0
  else match off with
  | 0 => b2n s.cub.identity.isSome + 2 * b2n sec.nativeMig + 4 * b2n sec.compat3300 + 8 * s.cub.tickets.length
      + s.logs * 2 ^ 8 + s.cub.departing.length * 2 ^ 13
  | 0x40 => countWord s.cub.abandoned
  | _ => 0

/-! ## The two BARs -/

/-- A register of the den BAR0 (Table 1-9); a reserved offset reads 0 (R36). -/
def State.denReg (s : State) (off : Nat) : Nat :=
  if off < 0x10000 then s.devReg off
  else if off < 0x100000 then s.gstReg (off - 0x10000)
  else
    let o := off % 0x100000
    match off / 0x100000 with
    | 1 => s.hifReg o
    | 2 => s.cubtReg (o / 0x200) (o % 0x200)
    | 4 => s.ldgReg o
    | 5 => s.pwrReg o
    | 6 => s.evrReg o
    | 7 => s.tmpReg o
    | 8 => s.lcsReg o
    | 9 => s.packReg o
    | 10 => s.qtkReg o
    | 11 => s.crcReg o
    | 12 => s.rngReg o
    | 13 => if o < 0x80000 then s.memReg o else s.gateReg ((o - 0x80000) / 0x1000) (o % 0x1000)
    | 14 => s.migReg o
    | _ => 0

/-- A register of a function's BAR0, whole: 32 bits, or 64 where it is documented as 64-bit. -/
def State.register (s : State) (f off : Nat) : Nat :=
  if f = 0 then s.denReg off
  else if off < 0x100 ∨ 0x3000 ≤ off then s.cubReg f off else s.ringReg f off

/-- Whether the 64-bit register of a ring begins at an offset of a cub BAR0. -/
def ringWide (off : Nat) : Bool := [0x100, 0x110, 0x2000].contains off

/-- Whether a register documented as 64-bit begins at an offset of a function's BAR0 (R15). -/
def wideAt (f off : Nat) : Bool :=
  if f ≠ 0 then ringWide off
  else if off < 0x10000 then off == 0x50
  else if off < 0x100000 then off == 0x10008 || off == 0x10010
  else
    let o := off % 0x100000
    match off / 0x100000 with
    | 1 => ringWide o
    | 4 => [8, 0x20, 0x28, 0x30, 0x38].contains o
    | 5 => [0x10, 0x18, 0x20, 0x28, 0x38].contains o
    | 6 => [8, 0x18, 0x20, 0x28, 0x30, 0x38, 0x40].contains o
    | 7 => [8, 0x60, 0x68].contains o
    | 8 => o == 0x10
    | 9 => o == 0x10 || o == 0x18
    | 11 => decide (o < 0x800) && [8, 0x10, 0x18, 0x30].contains (o % 0x100)
    | 13 => decide (0x80000 ≤ o) && decide (o < 0x90000) && o % 0x1000 == 0x10
    | _ => false

/-! ## Clear on read -/

/-- The RC fields of a QTK_, CRC_ or PACK_ register after a read. -/
def State.clearPorts (off : Nat) (s : State) : State :=
  let o := off % 0x100000
  match off / 0x100000 with
  | 9 =>
    if inArray o 0x40 4 2 then s.setLink ((o - 0x40) / 4) { s.link ((o - 0x40) / 4) with errors := {} }
    else if o = 0x24 then { s with pair.switchovers := {} } else s
  | 10 =>
    if inArray o 0x20 4 4 then s.setPort ((o - 0x20) / 4) { s.port ((o - 0x20) / 4) with linkErrors := {} } else s
  | 11 =>
    if o < 0x800 then
      if o % 0x100 = 0x48 then s.setCrc (o / 0x100) { s.crcUnit (o / 0x100) with repeats := {}, skipped := {} } else s
    else if o = 0x1004 then { s with check.resets := {} }
    else if o = 0x1008 then { s with check.drops := {} } else s
  | _ => s

/-- The RC fields of a MEM_ or GATE_ register after a read. -/
def State.clearMemory (o : Nat) (s : State) : State :=
  if 0x80000 ≤ o then
    let g := (o - 0x80000) / 0x1000
    if g < 16 ∧ o % 0x1000 = 0x18 then
      { s with mem.gates := tset s.mem.gates g { s.gateSt g with count := {} } }
    else s
  else if inArray o 0x100 4 25 then
    let n := (o - 0x100) / 4
    { s with mem.tests := tset s.mem.tests n { s.larderTest n with ce := {} } }
  else if inArray o 0x200 4 25 then
    let n := (o - 0x200) / 4
    { s with mem.tests := tset s.mem.tests n { s.larderTest n with ue := {} } }
  else match o with
  | 0xC => { s with mem.pstoreRefused := {} }
  | 0x10 => { s with mem.pstoreCe := {} }
  | 0x14 => { s with mem.pstoreUe := {} }
  | 0x20 => { s with mem.dramCe := {} }
  | 0x24 => { s with mem.dramUe := {} }
  | 0x28 => { s with mem.dramAuth := {} }
  | _ => s

/-- The RC fields of a CUBT_ register after a read. -/
def State.clearCubt (f off : Nat) (s : State) : State :=
  match off with
  | 0x10 => s.setFn f { s.fnSt f with squashed := {} }
  | 0x14 => s.setFn f { s.fnSt f with undelivered := {} }
  | _ => s

/-- The RC fields of a register of the den BAR0 are cleared by its read (R13); HIF_SLOT_HIGH takes the present HELD
(Table 4-21). No register of a cub BAR0 has an RC field. -/
def State.clearRead (off : Nat) (s : State) : State :=
  let o := off % 0x100000
  match off / 0x100000 with
  | 1 =>
    match o with
    | 8 => { s with host.slotHigh := s.host.slots.length }
    | 0xC => { s with host.denied := {} }
    | _ => s
  | 2 => s.clearCubt (o / 0x200) (o % 0x200)
  | 5 =>
    match o with
    | 0x50 => { s with power.wakes := {} }
    | 0x54 => { s with power.refusals := {} }
    | 0x58 => { s with power.linkErrors := {} }
    | _ => s
  | 6 =>
    match o with
    | 0x4C => { s with owl.dropped := {} }
    | 0x50 => { s with owl.folded := {} }
    | _ => s
  | 8 => if o = 0x28 then { s with antler.tokenFails := {} } else s
  | 12 => if o = 0x88 then { s with rng.refused := {} } else s
  | 13 => s.clearMemory o
  | 14 => if o = 0x40 then { s with cub.abandoned := {} } else s
  | _ => s.clearPorts off

end Sys2Proof.Machine
end

