-- ==== Sys2Proof/Machine/Registers.lean ====
section
/-! DEFINITION. Host accesses to registers: their sizes and alignment (R15, R16), the 64-bit registers and their halves
(R17 to R19), and what a write does by the access codes of Table 0-5. A write to a register that another command of
the table names runs that command. -/

namespace Sys2Proof.Machine

/-! ## Which accesses are answered -/

/-- Whether a memory request to a function's BAR0 is answered: the device has ended Configuration Request Retry Status,
and the function exists (R117, R409). -/
def State.answers (s : State) (f off size : Nat) : Bool :=
  (s.boot.phase == .configured || s.boot.phase == .ready || s.boot.phase == .recovery) && s.configurable f
    && decide (1 ≤ size) && decide (off + size ≤ barSize f)

/-- Whether an access has a right size and alignment for where it falls (R15, R16, R36). -/
def rightSize (f off size : Nat) : Bool :=
  (size == 4 && off % 4 == 0) || (size == 8 && off % 8 == 0 && wideAt f off)

/-- Whether a read reaches a register: where it is presented, and before readiness in the DEV_ block (R36, R487,
R695). -/
def State.readable (s : State) (f off : Nat) : Bool :=
  s.presented f off || (s.boot.phase == .configured && f == 0 && decide (off < 0x10000))

/-- Whether a write reaches a register: where it is presented, and DEV_RESET before readiness (R36, R487, R695). -/
def State.writable (s : State) (f off : Nat) : Bool :=
  s.presented f off || (s.boot.phase == .configured && f == 0 && off == 0x70)

/-- The event REG_ACCESS of an access of a wrong size or alignment (R16). Its size field has one
byte: a size above 255 stands in it modulo 256 (DESIGN CHOICE, log entry 93). -/
def State.badAccess (f off size : Nat) (write : Bool) (s : State) : State :=
  s.raise 0x10 (natLe 2 f ++ natLe 4 off ++ natLe 1 size ++ natLe 1 (b2n write))

/-- All bytes 0xFF (R16). -/
def allOnes (size : Nat) : Bytes := List.replicate size 0xFF

/-! ## Reads -/

/-- DEV_GPIO_IN: the value driven on each enabled pin; the level of an input comes from outside and is free. -/
def State.gpioLevels (s : State) : Nat × State :=
  let r := s.free
  let dir := s.pins.gpioDir
  ((dir &&& s.pins.gpioOut ||| (~~~dir &&& BitVec.ofNat 16 r.1)).toNat, r.2)

/-- The whole value of a register as a read finds it. -/
def State.fetchRegister (f off : Nat) (s : State) : Nat × State :=
  if f = 0 ∧ off = 0x108 then s.gpioLevels else (s.register f off, s)

/-- The value of an aligned read of 4 bytes: a register of 32 bits, or a half of one of 64 (R18). -/
def State.readHalf (f off : Nat) (s : State) : Nat × State :=
  if wideAt f off then
    let v := s.register f off
    (v % 2 ^ 32,
      { s with host.hiLatch := tset s.host.hiLatch (regKey f off) (BitVec.ofNat 32 (v / 2 ^ 32)) })
  else if 4 ≤ off ∧ wideAt f (off - 4) then
    match tget? s.host.hiLatch (regKey f (off - 4)) with
    | some h => (h.toNat, { s with host.hiLatch := terase s.host.hiLatch (regKey f (off - 4)) })
    | none => (s.register f (off - 4) / 2 ^ 32, s)
  else
    let r := s.fetchRegister f off
    (r.1, if f = 0 then r.2.clearRead off else r.2)

/-- A read of a right size: its value, with what it latches and clears (R13, R17, R18). A 64-bit read neither uses nor
ends a latch. -/
def State.readValue (f off size : Nat) (s : State) : Nat × State :=
  if !s.readable f off then (0, s)
  else if size = 8 then (s.register f off, s)
  else s.readHalf f off

/-- A host read of a function's BAR0. -/
def State.hostRead (f off size : Nat) (s : State) : State :=
  if !s.answers f off size then s
  else if !rightSize f off size then (s.badAccess f off size false).emit (.readBytes f off (allOnes size))
  else
    let r := s.readValue f off size
    r.2.emit (.readData f off size (BitVec.ofNat 64 r.1))

/-! ## Writes -/

/-- A write to a ring register of a function, at its offset in a cub BAR0 (Tables 4-6 to 4-17, R130, R160). -/
def State.writeRing (f off v : Nat) (s : State) : Answer :=
  let r := s.ring f
  match off with
  | 0x100 => .next (if r.enabled then s else s.setRing f { r with sqBase := BitVec.ofNat 64 (v / 4096 * 4096) })
  | 0x108 => .next (if r.enabled then s else s.setRing f { r with sqLog2 := max 4 (min 12 (v % 16)) })
  | 0x110 => .next (if r.enabled then s else s.setRing f { r with cqBase := BitVec.ofNat 64 (v / 4096 * 4096) })
  | 0x118 => .next (if r.enabled then s else s.setRing f { r with cqLog2 := max 4 (min 12 (v % 16)) })
  | 0x11C => if bit v 0 then execRingEnable f s else execRingDisable f s
  | 0x120 =>
    let s := if bit v 2 then s.setRing f { r with dbError := false } else s
    if bit v 3 then execFetchErrorClear f s else .next s
  | 0x1000 => execSqTailWrite f (BitVec.ofNat 32 v) s
  | 0x1004 => execCqHeadWrite f (BitVec.ofNat 32 v) s
  | 0x2000 => .next (if r.pwEnable then s else s.setRing f { r with pwAddr := BitVec.ofNat 64 (v / 64 * 64) })
  | 0x2008 =>
    let s := s.setRing f { r with pwEnable := bit v 0, pwInterval := max 2 (bits v 17 8) }
    if bit v 1 then execPwForce f s else .next s
  | _ => .next s

/-- A write to a DEV_ register (Tables 13-20 to 13-25, 20-4, R501). -/
def State.writeDev (off v : Nat) (s : State) : Answer :=
  let busy := s.boot.fwPhase != .idle
  match off with
  | 0x48 =>
    let s : State := { s with boot.fwOp := BitVec.ofNat 2 v }
    if !bit v 31 then .next s else
    match v % 4 with
    | 1 => execFwStage none s
    | 2 => execFwCommit s
    | 3 => execFwExchange s
    | _ => .next s
  | 0x50 => .next (if busy then s else { s with boot.fwSrcAddr := BitVec.ofNat 64 v })
  | 0x58 => .next (if busy then s else { s with boot.fwSrcLen := BitVec.ofNat 32 v })
  | 0x70 => execDevReset (BitVec.ofNat 32 v) s
  | 0x100 => execDevGpioDirWrite (BitVec.ofNat 32 v) s
  | 0x104 => execDevGpioOutWrite (BitVec.ofNat 32 v) s
  | _ => .next s

/-- The W1C bits of GST_SUMMARY (Table 16-9). -/
def summaryW1c : BitVec 32 := 0x00196183

/-- A write to a GST_ register. -/
def State.writeGst (off v : Nat) (s : State) : Answer :=
  .next (
    if off = 0 then { s with status.sticky := s.status.sticky &&& ~~~(BitVec.ofNat 32 v &&& summaryW1c) } else s)

/-- A write to an LDG_ register (Tables 3-8 to 3-11, R112). -/
def State.writeLdg (off v : Nat) (s : State) : Answer :=
  match off with
  | 0 =>
    let s : State := { s with lodge.ctl.op := BitVec.ofNat 2 v }
    if !bit v 31 then .next s else
    match v % 4 with
    | 1 => execStageFullImage s
    | 2 => execApplyDelta s
    | 3 => execDiscardStagedImage s
    | _ => .next s
  | 8 => .next { s with lodge.ctl.srcAddr := BitVec.ofNat 64 v }
  | 0x10 => .next { s with lodge.ctl.srcLen := BitVec.ofNat 32 v }
  | 0x14 => .next { s with lodge.ctl.quiesceMs := max 1 (min 10000 (v % 2 ^ 14)) }
  | _ => .next s

/-- A write to a PWR_ register (Table 19-7, R14, R678). -/
def State.writePwr (off v : Nat) (s : State) : Answer :=
  match off with
  | 4 => execPwrModeWrite (BitVec.ofNat 32 v) s
  | 8 => .next (if s.power.locked then s else { s with power.idleDelay := idleDelayOf (BitVec.ofNat 32 v) })
  | 0x10 => execPwrAlwaysOnWrite (BitVec.ofNat 64 v) s
  | 0x30 =>
    match bits v 9 8 with
    | 1 => execPwrWake (v % 64) s
    | 2 => execPwrGate (v % 64) s
    | 3 => execPwrCancel (v % 64) s
    | _ => .next s
  | 0x38 => .next { s with power.refused := s.power.refused &&& ~~~BitVec.ofNat 64 v }
  | _ => .next s

/-- A write to an EVR_ register (Table 16-7, R590). -/
def State.writeEvr (off v : Nat) (s : State) : Answer :=
  let busy := s.owl.busy
  if inArray off 0x60 4 8 then
    .next (if busy then s else
      { s with owl.nonce := s.owl.nonce.setIfInBounds ((off - 0x60) / 4) (BitVec.ofNat 32 v) })
  else match off with
  | 4 =>
    let s : State := { s with owl.control := BitVec.ofNat 3 v }
    if !bit v 31 then .next s else
    match v % 8 with
    | 1 => execEvrRead true false s
    | 2 => execCheckpointExport true false s
    | 3 => execAuditKeys true false s
    | 4 => execSetTime s
    | _ => .next s
  | 8 => .next (if busy then s else { s with owl.dstAddr := BitVec.ofNat 64 v })
  | 0x10 => .next (if busy then s else { s with owl.dstLen := BitVec.ofNat 32 v })
  | 0x18 => .next (if busy then s else { s with owl.readSeq := BitVec.ofNat 64 v })
  | 0x30 => .next { s with owl.harvested := v % 2 ^ 64 }
  | 0x40 => .next (if busy then s else { s with owl.timeSet := BitVec.ofNat 64 (v % 2 ^ 56) })
  | _ => .next s

/-- A write to an LCS_ register (Tables 14-17 to 14-19, R526). -/
def State.writeLcs (off v : Nat) (s : State) : Answer :=
  match off with
  | 8 =>
    let s : State := { s with antler.op := BitVec.ofNat 3 v }
    if !bit v 31 then .next s else
    match v % 8 with
    | 1 => execProvision none s
    | 2 => execTransition none none s
    | 3 => execTestUnlock none 0 s
    | 4 => execDebugChallenge s
    | 5 => execDebugOpen none s
    | 6 => execOwnerRotate none s
    | _ => .next s
  | 0x10 => .next { s with antler.srcAddr := BitVec.ofNat 64 v }
  | 0x18 => .next { s with antler.srcLen := BitVec.ofNat 32 v }
  | _ => .next s

/-- A write to a PACK_ register (Table 18-9). -/
def State.writePack (off v : Nat) (s : State) : Answer :=
  match off with
  | 4 => if bit v 0 then execPackSwitch s else .next s
  | 8 => execPackSolo (BitVec.ofNat 32 v) s
  | _ => .next s

/-- A write to a register of Woodpecker unit n (Table 17-7). -/
def State.writeCrcUnit (n off v : Nat) (s : State) : Answer :=
  match off with
  | 0 => execCrcConfigWrite n (BitVec.ofNat 32 v) s
  | 8 => execCrcParameterWrite n 0 (BitVec.ofNat 64 v) s
  | 0x10 => execCrcParameterWrite n 1 (BitVec.ofNat 64 v) s
  | 0x18 => execCrcParameterWrite n 2 (BitVec.ofNat 64 v) s
  | 0x20 =>
    match bit v 0, bit v 1 with
    | true, true =>
      .next (s.setCrc n { (s.crcUnit n).start with aliveStarted := false, aliveLast := 0 })
    | true, false => execCrcStart n s
    | false, true => execCrcAliveRestart n s
    | false, false => .next s
  | 0x24 => execCrcDataB n (BitVec.ofNat 32 v) s
  | 0x28 => execCrcDataH n (BitVec.ofNat 32 v) s
  | 0x2C => execCrcDataW n (BitVec.ofNat 32 v) s
  | 0x40 => execCrcAlive n (BitVec.ofNat 32 v) s
  | 0x44 =>
    let u := s.crcUnit n
    .next (s.setCrc n { u with aliveRepeat := u.aliveRepeat && !bit v 5, aliveSkip := u.aliveSkip && !bit v 6 })
  | _ => .next s

/-- A write to a CRC_ register. -/
def State.writeCrc (off v : Nat) (s : State) : Answer :=
  if off < 0x800 then s.writeCrcUnit (off / 0x100) (off % 0x100) v
  else if off = 0x1000 then .next { s with check.faultCaptured := s.check.faultCaptured && !bit v 0 }
  else .next s

/-- A write to GATE_VIOL_STATUS of a gate: CAPTURED is W1C (Table 12-18). -/
def State.writeGate (g off v : Nat) (s : State) : Answer :=
  .next (
    if g < 16 ∧ off = 8 then
      if bit v 0 then { s with mem.gates := tset s.mem.gates g ((s.gateSt g).clear s.now) } else s
    else s)

/-- A write to a CUBT_ entry: DIRTY_OUTSIDE is W1C (Table 11-22). -/
def State.writeCubt (f off v : Nat) (s : State) : Answer :=
  .next (
    if off = 0x18 then s.setFn f { s.fnSt f with dirtyOutside := (s.fnSt f).dirtyOutside && !bit v 6 } else s)

/-- A write to a register of the den BAR0. Registers of the blocks that are not named here are RO or RC (R8). -/
def State.writeDen (off v : Nat) (s : State) : Answer :=
  if off < 0x10000 then s.writeDev off v
  else if off < 0x100000 then s.writeGst (off - 0x10000) v
  else
    let o := off % 0x100000
    match off / 0x100000 with
    | 1 => s.writeRing 0 o v
    | 2 => s.writeCubt (o / 0x200) (o % 0x200) v
    | 4 => s.writeLdg o v
    | 5 => s.writePwr o v
    | 6 => s.writeEvr o v
    | 8 => s.writeLcs o v
    | 9 => s.writePack o v
    | 11 => s.writeCrc o v
    | 12 => if o = 4 ∧ bit v 0 then execRngReseedAll s else .next s
    | 13 => if o < 0x80000 then .next s else s.writeGate ((o - 0x80000) / 0x1000) (o % 0x1000) v
    | _ => .next s

/-- A write of the whole of a register. -/
def State.writeRegister (f off v : Nat) (s : State) : Answer :=
  if f = 0 then s.writeDen off v
  else if off < 0x100 ∨ 0x3000 ≤ off then .next s else s.writeRing f off v

/-! ## 64-bit registers -/

/-- Whether a 64-bit register of a function takes a write now: those whose writes have no effect keep their low-half
buffer too (R14, R130, R160, R501, R590). -/
def State.takesWide (s : State) (f off : Nat) : Bool :=
  let ring := fun o : Nat => if o = 0x2000 then !(s.ring f).pwEnable else !(s.ring f).enabled
  if f ≠ 0 then ring off else
  match off / 0x100000 with
  | 0 => off == 0x50 && s.boot.fwPhase == .idle
  | 1 => ring (off % 0x100000)
  | 4 => off == 0x400008
  | 5 => off == 0x500038 || (off == 0x500010 && !s.power.locked)
  | 6 => off == 0x600030 || ([0x600008, 0x600018, 0x600040].contains off && !s.owl.busy)
  | 8 => off == 0x800010
  | 11 => off % 0x100 != 0x30
  | _ => false

/-- The low half that a high-half write keeps when its buffer holds no write: the present low half; PWR_REFUSED is W1C,
and a 0 keeps each of its bits (R10, R19). -/
def State.keptLow (s : State) (f off : Nat) : Nat :=
  if f = 0 ∧ off = 0x500038 then 0 else s.register f off % 2 ^ 32

/-- A write of a 64-bit register as a whole: the register and its buffer are updated (R17, R19). -/
def State.writeWide (f off v : Nat) (s : State) : Answer :=
  if !s.takesWide f off then .next s else (s.reload f off).writeRegister f off v

/-- A write of the low half: the buffer alone is written (R19). -/
def State.writeLow (f off : Nat) (v : Reg) (s : State) : State :=
  if !s.takesWide f off then s else
  { s with host.loBuffer := tset s.host.loBuffer (regKey f off) v }

/-- A write of the high half: the register takes it with the value of the buffer in one step (R19). -/
def State.writeHigh (f off : Nat) (v : Reg) (s : State) : Answer :=
  let low := ((tget? s.host.loBuffer (regKey f off)).map BitVec.toNat).getD (s.keptLow f off)
  s.writeWide f off (v.toNat * 2 ^ 32 + low)

/-- A host write of a function's BAR0. -/
def State.hostWrite (f off size v : Nat) (s : State) : Answer :=
  if !s.answers f off size then .next s
  else if !rightSize f off size then .next (s.badAccess f off size true)
  else if !s.writable f off then .next s
  else if size = 8 then s.writeWide f off v
  else if wideAt f off then .next (s.writeLow f off (BitVec.ofNat 32 v))
  else if 4 ≤ off ∧ wideAt f (off - 4) then s.writeHigh f (off - 4) (BitVec.ofNat 32 v)
  else s.writeRegister f off (v % 2 ^ 32)

/-! ## The commands -/

/-- REGISTER_WRITE: a host write of 4 or 8 bytes (R15, R17). -/
def execRegisterWrite (fn off size : Nat) (value : Word) (s : State) : Answer := s.hostWrite fn off size value.toNat

/-- REG_ACCESS: an access of a wrong size or alignment is discarded, or read as all 0xFF, and recorded (R16). -/
def execRegAccess (fn off size : Nat) (write : Bool) (s : State) : Answer :=
  if rightSize fn off size then .next s
  else if write then s.hostWrite fn off size 0
  else .next (s.hostRead fn off size)

/-- RC_READ: a host read of 4 or 8 bytes; RC fields are cleared by it (R13). -/
def execRcRead (fn off size : Nat) (s : State) : Answer := .next (s.hostRead fn off size)

/-- LOW_HALF_READ: a read of the low half of a 64-bit register latches the high half (R18). -/
def execLowHalfRead (fn off : Nat) (s : State) : Answer :=
  .next (if wideAt fn off then s.hostRead fn off 4 else s)

/-- LOW_HALF_WRITE: a write of the low half of a 64-bit register loads its low-half buffer (R19). -/
def execLowHalfWrite (fn off : Nat) (value : Reg) (s : State) : Answer :=
  if wideAt fn off then s.hostWrite fn off 4 value.toNat else .next s

/-- HIGH_HALF_WRITE: a write of the high half of the 64-bit register at an offset updates it (R19). -/
def execHighHalfWrite (fn off : Nat) (value : Reg) (s : State) : Answer :=
  if wideAt fn off then s.hostWrite fn (off + 4) 4 value.toNat else .next s

end Sys2Proof.Machine
end

