-- ==== Sys2Proof/Machine/Dispatch.lean ====
section
/-! DEFINITION. The meaning of each command: one arm per constructor. -/

namespace Sys2Proof.Machine

/-- The effect of one command on everything but the queue. -/
def exec (i : Instr) (s : State) : Host.Outcome State Fault Refusal :=
  match i with
  | .registerWrite fn off size value => Sys2Proof.Machine.execRegisterWrite fn off size value s
  | .regAccess fn off size write => Sys2Proof.Machine.execRegAccess fn off size write s
  | .rcRead fn off size => Sys2Proof.Machine.execRcRead fn off size s
  | .lowHalfRead fn off => Sys2Proof.Machine.execLowHalfRead fn off s
  | .lowHalfWrite fn off value => Sys2Proof.Machine.execLowHalfWrite fn off value s
  | .highHalfWrite fn off value => Sys2Proof.Machine.execHighHalfWrite fn off value s
  | .stageFullImage => Sys2Proof.Machine.execStageFullImage s
  | .applyDelta => Sys2Proof.Machine.execApplyDelta s
  | .discardStagedImage => Sys2Proof.Machine.execDiscardStagedImage s
  | .lodgeFetchDone ok image => Sys2Proof.Machine.execLodgeFetchDone ok image s
  | .lodgeFlashWriteDone ok => Sys2Proof.Machine.execLodgeFlashWriteDone ok s
  | .deltaCommit fetched bad => Sys2Proof.Machine.execDeltaCommit fetched bad s
  | .deltaQuiesceTimeout => Sys2Proof.Machine.execDeltaQuiesceTimeout s
  | .deltaPeerVerdict accepted => Sys2Proof.Machine.execDeltaPeerVerdict accepted s
  | .ringEnable fn => Sys2Proof.Machine.execRingEnable fn s
  | .ringDisable fn => Sys2Proof.Machine.execRingDisable fn s
  | .ringDrainDone fn => Sys2Proof.Machine.execRingDrainDone fn s
  | .sqTailWrite fn value => Sys2Proof.Machine.execSqTailWrite fn value s
  | .cqHeadWrite fn value => Sys2Proof.Machine.execCqHeadWrite fn value s
  | .fetchErrorClear fn => Sys2Proof.Machine.execFetchErrorClear fn s
  | .pwForce fn => Sys2Proof.Machine.execPwForce fn s
  | .progressWordWrite fn ok => Sys2Proof.Machine.execProgressWordWrite fn ok s
  | .slotGrant => Sys2Proof.Machine.execSlotGrant s
  | .entryFetchDone slot data => Sys2Proof.Machine.execEntryFetchDone slot data s
  | .entryFetchError slot => Sys2Proof.Machine.execEntryFetchError slot s
  | .commandInputRead slot ok inList outList data => Sys2Proof.Machine.execCommandInputRead slot ok inList outList data s
  | .completionWrite slot dataOk entryOk => Sys2Proof.Machine.execCompletionWrite slot dataOk entryOk s
  | .d3hotEntry => Sys2Proof.Machine.execD3hotEntry s
  | .d0Entry => Sys2Proof.Machine.execD0Entry s
  | .commandStart slot core frame => Sys2Proof.Machine.execCommandStart slot core frame s
  | .nop slot => Sys2Proof.Machine.execNop slot s
  | .personalityQuery slot => Sys2Proof.Machine.execPersonalityQuery slot s
  | .pinTranslate slot => Sys2Proof.Machine.execPinTranslate slot s
  | .pinVerifyCompare slot => Sys2Proof.Machine.execPinVerifyCompare slot s
  | .pinVerifyOffset slot => Sys2Proof.Machine.execPinVerifyOffset slot s
  | .pinTranslateDukpt slot => Sys2Proof.Machine.execPinTranslateDukpt slot s
  | .dukptMacVerify slot => Sys2Proof.Machine.execDukptMacVerify slot s
  | .dukptDecrypt slot => Sys2Proof.Machine.execDukptDecrypt slot s
  | .dukptInitialKey slot => Sys2Proof.Machine.execDukptInitialKey slot s
  | .keyblockImport slot => Sys2Proof.Machine.execKeyblockImport slot s
  | .keyblockExport slot => Sys2Proof.Machine.execKeyblockExport slot s
  | .keyGenerate slot => Sys2Proof.Machine.execKeyGenerate slot s
  | .keyDelete slot => Sys2Proof.Machine.execKeyDelete slot s
  | .keyCheckValue slot => Sys2Proof.Machine.execKeyCheckValue slot s
  | .keyBindLegacy slot => Sys2Proof.Machine.execKeyBindLegacy slot s
  | .arqcVerify slot => Sys2Proof.Machine.execArqcVerify slot s
  | .arpcGenerate slot => Sys2Proof.Machine.execArpcGenerate slot s
  | .emvSmMac slot => Sys2Proof.Machine.execEmvSmMac slot s
  | .emvSmEncrypt slot => Sys2Proof.Machine.execEmvSmEncrypt slot s
  | .cvvGenerate slot => Sys2Proof.Machine.execCvvGenerate slot s
  | .cvvVerify slot => Sys2Proof.Machine.execCvvVerify slot s
  | .macGenerate slot => Sys2Proof.Machine.execMacGenerate slot s
  | .macVerify slot => Sys2Proof.Machine.execMacVerify slot s
  | .encrypt slot => Sys2Proof.Machine.execEncrypt slot s
  | .decrypt slot => Sys2Proof.Machine.execDecrypt slot s
  | .hash slot => Sys2Proof.Machine.execHash slot s
  | .rsaSign slot => Sys2Proof.Machine.execRsaSign slot s
  | .rsaVerify slot => Sys2Proof.Machine.execRsaVerify slot s
  | .rsaDecrypt slot => Sys2Proof.Machine.execRsaDecrypt slot s
  | .ecdsaSign slot => Sys2Proof.Machine.execEcdsaSign slot s
  | .ecdsaVerify slot => Sys2Proof.Machine.execEcdsaVerify slot s
  | .eddsaSign slot => Sys2Proof.Machine.execEddsaSign slot s
  | .eddsaVerify slot => Sys2Proof.Machine.execEddsaVerify slot s
  | .ecdhDerive slot => Sys2Proof.Machine.execEcdhDerive slot s
  | .mldsaSign slot => Sys2Proof.Machine.execMldsaSign slot s
  | .mldsaVerify slot => Sys2Proof.Machine.execMldsaVerify slot s
  | .mlkemEncaps slot => Sys2Proof.Machine.execMlkemEncaps slot s
  | .mlkemDecaps slot => Sys2Proof.Machine.execMlkemDecaps slot s
  | .slhdsaSign slot => Sys2Proof.Machine.execSlhdsaSign slot s
  | .slhdsaVerify slot => Sys2Proof.Machine.execSlhdsaVerify slot s
  | .hybridSign slot => Sys2Proof.Machine.execHybridSign slot s
  | .hybridVerify slot => Sys2Proof.Machine.execHybridVerify slot s
  | .hybridKem slot => Sys2Proof.Machine.execHybridKem slot s
  | .randomGet slot => Sys2Proof.Machine.execRandomGet slot s
  | .tsm3300Frame slot => Sys2Proof.Machine.execTsm3300Frame slot s
  | .extensionCommand slot core frame => Sys2Proof.Machine.execExtensionCommand slot core frame s
  | .domainStatus slot => Sys2Proof.Machine.execDomainStatus slot s
  | .domainWipe slot => Sys2Proof.Machine.execDomainWipe slot s
  | .masterKeyLoad slot => Sys2Proof.Machine.execMasterKeyLoad slot s
  | .masterKeyGenerate slot => Sys2Proof.Machine.execMasterKeyGenerate slot s
  | .masterKeyDelete slot => Sys2Proof.Machine.execMasterKeyDelete slot s
  | .masterKeyQuery slot => Sys2Proof.Machine.execMasterKeyQuery slot s
  | .keyEnterClear slot => Sys2Proof.Machine.execKeyEnterClear slot s
  | .settStatus slot => Sys2Proof.Machine.execSettStatus slot s
  | .ceremonyOpen slot => Sys2Proof.Machine.execCeremonyOpen slot s
  | .ceremonyPresent slot => Sys2Proof.Machine.execCeremonyPresent slot s
  | .ceremonyStatus slot => Sys2Proof.Machine.execCeremonyStatus slot s
  | .ceremonyClose slot => Sys2Proof.Machine.execCeremonyClose slot s
  | .custodianEnrol slot => Sys2Proof.Machine.execCustodianEnrol slot s
  | .custodianRevoke slot => Sys2Proof.Machine.execCustodianRevoke slot s
  | .custodianQuery slot => Sys2Proof.Machine.execCustodianQuery slot s
  | .quillPresenceChange port present => Sys2Proof.Machine.execQuillPresenceChange port present s
  | .quillAtr port atr => Sys2Proof.Machine.execQuillAtr port atr s
  | .quillBlockError port timeout => Sys2Proof.Machine.execQuillBlockError port timeout s
  | .quillResponse port block => Sys2Proof.Machine.execQuillResponse port block s
  | .ceremonyWaitExpiry port => Sys2Proof.Machine.execCeremonyWaitExpiry port s
  | .ceremonyTimeout => Sys2Proof.Machine.execCeremonyTimeout s
  | .cubReset slot => Sys2Proof.Machine.execCubReset slot s
  | .cubFlush slot => Sys2Proof.Machine.execCubFlush slot s
  | .vfFlr fn => Sys2Proof.Machine.execVfFlr fn s
  | .pfFlr => Sys2Proof.Machine.execPfFlr s
  | .vfEnableClear => Sys2Proof.Machine.execVfEnableClear s
  | .drainSquash fn => Sys2Proof.Machine.execDrainSquash fn s
  | .drainUndelivered fn => Sys2Proof.Machine.execDrainUndelivered fn s
  | .resetComplete fn => Sys2Proof.Machine.execResetComplete fn s
  | .migIdentity slot => Sys2Proof.Machine.execMigIdentity slot s
  | .migTicket slot => Sys2Proof.Machine.execMigTicket slot s
  | .migFreeze slot => Sys2Proof.Machine.execMigFreeze slot s
  | .migSave slot => Sys2Proof.Machine.execMigSave slot s
  | .migRestore slot => Sys2Proof.Machine.execMigRestore slot s
  | .migConclude slot => Sys2Proof.Machine.execMigConclude slot s
  | .migThaw slot => Sys2Proof.Machine.execMigThaw slot s
  | .migResume slot => Sys2Proof.Machine.execMigResume slot s
  | .migFreezeTimeout fn => Sys2Proof.Machine.execMigFreezeTimeout fn s
  | .migTicketExpiry => Sys2Proof.Machine.execMigTicketExpiry s
  | .dirtyLogStart slot => Sys2Proof.Machine.execDirtyLogStart slot s
  | .dirtyLogHarvest slot => Sys2Proof.Machine.execDirtyLogHarvest slot s
  | .dirtyLogStop slot => Sys2Proof.Machine.execDirtyLogStop slot s
  | .pairExercise slot cores bears hedgehogs keys => Sys2Proof.Machine.execPairExercise slot cores bears hedgehogs keys s
  | .exerciseIntervalExpiry cores bears hedgehogs keys => Sys2Proof.Machine.execExerciseIntervalExpiry cores bears hedgehogs keys s
  | .ill core w => Sys2Proof.Machine.execIll core w s
  | .add core w => Sys2Proof.Machine.execAdd core w s
  | .sub core w => Sys2Proof.Machine.execSub core w s
  | .and core w => Sys2Proof.Machine.execAnd core w s
  | .or core w => Sys2Proof.Machine.execOr core w s
  | .xor core w => Sys2Proof.Machine.execXor core w s
  | .shl core w => Sys2Proof.Machine.execShl core w s
  | .shr core w => Sys2Proof.Machine.execShr core w s
  | .sar core w => Sys2Proof.Machine.execSar core w s
  | .mul core w => Sys2Proof.Machine.execMul core w s
  | .mulhu core w => Sys2Proof.Machine.execMulhu core w s
  | .slt core w => Sys2Proof.Machine.execSlt core w s
  | .sltu core w => Sys2Proof.Machine.execSltu core w s
  | .cmpeq core w => Sys2Proof.Machine.execCmpeq core w s
  | .csel core w => Sys2Proof.Machine.execCsel core w s
  | .ror core w => Sys2Proof.Machine.execRor core w s
  | .addi core w => Sys2Proof.Machine.execAddi core w s
  | .andi core w => Sys2Proof.Machine.execAndi core w s
  | .ori core w => Sys2Proof.Machine.execOri core w s
  | .xori core w => Sys2Proof.Machine.execXori core w s
  | .shli core w => Sys2Proof.Machine.execShli core w s
  | .shri core w => Sys2Proof.Machine.execShri core w s
  | .sari core w => Sys2Proof.Machine.execSari core w s
  | .slti core w => Sys2Proof.Machine.execSlti core w s
  | .sltiu core w => Sys2Proof.Machine.execSltiu core w s
  | .lui core w => Sys2Proof.Machine.execLui core w s
  | .insh core w => Sys2Proof.Machine.execInsh core w s
  | .ld core w => Sys2Proof.Machine.execLd core w s
  | .lw core w => Sys2Proof.Machine.execLw core w s
  | .lh core w => Sys2Proof.Machine.execLh core w s
  | .lb core w => Sys2Proof.Machine.execLb core w s
  | .st core w => Sys2Proof.Machine.execSt core w s
  | .sw core w => Sys2Proof.Machine.execSw core w s
  | .sh core w => Sys2Proof.Machine.execSh core w s
  | .sb core w => Sys2Proof.Machine.execSb core w s
  | .beq core w => Sys2Proof.Machine.execBeq core w s
  | .bne core w => Sys2Proof.Machine.execBne core w s
  | .blt core w => Sys2Proof.Machine.execBlt core w s
  | .bge core w => Sys2Proof.Machine.execBge core w s
  | .bltu core w => Sys2Proof.Machine.execBltu core w s
  | .bgeu core w => Sys2Proof.Machine.execBgeu core w s
  | .jal core w => Sys2Proof.Machine.execJal core w s
  | .jalr core w => Sys2Proof.Machine.execJalr core w s
  | .extr core w => Sys2Proof.Machine.execExtr core w s
  | .csrr core w => Sys2Proof.Machine.execCsrr core w s
  | .csrw core w => Sys2Proof.Machine.execCsrw core w s
  | .fence core w => Sys2Proof.Machine.execFence core w s
  | .trap core w => Sys2Proof.Machine.execTrap core w s
  | .eret core w => Sys2Proof.Machine.execEret core w s
  | .done core w => Sys2Proof.Machine.execDone core w s
  | .yield core w => Sys2Proof.Machine.execYield core w s
  | .yieldResume slot core => Sys2Proof.Machine.execYieldResume slot core s
  | .ctpad core w => Sys2Proof.Machine.execCtpad core w s
  | .ctpadRelease core => Sys2Proof.Machine.execCtpadRelease core s
  | .hld core w => Sys2Proof.Machine.execHld core w s
  | .hmov core w => Sys2Proof.Machine.execHmov core w s
  | .cblkMov core w => Sys2Proof.Machine.execCblkMov core w s
  | .cblkXor core w => Sys2Proof.Machine.execCblkXor core w s
  | .cblkAnd core w => Sys2Proof.Machine.execCblkAnd core w s
  | .cblkZero core w => Sys2Proof.Machine.execCblkZero core w s
  | .cblkLoad core w => Sys2Proof.Machine.execCblkLoad core w s
  | .cblkStore core w => Sys2Proof.Machine.execCblkStore core w s
  | .cblkGetl core w => Sys2Proof.Machine.execCblkGetl core w s
  | .cblkGeth core w => Sys2Proof.Machine.execCblkGeth core w s
  | .cblkPutl core w => Sys2Proof.Machine.execCblkPutl core w s
  | .cblkPuth core w => Sys2Proof.Machine.execCblkPuth core w s
  | .cblkRand core w => Sys2Proof.Machine.execCblkRand core w s
  | .cblkEq core w => Sys2Proof.Machine.execCblkEq core w s
  | .cblkMark core w => Sys2Proof.Machine.execCblkMark core w s
  | .ciphEncrypt core w => Sys2Proof.Machine.execCiphEncrypt core w s
  | .ciphDecrypt core w => Sys2Proof.Machine.execCiphDecrypt core w s
  | .pipeInit core w => Sys2Proof.Machine.execPipeInit core w s
  | .pipeAbsorb core w => Sys2Proof.Machine.execPipeAbsorb core w s
  | .pipeFinal core w => Sys2Proof.Machine.execPipeFinal core w s
  | .pipeReset core w => Sys2Proof.Machine.execPipeReset core w s
  | .kres core w => Sys2Proof.Machine.execKres core w s
  | .hchk core w => Sys2Proof.Machine.execHchk core w s
  | .kopRelease core w => Sys2Proof.Machine.execKopRelease core w s
  | .kopInstall core w => Sys2Proof.Machine.execKopInstall core w s
  | .kopDelete core w => Sys2Proof.Machine.execKopDelete core w s
  | .engqSubmit core w => Sys2Proof.Machine.execEngqSubmit core w s
  | .engqSubmitRetry slot core => Sys2Proof.Machine.execEngqSubmitRetry slot core s
  | .engqPoll core w => Sys2Proof.Machine.execEngqPoll core w s
  | .engqAbort core w => Sys2Proof.Machine.execEngqAbort core w s
  | .owlev core w => Sys2Proof.Machine.execOwlev core w s
  | .decd core w => Sys2Proof.Machine.execDecd core w s
  | .bswap core w => Sys2Proof.Machine.execBswap core w s
  | .keyRecordArrival key fault => Sys2Proof.Machine.execKeyRecordArrival key fault s
  | .missPenTimeout slot => Sys2Proof.Machine.execMissPenTimeout slot s
  | .persistentCountWrite key => Sys2Proof.Machine.execPersistentCountWrite key s
  | .jobModmul slot job => Sys2Proof.Machine.execJobModmul slot job s
  | .jobModexp slot job => Sys2Proof.Machine.execJobModexp slot job s
  | .jobModexpPub slot job => Sys2Proof.Machine.execJobModexpPub slot job s
  | .jobModinv slot job => Sys2Proof.Machine.execJobModinv slot job s
  | .jobRsaSign slot job crtFault => Sys2Proof.Machine.execJobRsaSign slot job crtFault s
  | .jobRsaDecrypt slot job crtFault => Sys2Proof.Machine.execJobRsaDecrypt slot job crtFault s
  | .jobRsaVerify slot job => Sys2Proof.Machine.execJobRsaVerify slot job s
  | .jobRsaKeygen slot job => Sys2Proof.Machine.execJobRsaKeygen slot job s
  | .jobEcdsaSign slot job => Sys2Proof.Machine.execJobEcdsaSign slot job s
  | .jobEcdsaVerify slot job => Sys2Proof.Machine.execJobEcdsaVerify slot job s
  | .jobEcdh slot job => Sys2Proof.Machine.execJobEcdh slot job s
  | .jobEcKeygen slot job => Sys2Proof.Machine.execJobEcKeygen slot job s
  | .jobEddsaSign slot job => Sys2Proof.Machine.execJobEddsaSign slot job s
  | .jobEddsaVerify slot job => Sys2Proof.Machine.execJobEddsaVerify slot job s
  | .jobMlkemKeygen slot job => Sys2Proof.Machine.execJobMlkemKeygen slot job s
  | .jobMlkemEncaps slot job => Sys2Proof.Machine.execJobMlkemEncaps slot job s
  | .jobMlkemDecaps slot job => Sys2Proof.Machine.execJobMlkemDecaps slot job s
  | .jobMldsaKeygen slot job => Sys2Proof.Machine.execJobMldsaKeygen slot job s
  | .jobMldsaSign slot job => Sys2Proof.Machine.execJobMldsaSign slot job s
  | .jobMldsaVerify slot job => Sys2Proof.Machine.execJobMldsaVerify slot job s
  | .engineJobDone hedgehog engine => Sys2Proof.Machine.execEngineJobDone hedgehog engine s
  | .engineAbortCleared hedgehog engine => Sys2Proof.Machine.execEngineAbortCleared hedgehog engine s
  | .engineFault hedgehog engine kind => Sys2Proof.Machine.execEngineFault hedgehog engine kind s
  | .bearSwapRequest engine => Sys2Proof.Machine.execBearSwapRequest engine s
  | .bearStoreExchange engine => Sys2Proof.Machine.execBearStoreExchange engine s
  | .bearActiveWrite engine addr value => Sys2Proof.Machine.execBearActiveWrite engine addr value s
  | .bearShadowWrite engine addr value => Sys2Proof.Machine.execBearShadowWrite engine addr value s
  | .noiseBlockTested source samples => Sys2Proof.Machine.execNoiseBlockTested source samples s
  | .drbgGenerate => Sys2Proof.Machine.execDrbgGenerate s
  | .randomDrawServed => Sys2Proof.Machine.execRandomDrawServed s
  | .rngReseedAll => Sys2Proof.Machine.execRngReseedAll s
  | .larderTestSlot larder fault bad => Sys2Proof.Machine.execLarderTestSlot larder fault bad s
  | .fabricAccess master world gate off kind size data codeOk err => Sys2Proof.Machine.execFabricAccess master world gate off kind size data codeOk err s
  | .pageCommit page bytes source => Sys2Proof.Machine.execPageCommit page bytes source s
  | .pageCommitRetired => Sys2Proof.Machine.execPageCommitRetired s
  | .pstoreFenceClose => Sys2Proof.Machine.execPstoreFenceClose s
  | .powerOn centivolts => Sys2Proof.Machine.execPowerOn centivolts s
  | .perstAssert => Sys2Proof.Machine.execPerstAssert s
  | .pcieHotReset => Sys2Proof.Machine.execPcieHotReset s
  | .pcieLinkDown => Sys2Proof.Machine.execPcieLinkDown s
  | .devReset key => Sys2Proof.Machine.execDevReset key s
  | .lockstepMismatch => Sys2Proof.Machine.execLockstepMismatch s
  | .boot selfTest dramOk lcBad kat reads => Sys2Proof.Machine.execBoot selfTest dramOk lcBad kat reads s
  | .holdupArmed => Sys2Proof.Machine.execHoldupArmed s
  | .fwStage fetched => Sys2Proof.Machine.execFwStage fetched s
  | .fwFlashWriteDone ok => Sys2Proof.Machine.execFwFlashWriteDone ok s
  | .fwCommit => Sys2Proof.Machine.execFwCommit s
  | .fwExchange => Sys2Proof.Machine.execFwExchange s
  | .provision fetched => Sys2Proof.Machine.execProvision fetched s
  | .transition fetched bad => Sys2Proof.Machine.execTransition fetched bad s
  | .transitionComplete written => Sys2Proof.Machine.execTransitionComplete written s
  | .testUnlock fetched written => Sys2Proof.Machine.execTestUnlock fetched written s
  | .debugChallenge => Sys2Proof.Machine.execDebugChallenge s
  | .debugChallengeExpiry => Sys2Proof.Machine.execDebugChallengeExpiry s
  | .debugOpen fetched => Sys2Proof.Machine.execDebugOpen fetched s
  | .debugQuiesced bad => Sys2Proof.Machine.execDebugQuiesced bad s
  | .debugQuiesceTimeout => Sys2Proof.Machine.execDebugQuiesceTimeout s
  | .ownerRotate fetched => Sys2Proof.Machine.execOwnerRotate fetched s
  | .lightSample site level => Sys2Proof.Machine.execLightSample site level s
  | .canaryScan site flipped => Sys2Proof.Machine.execCanaryScan site flipped s
  | .temperatureSample sensor value => Sys2Proof.Machine.execTemperatureSample sensor value s
  | .voltageExcursion monitor value => Sys2Proof.Machine.execVoltageExcursion monitor value s
  | .clockExcursion monitor value pllLost => Sys2Proof.Machine.execClockExcursion monitor value pllLost s
  | .meshSample opens shorts => Sys2Proof.Machine.execMeshSample opens shorts s
  | .lidSample lid a b => Sys2Proof.Machine.execLidSample lid a b s
  | .tamperResponseDone => Sys2Proof.Machine.execTamperResponseDone s
  | .healthPeriodEnd => Sys2Proof.Machine.execHealthPeriodEnd s
  | .calibrationSlot values => Sys2Proof.Machine.execCalibrationSlot values s
  | .cellRemoved cell => Sys2Proof.Machine.execCellRemoved cell s
  | .cellInserted cell raw volts => Sys2Proof.Machine.execCellInserted cell raw volts s
  | .cellLow cell volts => Sys2Proof.Machine.execCellLow cell volts s
  | .torporPowerOn => Sys2Proof.Machine.execTorporPowerOn s
  | .torporChangeover good => Sys2Proof.Machine.execTorporChangeover good s
  | .owlEvent => Sys2Proof.Machine.execOwlEvent s
  | .owlPageCommit => Sys2Proof.Machine.execOwlPageCommit s
  | .owlFoldFlush => Sys2Proof.Machine.execOwlFoldFlush s
  | .evrRead go ok => Sys2Proof.Machine.execEvrRead go ok s
  | .checkpointExport go ok => Sys2Proof.Machine.execCheckpointExport go ok s
  | .auditKeys go ok => Sys2Proof.Machine.execAuditKeys go ok s
  | .setTime => Sys2Proof.Machine.execSetTime s
  | .crcStart unit => Sys2Proof.Machine.execCrcStart unit s
  | .crcAliveRestart unit => Sys2Proof.Machine.execCrcAliveRestart unit s
  | .crcConfigWrite unit value => Sys2Proof.Machine.execCrcConfigWrite unit value s
  | .crcParameterWrite unit reg value => Sys2Proof.Machine.execCrcParameterWrite unit reg value s
  | .crcDataB unit value => Sys2Proof.Machine.execCrcDataB unit value s
  | .crcDataH unit value => Sys2Proof.Machine.execCrcDataH unit value s
  | .crcDataW unit value => Sys2Proof.Machine.execCrcDataW unit value s
  | .crcAlive unit value => Sys2Proof.Machine.execCrcAlive unit value s
  | .burrowWrite queue kind word => Sys2Proof.Machine.execBurrowWrite queue kind word s
  | .burrowRead queue => Sys2Proof.Machine.execBurrowRead queue s
  | .burrowFlush queue => Sys2Proof.Machine.execBurrowFlush queue s
  | .burrowPointerMismatch queue read => Sys2Proof.Machine.execBurrowPointerMismatch queue read s
  | .pairingFrame link device pairId names publics lifeCycle digest state pref cipher => Sys2Proof.Machine.execPairingFrame link device pairId names publics lifeCycle digest state pref cipher s
  | .pairingRetry => Sys2Proof.Machine.execPairingRetry s
  | .syncQuiesced => Sys2Proof.Machine.execSyncQuiesced s
  | .syncHoldTimeout => Sys2Proof.Machine.execSyncHoldTimeout s
  | .frameHeader link lane ok => Sys2Proof.Machine.execFrameHeader link lane ok s
  | .dataFrame link seq ack payload tagOk => Sys2Proof.Machine.execDataFrame link seq ack payload tagOk s
  | .idleFrame link ack tagOk => Sys2Proof.Machine.execIdleFrame link ack tagOk s
  | .retransmissionRequest link seq ack tagOk => Sys2Proof.Machine.execRetransmissionRequest link seq ack tagOk s
  | .admitRecord admission fn position entry input => Sys2Proof.Machine.execAdmit admission fn position entry input s
  | .draw admission data => Sys2Proof.Machine.execDraw admission data s
  | .doorbell fn tail head => Sys2Proof.Machine.execDoorbell fn tail head s
  | .state admission kind record => Sys2Proof.Machine.execState admission kind record s
  | .epoch epoch last written => Sys2Proof.Machine.execEpoch epoch last written s
  | .gpio value => Sys2Proof.Machine.execGpio value s
  | .delta delta => Sys2Proof.Machine.execDelta delta s
  | .syncItem kind key data => Sys2Proof.Machine.execSyncItem kind key data s
  | .result admission hash => Sys2Proof.Machine.execResult admission hash s
  | .digest epoch digest => Sys2Proof.Machine.execDigest epoch digest s
  | .leaseReq link request => Sys2Proof.Machine.execLeaseReq link request s
  | .grant request => Sys2Proof.Machine.execGrant request s
  | .release cause last indices found lists => Sys2Proof.Machine.execRelease cause last indices found lists s
  | .epochBoundary => Sys2Proof.Machine.execEpochBoundary s
  | .resultTimeout => Sys2Proof.Machine.execResultTimeout s
  | .leaseRenewal => Sys2Proof.Machine.execLeaseRenewal s
  | .leaseExpiry => Sys2Proof.Machine.execLeaseExpiry s
  | .leaseLapseTakeover found lists => Sys2Proof.Machine.execLeaseLapseTakeover found lists s
  | .packSwitch => Sys2Proof.Machine.execPackSwitch s
  | .packSolo key => Sys2Proof.Machine.execPackSolo key s
  | .packWitnessChange level => Sys2Proof.Machine.execPackWitnessChange level s
  | .witnessHoldExpiry => Sys2Proof.Machine.execWitnessHoldExpiry s
  | .isolatedLinkFrame crcOk follows centivolts milliamps => Sys2Proof.Machine.execIsolatedLinkFrame crcOk follows centivolts milliamps s
  | .isolatedLinkLost => Sys2Proof.Machine.execIsolatedLinkLost s
  | .lineUndervoltage centivolts => Sys2Proof.Machine.execLineUndervoltage centivolts s
  | .lineOvervoltage centivolts => Sys2Proof.Machine.execLineOvervoltage centivolts s
  | .converterFault => Sys2Proof.Machine.execConverterFault s
  | .lineReturn => Sys2Proof.Machine.execLineReturn s
  | .idleGateExpiry domain => Sys2Proof.Machine.execIdleGateExpiry domain s
  | .gateComplete domain bad => Sys2Proof.Machine.execGateComplete domain bad s
  | .domainWakeDone domain bad => Sys2Proof.Machine.execDomainWakeDone domain bad s
  | .pwrWake domain => Sys2Proof.Machine.execPwrWake domain s
  | .pwrGate domain => Sys2Proof.Machine.execPwrGate domain s
  | .pwrCancel domain => Sys2Proof.Machine.execPwrCancel domain s
  | .deferredGate domain => Sys2Proof.Machine.execDeferredGate domain s
  | .gateRequestTimeout domain => Sys2Proof.Machine.execGateRequestTimeout domain s
  | .pwrModeWrite value => Sys2Proof.Machine.execPwrModeWrite value s
  | .pwrAlwaysOnWrite value => Sys2Proof.Machine.execPwrAlwaysOnWrite value s
  | .devGpioDirWrite value => Sys2Proof.Machine.execDevGpioDirWrite value s
  | .devGpioOutWrite value => Sys2Proof.Machine.execDevGpioOutWrite value s
  | .jtagInstruction code => Sys2Proof.Machine.execJtagInstruction code s
  | .configurationRequest fn item value => Sys2Proof.Machine.execConfigurationRequest fn item value s
  | .pcieLinkUp speed width => Sys2Proof.Machine.execPcieLinkUp speed width s
  | .powerRampDone => Sys2Proof.Machine.execPowerRampDone s
  | .syncItemsSent => Sys2Proof.Machine.execSyncItemsSent s
  | .unlistedFunctionCode core w => Sys2Proof.Machine.execUnlistedFunctionCode core w s

end Sys2Proof.Machine
end

