-- ==== Sys2Proof/Safety.lean ====
section
/-! DEFINITION. What a safe run is, and the terms that the claims use: the invariants, and what it means that a built-in
program runs for the command in a slot, that its handles resolve, and that a core executes a code word. -/

namespace Sys2Proof.Machine

/-- A state in which the block takes a next step: it neither faults nor refuses. -/
def State.Steps (s : State) : Prop := ∃ t, step s = .next t

/-- A run of n steps from a state that never stops. -/
def State.runsSafely : Nat → State → Prop
  | 0, _ => True
  | n + 1, s => ∃ t, step s = .next t ∧ t.runsSafely n

/-- The sparse memory is in its canonical form: addresses strictly rising, no listed byte zero. -/
def State.MemWf (s : State) : Prop := Memory.wf s.mem.mem = true

/-- No word of n bytes behind a gate holds an error: a read of them is neither corrected nor uncorrectable. -/
def State.Sound (s : State) (g off n : Nat) : Prop :=
  ∀ w ∈ s.mem.poisoned ++ s.mem.flipped, ¬ (w < gateAddr g off + n ∧ gateAddr g off < w + 8)

/-- The command in a slot runs the built-in program of a native opcode, with lengths that the opcode accepts (R167) and an
input that reads without error; under the sealed controller it names no stream (R260). It is no compatibility command. -/
def State.RunsNative (s : State) (k op : Nat) (sl : Slot) : Prop :=
  s.slot? k = some sl ∧ sl.runsNative 1 op = true ∧ nativeLength sl.entry = true ∧ sl.legacy = none ∧
    (sl.pool = none → sl.entry.streamPart = 0) ∧ (sl.jobs = [] → s.Sound 3 (k * 0x20000) sl.entry.inLength)

/-- The command of slot k has ended, with what its completion entry and its result data carry. -/
def State.EndsWith (s : State) (k : Nat) (status : Status) (needed : Nat) (result detail : Bytes) : Prop :=
  ∃ sl, s.slot? k = some sl ∧ sl.phase = .ended ∧ sl.status = status ∧ sl.needed = needed ∧ sl.result = result ∧
    sl.detail = detail

/-- The pieces of result data that the segments of an output scatter list take, in order, with their addresses (R166). -/
def scatterPieces : List (Nat × Nat) → Bytes → List (Nat × Bytes)
  | [], _ => []
  | (a, n) :: t, b => if b.isEmpty then [] else (a, b.take n) :: scatterPieces t (b.drop n)

/-- The registers of a command at the start of its program in a context frame: Table 6-3. Every other register is 0 or
empty (R26, R211). -/
def Ctx.StartsFor (x : Ctx) (sl : Slot) (frame now : Nat) : Prop :=
  let low : Nat := if sl.programWorld then 0x1000000 + frame * 0x800 else 0x1040000 + frame * 0x1000
  let high : Nat := low + if sl.programWorld then 0x800 else 0x1000
  (∀ i, i < 32 → x.rg i = if i = 1 then 0x2000000 else if i = 2 then BitVec.ofNat 64 sl.entry.inLength
    else if i = 3 then BitVec.ofNat 64 sl.entry.outLength else if i = 4 then 0x2010000
    else if i = 5 then 0x2020000 else if i = 30 then BitVec.ofNat 64 high else 0) ∧
  (∀ i, i < 8 → x.rk i = if i < 4 then sl.entry.handle i else 0) ∧
  (∀ i, i < 16 → x.rcb i = { val := 0, sensitive := false }) ∧ (∀ i, i < 8 → x.rck i = none) ∧
  x.stackLo = BitVec.ofNat 32 low ∧ x.stackHi = BitVec.ofNat 32 high ∧ x.excDepth = 0 ∧ x.dfActive = false ∧
  x.firstAt = now ∧ x.padUntil = none ∧ x.keyFault = none

/-- What t keeps of s when one Quill port works: all but port p, which stands at v, and the blocks `out`, which it has
sent. -/
def State.OnPort (s t : State) (p : Nat) (v : QuillPort) (out : List Bytes) : Prop :=
  t = { s with quill.ports := t.quill.ports, outputs := s.outputs ++ out.map (.quill p ·) } ∧ t.port p = v ∧
    ∀ q, q ≠ p → t.port q = s.port q

/-- The Quill message of a type with an empty body (Table 8-2). -/
def quillMessage (type seq : Nat) : Bytes := [0x51, 0x4C, 0x01] ++ natBe 1 type ++ [0, 0] ++ natBe 2 seq

/-- A port that has sent IDENTIFY in one piece for its request (R323). -/
def QuillPort.identifying (v : QuillPort) (r : QuillRequest) (now : Nat) : QuillPort :=
  { v with state := 3, nextSeq := (v.nextSeq + 1) % 65536, message := quillMessage 1 v.nextSeq,
           tx := [quillMessage 1 v.nextSeq], rx := [], waitSince := now,
           request := some (r.sends .identify v.nextSeq) }

/-- Slot k is the lowest free one. -/
def State.LowestFree (s : State) (k : Nat) : Prop := k < 4096 ∧ s.slot? k = none ∧ ∀ j, j < k → s.slot? j ≠ none

/-- HANDLE0 of the command in a slot resolves (R224), with the key register that then holds its key and the state that
the resolution leaves: one use reserved (R226), the key the most recently used of its set. -/
def State.Resolves (s : State) (k : Nat) (sl : Slot) (a : KeyReg) (t : State) : Prop :=
  s.resolveFrom k (s.domOf sl) sl.entry [0] = (true, t) ∧ ((t.slot? k).bind fun x => x.keyAt? 0) = some a

/-- HANDLE0 and HANDLE1 of the command in a slot resolve, in this order (R168). -/
def State.ResolvesBoth (s : State) (k : Nat) (sl : Slot) (a b : KeyReg) (t : State) : Prop :=
  s.resolveFrom k (s.domOf sl) sl.entry [0, 1] = (true, t) ∧ ((t.slot? k).bind fun x => x.keyAt? 0) = some a ∧
    ((t.slot? k).bind fun x => x.keyAt? 1) = some b

/-- The command in a slot is a den command of an administrative opcode whose program the sealed controller runs now, on a
half that is not a standby (R620); it names no stream (R260). -/
def State.RunsAdmin (s : State) (k op : Nat) (sl : Slot) : Prop :=
  s.slot? k = some sl ∧ sl.phase = .ready ∧ sl.fn = 0 ∧ sl.entry.persId = 0 ∧ sl.setId = none ∧ sl.entry.opcode = op ∧
    s.pair.phase ≠ .standby ∧ sl.entry.streamPart = 0


/-- Core c issues the code word w of the command sl in slot k as an instruction of an opcode: the word lies at the program
counter, and no bit of `zero` is 1 (R207, R212). -/
def State.Issues (s : State) (c k : Nat) (sl : Slot) (w : BitVec 32) (op : Nat) (zero : BitVec 32) : Prop :=
  s.running? c = some (k, sl) ∧ sl.ctx.pc.toNat < 0x100000 ∧ sl.ctx.pc.toNat % 4 = 0 ∧
    s.codeWord sl sl.ctx.pc.toNat = w ∧ Insn.op w = op ∧ w &&& zero = 0

/-- The state in which the command sl of slot k has other registers. -/
def State.withCtx (k : Nat) (sl : Slot) (x : Ctx) (s : State) : State := s.setSlot k { sl with ctx := x }

/-- The command of slot k has written v to general register i and goes on at the next instruction. -/
def State.wroteG (k : Nat) (sl : Slot) (i : Nat) (v : Word) (s : State) : State :=
  s.withCtx k sl { sl.ctx.setG i v with pc := sl.ctx.pc + 4 }

/-- Job n of the command sl in slot k, a job j of an operation, is at the head of the queue of its awake group, and engine
e is the one that takes it (R346); none of its operands lies in a larder that is being wiped (R456) or holds an
uncorrectable word (R446). -/
def State.JobWaits (s : State) (k n op : Nat) (sl : Slot) (j : Job) (e : Nat) : Prop :=
  s.slot? k = some sl ∧ s.job? k n = some j ∧ j.operation = op ∧ j.state = .queued ∧
    ∃ g, j.group = some g ∧ (s.queue j.hedgehog g).head? = some (k, n) ∧ s.awake (domGroup j.hedgehog g) = true ∧
      s.idleEngine? j.hedgehog g = some e ∧
      (j.spans.any fun p => s.larderWaits (sl.jobCell k p.1).1 (sl.jobCell k p.1).2) = false ∧ s.badSpan? k sl j = none

/-- The command c makes engine e run job n of slot k, which was j, with the result o, not yet delivered; the bytes of
memory, the output queue of Squirrel and what has left the module stay as they were. -/
def Takes (c : Instr) (s : State) (k n e : Nat) (j : Job) (o : JobOut) : Prop :=
  ∃ t i, exec c s = .next t ∧ (t.engine j.hedgehog e).running = some (k, n) ∧ t.job? k n = some i ∧
    i.state = .running ∧ i.engine = e ∧ i.computed = true ∧ i.code = o.code ∧ i.output = o.out ∧
    i.iterations = o.iterations ∧ i.secret = o.secret ∧ i.newKey = o.newKey ∧ i.publicKey = o.publicKey ∧
    t.mem.mem = s.mem.mem ∧ t.rng = s.rng ∧ t.outputs = s.outputs

/-- A microword of a physical store of a Bear engine. -/
def Engine.word (x : Engine) (store addr : Nat) : Word := tget (if store = 0 then x.store0 else x.store1) addr 0

end Sys2Proof.Machine
end

