-- ==== Sys2Proof/Certificates/Slice0/Obligations.lean ====
section
/-! DEFINITION. The statements about the model that are to be proved. Each is a proposition about `exec` or `step`;
its docstring names the rules of the specification that it formalises. -/

open Sys2Proof Sys2Proof.Machine

/-! ## The block as a whole -/

/-- A step with a command at the front of the queue is that command's `exec` on the state with the queue's rest; a
step on an empty queue lets one cycle of the 1.0 GHz fabric clock pass and changes nothing else (the second half is
the model's choice, log entry 2). -/
def Obligations.StepRunsTheFrontCommand : Prop :=
  (∀ (c : Instr) (rest : List Instr) (s : State), s.pending = c :: rest → step s = exec c { s with pending := rest }) ∧
  (∀ s : State, s.pending = [] → step s = .next { s with now := s.now + 192 })

/-- After a device reset of cause 0 and before the boot ROM runs: no command waits, no memory byte is listed (an
unlisted byte reads zero: log entry 5), no lodge is in force, every ring pair is disabled with rings of 16 entries and
a progress-word interval of 2 µs, and LDG_QUIESCE_LIMIT holds 100 ms. -/
def Obligations.ResetLeavesTheBlockEmpty : Prop :=
  State.reset.pending = [] ∧ State.reset.MemWf ∧ State.reset.lodge.inForce = none ∧
  (∀ f : Nat, (State.reset.ring f).enabled = false ∧ (State.reset.ring f).sqSize = 16 ∧
    (State.reset.ring f).cqSize = 16 ∧ (State.reset.ring f).pwEnable = false ∧ (State.reset.ring f).pwInterval = 2) ∧
  (∀ a : Nat, memByte State.reset.mem.mem a = 0) ∧
  State.reset.lodge.ctl.quiesceMs = 100

/-- Every step keeps the memory in its canonical form: addresses strictly rising and no listed byte equal to what an
unlisted address reads as. -/
def Obligations.EveryStepKeepsMemoryCanonical : Prop :=
  ∀ s t : State, s.MemWf → step s = .next t → t.MemWf

/-- No command puts a command into the queue or takes one out, and none turns time back. -/
def Obligations.CommandsLeaveTheQueueAndTimeAlone : Prop :=
  ∀ (c : Instr) (s t : State), exec c s = .next t → t.pending = s.pending ∧ t.now = s.now

/-- R505 and Table 14-13: the life-cycle state changes only where a boot chooses it again, where TRANSITION_COMPLETE
ends a TRANSITION, and where a confirmed tamper event finds a TRANSITION that is writing its copies; no other command
of the table changes it, and none but TRANSITION_COMPLETE and TEST_UNLOCK begins the writing of the copies. -/
def Obligations.OnlyATransitionChangesTheLifeCycleState : Prop :=
  ∀ (c : Instr) (s t : State), (∀ w, c ≠ .transitionComplete w) → (∀ f w, c ≠ .testUnlock f w) →
    (∀ a b d e f, c ≠ .boot a b d e f) → s.antler.phase ≠ .copies → exec c s = .next t →
    t.antler.state = s.antler.state ∧ t.antler.phase ≠ .copies

/-- The only command that stops the model is FABRIC_ACCESS, which stops with `noSuchAddress`; every other command
answers a next state from every state. -/
def Obligations.EveryOtherCommandAnswersANextState : Prop :=
  ∀ (c : Instr) (s : State), (∃ t, exec c s = .next t) ∨
    ((∃ m w g off k n d ok e, c = .fabricAccess m w g off k n d ok e) ∧ exec c s = .fault .noSuchAddress)

/-! ## Registers -/

/-- R16: an access of a wrong size or alignment changes nothing but raises REG_ACCESS with its function, offset, size
and direction; a read is answered with all bytes 0xFF. R18: a read of the low half of a 64-bit register latches its
high half of the same moment; the next read of the high half returns the latched value and ends the latch; with no
latch pending it returns the live high half. Nothing else changes. R13: a read of a QTK_PORT_ERRORS register returns
the count and clears it; nothing else changes. -/
def Obligations.RegisterReads : Prop :=
  ((∀ (f off size : Nat) (s : State), s.answers f off size = true → rightSize f off size = false →
     exec (.regAccess f off size true) s
       = .next (s.raise 0x10 (natLe 2 f ++ natLe 4 off ++ natLe 1 size ++ [1]))) ∧
   (∀ (f off size : Nat) (s : State), s.answers f off size = true → rightSize f off size = false →
     exec (.regAccess f off size false) s
       = .next ((s.raise 0x10 (natLe 2 f ++ natLe 4 off ++ natLe 1 size ++ [0])).emit
           (.readBytes f off (List.replicate size 0xFF)))) ∧
   (∀ (f off size : Nat) (v : Word) (s : State), s.answers f off size = true → rightSize f off size = false →
     exec (.registerWrite f off size v) s
       = .next (s.raise 0x10 (natLe 2 f ++ natLe 4 off ++ natLe 1 size ++ [1])))) ∧
  ((∀ (f off : Nat) (s : State), s.answers f off 4 = true → off % 4 = 0 → wideAt f off = true → s.readable f off = true →
     exec (.lowHalfRead f off) s = .next
       ({ s with host.hiLatch := tset s.host.hiLatch (regKey f off) (BitVec.ofNat 32 (s.register f off / 2 ^ 32)) }.emit
         (.readData f off 4 (BitVec.ofNat 64 (s.register f off % 2 ^ 32))))) ∧
   (∀ (f off : Nat) (h : Reg) (s : State), s.answers f (off + 4) 4 = true → off % 8 = 0 → wideAt f off = true →
     wideAt f (off + 4) = false → s.readable f (off + 4) = true → tget? s.host.hiLatch (regKey f off) = some h →
     exec (.rcRead f (off + 4) 4) s = .next
       ({ s with host.hiLatch := terase s.host.hiLatch (regKey f off) }.emit
         (.readData f (off + 4) 4 (BitVec.ofNat 64 h.toNat)))) ∧
   (∀ (f off : Nat) (s : State), s.answers f (off + 4) 4 = true → off % 8 = 0 → wideAt f off = true →
     wideAt f (off + 4) = false → s.readable f (off + 4) = true → tget? s.host.hiLatch (regKey f off) = none →
     exec (.rcRead f (off + 4) 4) s = .next
       (s.emit (.readData f (off + 4) 4 (BitVec.ofNat 64 (s.register f off / 2 ^ 32)))))) ∧
  (∀ (i : Nat) (s : State), i < 4 → s.answers 0 (0xA00020 + 4 * i) 4 = true → s.readable 0 (0xA00020 + 4 * i) = true →
     exec (.rcRead 0 (0xA00020 + 4 * i) 4) s = .next
       ((s.setPort i { s.port i with linkErrors := {} }).emit
         (.readData 0 (0xA00020 + 4 * i) 4 (BitVec.ofNat 64 (s.register 0 (0xA00020 + 4 * i))))))

/-- R19: a write of the low half of a 64-bit register followed by a write of its high half has the effect of one
64-bit write of the two, whatever the register; the write of the low half alone changes the low-half buffer and
nothing else. R17 and R19: a 64-bit write of LDG_SRC_ADDR, or of a high half after no write of the low half, updates
the register in one step and loads its buffer; a write of LDG_QUIESCE_LIMIT is held within 1 to 10,000; nothing else
changes. -/
def Obligations.RegisterWrites : Prop :=
  ((∀ (f off : Nat) (lo : Reg) (s : State), off % 8 = 0 → wideAt f off = true → s.answers f off 8 = true →
     s.writable f off = true → s.takesWide f off = true →
     exec (.lowHalfWrite f off lo) s = .next { s with host.loBuffer := tset s.host.loBuffer (regKey f off) lo }) ∧
   (∀ (f off : Nat) (lo hi : Reg) (s t : State), off % 8 = 0 → wideAt f off = true → wideAt f (off + 4) = false →
     s.answers f off 8 = true → s.writable f off = true → s.writable f (off + 4) = true →
     exec (.lowHalfWrite f off lo) s = .next t →
     exec (.highHalfWrite f off hi) t = exec (.registerWrite f off 8 (hi ++ lo)) s)) ∧
  ((∀ (v : Word) (s : State), s.answers 0 0x400008 8 = true → s.writable 0 0x400008 = true →
     exec (.registerWrite 0 0x400008 8 v) s = .next
       { s with lodge.ctl.srcAddr := v, host.loBuffer := terase s.host.loBuffer (regKey 0 0x400008) }) ∧
   (∀ (hi : Reg) (s : State), s.answers 0 0x40000C 4 = true → s.writable 0 0x40000C = true →
     tget? s.host.loBuffer (regKey 0 0x400008) = none →
     exec (.highHalfWrite 0 0x400008 hi) s = .next
       { s with lodge.ctl.srcAddr := hi ++ s.lodge.ctl.srcAddr.setWidth 32,
                host.loBuffer := terase s.host.loBuffer (regKey 0 0x400008) }) ∧
   (∀ (v : Word) (s : State), s.answers 0 0x400014 4 = true → s.writable 0 0x400014 = true →
     exec (.registerWrite 0 0x400014 4 v) s = .next
       { s with lodge.ctl.quiesceMs := max 1 (min 10000 (v.toNat % 2 ^ 14)) }))

/-- R35: every register of the TMP_ block is RO: a write of 4 aligned bytes there, or of 8 to one of its 64-bit
registers, changes nothing. R130 and R160: a write to CUB_SQ_BASE, CUB_SQ_SIZE, CUB_CQ_BASE or CUB_CQ_SIZE of a
function while its ring pair is enabled has no effect, and neither has a write to CUB_PW_ADDR while
CUB_PW_CONTROL.ENABLE is 1; whole, or of a half. -/
def Obligations.RegistersThatDiscardWrites : Prop :=
  (∀ (off size : Nat) (v : Word) (s : State), 0x700000 ≤ off → off < 0x800000 → rightSize 0 off size = true →
     exec (.registerWrite 0 off size v) s = .next s) ∧
  ((∀ (f off size : Nat) (v : Word) (s : State), off ∈ [0x100, 0x104, 0x108, 0x110, 0x114, 0x118] →
     rightSize f (ringOff f off) size = true → (s.ring f).enabled = true →
     exec (.registerWrite f (ringOff f off) size v) s = .next s) ∧
   (∀ (f off size : Nat) (v : Word) (s : State), off ∈ [0x2000, 0x2004] →
     rightSize f (ringOff f off) size = true → (s.ring f).pwEnable = true →
     exec (.registerWrite f (ringOff f off) size v) s = .next s))

/-! ## Rings, doorbells and progress words -/

/-- R124, R129: enabling a ring pair empties both rings and starts the first pass with PHASE 1; a write of 1 while the
pair is enabled or draining has no effect; a write of 0 stops fetching; and the drain ends once the function holds no
slot and none of its entries waits for a completion position. Nothing else changes. R131, R142, R143: clearing
FETCH_ERROR; forcing a progress word; and the write of a progress word that is due: SEQ advances before the write, the 8
bytes go to CUB_PW_ADDR without Relaxed Ordering, and FORCE is spent. R415: a progress word of a function whose Bus Master
Enable is 0, or whose write ends in an error, is counted as undelivered; R414: the error is reported. -/
def Obligations.RingControlAndProgressWords : Prop :=
  ((∀ (f : Nat) (s : State), s.ringShown f = true → (s.ring f).enabled = false →
     exec (.ringEnable f) s = .next (s.setRing f
       { s.ring f with enable := true, enabled := true, sqTail := 0, sqHead := 0, cqHead := 0, cqWrite := 0, phase := true,
                       sqFetched := 0, cqWritten := 0, pwSeq := 0, wasEligible := false })) ∧
   (∀ (f : Nat) (s : State), (s.ring f).enabled = true → exec (.ringEnable f) s = .next s) ∧
   (∀ (f : Nat) (s : State), s.ringShown f = true →
     exec (.ringDisable f) s = .next (s.setRing f { s.ring f with enable := false })) ∧
   (∀ (f : Nat) (s : State), (s.ring f).enabled = true → (s.ring f).enable = false → s.slotsOf f = [] →
     (∀ d ∈ s.host.due, d.fn ≠ f) →
     exec (.ringDrainDone f) s = .next (s.setRing f { s.ring f with enabled := false })) ∧
   (∀ (f : Nat) (s : State), s.slotsOf f ≠ [] ∨ (∃ d ∈ s.host.due, d.fn = f) →
     exec (.ringDrainDone f) s = .next s)) ∧
  ((∀ (f : Nat) (s : State), s.ringShown f = true →
     exec (.fetchErrorClear f) s = .next (s.setRing f { s.ring f with fetchError := false })) ∧
   (∀ (f : Nat) (s : State), s.ringShown f = true →
     exec (.pwForce f) s = .next (s.setRing f { s.ring f with pwForce := true })) ∧
   (∀ (f : Nat) (s : State), s.pwDue f = true → (s.fnSt f).busMaster = true → (s.fnSt f).dirty = none →
     ∃ t, exec (.progressWordWrite f true) s = .next t ∧
       t.outputs = s.outputs ++ [.hostWrite f (s.ring f).pwAddr.toNat false
         (natLe 8 (s.pwFields f + ((s.ring f).pwSeq + 1) % 256 * 2 ^ 48))] ∧
       (t.ring f).pwSeq = ((s.ring f).pwSeq + 1) % 256 ∧ (t.ring f).pwForce = false ∧
       (t.ring f).pwLastAt = some s.now ∧ t.host.slots = s.host.slots ∧ t.mem = s.mem ∧
       ∀ g, g ≠ f → t.ring g = s.ring g) ∧
   (∀ (f : Nat) (ok : Bool) (s : State), s.pwDue f = true → (ok = false ∨ (s.fnSt f).busMaster = false) →
     ∃ t, exec (.progressWordWrite f ok) s = .next t ∧ (t.ring f).pwSeq = ((s.ring f).pwSeq + 1) % 256 ∧
       (t.ring f).pwForce = false ∧ (t.ring f).pwLastAt = some s.now ∧
       (t.fnSt f).undelivered = (SatCount.add count31 1 (s.fnSt f).undelivered).1 ∧
       t.outputs = s.outputs ++ (if (s.fnSt f).busMaster then [.nonFatal f] else []) ∧
       t.host.slots = s.host.slots ∧ t.mem = s.mem ∧ ∀ g, g ≠ f → t.ring g = s.ring g) ∧
   (∀ (f : Nat) (ok : Bool) (s : State), (s.ring f).pwEnable = false →
     exec (.progressWordWrite f ok) s = .next s))

/-- R134: a write to CUB_SQ_TAIL of a value not below the ring size, or while the ring pair is not enabled, is
discarded and sets DB_ERROR; R136: any other is recorded. R135: a write to CUB_CQ_HEAD is accepted where its value is
below the ring size and (new head − old head) mod size does not exceed (write index − old head) mod size; any other is
discarded and sets DB_ERROR. R109: the entries of a removed function that wait for a completion position take those that an
accepted write frees. -/
def Obligations.DoorbellsAreChecked : Prop :=
  ((∀ (f : Nat) (v : Reg) (s : State), s.ringShown f = true → s.leads = false → (s.ring f).enabled = true →
     v.toNat % 4096 < (s.ring f).sqSize →
     exec (.sqTailWrite f v) s = .next (s.setRing f { s.ring f with sqTail := v.toNat % 4096 })) ∧
   (∀ (f : Nat) (v : Reg) (s : State), s.ringShown f = true →
     ((s.ring f).enabled = false ∨ (s.ring f).sqSize ≤ v.toNat % 4096) →
     exec (.sqTailWrite f v) s = .next (s.setRing f { s.ring f with dbError := true }))) ∧
  (∀ (f : Nat) (v : Reg) (s : State), s.ringShown f = true → s.leads = false →
     let n := (s.ring f).cqSize
     let new := v.toNat % 4096
     let head : Int := (s.ring f).cqHead
     let free : Prop := new < n ∧ (new - head) % n ≤ ((s.ring f).cqWrite - head) % n
     (free → s.host.due = [] → s.lodge.ctl.phase ≠ .commit →
       exec (.cqHeadWrite f v) s = .next (s.setRing f { s.ring f with cqHead := new })) ∧
     (free → exec (.cqHeadWrite f v) s = .next ((s.setRing f { s.ring f with cqHead := new }).settleFn f)) ∧
     (¬ free → exec (.cqHeadWrite f v) s = .next (s.setRing f { s.ring f with dbError := true })))

/-- R144 to R149: a dispatcher cycle. R148: it first takes note of which cubs are eligible: one that has become eligible
takes the later of its VT and GV. R145: where the den is eligible it is granted the lowest free slot, and GV stays. R147:
else the eligible cub whose VT is the smallest, the lowest number among equals, is granted it; its VT before the grant
becomes GV, and then its stride is added to it (R146). The slot holds the fetch of the function's next entry, and no other
slot changes. Where no slot is free the denied grants are counted, and where no function is eligible nothing happens. -/
def Obligations.SlotGrantFollowsStrideArbitration : Prop :=
  (∀ s : State, exec .slotGrant s = exec .slotGrant s.noteEligible ∧
    s.noteEligible = { s with host.rings := s.noteEligible.host.rings } ∧ s.noteEligible.ring 0 = s.ring 0 ∧
    ∀ f, f ≠ 0 → s.noteEligible.ring f =
      { s.ring f with wasEligible := s.eligible f,
                      vt := if s.eligible f = true ∧ (s.ring f).wasEligible = false ∧
                          ((s.ring f).vt - s.host.gv).msb = true then s.host.gv else (s.ring f).vt }) ∧
  (∀ (k : Nat) (s : State), (∀ f, f ≠ 0 → (s.ring f).wasEligible = s.eligible f) → s.LowestFree k →
    (s.eligible 0 = true → ∃ t, exec .slotGrant s = .next t ∧
      t.slot? k = some { fn := 0, ringIndex := (s.ring 0).sqHead, grant := s.host.grants, pool := none } ∧
      (∀ j, j ≠ k → t.slot? j = s.slot? j) ∧
      t.ring 0 = { s.ring 0 with sqHead := ((s.ring 0).sqHead + 1) % (s.ring 0).sqSize } ∧
      (∀ g, g ≠ 0 → t.ring g = { s.ring g with wasEligible := (t.ring g).wasEligible }) ∧
      t.host.gv = s.host.gv ∧ t.host.grants = s.host.grants + 1 ∧ t.host.denied = s.host.denied ∧
      t = { s with host := t.host }) ∧
    (∀ (f : Nat) (fr : FunctionRec), s.eligible 0 = false → s.cubs.Pairwise (· < ·) → f ∈ s.cubs → s.eligible f = true →
      (∀ g ∈ s.cubs, s.eligible g = true → (g < f → ((s.ring f).vt - (s.ring g).vt).msb = true) ∧
        (f < g → ((s.ring g).vt - (s.ring f).vt).msb = false)) → s.fnRec? f = some fr →
      ∃ t, exec .slotGrant s = .next t ∧
        t.slot? k = some { fn := f, ringIndex := (s.ring f).sqHead, grant := s.host.grants, pool := some fr.poolId } ∧
        (∀ j, j ≠ k → t.slot? j = s.slot? j) ∧
        t.ring f = { s.ring f with sqHead := ((s.ring f).sqHead + 1) % (s.ring f).sqSize,
                                   vt := (s.ring f).vt + BitVec.ofNat 32 (1048576 / fr.weight),
                                   wasEligible := (t.ring f).wasEligible } ∧
        (∀ g, g ≠ f → t.ring g = { s.ring g with wasEligible := (t.ring g).wasEligible }) ∧
        t.host.gv = (s.ring f).vt ∧ t.host.grants = s.host.grants + 1 ∧ t.host.denied = s.host.denied ∧
        t = { s with host := t.host })) ∧
  (∀ s : State, (∀ f, f ≠ 0 → (s.ring f).wasEligible = s.eligible f) →
    ((s.eligible 0 = true ∨ ∃ f ∈ s.cubs, s.eligible f = true) → (∀ j, j < 4096 → s.slot? j ≠ none) →
      ∃ t, exec .slotGrant s = .next t ∧
      t.host = { s.host with denied := (SatCount.add count31 1 s.host.denied).1 } ∧
      t = { s with host := t.host, owl := t.owl, status := t.status }) ∧
    (s.eligible 0 = false → (∀ f ∈ s.cubs, s.eligible f = false) → exec .slotGrant s = .next s))

/-! ## Admission, input and completion -/

/-- R123, R131, R150, R168, R697: the end of an entry's fetch on a half that leads no standby. The oldest fetch in flight of
a function that may admit is consumed and counted in SQ_FETCHED. A TAG that another command of the function holds ends it
with 0x0120, and a failed check of steps 1 to 4 with that status; lengths over the limits end it with 0x0105. An entry
that the sealed controller runs waits for its input, and one without input is ready, with a staging buffer of zeros. An
entry that a pool runs is routed to the awake skulk of the pool with the fewest routed commands (R151). R697: an entry that
may not be admitted stays posted; its slot is released, and the later fetches of the function are not admitted either, each
slot held until its own fetch ends. R131: a fetch that ends in an error sets FETCH_ERROR besides, raises the event, and is
reported as a non-fatal error (R414). -/
def Obligations.FetchedEntriesAreAdmitted : Prop :=
  (∀ (k f i g : Nat) (p : Option Nat) (data : Bytes) (s : State),
     s.slot? k = some { fn := f, ringIndex := i, grant := g, pool := p } → s.oldestFetch? f = some k →
     s.admitting = true → s.fnHeld f = false → s.leads = false →
     let e := parseEntry data
     let held := ∃ x ∈ s.slotsOf f, x.1 ≠ k ∧ x.2.phase ≠ .fetching ∧ x.2.entry.tag = e.tag
     let counts := fun t : State => t.ring f = { s.ring f with sqFetched := ((s.ring f).sqFetched + 1) % 65536 } ∧
       (∀ n, n ≠ f → t.ring n = s.ring n) ∧ (∀ j, j ≠ k → t.slot? j = s.slot? j) ∧ t.outputs = s.outputs
     (held → ∃ t, exec (.entryFetchDone k data) s = .next t ∧ counts t ∧ t.EndsWith k 0x0120 0 [] [] ∧ t.mem = s.mem) ∧
     (∀ st, ¬ held → s.entryChecks f e = .inl st →
       ∃ t, exec (.entryFetchDone k data) s = .next t ∧ counts t ∧ t.EndsWith k st 0 [] [] ∧ t.mem = s.mem) ∧
     (∀ sel, ¬ held → s.entryChecks f e = .inr sel →
       (isAdmin e.opcode = true ∨ (s.fnRec? f).map (·.poolId) = some 0xFF) →
       (65536 < e.inLength ∨ 65536 < e.outLength → ∃ t, exec (.entryFetchDone k data) s = .next t ∧ counts t ∧
         t.EndsWith k 0x0105 0 [] [] ∧ t.mem = s.mem) ∧
       (e.inLength ≤ 65536 → e.outLength ≤ 65536 →
         (isAdmin e.opcode = true ∨ sel.setId.isSome = true ∨ sel.kind ≠ 1 ∨ nativeLength e = true) →
         ∃ t sl', exec (.entryFetchDone k data) s = .next t ∧ counts t ∧ t.slot? k = some sl' ∧
           sl' = { fn := f, ringIndex := i, grant := g, pool := p, entry := e, epoch := s.pair.epoch, setId := sel.setId,
                   programWorld := sel.sealedWorld, persKind := sel.kind, streamClash := sl'.streamClash,
                   phase := if e.noInput then .ready else .admitted } ∧
           (e.noInput = false → t.mem = s.mem) ∧
           (e.noInput = true → (∀ a, a < 0x20000 → memByte t.mem.mem (stagingAddr k a) = 0) ∧
             ∀ a, a < stagingAddr k 0 ∨ stagingAddr k 0x20000 ≤ a → memByte t.mem.mem a = memByte s.mem.mem a))) ∧
     (∀ sel fr q, ¬ held → s.entryChecks f e = .inr sel → isAdmin e.opcode = false → s.fnRec? f = some fr →
       fr.poolId ≠ 0xFF → q ∈ s.poolSkulks fr.poolId → s.awake q = true → s.gatePending q = false → s.routed q < 32 →
       (∀ x ∈ s.poolSkulks fr.poolId, s.awake x = true → s.gatePending x = false →
         (x < q → s.routed q < s.routed x) ∧ s.routed q ≤ s.routed x) →
       e.inLength ≤ 65536 → e.outLength ≤ 65536 → (sel.setId.isSome = true ∨ sel.kind ≠ 1 ∨ nativeLength e = true) →
       ∃ t sl', exec (.entryFetchDone k data) s = .next t ∧ counts t ∧ t.slot? k = some sl' ∧ sl'.skulk = some q ∧
         sl'.pool = some fr.poolId ∧ sl'.entry = e ∧ sl'.setId = sel.setId ∧ sl'.persKind = sel.kind ∧
         sl'.phase = (if e.noInput then .ready else .admitted))) ∧
  (∀ (k : Nat) (data : Bytes) (sl : Slot) (s : State), s.slot? k = some sl → sl.phase = .fetching →
     (sl.cancelled = true → ∃ t, exec (.entryFetchDone k data) s = .next t ∧ t.slot? k = none ∧
       t.host = { s.host with slots := terase s.host.slots k } ∧
       t = { s with host := t.host, pair := t.pair, lodge := t.lodge }) ∧
     (sl.cancelled = false → s.oldestFetch? sl.fn = some k → (s.admitting = false ∨ s.fnHeld sl.fn = true) →
       ∃ t, exec (.entryFetchDone k data) s = .next t ∧ t.slot? k = none ∧
         t.ring sl.fn = { s.ring sl.fn with sqHead := sl.ringIndex } ∧ (∀ n, n ≠ sl.fn → t.ring n = s.ring n) ∧
         (∀ j x, j ≠ k → s.slot? j = some x → x.fn = sl.fn → x.phase = .fetching →
           t.slot? j = some { x with cancelled := true }) ∧
         t = { s with host := t.host, pair := t.pair, lodge := t.lodge }) ∧
     (sl.cancelled = true ∨ s.oldestFetch? sl.fn = some k →
       ∃ t, exec (.entryFetchError k) s = .next t ∧ t.slot? k = none ∧
         t.ring sl.fn = { s.ring sl.fn with
           fetchError := true, sqHead := if sl.cancelled then (s.ring sl.fn).sqHead else sl.ringIndex } ∧
         (∀ n, n ≠ sl.fn → t.ring n = s.ring n) ∧
         (sl.cancelled = false → ∀ j x, j ≠ k → s.slot? j = some x → x.fn = sl.fn → x.phase = .fetching →
           t.slot? j = some { x with cancelled := true }) ∧
         (∃ e ∈ t.owl.intake, e.code = 0x13 ∧ e.payload = natLe 2 sl.fn ++ [0, 0]) ∧
         t.fnSt sl.fn = { s.fnSt sl.fn with nonFatal := true } ∧ t.outputs = s.outputs ++ [.nonFatal sl.fn] ∧
         t = { s with host := t.host, pair := t.pair, lodge := t.lodge, cub := t.cub, owl := t.owl,
                      outputs := t.outputs }))

/-- R132, R166: a read of a command's input, or of its scatter lists, that fails ends the command with 0x0520 and is
reported (R414); a malformed scatter list ends it with 0x0103; else the command is ready, and where no lodge region of gate
3 concerns the host interface the first IN_LENGTH bytes fill its input window and the rest of the slot's staging buffer is
zero (R470). R20, R21, R126, R127, R170: a completion that is due writes the result data first, to the output buffer or
through its scatter list, and then the entry in two writes, the one that holds PHASE last; the write index advances,
CQ_WRITTEN counts it and the slot is free. R171: an error in the result data turns the outcome into 0x0521. R415: an entry
that ends in an error, or whose function has Bus Master Enable 0, is counted as undelivered and its slot is free. R126: no
completion entry is written while (write index + 1) mod size equals the completion head. -/
def Obligations.InputAndCompletion : Prop :=
  ((∀ (k : Nat) (a b d : Bytes) (sl : Slot) (s : State), s.slot? k = some sl → sl.phase = .admitted →
     s.pair.phase ≠ .standby → s.leads = false →
     exec (.commandInputRead k false a b d) s = .next ((s.pcieError sl.fn).failCmd k 0x0520) ∧
     ((sl.entry.inSgl = true ∧ scatterList? sl.entry.inAddr sl.entry.inLength a = none) ∨
         (sl.entry.outSgl = true ∧ scatterList? sl.entry.outAddr sl.entry.outLength b = none) →
       exec (.commandInputRead k true a b d) s = .next (s.failCmd k 0x0103)) ∧
     (∀ l, (sl.entry.inSgl = true → (scatterList? sl.entry.inAddr sl.entry.inLength a).isSome = true) →
       (if sl.entry.outSgl then scatterList? sl.entry.outAddr sl.entry.outLength b else some []) = some l →
       exec (.commandInputRead k true a b d) s = .next
         ((s.fillInput k (fit sl.entry.inLength d)).setSlot k { sl with phase := .ready, outList := l }))) ∧
   (∀ (k : Nat) (b : Bytes) (s : State), s.stagingWalls = false → b.length ≤ 65536 →
     memBytes (s.fillInput k b).mem.mem (stagingAddr k 0) b.length = b ∧
     (∀ i, b.length ≤ i → i < 0x20000 → memByte (s.fillInput k b).mem.mem (stagingAddr k i) = 0) ∧
     (∀ a, a < stagingAddr k 0 ∨ stagingAddr k 0x20000 ≤ a →
       memByte (s.fillInput k b).mem.mem a = memByte s.mem.mem a) ∧
     s.fillInput k b = { s with mem := (s.fillInput k b).mem })) ∧
  (∀ (k : Nat) (dataOk entryOk : Bool) (sl : Slot) (s : State), s.slot? k = some sl → s.completable k sl = true →
     s.leads = false → s.stagingWalls = false →
     ((s.fnSt sl.fn).busMaster = true →
       let r := s.ring sl.fn
       let writes := sl.entry.outLength != 0 && !sl.result.isEmpty
       let last := if writes && !dataOk then { sl with status := 0x0521, result := [], needed := 0, detail := [] }
         else sl
       let e := s.completionEntry last r.phase
       let a := r.cqBase.toNat + 32 * r.cqWrite
       let data : List Output := if writes then (if dataOk then
           (if sl.entry.outSgl then scatterPieces sl.outList sl.result else [(sl.entry.outAddr.toNat, sl.result)]).map
             fun x => .hostWrite sl.fn x.1 (s.fnSt sl.fn).relaxed x.2
         else [.nonFatal sl.fn]) else []
       ∃ t, exec (.completionWrite k dataOk entryOk) s = .next t ∧ t.slot? k = none ∧ t.mem = s.mem ∧ t.sett = s.sett ∧
         (entryOk = true → t.outputs = s.outputs ++ data ++
             [.hostWrite sl.fn a false (e.take 24), .hostWrite sl.fn (a + 24) false (e.drop 24)] ∧
           t.ring sl.fn = { r with cqWrite := (r.cqWrite + 1) % r.cqSize,
                                   phase := if (r.cqWrite + 1) % r.cqSize = 0 then !r.phase else r.phase,
                                   cqWritten := (r.cqWritten + 1) % 65536 }) ∧
         (entryOk = false → t.outputs = s.outputs ++ data ++ [.nonFatal sl.fn] ∧ t.ring sl.fn = r ∧
           (t.fnSt sl.fn).undelivered = (SatCount.add count31 1 (s.fnSt sl.fn).undelivered).1)) ∧
     ((s.fnSt sl.fn).busMaster = false →
       ∃ t, exec (.completionWrite k dataOk entryOk) s = .next t ∧ t.slot? k = none ∧ t.mem = s.mem ∧ t.sett = s.sett ∧
         t.outputs = s.outputs ∧ t.ring sl.fn = s.ring sl.fn ∧
         (t.fnSt sl.fn).undelivered = (SatCount.add count31 1 (s.fnSt sl.fn).undelivered).1)) ∧
  (∀ (k : Nat) (a b : Bool) (sl : Slot) (s : State), s.slot? k = some sl →
     ((s.ring sl.fn).cqWrite + 1) % (s.ring sl.fn).cqSize = (s.ring sl.fn).cqHead →
     exec (.completionWrite k a b) s = .next s)

/-- R210, R26, R211: a free core of the command's skulk takes the command, on a free context frame, and its program begins
with the registers of Table 6-3, every other register zero: at the code entry that its program set's entry table gives its
opcode, with the handlers of 0xFFF0 and 0xFFF1, where a PROGRAMS section serves it. No other slot and no other core
changes. R177: an owner extension command starts the same way. R252: so does the first part of a stream, while fewer than
64 streams of its function are open; a 65th ends with 0x0501 (R188, R260: a part of a program that is not flagged STREAM,
or that came while another part was in flight, with 0x0502). R253: a later part without a key begins with the stream's pipe
loaded. R369: a command released from YIELD takes a core again with the registers that it had. -/
def Obligations.CommandStartsOnACore : Prop :=
  ∀ (k c f : Nat) (sl : Slot) (s : State), s.slot? k = some sl → sl.skulk = some (c / 4) →
    (sl.phase = .ready → s.coreFree c = true → s.frameFree (c / 4) f = true → s.resumeWaits (c / 4) = false →
      let begins := fun (c' : Instr) (x : Ctx) => ∃ t, exec c' s = .next t ∧
        t.slot? k = some { sl with phase := .running, core := some c, frame := some f, started := true, ctx := x } ∧
        (∀ j, j ≠ k → t.slot? j = s.slot? j) ∧ t.core c = { s.core c with slot := some k } ∧
        (∀ d, d ≠ c → t.core d = s.core d) ∧ t = { s with host := t.host, compute := t.compute, power := t.power }
      (sl.entry.streamPart = 0 ∨ (sl.entry.streamPart = 1 ∧ s.streamable sl = true ∧ sl.streamClash = false ∧
          s.stream? sl = none ∧ s.openStreams sl.fn < 64) →
        ∃ x : Ctx, begins (.commandStart k c f) x ∧ x.StartsFor sl f s.now ∧ (∀ i, i < 4 → x.rpipe i = none) ∧
          (sl.persKind = 3 → sl.setId.isSome = true → begins (.extensionCommand k c f) x) ∧
          (∀ p e, sl.setId.bind s.program? = some p → p.entries.find? (·.opcode == sl.entry.opcode) = some e →
            x.pc = BitVec.ofNat 64 e.codeEntry) ∧
          (∀ p e, sl.setId.bind s.program? = some p → p.entries.find? (·.opcode == 0xFFF0) = some e →
            x.evec = BitVec.ofNat 32 e.codeEntry) ∧
          (∀ p e, sl.setId.bind s.program? = some p → p.entries.find? (·.opcode == 0xFFF1) = some e →
            x.dfvec = BitVec.ofNat 32 e.codeEntry)) ∧
      (∀ y : StreamCtx, 2 ≤ sl.entry.streamPart → s.streamable sl = true → sl.streamClash = false →
        s.stream? sl = some y → y.alg = sl.entry.p 0 → y.handle = sl.entry.handle 0 → y.handleCount = 0 →
        ∃ x : Ctx, begins (.commandStart k c f) x ∧ x.StartsFor sl f s.now ∧
          ∀ i, i < 4 → x.rpipe i = if i = pipeOf y.alg then y.pipe else none) ∧
      (sl.jobs = [] → sl.started = false → sl.storeRefused = false → sl.legacy = none → sl.persKind ≠ 2 →
        s.leads = false → s.pair.phase ≠ .standby →
        (sl.entry.streamPart = 1 → s.streamable sl = true → sl.streamClash = false → s.stream? sl = none →
          64 ≤ s.openStreams sl.fn →
          ∃ t, exec (.commandStart k c f) s = .next t ∧ t.EndsWith k 0x0501 0 [] [] ∧ t.host.streams = s.host.streams) ∧
        (sl.entry.streamPart ≠ 0 → s.streamable sl = false ∨ sl.streamClash = true →
          ∃ t, exec (.commandStart k c f) s = .next t ∧ t.EndsWith k 0x0502 0 [] [] ∧
            t.host.streams = s.host.streams))) ∧
    (sl.phase = .resume → sl.started = true → s.awake (domSkulk (c / 4)) = true → (s.core c).stopped = false →
      (s.core c).slot = none →
      exec (.commandStart k c f) s = .next ((s.setCore c { s.core c with slot := some k }).setSlot k
        { sl with phase := .running, core := some c }))

/-! ## Native commands -/

/-- R168 to R173: the end of a command whose jobs have all ended. With status 0x0000 and a result that fits OUT_LENGTH, or
of at most 16 bytes with OUT_LENGTH 0, the slot ends with it; where the result does not fit, with 0x0104 and the
length that it needs; with any other status, without a result, and with 0xFF in DETAIL for class 0x02xx. R206, R211: its
core is free, and the two stacks of its context frame are zero; no other byte of memory changes, no other slot, no ring,
and nothing leaves the module. -/
def Obligations.CommandEndsWithItsOutcome : Prop :=
  ∀ (k : Nat) (sl : Slot) (result : Bytes) (st : Status) (s : State), s.slot? k = some sl → sl.phase ≠ .ended →
    (∀ e ∈ sl.jobs, e.2.state.terminal = true) → sl.storeRefused = false → sl.legacy = none → sl.persKind ≠ 2 →
    s.leads = false → s.pair.phase ≠ .standby →
    let fits := resultFits sl.entry.outLength result.length
    let rest := fun t : State => (∀ j, j ≠ k → t.slot? j = s.slot? j) ∧ t.host.rings = s.host.rings ∧
      t.outputs = s.outputs ∧ (∀ c, sl.core = some c → (t.core c).slot = none) ∧ (sl.frame = none → t.mem = s.mem) ∧
      (∀ q f, sl.skulk = some q → sl.frame = some f →
        (∀ i, i < 0x800 → memByte t.mem.mem (larderAddr q (f * 0x800 + i)) = 0) ∧
        (∀ i, i < 0x1000 → memByte t.mem.mem (larderAddr q (0x40000 + f * 0x1000 + i)) = 0) ∧
        ∀ a, (a < larderAddr q (f * 0x800) ∨ larderAddr q (f * 0x800 + 0x800) ≤ a) →
          (a < larderAddr q (0x40000 + f * 0x1000) ∨ larderAddr q (0x40000 + f * 0x1000 + 0x1000) ≤ a) →
          memByte t.mem.mem a = memByte s.mem.mem a)
    (s.succeed k result).EndsWith k (if fits then 0 else 0x0104) result.length (if fits then result else []) [] ∧
    rest (s.succeed k result) ∧
    (st ≠ 0 → (s.failCmd k st).EndsWith k st 0 [] (if st.toNat / 256 = 2 then [0xFF] else []) ∧
      rest (s.failCmd k st))

/-- The native commands without a key: NOP ends with 0x0000 and no result; PERSONALITY_QUERY gives the record that
PARAM byte 0 names, or 0x0301 where the function's record does not list it (R701); HASH of a whole input gives its digest;
RANDOM_GET gives the bytes that Squirrel serves (R403), and a stopped Squirrel ends it with 0x0405. R192 to R195, Table
5-9: a compatibility frame with a bad SYNC or CRC ends with 0x0130, one with more than 118 data bytes with 0x0131; one
whose command is refused or undefined with its status, in a response frame of that class's RESPONSE_CODE; so does one on a
domain that does not permit TDES (0x0303), or with an index that the domain's map does not bind (0x0206); one that stands
for a KEY_CHECK_VALUE that serves ends with 0x0000 and a 128-byte response frame. DETAIL of one that fails is the legacy
command code (R173). -/
def Obligations.KeylessAndLegacyCommands : Prop :=
  ((∀ (k : Nat) (sl : Slot) (s : State), s.RunsNative k 0x0001 sl → paramZero sl.entry [] = true →
     exec (.nop k) s = .next (s.succeed k [])) ∧
   (∀ (k : Nat) (sl : Slot) (r : PersonalityRec) (f : FunctionRec) (s : State), s.RunsNative k 0x0002 sl →
     paramZero sl.entry [0] = true → sl.entry.p 0 ≤ 15 → s.persRec? (sl.entry.p 0) = some r → s.fnRec? sl.fn = some f →
     exec (.personalityQuery k) s = .next
       (if f.persMask.getLsbD (sl.entry.p 0) then s.succeed k r.bytes else s.failCmd k 0x0301)) ∧
   (∀ (k : Nat) (sl : Slot) (s : State), s.RunsNative k 0x5005 sl → sl.entry.streamPart = 0 →
     paramZero sl.entry [0, 12, 13, 14, 15] = true → algHash (sl.entry.p 0) = true →
     exec (.hash k) s = .next ((s.modCtx k fun x => x.setPipe (pipeOf (sl.entry.p 0))
         (some { alg := sl.entry.p 0, absorbed := s.inputOf k sl })).succeed k
       (Pipe.out { alg := sl.entry.p 0, absorbed := s.inputOf k sl }))) ∧
   (∀ (k : Nat) (sl : Slot) (s t : State), s.RunsNative k 0x7001 sl → paramZero sl.entry [0, 1] = true →
     1 ≤ leField sl.entry.param 0 2 → leField sl.entry.param 0 2 ≤ 4096 →
     (∀ b, s.draw k (leField sl.entry.param 0 2) = (.served b, t) → exec (.randomGet k) s = .next (t.succeed k b)) ∧
     (s.draw k (leField sl.entry.param 0 2) = (.refused, t) → exec (.randomGet k) s = .next (t.failCmd k 0x0405)))) ∧
  (∀ (k : Nat) (sl : Slot) (s : State), s.slot? k = some sl → sl.runsNative 2 0x3300 = true → sl.jobs = [] →
     sl.storeRefused = false → s.leads = false → s.pair.phase ≠ .standby →
     (sl.legacy = none → sl.entry.inLength = 128 → paramZero sl.entry [] = true → 128 ≤ sl.entry.outLength →
       s.Sound 3 (k * 0x20000) 128 →
       let f := s.inputOf k sl
       let code := beNat (slice f 2 2)
       let map := tget s.sett.legacy (s.domOf sl) []
       let frameEnd := fun st : Status => ∃ t, exec (.tsm3300Frame k) s = .next t ∧
         t.EndsWith k st 128 (responseFrame f (responseCode st) []) (natLe 2 code)
       (frameIntact f = false → ∃ t, exec (.tsm3300Frame k) s = .next t ∧ t.EndsWith k 0x0130 0 [] (natLe 2 code)) ∧
       (frameIntact f = true → 118 < leField f 7 1 →
         ∃ t, exec (.tsm3300Frame k) s = .next t ∧ t.EndsWith k 0x0131 0 [] (natLe 2 code)) ∧
       (frameIntact f = true → leField f 7 1 ≤ 118 →
         (code = 0x0014 → frameEnd 0x0332) ∧ (code = 0x0028 → frameEnd 0x0330) ∧ (code / 16 = 6 → frameEnd 0x0331) ∧
         (code / 16 = 15 → frameEnd 0x0333) ∧
         (code / 16 = 0 ∨ (7 ≤ code / 16 ∧ code / 16 ≠ 15) → frameEnd 0x0102) ∧
         (1 ≤ code / 16 → code / 16 ≤ 5 → code ≠ 0x0014 → code ≠ 0x0028 →
           (s.tdesPermitted (s.domOf sl) = false → frameEnd 0x0303) ∧
           (s.tdesPermitted (s.domOf sl) = true → 2 ≤ code / 16 → map = [] → frameEnd 0x0206)))) ∧
     (∀ c key r, sl.legacy = some c → c.entry.opcode = 0x3005 → c.entry.inLength = 0 → c.entry.streamPart = 0 → paramZero c.entry [0] = true → 3 ≤ c.entry.p 0 → c.entry.p 0 ≤ 8 →
       128 ≤ sl.entry.outLength → s.resolve (s.domOf sl) { window := false, usage := false } (c.entry.handle 0) = .ok key r →
       let a := Config.legacyData c.frame ((keyCheckValue r).take (c.entry.p 0))
       ∃ t, exec (.tsm3300Frame k) s = .next t ∧ t.EndsWith k 0 128 (responseFrame c.frame (a.1 % 256) a.2) []))

/-- R182 to R187: the PIN commands under keys that resolve and serve: a verification gives 0x01 where the PINs agree
and 0x00 where they do not; a translation gives the PIN under the outgoing key, with the random fill that a change to
format 3 or 4 draws; a block that holds no PIN ends it with 0x0110. Each use is committed (R227). Where a format other than
4 is named the domain must permit TDES (R186): else the command ends with 0x0303; a PAN that is missing or malformed ends
it with 0x0111 (R185), and a translation into format 1 from another format with 0x0305 (R183). -/
def Obligations.PinCommands : Prop :=
  (∀ (k : Nat) (sl : Slot) (s : State), s.RunsNative k 0x1001 sl →
    paramZero sl.entry pinNamed = true → pinFormat (sl.entry.p 0) = true → pinFormat (sl.entry.p 1) = true →
    let pan := panOk (pinBinds (sl.entry.p 0) || pinBinds (sl.entry.p 1)) (sl.entry.p 2) (slice sl.entry.param 4 10)
    let tdes := ¬ (sl.entry.p 0 = 4 ∧ sl.entry.p 1 = 4)
    (pan = false → exec (.pinTranslate k) s = .next (s.failCmd k 0x0111)) ∧
    (pan = true → tdes → s.tdesPermitted (s.domOf sl) = false → exec (.pinTranslate k) s = .next (s.failCmd k 0x0303)) ∧
    (pan = true → (tdes → s.tdesPermitted (s.domOf sl) = true) →
      (sl.entry.p 1 = 1 → sl.entry.p 0 ≠ 1 → exec (.pinTranslate k) s = .next (s.failCmd k 0x0305)) ∧
      (∀ a b t, ¬ (sl.entry.p 1 = 1 ∧ sl.entry.p 0 ≠ 1) → s.ResolvesBoth k sl a b t →
        pinKey (sl.entry.p 0) usePinDecrypt a.record = true → pinKey (sl.entry.p 1) usePinEncrypt b.record = true →
        let f := pinField (sl.entry.p 0) sl.entry.pan a.record.material (t.inputOf k sl)
        exec (.pinTranslate k) s = .next (match pinDigits? (sl.entry.p 0) f with
          | some pin => (t.useKey k a).withDraw k (pinRandom (sl.entry.p 0) (sl.entry.p 1)) fun rnd u =>
              (u.useKey k b).succeed k
                (pinBlock (sl.entry.p 1) sl.entry.pan b.record.material
                  (pinReformat (sl.entry.p 0) (sl.entry.p 1) f pin rnd))
          | none => (t.useKey k a).failCmd k 0x0110)))) ∧
  (∀ (k : Nat) (sl : Slot) (a b : KeyReg) (s t : State), pinFormat (sl.entry.p 0) = true → sl.entry.p 1 = 0 →
    paramZero sl.entry pinNamed = true → panOk (pinBinds (sl.entry.p 0)) (sl.entry.p 2) (slice sl.entry.param 4 10) = true →
    (sl.entry.p 0 ≠ 4 → s.tdesPermitted (s.domOf sl) = true) → s.ResolvesBoth k sl a b t →
    pinKey (sl.entry.p 0) usePinDecrypt a.record = true →
    let n := pinBlockLen (sl.entry.p 0)
    let u := (t.useKey k a).useKey k b
    let p := pinDigits? (sl.entry.p 0) (pinField (sl.entry.p 0) sl.entry.pan a.record.material ((t.inputOf k sl).take n))
    (s.RunsNative k 0x1002 sl → pinKey (sl.entry.p 0) usePinVerify b.record = true →
      let q := pinDigits? (sl.entry.p 0) (pinField (sl.entry.p 0) sl.entry.pan b.record.material ((t.inputOf k sl).drop n))
      exec (.pinVerifyCompare k) s = .next
        (if p = none ∨ q = none then u.failCmd k 0x0110 else u.succeed k (if p = q then [1] else [0]))) ∧
    (s.RunsNative k 0x1003 sl → typeSym b.record.type = true → b.record.permits usePinVerify = true →
      exec (.pinVerifyOffset k) s = .next (match p with
        | some p => u.succeed k
            (if Config.offsetOk b.record.material sl.entry.pan ((t.inputOf k sl).drop n) p then [1] else [0])
        | none => u.failCmd k 0x0110))) ∧
  (∀ (k : Nat) (sl : Slot) (a b : KeyReg) (s t : State), s.RunsNative k 0x1004 sl →
    pinFormat (sl.entry.p 0) = true → pinFormat (sl.entry.p 1) = true → ksnOk sl.entry = true →
    panOk (pinBinds (sl.entry.p 0) || pinBinds (sl.entry.p 1)) (sl.entry.p 2)
      ((s.inputOf k sl).drop (pinBlockLen (sl.entry.p 0))) = true →
    (¬ (sl.entry.p 0 = 4 ∧ sl.entry.p 1 = 4 ∧ sl.entry.p 3 = 12) → s.tdesPermitted (s.domOf sl) = true) →
    ¬ (sl.entry.p 1 = 1 ∧ sl.entry.p 0 ≠ 1) →
    s.ResolvesBoth k sl a b t → baseKey sl.entry [useDerive] a.record = true →
    (if sl.entry.p 0 = 4 then typeAes a.record.type else typeTdes a.record.type) = true →
    pinKey (sl.entry.p 1) usePinEncrypt b.record = true →
    let pan := (nibbles ((s.inputOf k sl).drop (pinBlockLen (sl.entry.p 0)))).take (sl.entry.p 2)
    let f := pinField (sl.entry.p 0) pan (Config.dukptKey 0 a.record.material sl.entry.ksn)
      ((s.inputOf k sl).take (pinBlockLen (sl.entry.p 0)))
    exec (.pinTranslateDukpt k) s = .next (match pinDigits? (sl.entry.p 0) f with
      | some pin => (t.useKey k a).withDraw k (pinRandom (sl.entry.p 0) (sl.entry.p 1)) fun rnd u =>
          (u.useKey k b).succeed k
            (pinBlock (sl.entry.p 1) pan b.record.material (pinReformat (sl.entry.p 0) (sl.entry.p 1) f pin rnd))
      | none => (t.useKey k a).failCmd k 0x0110))

/-- The native commands under one key that resolves and serves, with no engine: each commits its use and ends with its
result; a verification's is one byte (R187). Where METHOD or the KSN selects TDES the domain must permit it (R186): else
the command ends with 0x0303. -/
def Obligations.SingleKeyCommands : Prop :=
  (∀ (k : Nat) (sl : Slot) (a : KeyReg) (s t : State), s.Resolves k sl a t →
    (sl.entry.p 3 = 10 → s.tdesPermitted (s.domOf sl) = true) →
    (s.RunsNative k 0x2001 sl → paramZero sl.entry dukptNamed = true → ksnOk sl.entry = true →
      baseKey sl.entry [useDerive, useMacVerify] a.record = true →
      exec (.dukptMacVerify k) s = .next ((t.useKey k a).succeed k
        (verdict (Config.dukptMacOk (Config.dukptKey 1 a.record.material sl.entry.ksn) (t.inputOf k sl))))) ∧
    (s.RunsNative k 0x2002 sl → paramZero sl.entry dukptNamed = true → ksnOk sl.entry = true →
      baseKey sl.entry [useDerive, useDecrypt] a.record = true →
      exec (.dukptDecrypt k) s = .next ((t.useKey k a).succeed k
        (Config.dukptDecrypt (Config.dukptKey 2 a.record.material sl.entry.ksn) (t.inputOf k sl))))) ∧
  (∀ (k : Nat) (sl : Slot) (a : KeyReg) (s t : State), s.Resolves k sl a t →
    (sl.entry.p 0 = 1 → s.tdesPermitted (s.domOf sl) = true) →
    (s.RunsNative k 0x4001 sl → methodOk sl.entry = true → methodKey (sl.entry.p 0) a.record = true →
      a.record.permits useEmv = true →
      exec (.arqcVerify k) s = .next ((t.useKey k a).succeed k
        (verdict (Config.emvOk 0x4001 a.record.material (sl.entry.p 0) 0 (t.inputOf k sl))))) ∧
    (s.RunsNative k 0x4003 sl → methodOk sl.entry = true → methodKey (sl.entry.p 0) a.record = true →
      a.record.permits useEmv = true →
      exec (.emvSmMac k) s = .next ((t.useKey k a).succeed k
        (Config.emv 0x4003 a.record.material (sl.entry.p 0) 0 (t.inputOf k sl)))) ∧
    (s.RunsNative k 0x4004 sl → methodOk sl.entry = true → methodKey (sl.entry.p 0) a.record = true →
      a.record.permits useEncrypt = true →
      exec (.emvSmEncrypt k) s = .next ((t.useKey k a).succeed k
        (Config.emv 0x4004 a.record.material (sl.entry.p 0) 0 (t.inputOf k sl)))) ∧
    (s.RunsNative k 0x4005 sl → cvvOk sl.entry = true → methodKey (sl.entry.p 0) a.record = true →
      a.record.permits useCard = true →
      exec (.cvvGenerate k) s = .next ((t.useKey k a).succeed k
        (fit (sl.entry.p 1) (Config.emv 0x4005 a.record.material (sl.entry.p 0) (sl.entry.p 1) (t.inputOf k sl))))) ∧
    (s.RunsNative k 0x4006 sl → cvvOk sl.entry = true → methodKey (sl.entry.p 0) a.record = true →
      a.record.permits useCard = true →
      exec (.cvvVerify k) s = .next ((t.useKey k a).succeed k
        (verdict (Config.emvOk 0x4006 a.record.material (sl.entry.p 0) (sl.entry.p 1) (t.inputOf k sl)))))) ∧
  (∀ (k : Nat) (sl : Slot) (s : State), s.tdesPermitted (s.domOf sl) = false →
    (s.RunsNative k 0x4001 sl → methodOk sl.entry = true → sl.entry.p 0 = 1 →
      exec (.arqcVerify k) s = .next (s.failCmd k 0x0303)) ∧
    (s.RunsNative k 0x2001 sl → paramZero sl.entry dukptNamed = true → ksnOk sl.entry = true → sl.entry.p 3 = 10 →
      exec (.dukptMacVerify k) s = .next (s.failCmd k 0x0303))) ∧
  (∀ (k : Nat) (sl : Slot) (a : KeyReg) (s t : State), s.Resolves k sl a t →
    (s.RunsNative k 0x4002 sl → methodOk sl.entry = true → typeSym a.record.type = true →
      a.record.permits useEmv = true →
      exec (.arpcGenerate k) s = .next ((t.useKey k a).succeed k
        (Config.emv 0x4002 a.record.material (sl.entry.p 0) 0 (t.inputOf k sl)))) ∧
    (s.RunsNative k 0x6024 sl → paramZero sl.entry [] = true → typeSlh a.record.type = true →
      a.record.permits useSign = true →
      exec (.slhdsaSign k) s = .next ((t.useKey k a).succeed k
        (fit (slhLen a.record.paramSet)
          (Config.slhSign a.record.type a.record.paramSet a.record.bytes (t.inputOf k sl))))) ∧
    (s.RunsNative k 0x6025 sl → paramZero sl.entry [] = true → a.record.type ∈ [0x44, 0x45, 0x46] →
      a.record.permits useVerify = true →
      let n := slhLen a.record.paramSet
      let x := splitEnd n (t.inputOf k sl)
      exec (.slhdsaVerify k) s = .next ((t.useKey k a).succeed k
        (if n ≤ (t.inputOf k sl).length ∧ Config.slhCheck a.record.type a.record.paramSet a.record.bytes x.1 x.2 = true
          then [1] else [0]))))

/-- R188, R254, R255, R700: the block-cipher and MAC commands of a whole input under one key that resolves and serves:
the use is committed; ENCRYPT and DECRYPT give the bytes of the cipher mode, MAC_GENERATE the first bytes of the MAC,
and MAC_VERIFY whether the last bytes of the input are those. Where the algorithm is TDES the domain must permit it (R186):
else the command ends with 0x0303. A DECRYPT whose tag does not verify ends with a status of Table 5-11 that the
specification does not name: it is free (log entry 41). -/
def Obligations.CipherAndMacCommands : Prop :=
  (∀ (k : Nat) (sl : Slot) (a : KeyReg) (s t : State), s.Resolves k sl a t → sl.entry.streamPart = 0 →
    let alg := sl.entry.p 0
    (alg = 0x33 ∨ alg = 2 ∨ alg = 3 → s.tdesPermitted (s.domOf sl) = true) →
    (s.RunsNative k 0x5003 sl → cryptOk sl.entry = true →
      (if alg = 0x33 then typeTdes a.record.type else typeAes a.record.type) = true →
      a.record.permits useEncrypt = true →
      exec (.encrypt k) s = .next ((t.useKey k a).succeed k (fit (cryptLen false alg (t.inputOf k sl).length)
        ((Config.cipherMode false alg a.record.material (slice sl.entry.param 1 12) (t.inputOf k sl)).getD [])))) ∧
    (s.RunsNative k 0x5004 sl → cryptOk sl.entry = true →
      (if alg = 0x33 then typeTdes a.record.type else typeAes a.record.type) = true →
      a.record.permits useDecrypt = true →
      let out := Config.cipherMode true alg a.record.material (slice sl.entry.param 1 12) (t.inputOf k sl)
      exec (.decrypt k) s = .next (
        if alg = 0x32 ∧ out = none then (t.useKey k a).failCmd k gcmStatus
        else (t.useKey k a).succeed k (fit (cryptLen true alg (t.inputOf k sl).length) (out.getD [])))) ∧
    (s.RunsNative k 0x5001 sl → macOk sl.entry = true → macKey alg useMacGen a.record = true →
      let p : Pipe := { alg := alg, key := some a.record, absorbed := s.inputOf k sl }
      exec (.macGenerate k) s = .next
        (((t.useKey k a).modCtx k fun x => x.setPipe (pipeOf p.alg) (some p)).succeed k
          (p.out.take (sl.entry.p 1)))) ∧
    (s.RunsNative k 0x5002 sl → macOk sl.entry = true → macKey alg useMacVerify a.record = true →
      let n := (s.inputOf k sl).length - sl.entry.p 1
      let p : Pipe := { alg := alg, key := some a.record, absorbed := (s.inputOf k sl).take n }
      exec (.macVerify k) s = .next
        (((t.useKey k a).modCtx k fun x => x.setPipe (pipeOf p.alg) (some p)).succeed k
          (verdict (p.out.take (sl.entry.p 1) == (s.inputOf k sl).drop n))))) ∧
  (∀ (k : Nat) (sl : Slot) (s : State), s.tdesPermitted (s.domOf sl) = false → sl.entry.streamPart = 0 →
    (s.RunsNative k 0x5003 sl → cryptOk sl.entry = true → sl.entry.p 0 = 0x33 →
      exec (.encrypt k) s = .next (s.failCmd k 0x0303)) ∧
    (s.RunsNative k 0x5004 sl → cryptOk sl.entry = true → sl.entry.p 0 = 0x33 →
      exec (.decrypt k) s = .next (s.failCmd k 0x0303)) ∧
    (s.RunsNative k 0x5001 sl → macOk sl.entry = true → sl.entry.p 0 = 2 →
      exec (.macGenerate k) s = .next (s.failCmd k 0x0303)) ∧
    (s.RunsNative k 0x5002 sl → macOk sl.entry = true → sl.entry.p 0 = 3 →
      exec (.macVerify k) s = .next (s.failCmd k 0x0303))) ∧
  ((gcmStatus ≠ 0 ∧ doneStatus gcmStatus.toNat = true))

/-- R195, R269, R274, R280, R298 to R309, R698, R699: the key-management commands. A key is created where its units fit the
quota of its domain, and refused with 0x0212 where they do not. KEY_GENERATE of a symmetric or SLH-DSA key draws its bytes
and gives the new handle; under field debug it is refused with 0x0310. KEY_DELETE empties the slot of a resident key of the
domain, and its generation advances; a persistent handle is refused with 0x0307 whatever it names. KEY_CHECK_VALUE gives
the first bytes of the check value and charges no use; KEY_BIND_LEGACY binds the handle to its index in the domain's map;
KEYBLOCK_IMPORT creates the key that the block holds, or ends with the status of the step that fails; KEYBLOCK_EXPORT and
DUKPT_INITIAL_KEY give a key block under the wrapping key, whose use is committed, with the header that R307 and R308
give; a wrapping key that is weaker ends them with 0x0215. -/
def Obligations.KeyManagementCommands : Prop :=
  (∀ (r : KeyRec) (s : State),
    (s.quotaOf r.domain < s.unitsOf r.domain + r.units → s.createKey r = (.inl 0x0212, s)) ∧
    (s.unitsOf r.domain + r.units ≤ s.quotaOf r.domain →
      ∃ h t, s.createKey r = (.inr h, t) ∧ t.host = s.host ∧ t.outputs = s.outputs)) ∧
  (∀ (k : Nat) (sl : Slot) (s : State), s.RunsNative k 0x3003 sl → generateOk sl.entry = true →
    (s.antler.debug = true → exec (.keyGenerate k) s = .next (s.failCmd k 0x0310)) ∧
    (∀ b t r h u, s.antler.debug = false → (typeTdes (sl.entry.p 0) = true → s.tdesPermitted (s.domOf sl) = true) →
      generateJob? sl.entry = none → drawnLength (sl.entry.p 0) ≠ 0 →
      s.draw k (drawnLength (sl.entry.p 0)) = (.served b, t) →
      let slh := typeSlh (sl.entry.p 0)
      attrRecord? (t.domOf sl) 1 0 sl.entry.param
        (if slh then fit ((typeLength? (sl.entry.p 0)).getD 0) (Config.slhKeygen (sl.entry.p 0) b) else b) = some r →
      t.createKey (if slh then { r with paramSet := Config.slhParamSet (sl.entry.p 0) % 12 } else r) = (.inr h, u) →
      exec (.keyGenerate k) s = .next (u.succeed k (natLe 4 h.toNat)))) ∧
  (∀ (k : Nat) (sl : Slot) (s : State), s.RunsNative k 0x3004 sl → paramZero sl.entry [] = true →
    ((sl.entry.handle 0).getLsbD 31 = true → exec (.keyDelete k) s = .next (s.failCmd k 0x0307)) ∧
    (∀ key, (sl.entry.handle 0).getLsbD 31 = false → s.deletable (s.domOf sl) (sl.entry.handle 0) = .inr key →
      exec (.keyDelete k) s = .next ((s.deleteKey key).succeed k []) ∧
      ((s.deleteKey key).keySlot key).record = none ∧
      ((s.deleteKey key).keySlot key).generation
        = (if (s.keySlot key).generation = 255 then 1 else (s.keySlot key).generation + 1) ∧
      ∀ x, x ≠ key → (s.deleteKey key).keySlot x = s.keySlot x)) ∧
  (∀ (k : Nat) (sl : Slot) (key : KeyId) (r : KeyRec) (s : State), s.RunsNative k 0x3005 sl →
    paramZero sl.entry [0] = true → 3 ≤ sl.entry.p 0 → sl.entry.p 0 ≤ 8 →
    s.resolve (s.domOf sl) { window := false, usage := false } (sl.entry.handle 0) = .ok key r →
    exec (.keyCheckValue k) s = .next ((s.hit k key).succeed k ((keyCheckValue r).take (sl.entry.p 0)))) ∧
  (∀ (k : Nat) (sl : Slot) (a : KeyReg) (s t : State), s.RunsNative k 0x3006 sl → paramZero sl.entry [0, 1] = true →
    s.Resolves k sl a t →
    let d := t.domOf sl
    let m := tset (tget t.sett.legacy d []) (leField sl.entry.param 0 2) (sl.entry.handle 0)
    ∃ u : State, exec (.keyBindLegacy k) s = .next (u.succeed k []) ∧ u.sett.legacy = tset t.sett.legacy d m ∧
      u.sett.keys = t.sett.keys ∧ u = { t with sett := u.sett }) ∧
  (∀ (k : Nat) (sl : Slot) (a : KeyReg) (kb : KeyBlock) (s t : State), s.RunsNative k 0x3001 sl →
    paramZero sl.entry [] = true →
    let b := s.inputOf k sl
    let version := (byteAt b 0).toNat
    (version = 0x42 ∨ version = 0x43 → s.tdesPermitted (s.domOf sl) = true) →
    s.Resolves k sl a t → (keyblockSizes? version).isSome = true → parseKeyBlock? b = some kb →
    keyblockKey version a.record = true → a.record.permits useUnwrap = true →
    exec (.keyblockImport k) s = .next (let u := t.useKey k a
      match importRecord (u.domOf sl) a.record b kb with
      | .inl st => u.failCmd k st
      | .inr r => match u.createKey r with
        | (.inl st, v) => v.failCmd k st
        | (.inr h, v) => v.succeed k (natLe 4 h.toNat))) ∧
  (∀ (k : Nat) (sl : Slot) (a b : KeyReg) (s t : State), s.RunsNative k 0x3002 sl → paramZero sl.entry [] = true →
    (s.exportPermitted (s.domOf sl) = false → exec (.keyblockExport k) s = .next (s.failCmd k 0x0304)) ∧
    (s.exportPermitted (s.domOf sl) = true → s.ResolvesBoth k sl a b t → a.record.export = 2 →
      typeSym b.record.type = true → b.record.permits useWrap = true →
      (b.record.strength < a.record.strength → exec (.keyblockExport k) s = .next (t.failCmd k 0x0215)) ∧
      (a.record.strength ≤ b.record.strength → ∃ block, exec (.keyblockExport k) s = .next
          ((t.free.2.useKey k b).succeed k block) ∧
        block.take 16 = [if typeAes b.record.type then 0x44 else 0x42] ++ digitsOf 10 4 block.length
          ++ (exportUse a.record).take 2 ++ [exportAlg a.record.type] ++ (exportUse a.record).drop 2 ++ ascii "00"
          ++ [0x45] ++ (block.drop 12).take 4))) ∧
  (∀ (k : Nat) (sl : Slot) (a b : KeyReg) (s t : State), s.RunsNative k 0x2003 sl →
    paramZero sl.entry dukptNamed = true → ksnOk sl.entry = true →
    (sl.entry.p 3 = 10 → s.tdesPermitted (s.domOf sl) = true) →
    s.ResolvesBoth k sl a b t → baseKey sl.entry [useDerive] a.record = true →
    typeSym b.record.type = true → b.record.permits useWrap = true →
    let type := if sl.entry.p 3 = 10 then 1 else a.record.type
    let strength := typeStrength type ((typeLength? type).getD 0)
    (b.record.strength < strength → exec (.dukptInitialKey k) s = .next (t.failCmd k 0x0215)) ∧
    (strength ≤ b.record.strength →
      ∃ block, exec (.dukptInitialKey k) s = .next (((t.free.2.useKey k a).useKey k b).succeed k block) ∧
        block.take 16 = [if typeAes b.record.type then 0x44 else 0x42] ++ digitsOf 10 4 block.length ++ ascii "B1"
          ++ [exportAlg type] ++ ascii "X00" ++ [0x4E] ++ (block.drop 12).take 4))

/-- R367: a native command with one engine job that has ended with code OK ends with the job's output; an
encapsulation puts the ciphertext before the handle, and a verification gives the byte 0x01 (R187). R355, R356, R367:
a native verification whose job is not yet sent hands its key and its operands to an engine job that draws nothing,
and waits for it. R190, R191, R301: the hybrid commands, once both jobs have ended with code OK: a signature is PAIR,
a zero byte, CLASSICAL_LENGTH, then the two component signatures (Table 5-7); a verification also compares those four
bytes; and a hybrid key agreement gives the handle that its second job made. -/
def Obligations.EngineCommands : Prop :=
  (∀ (k : Nat) (sl : Slot) (j : Job) (s : State), tget? sl.jobs 1 = some j → j.state.terminal = true → j.code = 0 →
     (s.RunsNative k 0x6001 sl → rsaOk sl.entry = true → exec (.rsaSign k) s = .next (s.succeed k j.output)) ∧
     (s.RunsNative k 0x6002 sl → rsaOk sl.entry = true → exec (.rsaVerify k) s = .next (s.succeed k [1])) ∧
     (s.RunsNative k 0x6003 sl → paramZero sl.entry [0, 1, 2] = true → sl.entry.p 0 = 0x42 → sl.entry.p 2 ≤ 1 →
       (hashLen? (sl.entry.p 1)).isSome = true → exec (.rsaDecrypt k) s = .next (s.succeed k j.output)) ∧
     (s.RunsNative k 0x6010 sl → ecdsaOk sl.entry = true → exec (.ecdsaSign k) s = .next (s.succeed k j.output)) ∧
     (s.RunsNative k 0x6011 sl → ecdsaOk sl.entry = true → exec (.ecdsaVerify k) s = .next (s.succeed k [1])) ∧
     (s.RunsNative k 0x6012 sl → eddsaOk sl.entry = true → exec (.eddsaSign k) s = .next (s.succeed k j.output)) ∧
     (s.RunsNative k 0x6013 sl → eddsaOk sl.entry = true → exec (.eddsaVerify k) s = .next (s.succeed k [1])) ∧
     (s.RunsNative k 0x6014 sl → paramZero sl.entry [] = true →
       exec (.ecdhDerive k) s = .next (s.succeed k j.output)) ∧
     (s.RunsNative k 0x6020 sl → paramZero sl.entry [] = true →
       exec (.mldsaSign k) s = .next (s.succeed k j.output)) ∧
     (s.RunsNative k 0x6021 sl → paramZero sl.entry [] = true → exec (.mldsaVerify k) s = .next (s.succeed k [1])) ∧
     (s.RunsNative k 0x6022 sl → paramZero sl.entry [] = true →
       exec (.mlkemEncaps k) s = .next (s.succeed k (j.output.drop 4 ++ j.output.take 4))) ∧
     (s.RunsNative k 0x6023 sl → paramZero sl.entry [] = true →
       exec (.mlkemDecaps k) s = .next (s.succeed k j.output)) ∧
     (s.RunsNative k 0x3003 sl → generateOk sl.entry = true → s.antler.debug = false →
       (generateJob? sl.entry).isSome = true →
       exec (.keyGenerate k) s = .next (s.succeed k (j.output.take 4)))) ∧
  (∀ (k g : Nat) (sl : Slot) (a : KeyReg) (s t : State), s.Resolves k sl a t → tget? sl.jobs 1 = none →
     (s.RunsNative k 0x6011 sl → ecdsaOk sl.entry = true → opPermits opEcdsaVerify a.record = true →
       t.groupFor? sl false = some g → (t.queue false g).length < 128 →
       let x := splitEnd (2 * orderBytes a.record.type) (s.inputOf k sl)
       exec (.ecdsaVerify k) s = .next (((t.handOver k a).sendJob k 1 g
         { directJob false opEcdsaVerify with
           operandA := digestOf (sl.entry.p 1) (bit (sl.entry.p 2) 0) x.1, operandB := x.2, key := some a }).awaitJobs k)) ∧
     (s.RunsNative k 0x6021 sl → paramZero sl.entry [] = true → opPermits opMldsaVerify a.record = true →
       t.groupFor? sl true = some g → (t.queue true g).length < 128 →
       let x := splitEnd (mldsaLen a.record.type) (s.inputOf k sl)
       exec (.mldsaVerify k) s = .next (((t.handOver k a).sendJob k 1 g
         { directJob true opMldsaVerify with operandA := x.1, operandB := x.2, key := some a }).awaitJobs k))) ∧
  (∀ (k : Nat) (sl : Slot) (i j : Job) (s : State), tget? sl.jobs 1 = some i → tget? sl.jobs 2 = some j →
     i.state.terminal = true → j.state.terminal = true → i.code = 0 → j.code = 0 →
     (s.RunsNative k 0x6030 sl → hybridOk sl.entry = true →
       exec (.hybridSign k) s = .next (s.succeed k
         (natLe 1 (sl.entry.p 0) ++ [0] ++ natLe 2 (if sl.entry.p 0 = 1 then 64 else 96) ++ i.output ++ j.output))) ∧
     (s.RunsNative k 0x6031 sl → hybridOk sl.entry = true →
       exec (.hybridVerify k) s = .next (s.succeed k (
         let n := 4 + pairLen (sl.entry.p 0) + mldsaLen (if sl.entry.p 0 = 1 then 0x35 else 0x36)
         if n ≤ sl.entry.inLength ∧
             ((splitEnd n (s.inputOf k sl)).2.take 4
               = natLe 1 (sl.entry.p 0) ++ [0] ++ natLe 2 (if sl.entry.p 0 = 1 then 64 else 96))
         then [1] else [0]))) ∧
     (s.RunsNative k 0x6032 sl → paramZero sl.entry [] = true →
       exec (.hybridKem k) s = .next (s.succeed k i.output)))

/-! ## The den's administrative commands -/

/-- The queries of the den, which change nothing but end with their result: DOMAIN_STATUS gives the domain's quota and
the units that its resident keys charge first; MASTER_KEY_QUERY the type, usage, attributes, generation and check
value; SETT_STATUS the resident keys first; CEREMONY_STATUS phase, domain, M and the custodians counted;
CUSTODIAN_QUERY the enrolment without KEY_DIGEST; MIG_IDENTITY the public keys. -/
def Obligations.AdministrativeQueries : Prop :=
  ∀ (k : Nat) (sl : Slot) (s : State), sl.entry.inLength = 0 →
    (s.RunsAdmin k 0x0200 sl → paramZero sl.entry [0, 1] = true → sl.entry.dom < 4096 →
      ∃ rest, exec (.domainStatus k) s = .next (s.succeed k
        (natLe 4 (s.quotaOf sl.entry.dom) ++ natLe 4 (s.unitsOf sl.entry.dom) ++ rest)) ∧ rest.length = 24) ∧
    (∀ r, s.RunsAdmin k 0x0205 sl → paramZero sl.entry [0, 1, 2] = true → sl.entry.dom < 4096 → s.indexOk sl.entry = true →
      (s.keySlot sl.entry.master).record = some r →
      exec (.masterKeyQuery k) s = .next (s.succeed k (natLe 1 r.type ++ natLe 2 r.usage.toNat ++ natLe 2 r.attrs.toNat
        ++ natLe 1 (s.keySlot sl.entry.master).generation ++ (keyCheckValue r).take 3 ++ zeros 7))) ∧
    (s.RunsAdmin k 0x0207 sl → paramZero sl.entry [0, 1] = true →
      ∃ rest, exec (.settStatus k) s = .next (s.succeed k (natLe 4
        (s.sett.keys.filter fun e => !isPersistent e.1 && e.2.record.isSome).length ++ rest)) ∧ rest.length = 28) ∧
    (s.RunsAdmin k 0x0302 sl → paramZero sl.entry [0, 1] = true → s.ceremonyDom sl.entry = true →
      ∃ rest, exec (.ceremonyStatus k) s = .next (s.succeed k (natLe 1 s.quill.ceremony.phase.code
        ++ natLe 2 s.quill.ceremony.domain ++ natLe 1 s.quill.ceremony.m
        ++ natLe 1 s.quill.ceremony.counted.length ++ rest)) ∧ rest.length = 3) ∧
    (∀ en, s.RunsAdmin k 0x0306 sl → paramZero sl.entry [0, 1, 3] = true → s.ceremonyDom sl.entry = true →
      sl.entry.p 3 < s.ceremonyN sl.entry.dom → s.enrolled? sl.entry.dom (sl.entry.p 3) = some en →
      exec (.custodianQuery k) s = .next (s.succeed k (fit 16 en.tokenId ++ (en.toBytes.drop 32)))) ∧
    (∀ i, s.RunsAdmin k 0x0510 sl → paramZero sl.entry [] = true → s.cub.identity = some i →
      exec (.migIdentity k) s = .next (s.succeed k ([0, 0, 0, 0] ++ i.p384 ++ i.mlkem)))

/-- R312 to R316, R342, R343, R431, R433, R465: the commands that write keys of a domain, on a domain of the lodge in
force. Each needs a quorate ceremony within its TIMEOUT, and ends with 0x0307 without one. DOMAIN_WIPE leaves no key of the
domain and no legacy map of it. MASTER_KEY_LOAD combines the components of INDEX, which are consumed whether it succeeds
or fails; MASTER_KEY_GENERATE draws the key and splits it into components for the custodians counted, whose exclusive or is
the key; MASTER_KEY_DELETE empties the slot. A master-key slot that is not empty ends the first two with 0x0204. A
command that has passed its check waits while the store cannot begin its commit, and ends with 0x0F01 where the store
refuses it. KEY_ENTER_CLEAR makes a key in MAKER_TEST, and ends with 0x0306 in any other state. -/
def Obligations.DomainKeyCommands : Prop :=
  ∀ (k : Nat) (sl : Slot) (s : State), s.domRec? sl.entry.dom ≠ none → s.departing sl.entry.dom = false →
    sl.entry.dom < 4096 → sl.approved = none →
    let d := sl.entry.dom
    let m := sl.entry.master
    let free := s.storeAccepts .sett = true ∧ s.storeFree = true
    let wipes := s.RunsAdmin k 0x0201 sl ∧ sl.entry.inLength = 0 ∧ paramZero sl.entry [0, 1] = true
    let loads := s.RunsAdmin k 0x0202 sl ∧ sl.entry.inLength = 0 ∧ s.makeParamOk sl.entry = true ∧
      s.antler.debug = false ∧ (typeTdes (sl.entry.p 3) = true → s.tdesPermitted d = true)
    let generates := s.RunsAdmin k 0x0203 sl ∧ sl.entry.inLength = 0 ∧ s.makeParamOk sl.entry = true ∧
      s.antler.debug = false ∧ (typeTdes (sl.entry.p 3) = true → s.tdesPermitted d = true)
    let deletes := s.RunsAdmin k 0x0204 sl ∧ sl.entry.inLength = 0 ∧ paramZero sl.entry [0, 1, 2] = true ∧
      s.indexOk sl.entry = true
    (s.quorate d = false →
      (wipes → exec (.domainWipe k) s = .next (s.failCmd k 0x0307)) ∧
      (loads → exec (.masterKeyLoad k) s = .next ((s.consume d (sl.entry.p 2)).failCmd k 0x0307)) ∧
      (generates → exec (.masterKeyGenerate k) s = .next (s.failCmd k 0x0307)) ∧
      (deletes → exec (.masterKeyDelete k) s = .next (s.failCmd k 0x0307))) ∧
    (s.quorate d = true →
      (wipes → free → ∃ t, exec (.domainWipe k) s = .next t ∧ tget? t.sett.legacy d = none ∧
        (∀ key r, (t.keySlot key).record = some r → r.domain ≠ d) ∧ t.quill = s.quill ∧ t.lodge = s.lodge) ∧
      (loads → (s.keySlot m).record ≠ none →
        exec (.masterKeyLoad k) s = .next ((s.consume d (sl.entry.p 2)).failCmd k 0x0204)) ∧
      (loads → (s.keySlot m).record = none →
        combine? ((s.quill.ceremony.components.filter fun c => c.index == sl.entry.p 2).map (·.value)) = none →
        exec (.masterKeyLoad k) s = .next ((s.consume d (sl.entry.p 2)).failCmd k 0x0204)) ∧
      (∀ v, loads → (s.keySlot m).record = none →
        combine? ((s.quill.ceremony.components.filter fun c => c.index == sl.entry.p 2).map (·.value)) = some v →
        masterOk (sl.entry.masterRecord 2 false v) = true → free →
        ∃ t r, exec (.masterKeyLoad k) s = .next t ∧ (t.keySlot m).record = some r ∧ r.material = v ∧
          r.domain = d ∧ r.type = sl.entry.p 3 ∧ (∀ x, x ≠ m → (t.keySlot x).record = (s.keySlot x).record) ∧
          t.quill.ceremony = { s.quill.ceremony with
            components := s.quill.ceremony.components.filter fun c => c.index != sl.entry.p 2 }) ∧
      (generates → (s.keySlot m).record ≠ none → exec (.masterKeyGenerate k) s = .next (s.failCmd k 0x0204)) ∧
      (∀ b t, generates → (s.keySlot m).record = none → s.quill.ceremony.counted ≠ [] →
        let len := drawnLength (sl.entry.p 3)
        let n := 16 * drawUnits len * s.quill.ceremony.counted.length
        masterOk (sl.entry.masterRecord 1 false (zeros len)) = true → len ≠ 0 → free →
        (s.approve k).draw k n = (.served b, t) → b.length = n →
        ∃ u r, exec (.masterKeyGenerate k) s = .next u ∧ (u.keySlot m).record = some r ∧ r.material = b.take len ∧
          r.domain = d ∧ r.type = sl.entry.p 3 ∧
          let made := u.quill.ceremony.generated.filter fun c => c.index == sl.entry.p 2
          made.map (·.custodian) = s.quill.ceremony.counted ∧ xorAll (made.map (·.value)) = b.take len) ∧
      (deletes → (s.keySlot m).record = none → exec (.masterKeyDelete k) s = .next (s.failCmd k 0x0201)) ∧
      (deletes → (s.keySlot m).record ≠ none →
        (free → exec (.masterKeyDelete k) s = .next ((((s.approve k).deleteKey m).commitMaster m).succeed k [])) ∧
        (s.storeAccepts .sett = true → s.storeFree = false → exec (.masterKeyDelete k) s = .next (s.approve k)) ∧
        (s.storeAccepts .sett = false →
          exec (.masterKeyDelete k) s = .next ((s.approve k).storeRefused.failCmd k 0x0F01)))) ∧
    (s.RunsAdmin k 0x0206 sl → 1 ≤ sl.entry.inLength → paramZero sl.entry [0, 1, 2, 3, 4, 5, 6] = true →
      sl.entry.keyParamOk = true → (sl.entry.p 2 = 0xFF ∨ s.indexOk sl.entry = true) →
      (s.antler.state ≠ .makerTest → exec (.keyEnterClear k) s = .next (s.failCmd k 0x0306)) ∧
      (s.antler.state = .makerTest → s.antler.debug = false →
        (typeTdes (sl.entry.p 3) = true → s.tdesPermitted d = true) →
        typeTakes (sl.entry.p 3) (s.inputOf k sl) = true →
        let usage := BitVec.ofNat 16 (leField sl.entry.param 4 2)
        usageOk (sl.entry.p 3) usage = true →
        let r := { newRecord d (sl.entry.p 3) (sl.entry.p 6) 3 usage true true 0 0xFFFFFFFFFF 0 (s.inputOf k sl) with
          attrs := keyAttrs (sl.entry.p 6) usage (decide (64 < (s.inputOf k sl).length)) 3 (sl.entry.p 2 != 0xFF) true }
        (∀ h t, sl.entry.p 2 = 0xFF → s.createKey r = (.inr h, t) →
          exec (.keyEnterClear k) s = .next (t.succeed k (natLe 4 h.toNat))) ∧
        (sl.entry.p 2 ≠ 0xFF → r.body = [] → (s.keySlot m).record = none → free →
          ∃ t r', exec (.keyEnterClear k) s = .next t ∧ (t.keySlot m).record = some r' ∧
            r'.material = s.inputOf k sl ∧ r'.domain = d ∧ r'.type = sl.entry.p 3)))

/-- Tables 8-5 and 8-7: CEREMONY_OPEN opens a ceremony with the M of its domain where none is open and enough custodians
are enrolled, and otherwise ends with outcome 0x10 or 0x13; CEREMONY_CLOSE wipes the ceremony. CEREMONY_CLOSE and
CEREMONY_PRESENT without an open ceremony of the domain before its TIMEOUT, and the two commands on custodians without a
quorate one (R341), end with 0x0307. CEREMONY_PRESENT on a disabled port ends with outcome 0x02 and on a busy one with
0x11; else its request waits for a token, activates the one that is there in class B, or sends IDENTIFY to one that is
active. CUSTODIAN_ENROL needs its token on the port and ends with outcome 0x01 without it. CUSTODIAN_REVOKE removes the
enrolment and uncounts the custodian with its components; it ends with outcome 0x06 where none is enrolled, waits for the
store, and ends with 0x0F01 where the store refuses (R465). -/
def Obligations.CeremonyCommands : Prop :=
  ∀ (k : Nat) (sl : Slot) (s : State), s.ceremonyDom sl.entry = true → sl.entry.inLength = 0 → sl.approved = none →
    let e := sl.entry
    let d := e.dom
    let c := s.quill.ceremony
    (∀ t, s.RunsAdmin k 0x0300 sl → paramZero e [0, 1, 4, 5] = true → leField e.param 4 2 = t →
      (t = 0 ∨ 30 ≤ t ∧ t ≤ 3600) →
      (c.phase ≠ .idle →
        exec (.ceremonyOpen k) s = .next (s.succeed k ([0x10] ++ natLe 1 c.phase.code ++ natLe 1 c.m
          ++ natLe 1 c.counted.length))) ∧
      (c.phase = .idle → (s.enrolledIn d).length < s.ceremonyM d →
        exec (.ceremonyOpen k) s = .next (s.succeed k [0x13, 0, 0, 0])) ∧
      (c.phase = .idle → s.ceremonyM d ≤ (s.enrolledIn d).length →
        exec (.ceremonyOpen k) s = .next (({ s with quill.ceremony :=
          { phase := .gathering, domain := d, m := s.ceremonyM d, openedAt := s.now,
            timeoutS := if t = 0 then 600 else t } } : State).succeed k ([0, 1] ++ natLe 1 (s.ceremonyM d) ++ [0])))) ∧
    (s.RunsAdmin k 0x0303 sl → paramZero e [0, 1] = true →
      (s.ceremonyTakes d = false → exec (.ceremonyClose k) s = .next (s.failCmd k 0x0307)) ∧
      (s.ceremonyTakes d = true → ∃ u : State, exec (.ceremonyClose k) s = .next (u.succeed k [0, 0, 0, 0]) ∧
        u.quill.ceremony = {} ∧ u.quill.enrolments = s.quill.enrolments ∧
        ∀ p r, p < 4 → (u.port p).request = some r → r.enrol = true)) ∧
    (∀ p, s.RunsAdmin k 0x0301 sl → paramZero e [0, 1, 2, 3, 4, 5] = true → e.p 2 = p → p ≤ 3 →
      (e.p 3 ≤ 31 ∨ e.p 3 = 0xFF) → 1 ≤ e.p 4 → e.p 4 ≤ 120 → e.p 5 ≤ 1 →
      let v := s.port p
      let r : QuillRequest :=
        { slot := k, domain := d, index := e.p 3, write := e.p 5 == 1, waitUntil := s.now + e.p 4 * unitsPerSecond }
      let waiting := s.setSlot k { sl with phase := .waiting }
      let result := fun o : Nat => [BitVec.ofNat 8 o] ++ natLe 1 c.phase.code ++ [0xFF] ++ natLe 1 c.counted.length
      (s.ceremonyTakes d = false → exec (.ceremonyPresent k) s = .next (s.failCmd k 0x0307)) ∧
      (s.ceremonyTakes d = true →
        (s.tables.units.quillEnable.getLsbD p = false → ∃ u : State,
          exec (.ceremonyPresent k) s = .next (u.succeed k (result 2)) ∧ s.OnPort u p { v with lastOutcome := 2 } []) ∧
        (s.tables.units.quillEnable.getLsbD p = true → v.request ≠ none →
          exec (.ceremonyPresent k) s = .next (s.succeed k (result 0x11))) ∧
        (s.tables.units.quillEnable.getLsbD p = true → v.request = none →
          (v.present = false → ∃ t, exec (.ceremonyPresent k) s = .next t ∧
            waiting.OnPort t p { v with request := some r } []) ∧
          (v.present = true → v.powered = false → ∃ t, exec (.ceremonyPresent k) s = .next t ∧
            waiting.OnPort t p ({ v with request := some { r with stage := .activating } }.on 2) []) ∧
          (v.present = true → v.powered = true → v.state ≠ 1 → 8 ≤ v.ifsc → ∃ t,
            exec (.ceremonyPresent k) s = .next t ∧ waiting.OnPort t p (v.identifying r s.now)
              [t1Block v.crc (if v.sendN then 0x40 else 0) (quillMessage 1 v.nextSeq)])))) ∧
    (∀ p, s.RunsAdmin k 0x0304 sl → paramZero e [0, 1, 2, 3, 4, 5, 6, 7, 8, 9, 10, 11] = true → e.p 2 = p →
      p ≤ 3 → e.p 3 < s.ceremonyN d → 1 ≤ leField e.param 9 3 → leField e.param 9 3 ≤ 1000000 →
      s.departing d = false →
      let v := s.port p
      let r : QuillRequest :=
        { slot := k, enrol := true, domain := d, custodian := e.p 3, expiry := leField e.param 4 5,
          useLimit := leField e.param 9 3, waitUntil := s.now }
      let waiting := s.setSlot k { sl with phase := .waiting }
      let result := fun o : Nat => [BitVec.ofNat 8 o] ++ natLe 1 (e.p 3) ++ [0, 0]
      (s.quorate d = false → s.firstEnrolment d = false →
        exec (.custodianEnrol k) s = .next (s.failCmd k 0x0307)) ∧
      (s.quorate d = true ∨ s.firstEnrolment d = true → (∀ x, v.request = some x → x.slot ≠ k) →
        (s.tables.units.quillEnable.getLsbD p = false → ∃ u : State,
          exec (.custodianEnrol k) s = .next (u.succeed k (result 2)) ∧ s.OnPort u p { v with lastOutcome := 2 } []) ∧
        (s.tables.units.quillEnable.getLsbD p = true → v.request ≠ none →
          exec (.custodianEnrol k) s = .next (s.succeed k (result 0x11))) ∧
        (s.tables.units.quillEnable.getLsbD p = true → v.request = none → v.present = false → v.powered = false →
          ∃ u : State, exec (.custodianEnrol k) s = .next (u.succeed k (result 1)) ∧
            waiting.OnPort u p { v with lastOutcome := 1 } []) ∧
        (s.tables.units.quillEnable.getLsbD p = true → v.request = none → v.present = true → v.powered = false →
          ∃ t, exec (.custodianEnrol k) s = .next t ∧
            waiting.OnPort t p ({ v with request := some { r with stage := .activating } }.on 2) []))) ∧
    (s.RunsAdmin k 0x0305 sl → paramZero e [0, 1, 3] = true → e.p 3 < s.ceremonyN d → s.departing d = false →
      (s.quorate d = false → exec (.custodianRevoke k) s = .next (s.failCmd k 0x0307)) ∧
      (s.quorate d = true → s.enrolled? d (e.p 3) = none →
        exec (.custodianRevoke k) s = .next (s.succeed k ([6] ++ natLe 1 (e.p 3) ++ [0, 0]))) ∧
      (∀ en, s.quorate d = true → s.enrolled? d (e.p 3) = some en →
        (s.storeAccepts .controller = false →
          exec (.custodianRevoke k) s = .next ((s.approve k).storeRefused.failCmd k 0x0F01)) ∧
        (s.storeAccepts .controller = true → s.storeFree = false →
          exec (.custodianRevoke k) s = .next (s.approve k)) ∧
        (s.storeAccepts .controller = true → s.storeFree = true → ∃ u : State,
          exec (.custodianRevoke k) s = .next (u.succeed k ([0] ++ natLe 1 (e.p 3) ++ [0, 0])) ∧
          u.quill.enrolments = (s.quill.enrolments.filter fun x => x != en) ∧
          u.quill.ceremony.counted = (c.counted.filter fun x => x != e.p 3) ∧
          u.quill.ceremony.components = (c.components.filter fun x => x.custodian != e.p 3) ∧
          u.quill.ceremony.generated = (c.generated.filter fun x => x.custodian != e.p 3) ∧
          u.lodge = s.lodge ∧ u.antler = s.antler)))

/-- R318 to R324, R337, R339, Tables 8-1 to 8-3: the events of a Quill port that serves a request. A token that is inserted
while a request waits for it is activated in class B; one that is removed while it is being read ends the request with
outcome 0x0D. An answer to reset that offers T=1 is followed by S(IFS request), or first by PPS where TA1 offers factors;
an invalid one in class B by a warm reset after a wrong check byte, else by class A, and in class A it ends the request
with outcome 0x03. S(IFS response) is followed by IDENTIFY. A spoilt block is answered with R-blocks, three at most, then
with S(RESYNCH request), then the request ends with outcome 0x04. A response of a wrong format ends it with 0x05, one of an
unknown token with 0x06, a signature that does not verify with 0x09; one that verifies spends a use and, where no component
is asked, counts the custodian. WAIT expires with outcome 0x01. R343: TIMEOUT seconds after CEREMONY_OPEN, with no operation
of it under way, the ceremony closes and Owl records it; before that, or without one, the event changes nothing. -/
def Obligations.QuillEvents : Prop :=
  (∀ (p : Nat) (b : Bool) (s : State), 4 ≤ p ∨ (s.port p).present = b → exec (.quillPresenceChange p b) s = .next s) ∧
  (∀ (p : Nat) (r : QuillRequest) (s : State), (s.port p).request = some r →
     (r.stage = .waitCard → r.waitUntil ≤ s.now → ∃ u : State,
       exec (.ceremonyWaitExpiry p) s = .next (u.succeed r.slot (s.quillResult r 1 0xFF)) ∧
       s.OnPort u p { s.port p with request := none, lastOutcome := 1,
                                    state := if (s.port p).powered then 2 else (s.port p).state } []) ∧
     (r.stage ≠ .waitCard ∨ s.now < r.waitUntil → exec (.ceremonyWaitExpiry p) s = .next s)) ∧
  (∀ (p : Nat) (r : QuillRequest) (s : State), (s.port p).request = some r → s.portsLive p = true → r.held = [] →
     let v := s.port p
     let ends := fun (c : Instr) (outcome who : Nat) (v' : QuillPort) => ∃ u : State,
       exec c s = .next (u.succeed r.slot (s.quillResult r outcome who)) ∧
       s.OnPort u p { v' with request := none, lastOutcome := outcome } []
     let goes := fun (c : Instr) (v' : QuillPort) (out : List Bytes) => ∃ t, exec c s = .next t ∧ s.OnPort t p v' out
     let counted := { v with linkErrors := (SatCount.add 0xFFFF 1 v.linkErrors).1 }
     (r.stage = .waitCard → v.present = false → v.powered = false →
       goes (.quillPresenceChange p true)
         ({ v with present := true, request := some { r with stage := .activating } }.on 2) []) ∧
     (r.stage ≠ .waitCard → v.present = true →
       ends (.quillPresenceChange p false) 0x0D r.who ({ v with present := false }.off 0)) ∧
     (∀ b, r.stage = .activating →
       let a := parseAtr b
       let heard := { v with warmReset := false, ifsc := max 1 a.ifsc, crc := a.crc, bwi := a.bwi, cwi := a.cwi,
                             factors := a.factors }
       let inA := ({ v with warmReset := false }.on 1)
       (a.ok = true → (a.classes ≠ 1 ∨ v.cls ≠ 2) → a.classes ≠ 4 → a.protocols.contains 1 = true →
         (a.factors = 0x11 →
           goes (.quillAtr p b) { heard with request := some (r.sends .ifs 0) } [t1Block a.crc 0xC1 [0xFE]]) ∧
         (a.factors ≠ 0x11 →
           goes (.quillAtr p b) { heard with request := some { r with stage := .pps } } [ppsBytes a.factors])) ∧
       (a.ok = true → a.classes = 1 → v.cls = 2 → goes (.quillAtr p b) inA []) ∧
       (a.ok = true → (a.classes ≠ 1 ∨ v.cls ≠ 2) → (a.classes = 4 ∨ a.protocols.contains 1 = false) →
         ends (.quillAtr p b) 3 0xFF (v.off 4)) ∧
       (a.ok = false → a.badCheck = true → v.warmReset = false → goes (.quillAtr p b) { v with warmReset := true } []) ∧
       (a.ok = false → (a.badCheck = false ∨ v.warmReset = true) →
         (v.cls = 2 → goes (.quillAtr p b) inA []) ∧ (v.cls ≠ 2 → ends (.quillAtr p b) 3 0xFF (v.off 4)))) ∧
     (r.stage = .pps →
       (v.factors ≠ 0x11 → goes (.quillResponse p (ppsBytes v.factors)) { v with request := some (r.sends .ifs 0) }
         [t1Block v.crc 0xC1 [0xFE]]) ∧
       (∀ late, ends (.quillBlockError p late) 3 0xFF (v.off 4))) ∧
     (r.listens = false → ∀ late b, exec (.quillBlockError p late) s = .next s ∧
       exec (.quillResponse p b) s = .next s) ∧
     (r.listens = true → r.stage ≠ .pps → v.linkErrors.count < 0xFFFE →
       (∀ late, r.retries < 3 → goes (.quillBlockError p late)
         { counted with request := some { r with retries := r.retries + 1 } }
         [t1Block v.crc (0x80 + (if v.recvN then 0x10 else 0) + if late then 2 else 1) []]) ∧
       (∀ late, 3 ≤ r.retries → r.resynched = false → goes (.quillBlockError p late)
         { counted with request := some { r with resynched := true, resyncDue := true } } [t1Block v.crc 0xC0 []]) ∧
       (∀ late, 3 ≤ r.retries → r.resynched = true → ends (.quillBlockError p late) 4 r.who (v.off 4)) ∧
       (∀ b, t1Parse? v.crc b = none → exec (.quillResponse p b) s = exec (.quillBlockError p false) s)) ∧
     (r.stage = .ifs → r.resyncDue = false → 8 ≤ v.ifsc →
       goes (.quillResponse p (t1Block v.crc 0xE1 [0xFE])) (v.identifying r s.now)
         [t1Block v.crc (if v.sendN then 0x40 else 0) (quillMessage 1 v.nextSeq)]) ∧
     (∀ (m : Bytes), r.resyncDue = false → v.tx.length ≤ 1 → v.rx = [] → m.length ≤ 254 →
       let answer := t1Block v.crc (if v.recvN then 0x40 else 0) m
       let heard := { v.acked with recvN := !v.recvN, rx := [], state := if v.powered then 2 else v.state }
       let body := m.drop 8
       (r.stage = .identify ∨ r.stage = .authenticate ∨ r.stage = .component → m.length < 8 →
         ends (.quillResponse p answer) 5 r.who heard) ∧
       (r.stage = .identify → m = [0x51, 0x4C, 0x01, 0x81, 0, 90] ++ natBe 2 r.seq ++ body → body.length = 90 →
         r.seq < 65536 → r.enrol = false →
         (∀ x ∈ s.quill.enrolments, ¬ (x.domain = r.domain ∧ x.tokenId = slice body 0 16)) →
         ends (.quillResponse p answer) 6 0xFF heard) ∧
       (r.stage = .authenticate → m = [0x51, 0x4C, 0x01, 0x82, 0, 64] ++ natBe 2 r.seq ++ body → body.length = 64 →
         r.seq < 65536 → r.enrol = false →
         let signed := ascii "QUILL-AUTH" ++ Config.deviceId ++ r.challenge ++ natBe 2 r.domain ++ r.tokenId
         if Config.ecdsaVerify 0 r.publicKey signed body then
           (∀ en, s.enrolled? r.domain r.custodian = some en →
             s.storeAccepts .controller = true → s.storeFree = true → v.powered = true → r.index = 0xFF →
             s.rival p r (fun _ => true) = false → ¬ r.custodian ∈ s.quill.ceremony.counted →
             s.ceremonyOpen r.domain = true →
             ∃ t, exec (.quillResponse p answer) s = .next t ∧
               t.quill.ceremony.counted = s.quill.ceremony.counted ++ [r.custodian] ∧
               t.enrolled? r.domain r.custodian = some { en with useCount := en.useCount + 1 } ∧
               (t.port p).request = none ∧ (t.port p).lastOutcome = 0)
         else ends (.quillResponse p answer) 9 r.custodian heard))) ∧
  (∀ s : State,
     (s.quill.ceremony.phase ≠ .idle → s.ceremonyBusy = false →
       s.quill.ceremony.openedAt + s.quill.ceremony.timeoutS * unitsPerSecond ≤ s.now →
       ∃ t, exec .ceremonyTimeout s = .next t ∧ t = { s with quill.ceremony := {}, owl := t.owl } ∧
         ∃ e ∈ t.owl.intake, e.code = 0x60) ∧
     (s.quill.ceremony.phase = .idle ∨ s.ceremonyBusy = true ∨
         s.now < s.quill.ceremony.openedAt + s.quill.ceremony.timeoutS * unitsPerSecond →
       exec .ceremonyTimeout s = .next s))

/-! ## Resets of functions, dirty-page logs and migration -/

/-- Tables 11-2 and 11-3, R409, R411: CUB_RESET, CUB_FLUSH, a function-level reset of a cub or of the physical function, and
the clearing of VF Enable each begin a reset at this moment on the functions of their scope: their admission stops, and
entries being fetched are not admitted (R697); R420: DISCARD moves the submission head to the tail. The reset of the
physical function also closes the ceremony (Table 8-8) and abandons the lodge operation (Table 3-6). R416, R417, R421,
Table 11-3: 1 ms after its start, and not before, a reset squashes the commands of its function, but for outcomes that
stand; R415: 2 ms after it, completions without a free position are dropped. R419: once its scope holds no slot and no
completion is due there, the reset ends: ring and registers take their reset values, keeping VT, a frozen cub is frozen, and
the den command that asked for it ends with the counts of Table 11-8. -/
def Obligations.FunctionResets : Prop :=
  let begun := fun (s t : State) (f : Nat) (o : ResetOp) =>
    (t.fnSt f).resets = (s.fnSt f).resets ++ [o] ∧ t.fnHeld f = true ∧
    ∀ j x, s.slot? j = some x → x.fn = f → x.phase = .fetching → t.slot? j = some { x with cancelled := true }
  ((∀ (k : Nat) (sl : Slot) (s : State), s.RunsAdmin k 0x0500 sl → sl.entry.inLength = 0 → paramZero sl.entry [0, 1] = true →
     let f := leField sl.entry.param 0 2
     isCub f = true →
     ∃ t, exec (.cubReset k) s = .next t ∧
       begun s t f { kind := .cubReset, start := s.now, slot := some k, grant := sl.grant } ∧
       (t.slot? k).map (fun x => (x.phase, x.entry)) = some (.waiting, sl.entry) ∧ t = { s with host := t.host, cub := t.cub } ∧
       ∀ g, g ≠ f → t.fnSt g = s.fnSt g ∧ t.ring g = s.ring g) ∧
   (∀ (k : Nat) (sl : Slot) (s : State), s.RunsAdmin k 0x0501 sl → listLength 256 sl.entry.inLength = true →
     paramZero sl.entry [2] = true → sl.entry.p 2 ≤ 1 →
     let fns := functionList 256 (s.inputOf k sl)
     let o : ResetOp := { kind := .flush, start := s.now, slot := some k, grant := sl.grant }
     ((∃ f ∈ fns, isCub f = false) → exec (.cubFlush k) s = .next (s.failCmd k 0x0106)) ∧
     ((∀ f ∈ fns, isCub f = true) → ∃ t, exec (.cubFlush k) s = .next t ∧
       (t.slot? k).map (fun x => (x.phase, x.entry)) = some (.waiting, sl.entry) ∧ t = { s with host := t.host, cub := t.cub } ∧
       (∀ g, ¬ g ∈ fns → t.fnSt g = s.fnSt g ∧ t.ring g = s.ring g) ∧
       (sl.entry.p 2 = 0 → ∀ f ∈ fns, begun s t f o) ∧
       (sl.entry.p 2 = 1 → ∀ f ∈ fns, (∀ x ∈ (s.fnSt f).resets, x.slot ≠ some k) → s.fetches f = [] →
         let r := s.ring f
         let n := ringDiff r.sqTail r.sqHead r.sqSize
         begun s t f { o with discarded := n } ∧
         t.ring f = { r with sqHead := r.sqTail, sqFetched := (r.sqFetched + n) % 65536 }))) ∧
   (∀ (f : Nat) (s : State),
     (isCub f = true → s.linked.contains f = true → ∃ t, exec (.vfFlr f) s = .next t ∧
       begun s t f { kind := .vfFlr, start := s.now, slot := none, grant := 0 } ∧
       t = { s with host := t.host, cub := t.cub } ∧ ∀ g, g ≠ f → t.fnSt g = s.fnSt g ∧ t.ring g = s.ring g) ∧
     (isCub f = false ∨ s.linked.contains f = false → exec (.vfFlr f) s = .next s)) ∧
   (∀ s : State, ∃ t, exec .pfFlr s = .next t ∧
     (∀ f, f ∈ s.linked ∨ (tget? s.host.rings f).isSome = true →
       begun s t f { kind := .pfFlr, start := s.now, slot := none, grant := 0 }) ∧
     t.lodge.ctl.phase = .idle ∧ t.lodge.ctl.resultStatus = 0 ∧ t.lodge.ctl.resultStep = 0 ∧ t.lodge.ctl.resultOp = 0 ∧
     t.quill.ceremony.phase = .idle ∧ t.quill.enrolments = s.quill.enrolments ∧ t.quill.ports = s.quill.ports ∧
     t = { s with host := t.host, cub := t.cub, lodge.ctl := t.lodge.ctl, quill := t.quill, owl := t.owl }) ∧
   (∀ s : State,
     (s.cub.vfEnable = true → ∃ t, exec .vfEnableClear s = .next t ∧ t.cub.vfEnable = false ∧
       t = { s with host := t.host, cub := t.cub } ∧
       ∀ f, f ∈ s.linked → isCub f = true → begun s t f { kind := .vfFlr, start := s.now, slot := none, grant := 0 }) ∧
     (s.cub.vfEnable = false → exec .vfEnableClear s = .next s))) ∧
  ((∀ (f : Nat) (s : State), (∀ o ∈ (s.fnSt f).resets, o.squashDone = true ∨ s.now < o.start + unitsPerMilli) →
     exec (.drainSquash f) s = .next s) ∧
   (∀ (f : Nat) (o : ResetOp) (s : State), (s.fnSt f).resets = [o] → o.squashDone = false →
     o.start + unitsPerMilli ≤ s.now → ∃ t, exec (.drainSquash f) s = .next t ∧
       (t.fnSt f).resets = [{ o with squashDone := true }] ∧ (∀ g, g ≠ f → t.fnSt g = s.fnSt g) ∧
       ∀ j x, s.slot? j = some x → x.fn = f →
         (x.phase = .fetching → t.slot? j = some x) ∧
         (x.phase ≠ .fetching → x.phase ≠ .ended → x.legacy = none → x.storeRefused = false → ∃ y, t.slot? j = some y ∧
           y.phase = .ended ∧ y.status = o.kind.status ∧ y.result = [] ∧ y.needed = 0 ∧ y.entry = x.entry) ∧
         (x.phase = .ended → outcomeStands x.status = true → t.slot? j = some x) ∧
         (x.phase = .ended → outcomeStands x.status = false →
           t.slot? j = some { x with status := o.kind.status, result := [], needed := 0, detail := [] })) ∧
   (∀ (f : Nat) (s : State), (∀ o ∈ (s.fnSt f).resets, o.squashDone = false ∨ s.now < o.start + 2 * unitsPerMilli) →
     exec (.drainUndelivered f) s = .next s) ∧
   (∀ (f k : Nat) (o : ResetOp) (sl : Slot) (s : State), (s.fnSt f).resets = [o] → o.squashDone = true →
     o.start + 2 * unitsPerMilli ≤ s.now → s.slotsOf f = [(k, sl)] → s.slot? k = some sl → sl.phase = .ended →
     ((s.ring f).enabled = false ∨ (s.fnSt f).busMaster = false →
       ∃ t, exec (.drainUndelivered f) s = .next t ∧ t.slot? k = none ∧
         (t.fnSt f).resets = [{ o with undelivered := o.undelivered + 1 }] ∧
         (t.fnSt f).undelivered = (SatCount.add count31 1 (s.fnSt f).undelivered).1 ∧
         (∀ g, g ≠ f → t.fnSt g = s.fnSt g) ∧ ∃ e ∈ t.owl.intake, e.code = 0x11) ∧
     ((s.ring f).enabled = true → (s.fnSt f).busMaster = true →
       1 ≤ (s.ring f).cqSize - 1 - ringDiff (s.ring f).cqWrite (s.ring f).cqHead (s.ring f).cqSize → s.host.due = [] →
       ∃ t, exec (.drainUndelivered f) s = .next t ∧ t.slot? k = some sl ∧ t = { s with lodge.ctl := t.lodge.ctl })) ∧
   (∀ (f : Nat) (o : ResetOp) (s : State), (s.fnSt f).resets = [o] → (∀ d ∈ s.host.due, d.fn ≠ f) →
     let cleared : Ring := { ({} : Ring) with vt := (s.ring f).vt }
     let others := fun t : State => ∀ g, g ≠ f → t.ring g = s.ring g ∧ t.fnSt g = s.fnSt g
     (o.kind = .vfFlr → o.slot = none → s.slotsOf f = [] → (s.fnSt f).mig = .none →
       ∃ t, exec (.resetComplete f) s = .next t ∧ t.ring f = cleared ∧
         t.fnSt f = { s.fnSt f with resets := [], busMaster := false, relaxed := true, dirty := none, maxRead := 512,
                                    maxPayload := 128, nonFatal := false } ∧
         others t ∧ t = { s with host := t.host, cub := t.cub }) ∧
     (o.kind = .vfFlr → s.slotsOf f ≠ [] → exec (.resetComplete f) s = .next s) ∧
     (∀ k sl, o.slot = some k → s.slot? k = some sl → sl.phase = .waiting → sl.grant = o.grant → sl.fn = 0 →
       s.resetScope f o = [f] → s.slotsOf f = [] →
       let counts := [0, 0] ++ natLe 2 (min 0xFFFF o.completed) ++ natLe 2 (min 0xFFFF o.squashed)
         ++ natLe 2 (min 0xFFFF o.undelivered) ++ natLe 2 (min 0xFFFF o.discarded) ++ [0, 0]
       (o.kind = .cubReset → (s.fnSt f).mig = .none → ∃ u : State,
         exec (.resetComplete f) s = .next (u.succeed k counts) ∧ u.ring f = cleared ∧
         u.fnSt f = { s.fnSt f with resets := [], dirty := none } ∧ others u ∧
         u = { s with host := u.host, cub := u.cub }) ∧
       (o.kind = .flush → ∃ u : State,
         exec (.resetComplete f) s = .next (u.succeed k counts) ∧ u.fnSt f = { s.fnSt f with resets := [] } ∧
         (∀ g, g ≠ f → u.fnSt g = s.fnSt g) ∧ u = { s with cub := u.cub }) ∧
       (o.kind = .freeze → (s.fnSt f).mig = .freezing → ∃ u : State,
         exec (.resetComplete f) s = .next (u.succeed k counts) ∧
         u.fnSt f = { s.fnSt f with resets := [], mig := .frozen } ∧ (∀ g, u.ring g = s.ring g) ∧
         u = { s with host := u.host, cub := u.cub })) ∧
     (o.kind = .pfFlr → o.slot = none → (∀ g ∈ s.resetScope f o, s.slotsOf g = [] ∧ ∀ d ∈ s.host.due, d.fn ≠ g) →
       ∃ t, exec (.resetComplete f) s = .next t ∧ t.cub.vfEnable = false ∧ t.cub.numVfs = 0 ∧ t.host.d3hot = false ∧
         ∀ g ∈ s.resetScope f o, t.ring g = { ({} : Ring) with vt := (s.ring g).vt } ∧ (t.fnSt g).busMaster = false)))

/-- R438 to R441: DIRTY_LOG_START begins an empty log of the pages given, in the lowest free bitmap area or in its own; with
16 logs active, or for a function whose record does not carry DIRTY_LOG, it ends with outcome 0x09. DIRTY_LOG_HARVEST
copies bytes of the bitmap and clears them in one step; without a log, or past its end, it ends with 0x0106.
DIRTY_LOG_STOP ends the log. The choice of the lowest area is the model's (log entry 97). -/
def Obligations.DirtyPageLogs : Prop :=
  ∀ (k : Nat) (sl : Slot) (s : State), sl.entry.inLength = 0 → sl.entry.function < 2048 →
    let f := sl.entry.function
    let v := s.fnSt f
    (s.RunsAdmin k 0x0520 sl → paramZero sl.entry [0, 1, 4, 5, 6, 7, 8, 9, 10, 11, 12, 13, 14, 15] = true →
      leField sl.entry.param 4 8 % 4096 = 0 → 1 ≤ leField sl.entry.param 12 4 → leField sl.entry.param 12 4 ≤ 16777216 →
      let log := fun area : Nat => ({ base := leField sl.entry.param 4 8, pages := leField sl.entry.param 12 4,
                                      area := area } : DirtyLog)
      (∀ l, s.mayLog f = true → v.dirty = some l → exec (.dirtyLogStart k) s = .next
        ((s.setFn f { v with dirty := some (log l.area) }).succeed k [0, 0, 0, 0])) ∧
      (∀ a, s.mayLog f = true → v.dirty = none → s.logs < 16 → a < 16 → s.logAt? a = none →
        (∀ i, i < a → s.logAt? i ≠ none) → exec (.dirtyLogStart k) s = .next
        ((s.setFn f { v with dirty := some (log a) }).succeed k [0, 0, 0, 0])) ∧
      (s.mayLog f = false ∨ (v.dirty = none ∧ 16 ≤ s.logs) →
        exec (.dirtyLogStart k) s = .next (s.succeed k [9, 0, 0, 0]))) ∧
    (s.RunsAdmin k 0x0521 sl → paramZero sl.entry [0, 1, 4, 5, 6, 7] = true → leField sl.entry.param 4 4 % 64 = 0 →
      let off := leField sl.entry.param 4 4
      (v.dirty = none → exec (.dirtyLogHarvest k) s = .next (s.failCmd k 0x0106)) ∧
      (∀ l, v.dirty = some l → l.length ≤ off → exec (.dirtyLogHarvest k) s = .next (s.failCmd k 0x0106)) ∧
      (∀ l, v.dirty = some l → off < l.length → ∃ out l',
        exec (.dirtyLogHarvest k) s = .next ((s.setFn f { v with dirty := some l' }).succeed k out) ∧
        out.length = min sl.entry.outLength (l.length - off) ∧
        (∀ i, i < out.length → out[i]? = some (tget l.bitmap (off + i) 0) ∧ tget? l'.bitmap (off + i) = none) ∧
        (∀ i, i < off ∨ off + out.length ≤ i → tget? l'.bitmap i = tget? l.bitmap i) ∧
        l'.base = l.base ∧ l'.pages = l.pages ∧ l'.area = l.area)) ∧
    (s.RunsAdmin k 0x0522 sl → paramZero sl.entry [0, 1] = true →
      (s.mayLog f = true →
        exec (.dirtyLogStop k) s = .next ((s.setFn f { v with dirty := none }).succeed k [0, 0, 0, 0])) ∧
      (s.mayLog f = false → exec (.dirtyLogStop k) s = .next (s.succeed k [9, 0, 0, 0])))

/-- R423 to R437, R442, R443, Tables 11-5 to 11-8: the migration commands. Where migration is not permitted they end with the
outcome of R423. MIG_TICKET gives a ticket of random bytes for 600 s; MIG_FREEZE freezes cubs, MIG_THAW and MIG_RESUME take
them out of migration; MIG_SAVE gives a package under its header and holds its cubs; MIG_RESTORE installs one whose checks
pass and closes its ticket; MIG_CONCLUDE releases what was saved, and resets it where the receipt accepts. A function number
that is no cub ends its command with 0x0106. A frozen cub whose timeout has passed leaves migration, and tickets expire. -/
def Obligations.MigrationCommands : Prop :=
  (∀ (k : Nat) (sl : Slot) (s : State),
    let b := s.inputOf k sl
    let fns := functionList 16 b
    let lists := listLength 16 sl.entry.inLength = true ∧ paramZero sl.entry [] = true
    let tickets := s.RunsAdmin k 0x0511 sl ∧ sl.entry.inLength = 16 ∧ paramZero sl.entry [0, 1] = true ∧ sl.entry.dom < 4096
    let concludes := s.RunsAdmin k 0x0515 sl ∧ sl.entry.inLength = 32 ∧ paramZero sl.entry [] = true
    (∀ o, s.migRefusal? = some o →
      (tickets → exec (.migTicket k) s = .next (s.succeed k (natLe 1 o ++ [0, 0, 0]))) ∧
      (concludes → exec (.migConclude k) s = .next (s.succeed k (natLe 1 o ++ [0, 0, 0]))) ∧
      (lists → (∀ f ∈ fns, isCub f = true) →
        (s.RunsAdmin k 0x0512 sl → exec (.migFreeze k) s = .next (s.succeed k (natLe 1 o ++ [0, 0, 0]))) ∧
        (s.RunsAdmin k 0x0516 sl → exec (.migThaw k) s = .next (s.succeed k (natLe 1 o ++ [0, 0, 0]))) ∧
        (s.RunsAdmin k 0x0517 sl → exec (.migResume k) s = .next (s.succeed k (natLe 1 o ++ [0, 0, 0]))))) ∧
    (lists → (∃ f ∈ fns, isCub f = false) →
      (s.RunsAdmin k 0x0512 sl → exec (.migFreeze k) s = .next (s.failCmd k 0x0106)) ∧
      (s.RunsAdmin k 0x0516 sl → exec (.migThaw k) s = .next (s.failCmd k 0x0106)) ∧
      (s.RunsAdmin k 0x0517 sl → exec (.migResume k) s = .next (s.failCmd k 0x0106))) ∧
    (s.migRefusal? = none →
      (tickets → 16 ≤ s.openTickets.length → exec (.migTicket k) s = .next (s.succeed k [8, 0, 0, 0])) ∧
      (∀ t, tickets → s.openTickets.length < 16 → s.draw k 48 = (.refused, t) →
        exec (.migTicket k) s = .next (t.succeed k [0x0D, 0, 0, 0])) ∧
      (∀ r t, tickets → s.openTickets.length < 16 → s.draw k 48 = (.served r, t) →
        exec (.migTicket k) s = .next (State.succeed k ([0, 0, 0, 0] ++ r.take 16 ++ r.drop 16)
          { t with cub.tickets := t.openTickets ++ [{ id := r.take 16, nonce := r.drop 16, domain := sl.entry.dom,
                                                      source := t.inputOf k sl,
                                                      expires := t.now + 600 * unitsPerSecond }] })) ∧
      (s.RunsAdmin k 0x0512 sl → lists → (∀ f ∈ fns, isCub f = true) →
        let may := fun f : Nat => (s.fnSt f).mig = .none ∧ (s.fnRec? f).any (fun r => r.flags.getLsbD 0) = true
        ((∃ f ∈ fns, ¬ may f) → exec (.migFreeze k) s = .next (s.succeed k [2, 0, 0, 0])) ∧
        ((∀ f ∈ fns, may f) → ∃ t, exec (.migFreeze k) s = .next t ∧ (t.slot? k).map (fun x => (x.phase, x.entry)) = some (.waiting, sl.entry) ∧
          (∀ f ∈ fns, t.fnHeld f = true ∧ t.fnSt f = { s.fnSt f with
            mig := .freezing, frozenAt := s.now,
            resets := (s.fnSt f).resets ++ [{ kind := .freeze, start := s.now, slot := some k, grant := sl.grant }] }) ∧
          (∀ f, ¬ f ∈ fns → t.fnSt f = s.fnSt f) ∧ t = { s with host := t.host, cub := t.cub })) ∧
      (s.RunsAdmin k 0x0516 sl → lists → (∀ f ∈ fns, isCub f = true) →
        ((∃ f ∈ fns, s.mayThaw f = false) → exec (.migThaw k) s = .next (s.succeed k [2, 0, 0, 0])) ∧
        ((∀ f ∈ fns, s.mayThaw f = true) → (∃ f ∈ fns, s.departingFn f = true) → s.storeAccepts .controller = false →
          exec (.migThaw k) s = .next (s.storeRefused.failCmd k 0x0F01)) ∧
        ((∀ f ∈ fns, s.mayThaw f = true) →
          ((∀ f ∈ fns, s.departingFn f = false) ∨ s.storeAccepts .controller = true) →
          ∃ u : State, exec (.migThaw k) s = .next (u.succeed k [0, 0, 0, 0]) ∧
            (∀ f ∈ fns, u.fnSt f = { s.fnSt f with mig := .none, migScope := 0 }) ∧
            (∀ f, ¬ f ∈ fns → u.fnSt f = s.fnSt f) ∧ u.host = s.host)) ∧
      (s.RunsAdmin k 0x0517 sl → lists → (∀ f ∈ fns, isCub f = true) →
        ((∃ f ∈ fns, (s.fnSt f).mig ≠ .incoming) → exec (.migResume k) s = .next (s.succeed k [2, 0, 0, 0])) ∧
        ((∀ f ∈ fns, (s.fnSt f).mig = .incoming) →
          ∃ u : State, exec (.migResume k) s = .next (u.succeed k [0, 0, 0, 0]) ∧
            (∀ f ∈ fns, u.fnSt f = { s.fnSt f with mig := .none, migScope := 0 }) ∧
            (∀ f, ¬ f ∈ fns → u.fnSt f = s.fnSt f) ∧ u = { s with cub := u.cub })) ∧
      (concludes → (∀ p ∈ s.cub.saved, p.ticketId ≠ slice b 0 16) →
        exec (.migConclude k) s = .next (s.succeed k [0x0B, 0, 0, 0])) ∧
      (∀ p, concludes → (s.cub.saved.find? fun p => p.ticketId == slice b 0 16) = some p →
        let is := fun v : Byte => slice b 16 16 = receipt p.receiptKey p.digest v
        (¬ is 0 → ¬ is 0x0A → exec (.migConclude k) s = .next (s.succeed k [0x0B, 0, 0, 0])) ∧
        (is 0x0A → p.scope = 1 → exec (.migConclude k) s = .next ((s.releasePackage p).succeed k [0x0A, 0, 0, 0])) ∧
        (is 0 → ¬ is 0x0A → p.scope = 1 → ∃ u : State, exec (.migConclude k) s = .next (u.succeed k [0, 0, 0, 0]) ∧
          (∀ q ∈ u.cub.saved, q.ticketId ≠ p.ticketId) ∧
          ∀ f ∈ p.cubs, (s.fnSt f).mig = .saved →
            (u.fnSt f).mig = .none ∧ u.ring f = { ({} : Ring) with vt := (s.ring f).vt }) ∧
        ((is 0 ∨ is 0x0A) → p.scope = 2 → s.storeAccepts .sett = false →
          exec (.migConclude k) s = .next (s.storeRefused.failCmd k 0x0F01)) ∧
        (is 0 → ¬ is 0x0A → p.scope = 2 → s.storeAccepts .sett = true → s.storeAccepts .controller = true →
          ∃ u : State, exec (.migConclude k) s = .next (u.succeed k [0, 0, 0, 0]) ∧
            (∀ x r, (u.keySlot x).record = some r → r.domain ≠ p.domain) ∧ ¬ p.domain ∈ u.cub.departing)) ∧
      (∀ d fs t rnd, s.RunsAdmin k 0x0513 sl → 1729 < sl.entry.inLength →
        listLength 16 (sl.entry.inLength - 1729) = true → paramZero sl.entry [0, 2, 3] = true →
        (sl.entry.p 0 = 1 ∨ sl.entry.p 0 = 2) → leField sl.entry.param 2 2 = d → d < 4096 →
        functionList 16 (b.drop 1729) = fs → (∀ f ∈ fs, isCub f = true) → fs.Nodup →
        s.peerOk (slice b 0 16) (slice b 64 1665) = true →
        (∀ f ∈ fs, (s.fnSt f).mig = .frozen ∧ s.migratable f d = true) →
        (sl.entry.p 0 = 2 → s.storeAccepts .controller = true ∧
          ∀ r ∈ s.tables.functions, r.domain = d → r.fn = 0 ∨ r.fn ∈ fs) →
        (s.drawOwn k 96 = (.refused, t) → exec (.migSave k) s = .next (t.succeed k [0x0D, 0, 0, 0])) ∧
        (s.drawOwn k 96 = (.waits, t) → exec (.migSave k) s = .next t) ∧
        (s.drawOwn k 96 = (.served rnd, t) →
          let eph := Config.ecKeygen 0x21 (rnd.take 56)
          let peerEc := slice b 64 1665 |>.take 97
          if (Config.mlkemEncaps 0x3E (slice b 64 1665 |>.drop 97) (rnd.drop 64)).isNone ∨
              (Config.ecdh 0x21 eph.1 peerEc).isNone ∨
              (Config.ecdh 0x21 (t.openIdentity.getD {}).p384Private peerEc).isNone then
            exec (.migSave k) s = .next (t.succeed k [3, 0, 0, 0])
          else ∃ (package : Bytes) (u : State), exec (.migSave k) s = .next (u.succeed k ([0, 0, 0, 0] ++ package)) ∧
            package.length = 0x730 + bodyLength (sl.entry.p 0) fs.length ∧
            package.take 0x100 = packageHeader (sl.entry.p 0) d fs.length Config.deviceId (slice b 0 16) (slice b 16 16)
              (t.domainPrint d) eph.2 ∧
            (∀ f ∈ fs, (u.fnSt f).mig = .saved ∧ (u.fnSt f).migScope = sl.entry.p 0) ∧
            (∃ p ∈ u.cub.saved, p.ticketId = slice b 16 16 ∧ p.cubs = fs) ∧
            (sl.entry.p 0 = 2 → d ∈ u.cub.departing))) ∧
      (s.RunsAdmin k 0x0514 sl → 3571 ≤ sl.entry.inLength → sl.entry.inLength ≤ 8529 → paramZero sl.entry [] = true →
        (packageOk b = false → exec (.migRestore k) s = .next (s.succeed k [5, 0, 0, 0])) ∧
        (packageOk b = true → (∃ f ∈ packageCubs b, isCub f = false) →
          exec (.migRestore k) s = .next (s.failCmd k 0x0106)) ∧
        (packageOk b = true → (∀ f ∈ packageCubs b, isCub f = true) →
          let package := b.take (0x730 + leField b 0xC4 4)
          let publics := slice b package.length 1665
          let scope := leField b 0xA 1
          let d := leField b 0xC 2
          (s.peerOk (slice b 0x10 16) publics = false →
            exec (.migRestore k) s = .next (s.succeed k [3, 0, 0, 0])) ∧
          (s.peerOk (slice b 0x10 16) publics = true →
            ((∀ x ∈ s.openTickets, ¬ (x.id = slice b 0x30 16 ∧ x.domain = d ∧ x.source = slice b 0x10 16)) →
              exec (.migRestore k) s = .next (s.succeed k [4, 0, 0, 0])) ∧
            (∀ tk, (s.openTickets.find? fun t => t.id == slice b 0x30 16 && t.domain == d && t.source == slice b 0x10 16)
                = some tk →
              match (s.restoreKey b (publics.take 97) tk).bind fun key =>
                (Config.gcmOpen (key.take 32) (zeros 12) (package.take 0x720) (package.drop 0x720)).map fun body => (key, body)
              with
              | none => exec (.migRestore k) s = .next (s.succeed k [5, 0, 0, 0])
              | some (key, body) => (scope = 2 → s.storeAccepts .sett = true) →
                let answer := fun (o : Nat) (v : Byte) =>
                  [BitVec.ofNat 8 o, 0, 0, 0] ++ receipt (key.drop 32) (natLe 32 (Config.sha3 package).toNat) v
                let ready := fun f : Nat => s.migratable f d = true ∧ (s.fnSt f).mig = .none ∧
                  (s.ring f).enabled = false ∧ s.slotsOf f = []
                ((∃ f ∈ packageCubs b, ¬ ready f) ∨ ¬ (packageCubs b).Nodup →
                  exec (.migRestore k) s = .next ((s.closeTicket tk).succeed k (answer 1 0x0A))) ∧
                ((∀ f ∈ packageCubs b, ready f) → (packageCubs b).Nodup →
                  if s.domainTakes scope d b body then
                    ∃ u : State, exec (.migRestore k) s = .next (u.succeed k (answer 0 0)) ∧
                      (∀ x ∈ u.cub.tickets, x.id ≠ tk.id) ∧
                      ∀ i f, (packageCubs b)[i]? = some f →
                        u.ring f = (s.ring f).load (slice body (64 * i) 64) ∧
                        u.fnSt f = { s.fnSt f with mig := .incoming, migScope := scope }
                  else exec (.migRestore k) s = .next ((s.closeTicket tk).succeed k (answer 6 0x0A))))))))) ∧
  (∀ (f : Nat) (s : State),
    ((s.fnSt f).mig = .frozen → (s.fnSt f).frozenAt + s.freezeTimeout ≤ s.now →
      ∃ t, exec (.migFreezeTimeout f) s = .next t ∧ t.fnSt f = { s.fnSt f with mig := .none, migScope := 0 } ∧
        (∀ g, g ≠ f → t.fnSt g = s.fnSt g) ∧ t.cub.abandoned = (SatCount.add count31 1 s.cub.abandoned).1 ∧
        (∃ e ∈ t.owl.intake, e.code = 0x90 ∧ e.payload = natLe 2 f ++ [0, 0]) ∧ t.host = s.host ∧ t.mem = s.mem) ∧
    ((s.fnSt f).mig ≠ .frozen ∨ s.now < (s.fnSt f).frozenAt + s.freezeTimeout →
      exec (.migFreezeTimeout f) s = .next s)) ∧
  (∀ s : State, exec .migTicketExpiry s = .next
    { s with cub.tickets := s.cub.tickets.filter fun t => decide (s.now < t.expires) })

/-! ## Instructions of the transaction cores -/

/-- R208: the register g0 reads as 0, and a write to it has no effect; a write to another register changes that one
alone. -/
def Obligations.RegisterZeroReadsZero : Prop :=
  ∀ (x : Ctx) (v : Word), x.rg 0 = 0 ∧ x.setG 0 v = x ∧
    ∀ i j : Nat, 0 < i → i < 32 → (x.setG i v).rg j = if j = i then v else x.rg j

/-- R214, Table 6-5: the instructions of format T write GD with the function of GA and GB (CSEL of GC too) and go on
at the next instruction; no other register, no byte of memory and nothing else changes. R213, R214, Table 6-5: the
instructions of format I write GD with the function of GA and IMM, sign- or zero-extended, and go on at the next
instruction; nothing else changes. EXTR takes a field of GA; the bits of a field that GA does not have are free. -/
def Obligations.ArithmeticInstructions : Prop :=
  (∀ (c k : Nat) (sl : Slot) (w : BitVec 32) (s : State),
     let a := sl.ctx.rg (fA w)
     let b := sl.ctx.rg (fB w)
     let n := b.toNat % 64
     (s.Issues c k sl w 0x01 0x7FF → exec (.add c w) s = .next (s.wroteG k sl (fD w) (a + b))) ∧
     (s.Issues c k sl w 0x02 0x7FF → exec (.sub c w) s = .next (s.wroteG k sl (fD w) (a - b))) ∧
     (s.Issues c k sl w 0x03 0x7FF → exec (.and c w) s = .next (s.wroteG k sl (fD w) (a &&& b))) ∧
     (s.Issues c k sl w 0x04 0x7FF → exec (.or c w) s = .next (s.wroteG k sl (fD w) (a ||| b))) ∧
     (s.Issues c k sl w 0x05 0x7FF → exec (.xor c w) s = .next (s.wroteG k sl (fD w) (a ^^^ b))) ∧
     (s.Issues c k sl w 0x06 0x7FF → exec (.shl c w) s = .next (s.wroteG k sl (fD w) (a <<< n))) ∧
     (s.Issues c k sl w 0x07 0x7FF → exec (.shr c w) s = .next (s.wroteG k sl (fD w) (a >>> n))) ∧
     (s.Issues c k sl w 0x08 0x7FF → exec (.sar c w) s = .next (s.wroteG k sl (fD w)
       (BitVec.ofInt 64 (a.toInt / 2 ^ n)))) ∧
     (s.Issues c k sl w 0x09 0x7FF → exec (.mul c w) s = .next (s.wroteG k sl (fD w) (BitVec.ofNat 64 (a.toNat * b.toNat)))) ∧
     (s.Issues c k sl w 0x0A 0x7FF → exec (.mulhu c w) s = .next (s.wroteG k sl (fD w)
       (BitVec.ofNat 64 (a.toNat * b.toNat / 2 ^ 64)))) ∧
     (s.Issues c k sl w 0x0B 0x7FF → exec (.slt c w) s = .next (s.wroteG k sl (fD w) (if a.toInt < b.toInt then 1 else 0))) ∧
     (s.Issues c k sl w 0x0C 0x7FF → exec (.sltu c w) s = .next (s.wroteG k sl (fD w) (if a.toNat < b.toNat then 1 else 0))) ∧
     (s.Issues c k sl w 0x0D 0x7FF → exec (.cmpeq c w) s = .next (s.wroteG k sl (fD w) (if a = b then 1 else 0))) ∧
     (s.Issues c k sl w 0x0E 0x3F → exec (.csel c w) s = .next (s.wroteG k sl (fD w)
       (if sl.ctx.rg (fC w) ≠ 0 then a else b))) ∧
     (s.Issues c k sl w 0x0F 0x7FF → exec (.ror c w) s = .next (s.wroteG k sl (fD w) (a >>> n ||| a <<< ((64 - n) % 64)))) ∧
     (s.Issues c k sl w 0x3E 0x7FF → ∃ v : Word, exec (.decd c w) s = .next (s.wroteG k sl (fD w) v) ∧
       ∀ i, i < 16 → bits v.toNat (4 * i + 3) (4 * i)
         = bits b.toNat (4 * bits a.toNat (4 * i + 3) (4 * i) + 3) (4 * bits a.toNat (4 * i + 3) (4 * i))) ∧
     (s.Issues c k sl w 0x3F 0xFFFF → ∃ v : Word, exec (.bswap c w) s = .next (s.wroteG k sl (fD w) v) ∧
       ∀ i, i < 8 → bits v.toNat (8 * i + 7) (8 * i) = bits a.toNat (8 * (7 - i) + 7) (8 * (7 - i)))) ∧
  (∀ (c k : Nat) (sl : Slot) (w : BitVec 32) (s : State),
     let a := sl.ctx.rg (fA w)
     let i : Word := (w.extractLsb' 0 16).signExtend 64
     let z : Word := (w.extractLsb' 0 16).zeroExtend 64
     let n := z.toNat % 64
     (s.Issues c k sl w 0x10 0 → exec (.addi c w) s = .next (s.wroteG k sl (fD w) (a + i))) ∧
     (s.Issues c k sl w 0x11 0 → exec (.andi c w) s = .next (s.wroteG k sl (fD w) (a &&& z))) ∧
     (s.Issues c k sl w 0x12 0 → exec (.ori c w) s = .next (s.wroteG k sl (fD w) (a ||| z))) ∧
     (s.Issues c k sl w 0x13 0 → exec (.xori c w) s = .next (s.wroteG k sl (fD w) (a ^^^ z))) ∧
     (s.Issues c k sl w 0x14 0xFFC0 → exec (.shli c w) s = .next (s.wroteG k sl (fD w) (a <<< n))) ∧
     (s.Issues c k sl w 0x15 0xFFC0 → exec (.shri c w) s = .next (s.wroteG k sl (fD w) (a >>> n))) ∧
     (s.Issues c k sl w 0x16 0xFFC0 → exec (.sari c w) s = .next (s.wroteG k sl (fD w) (BitVec.ofInt 64 (a.toInt / 2 ^ n)))) ∧
     (s.Issues c k sl w 0x17 0 → exec (.slti c w) s = .next (s.wroteG k sl (fD w) (if a.toInt < i.toInt then 1 else 0))) ∧
     (s.Issues c k sl w 0x18 0 → exec (.sltiu c w) s = .next (s.wroteG k sl (fD w) (if a.toNat < i.toNat then 1 else 0))) ∧
     (s.Issues c k sl w 0x19 0x1F0000 → exec (.lui c w) s = .next (s.wroteG k sl (fD w) (i * 65536))) ∧
     (s.Issues c k sl w 0x1A 0x1C0000 → ∃ v : Word, exec (.insh c w) s = .next (s.wroteG k sl (fD w) v) ∧
       ∀ h, h < 4 → bits v.toNat (16 * h + 15) (16 * h)
         = if h = fA w % 4 then w.toNat % 65536 else bits (sl.ctx.rg (fD w)).toNat (16 * h + 15) (16 * h)) ∧
     (s.Issues c k sl w 0x2B 0xF000 → w.toNat / 64 % 64 + w.toNat % 64 < 64 →
       exec (.extr c w) s = .next (s.wroteG k sl (fD w)
         (BitVec.ofNat 64 (a.toNat / 2 ^ (w.toNat / 64 % 64) % 2 ^ (w.toNat % 64 + 1))))) ∧
     (s.Issues c k sl w 0x2B 0xF000 → 64 ≤ w.toNat / 64 % 64 + w.toNat % 64 → ∃ v : Word,
       exec (.extr c w) s = .next ({ s with freeNext := s.freeNext + 1 }.wroteG k sl (fD w) v) ∧
       v.toNat % 2 ^ (64 - w.toNat / 64 % 64) = a.toNat / 2 ^ (w.toNat / 64 % 64) ∧ v.toNat < 2 ^ (w.toNat % 64 + 1)))

/-- R207, R214, R215, Table 6-2: a load writes GD with the bytes that the core reads at GA + IMM, little-endian and
zero-extended; a store hands the low bytes of GD to the core's write at GA + IMM; an address that is not a multiple of the
size raises MISALIGNED, and nothing is read or stored. A core reads its code as it is, and the windows of its command's
input and output, where Table 1-4 and the lodge regions admit it, at its slot's staging buffer. A read of a byte behind a
gate gives the bytes stored there, and an uncorrectable one ends the command with 0x0F01 (R446). A write stores the string
there and nowhere else; registers, keys and rings are unchanged. -/
def Obligations.LoadsAndStores : Prop :=
  (∀ (c k : Nat) (sl : Slot) (w : BitVec 32) (s : State),
     let a := (sl.ctx.rg (fA w) + (w.extractLsb' 0 16).signExtend 64).toNat
     let d := sl.ctx.rg (fD w)
     let skew := s.raiseExc c k { cause := 2, addr := a, insn := w }
     let loads := fun (i : Instr) (op n : Nat) => s.Issues c k sl w op 0 → a % n = 0 →
       (∀ b t, s.coreRead c k sl a n = .done (b, t) →
         exec i s = .next (t.modCtx k fun x => (x.setG (fD w) (BitVec.ofNat 64 (leNat b))).step)) ∧
       (∀ t, s.coreRead c k sl a n = .refused t → exec i s = .next (t.raiseExc c k { cause := 3, addr := a, insn := w }))
     let stores := fun (i : Instr) (op n : Nat) => s.Issues c k sl w op 0 → a % n = 0 →
       (∀ t, s.coreWrite c k sl a (natLe n d.toNat) = .done t → exec i s = .next (t.modCtx k Ctx.step)) ∧
       (∀ t, s.coreWrite c k sl a (natLe n d.toNat) = .refused t →
         exec i s = .next (t.raiseExc c k { cause := 3, addr := a, insn := w }))
     loads (.ld c w) 0x1B 8 ∧ loads (.lw c w) 0x1C 4 ∧ loads (.lh c w) 0x1D 2 ∧ loads (.lb c w) 0x1E 1 ∧
     stores (.st c w) 0x1F 8 ∧ stores (.sw c w) 0x20 4 ∧ stores (.sh c w) 0x21 2 ∧ stores (.sb c w) 0x22 1 ∧
     (s.Issues c k sl w 0x1B 0 → a % 8 ≠ 0 → exec (.ld c w) s = .next skew) ∧
     (s.Issues c k sl w 0x1C 0 → a % 4 ≠ 0 → exec (.lw c w) s = .next skew) ∧
     (s.Issues c k sl w 0x1D 0 → a % 2 ≠ 0 → exec (.lh c w) s = .next skew) ∧
     (s.Issues c k sl w 0x1F 0 → a % 8 ≠ 0 → exec (.st c w) s = .next skew) ∧
     (s.Issues c k sl w 0x20 0 → a % 4 ≠ 0 → exec (.sw c w) s = .next skew) ∧
     (s.Issues c k sl w 0x21 0 → a % 2 ≠ 0 → exec (.sh c w) s = .next skew)) ∧
  (∀ (c k : Nat) (sl : Slot) (a g o n : Nat) (s : State),
     (a < 0x100000 → s.coreRead c k sl a n = .done (slice (s.code sl) a n, s) ∧
       ∀ b, s.coreWrite c k sl a b = .refused s) ∧
     (c < 96 → k < 4096 →
       (sl.programWorld = true ∨ (s.slotInPool (s.skulkPool? (c / 4)) k = true ∧
         ∀ r ∈ s.tables.gates, r.gate = 3 → ¬ (r.masterLo ≤ 0x10 + c ∧ 0x10 + c ≤ r.masterHi))) →
       (0x2010000 ≤ a → a < 0x2020000 →
         s.coreAccess c k sl a false = .done (.cell 3 (k * 0x20000 + (a - 0x2010000)))) ∧
       (0x2020000 ≤ a → a < 0x2030000 → ∀ b,
         s.coreAccess c k sl a b = .done (.cell 3 (k * 0x20000 + 0x10000 + (a - 0x2020000))))) ∧
     (s.coreAccess c k sl a false = .done (.cell g o) → s.poisonedAt (gateAddr g o) n = false →
       ∃ t, s.coreRead c k sl a n = .done (memBytes s.mem.mem (gateAddr g o) n, t) ∧ t.mem.mem = s.mem.mem ∧
         t.host = s.host ∧ t.sett = s.sett ∧ t.outputs = s.outputs ∧ (s.mem.flipped = [] → t = s)) ∧
     (s.coreAccess c k sl a false = .done (.cell g o) → s.poisonedAt (gateAddr g o) n = true →
       s.coreRead c k sl a n = .fatal ((s.countError g o false).failCmd k 0x0F01))) ∧
  (∀ (c k : Nat) (sl : Slot) (a g o : Nat) (b : Bytes) (s : State), s.MemWf →
     s.coreAccess c k sl a true = .done (.cell g o) → ¬ (g = 0 ∧ s.mem.fenced = true) →
     ∃ t, s.coreWrite c k sl a b = .done t ∧ t.MemWf ∧ t = { s with mem := t.mem } ∧
       memBytes t.mem.mem (gateAddr g o) b.length = b ∧
       ∀ x, (x < gateAddr g o ∨ gateAddr g o + b.length ≤ x) → memByte t.mem.mem x = memByte s.mem.mem x)

/-- R209, R213 to R215: a branch that is taken goes to its own address + 4 × OFF, one that is not to the next
instruction; JAL saves address + 4 in g31 and JALR in GD; a JALR target that is not a multiple of 4 raises MISALIGNED.
-/
def Obligations.BranchesAndJumps : Prop :=
  ∀ (c k : Nat) (sl : Slot) (w : BitVec 32) (s : State),
    let a := sl.ctx.rg (fD w)
    let b := sl.ctx.rg (fA w)
    let goes := fun p : Bool => s.withCtx k sl
      { sl.ctx with pc := if p then sl.ctx.pc + 4 * (w.extractLsb' 0 16).signExtend 64 else sl.ctx.pc + 4 }
    let target := sl.ctx.rg (fA w) + (w.extractLsb' 0 16).signExtend 64
    (s.Issues c k sl w 0x23 0 → exec (.beq c w) s = .next (goes (decide (a = b)))) ∧
    (s.Issues c k sl w 0x24 0 → exec (.bne c w) s = .next (goes (decide (a ≠ b)))) ∧
    (s.Issues c k sl w 0x25 0 → exec (.blt c w) s = .next (goes (decide (a.toInt < b.toInt)))) ∧
    (s.Issues c k sl w 0x26 0 → exec (.bge c w) s = .next (goes (decide (b.toInt ≤ a.toInt)))) ∧
    (s.Issues c k sl w 0x27 0 → exec (.bltu c w) s = .next (goes (decide (a.toNat < b.toNat)))) ∧
    (s.Issues c k sl w 0x28 0 → exec (.bgeu c w) s = .next (goes (decide (b.toNat ≤ a.toNat)))) ∧
    (s.Issues c k sl w 0x29 0 → exec (.jal c w) s = .next (s.withCtx k sl
      { sl.ctx.setG 31 (sl.ctx.pc + 4) with pc := sl.ctx.pc + 4 * (w.extractLsb' 0 26).signExtend 64 })) ∧
    (s.Issues c k sl w 0x2A 0 → target.toNat % 4 = 0 → exec (.jalr c w) s = .next (s.withCtx k sl
      { sl.ctx.setG (fD w) (sl.ctx.pc + 4) with pc := target })) ∧
    (s.Issues c k sl w 0x2A 0 → target.toNat % 4 ≠ 0 →
      exec (.jalr c w) s = .next (s.raiseExc c k { cause := 2, addr := target.toNat, insn := w }))

/-- Tables 6-10 and 6-11: an exception outside a double fault, with a handler and room on the stack, writes its
64-byte frame below g30 and nowhere else, moves g30 there, counts the depth and goes to TXC_EVEC; every other register
stands. R238: without a handler or room the frame goes to the emergency frame of the core, and the core goes to TXC_DFVEC.
R242: a core in a double fault, or without TXC_DFVEC, stops, and its command ends with 0x0F02. R214, R217, R241, R251,
Table 6-12: ILL, a word whose function code no table lists, and TRAP raise their exception; ERET takes the registers of
the frame at g30; CSRR reads a core register, a free value for a number that the table does not list, and CSRW writes
TXC_EVEC alone, with 0 or an address of the code. -/
def Obligations.Exceptions : Prop :=
  (∀ (c k : Nat) (sl : Slot) (e : Exc) (s : State), s.MemWf → s.slot? k = some sl → e.cause ≠ 5 →
     let x := sl.ctx
     let entered := fun (t : State) (at_ : Nat) (df : Bool) (x' : Ctx) => ∃ sl', s.raiseExc c k e = t ∧
       t.slot? k = some sl' ∧ sl' = { sl with ctx := x' } ∧
       memBytes t.mem.mem at_ 64 = frameBytes x sl.programWorld df e ∧
       (∀ a, (a < at_ ∨ at_ + 64 ≤ a) → memByte t.mem.mem a = memByte s.mem.mem a) ∧
       t = { s with host := t.host, mem := t.mem }
     (x.dfActive = false → x.evec ≠ 0 → x.stackOk = true → 0x1000000 ≤ x.stackLo.toNat → ∃ t,
       entered t (larderAddr (sl.skulk.getD 0) ((x.rg 30).toNat - 64 - 0x1000000)) false
         { x.setG 30 (x.rg 30 - 64) with excDepth := min 15 (x.excDepth + 1), pc := x.evec.zeroExtend 64 }) ∧
     (x.dfActive = false → (x.evec = 0 ∨ x.stackOk = false) → x.dfvec ≠ 0 →
       let base : Nat := (if sl.programWorld then 0x1010000 else 0x1060000) + c % 4 * 0x100
       ∃ t, entered t (larderAddr (sl.skulk.getD 0) (base + 192 - 0x1000000)) true
         { x.setG 30 (BitVec.ofNat 64 (base + 192)) with
             stackLo := BitVec.ofNat 32 base, stackHi := BitVec.ofNat 32 (base + 256), dfActive := true,
             pc := x.dfvec.zeroExtend 64 }) ∧
     ((x.dfActive = true ∨ ((x.evec = 0 ∨ x.stackOk = false) ∧ x.dfvec = 0)) → (s.core c).slot = some k →
       sl.phase ≠ .ended → sl.legacy = none → sl.storeRefused = false → ∃ t sl', s.raiseExc c k e = t ∧
       (t.core c).stopped = true ∧ t.slot? k = some sl' ∧ sl'.phase = .ended ∧ sl'.status = 0x0F02 ∧
       ∃ ev ∈ t.owl.intake, ev.code = 0x70)) ∧
  (∀ (c k : Nat) (sl : Slot) (w : BitVec 32) (s : State),
     let a := sl.ctx.rg (fA w)
     let illegal := s.raiseExc c k { cause := 1, insn := w }
     (s.Issues c k sl w 0x00 0 → exec (.ill c w) s = .next illegal) ∧
     (s.Issues c k sl w (Insn.op w) 0 → fnListed (Insn.op w) (fD w) = false →
       exec (.unlistedFunctionCode c w) s = .next illegal) ∧
     (s.Issues c k sl w 0x2F 0x3FF0000 → exec (.trap c w) s = .next
       (s.raiseExc c k { cause := 6, trap := (w.extractLsb' 0 16).signExtend 32, insn := w })) ∧
     (s.Issues c k sl w 0x30 0x3FFFFFF → sl.ctx.hasFrame = true →
       let b := memBytes s.mem.mem (larderAddr (sl.skulk.getD 0) ((sl.ctx.rg 30).toNat - 0x1000000)) 64
       exec (.eret c w) s = .next (s.withCtx k sl
         { (sl.ctx.setG 31 (BitVec.ofNat 64 (leField b 0x28 8))).setG 30 (BitVec.ofNat 64 (leField b 0x20 8)) with
             pc := BitVec.ofNat 64 (leField b 0 8), excDepth := leField b 0x30 8 % 16,
             dfActive := bit (leField b 0x30 8) 4 })) ∧
     (s.Issues c k sl w 0x30 0x3FFFFFF → sl.ctx.hasFrame = false → exec (.eret c w) s = .next illegal) ∧
     (s.Issues c k sl w 0x2C 0x1FF000 →
       (∀ v, s.csr? c sl (w.toNat % 4096) = some v → exec (.csrr c w) s = .next (s.wroteG k sl (fD w) v)) ∧
       (7 ≤ w.toNat % 4096 → ∃ v, exec (.csrr c w) s = .next
         ({ s with freeNext := s.freeNext + 1 }.wroteG k sl (fD w) v))) ∧
     (s.Issues c k sl w 0x2D 0x3E0F000 →
       (w.toNat % 4096 = 2 → (a = 0 ∨ (a.toNat % 4 = 0 ∧ a.toNat < (s.code sl).length)) →
         exec (.csrw c w) s = .next (s.withCtx k sl { sl.ctx with evec := a.setWidth 32, pc := sl.ctx.pc + 4 })) ∧
       (w.toNat % 4096 ≠ 2 ∨ (a ≠ 0 ∧ (a.toNat % 4 ≠ 0 ∨ (s.code sl).length ≤ a.toNat)) →
         exec (.csrw c w) s = .next illegal)))

/-- R173, R222, R223, R248 to R250, R254, R368, R369: FENCE goes on. DONE ends the program with its status, and with 0x0000
and a result that fits with the bytes of the output window, storing or discarding the stream of its part; a status that
R249 does not accept raises DONE_STATUS. YIELD parks a command none of whose jobs has ended, and goes on otherwise; the
command resumes on a free core of its skulk. CTPAD holds the core until TXC_CYCLE reaches its target. -/
def Obligations.ProgramEndAndParking : Prop :=
  ∀ (c k : Nat) (sl : Slot) (w : BitVec 32) (s : State),
    let a := sl.ctx.rg (fA w)
    let st : Status := a.setWidth 16
    let len := (sl.ctx.rg (fB w)).toNat
    let result := memBytes s.mem.mem (stagingAddr k 0x10000) len
    let goesOn := s.withCtx k sl { sl.ctx with pc := sl.ctx.pc + 4 }
    (s.Issues c k sl w 0x2E 0x3FFFFFF → exec (.fence c w) s = .next goesOn) ∧
    (s.Issues c k sl w 0x31 0x3E007FF →
      (st = 0 → resultFits sl.entry.outLength len = false → exec (.done c w) s = .next (s.endLen k 0 len [] [])) ∧
      (st = 0 → resultFits sl.entry.outLength len = true →
        (sl.entry.streamPart = 0 → exec (.done c w) s = .next (s.endLen k 0 len result [])) ∧
        (sl.entry.streamPart = 3 → exec (.done c w) s = .next (State.endLen k 0 len result []
          { s with host.streams := s.host.streams.filter fun x => !(x.fn == sl.fn && x.streamId == sl.entry.streamId) })) ∧
        (sl.entry.streamPart ≠ 0 → sl.entry.streamPart ≠ 3 → ∃ u : State,
          exec (.done c w) s = .next (u.endLen k 0 len result []) ∧ (s.streamKept sl = false → u = s) ∧
          (s.streamKept sl = true → ∃ x ∈ u.host.streams, x.fn = sl.fn ∧ x.streamId = sl.entry.streamId ∧
            x.alg = sl.entry.p 0 ∧ x.handle = sl.entry.handle 0 ∧ x.pipe = sl.ctx.rpipe (pipeOf (sl.entry.p 0))))) ∧
      (st ≠ 0 → doneStatus st.toNat = true →
        (st.toNat / 256 ≠ 2 → exec (.done c w) s = .next (s.endLen k st 0 [] [])) ∧
        (∀ i, st.toNat / 256 = 2 → sl.ctx.keyFault = some (st, i) → i < 4 →
          exec (.done c w) s = .next (s.endLen k st 0 [] [BitVec.ofNat 8 i])) ∧
        (st.toNat / 256 = 2 → (∀ i, sl.ctx.keyFault ≠ some (st, i)) →
          exec (.done c w) s = .next (s.endLen k st 0 [] [0xFF]))) ∧
      (doneStatus st.toNat = false → exec (.done c w) s = .next (s.raiseExc c k { cause := 7, insn := w }))) ∧
    (s.Issues c k sl w 0x32 0x3FFFFFF →
      (sl.jobs ≠ [] → (∀ e ∈ sl.jobs, e.2.state.terminal = false) → sl.core = some c →
        ∃ t, exec (.yield c w) s = .next t ∧ t.slot? k = some { sl with
            phase := .parked, core := none, miss := none, ctx := { sl.ctx with pc := sl.ctx.pc + 4 } } ∧
          (t.core c).slot = none ∧ t = { s with host := t.host, compute := t.compute }) ∧
      (sl.jobs = [] ∨ (∃ e ∈ sl.jobs, e.2.state.terminal = true) → exec (.yield c w) s = .next goesOn)) ∧
    (s.slot? k = some sl → sl.miss = none →
      (sl.phase = .resume → sl.skulk = some (c / 4) → s.awake (domSkulk (c / 4)) = true → (s.core c).stopped = false →
        (s.core c).slot = none →
        exec (.yieldResume k c) s = .next ((s.setCore c { s.core c with slot := some k }).setSlot k
          { sl with phase := .running, core := some c })) ∧
      (sl.phase ≠ .resume ∨ (s.core c).stopped = true ∨ (s.core c).slot ≠ none →
        exec (.yieldResume k c) s = .next s)) ∧
    (s.Issues c k sl w 0x33 0x3E0FFFF →
      (s.cycles sl.ctx < a.toNat →
        exec (.ctpad c w) s = .next (s.withCtx k sl { sl.ctx with padUntil := some a })) ∧
      (a.toNat ≤ s.cycles sl.ctx → exec (.ctpad c w) s = .next goesOn)) ∧
    (∀ t, (s.core c).slot = some k → s.slot? k = some sl → sl.ctx.padUntil = some t →
      (t.toNat ≤ s.cycles sl.ctx → exec (.ctpadRelease c) s = .next
        (s.withCtx k sl { sl.ctx with padUntil := none, pc := sl.ctx.pc + 4 })) ∧
      (s.cycles sl.ctx < t.toNat → exec (.ctpadRelease c) s = .next s))

/-- R214, R216, R218, R229 to R232: HLD and HMOV, and the functions of CBLK: what each writes, whether the block
register is then sensitive, and when a sensitive one raises SENSITIVE. -/
def Obligations.HandleAndBlockRegisters : Prop :=
  ∀ (c k : Nat) (sl : Slot) (w : BitVec 32) (s : State),
    let x := sl.ctx
    let put := fun v : BlockReg => s.withCtx k sl { x.setCb (fX w) v with pc := x.pc + 4 }
    let cx := x.rcb (fX w)
    let cy := x.rcb (fY w)
    let cz := x.rcb (fZ w)
    let a := x.rg (fA w)
    (s.Issues c k sl w 0x34 0x3E0FFF1 → exec (.hld c w) s = .next (s.withCtx k sl
      { x.setK (fK w) (a.setWidth 32) with pc := x.pc + 4 })) ∧
    (s.Issues c k sl w 0x35 0x3E0FFF1 → exec (.hmov c w) s = .next (s.wroteG k sl (fA w) ((x.rk (fK w)).zeroExtend 64))) ∧
    (s.Issues c k sl w 0x36 0x1F00FF → fD w = 0 → exec (.cblkMov c w) s = .next (put cy)) ∧
    (s.Issues c k sl w 0x36 0x1F000F → fD w = 1 → exec (.cblkXor c w) s = .next
      (put ⟨cy.val ^^^ cz.val, cy.sensitive || cz.sensitive⟩)) ∧
    (s.Issues c k sl w 0x36 0x1F000F → fD w = 2 → exec (.cblkAnd c w) s = .next
      (put ⟨cy.val &&& cz.val, cy.sensitive || cz.sensitive⟩)) ∧
    (s.Issues c k sl w 0x36 0x1F0FFF → fD w = 3 → exec (.cblkZero c w) s = .next (put ⟨0, false⟩)) ∧
    (∀ b t, s.Issues c k sl w 0x36 0x0FFF → fD w = 4 → a.toNat % 16 = 0 → s.coreRead c k sl a.toNat 16 = .done (b, t) →
      exec (.cblkLoad c w) s = .next
        (t.modCtx k fun x => (x.setCb (fX w) ⟨BitVec.ofNat 128 (leNat b), false⟩).step)) ∧
    (a.toNat % 16 ≠ 0 →
      (s.Issues c k sl w 0x36 0x0FFF → fD w = 4 →
        exec (.cblkLoad c w) s = .next (s.raiseExc c k { cause := 2, addr := a.toNat, insn := w })) ∧
      (s.Issues c k sl w 0x36 0xF0FF → fD w = 5 →
        exec (.cblkStore c w) s = .next (s.raiseExc c k { cause := 2, addr := a.toNat, insn := w }))) ∧
    (∀ t, s.Issues c k sl w 0x36 0xF0FF → fD w = 5 → a.toNat % 16 = 0 →
      (cy.sensitive = false ∨ secureAddr a.toNat = true) →
      s.coreWrite c k sl a.toNat (natLe 16 cy.val.toNat) = .done t →
      exec (.cblkStore c w) s = .next (t.modCtx k Ctx.step)) ∧
    (s.Issues c k sl w 0x36 0xF0FF → fD w = 5 → a.toNat % 16 = 0 → cy.sensitive = true → secureAddr a.toNat = false →
      exec (.cblkStore c w) s = .next (s.raiseExc c k { cause := 4, insn := w })) ∧
    (s.Issues c k sl w 0x36 0xF0FF → fD w = 6 → (cy.sensitive = false ∨ sl.programWorld = true) →
      exec (.cblkGetl c w) s = .next (s.wroteG k sl (fA w) (cy.val.setWidth 64))) ∧
    (s.Issues c k sl w 0x36 0xF0FF → fD w = 7 → (cy.sensitive = false ∨ sl.programWorld = true) →
      exec (.cblkGeth c w) s = .next (s.wroteG k sl (fA w) ((cy.val >>> 64).setWidth 64))) ∧
    (s.Issues c k sl w 0x36 0xF0FF → fD w = 6 → cy.sensitive = true → sl.programWorld = false →
      exec (.cblkGetl c w) s = .next (s.raiseExc c k { cause := 4, insn := w })) ∧
    (s.Issues c k sl w 0x36 0xF0FF → fD w = 7 → cy.sensitive = true → sl.programWorld = false →
      exec (.cblkGeth c w) s = .next (s.raiseExc c k { cause := 4, insn := w })) ∧
    (s.Issues c k sl w 0x36 0x0FFF → fD w = 8 → exec (.cblkPutl c w) s = .next
      (put ⟨(cx.val.extractLsb' 64 64 ++ a : BitVec 128), false⟩)) ∧
    (s.Issues c k sl w 0x36 0x0FFF → fD w = 9 → exec (.cblkPuth c w) s = .next
      (put ⟨(a ++ cx.val.extractLsb' 0 64 : BitVec 128), false⟩)) ∧
    (∀ t, s.Issues c k sl w 0x36 0x1F0FFF → fD w = 10 →
      (∀ b sl', s.draw k 16 = (.served b, t) → t.slot? k = some sl' →
        exec (.cblkRand c w) s = .next (t.withCtx k sl'
          { sl'.ctx.setCb (fX w) ⟨BitVec.ofNat 128 (leNat b), false⟩ with pc := sl'.ctx.pc + 4 })) ∧
      (s.draw k 16 = (.refused, t) → exec (.cblkRand c w) s = .next (t.failCmd k 0x0405)) ∧
      (s.draw k 16 = (.waits, t) → exec (.cblkRand c w) s = .next t)) ∧
    (s.Issues c k sl w 0x36 0xF00F → fD w = 11 → exec (.cblkEq c w) s = .next
      (s.wroteG k sl (fA w) (if cy.val = cz.val then 1 else 0))) ∧
    (s.Issues c k sl w 0x36 0x1F0FFF → fD w = 12 → sl.programWorld = true →
      exec (.cblkMark c w) s = .next (put ⟨cx.val, true⟩)) ∧
    (s.Issues c k sl w 0x36 0x1F0FFF → fD w = 12 → sl.programWorld = false →
      exec (.cblkMark c w) s = .next (s.raiseExc c k { cause := 1, insn := w }))

/-- R227 to R229, R700: CIPH under a key register whose key permits it commits the use and writes the block, sensitive
only when it is deciphered under a key that marks its output so; an empty key register, or a key that does not permit it,
raises KEY 0x0204. PIPE INIT of a hash starts a pipe; of a keyed algorithm it also commits the use of a key whose TYPE and
usage permit it, and raises KEY 0x0204 otherwise; an ALG that is not listed raises ILLEGAL. ABSORB appends bytes, FINAL
gives the output and empties the pipe, and of an empty pipe a free value; RESET empties it. -/
def Obligations.CiphersAndPipes : Prop :=
  ∀ (c k : Nat) (sl : Slot) (w : BitVec 32) (s : State),
    let x := sl.ctx
    let a := x.rg (fA w)
    let alg := a.toNat % 256
    let denied := fun i : Nat => s.raiseExc c k { cause := 5, status := 0x0204, kindex := i, insn := w }
    let ciph := fun (i : Instr) (fn : Nat) (decrypt : Bool) => s.Issues c k sl w 0x37 0x1F00F1 → fD w = fn →
      (∀ kr sl', x.rck (fK w) = some kr → cipherPermitted decrypt kr.record = true →
        (s.commitUse kr).slot? k = some sl' → exec i s = .next ((s.commitUse kr).withCtx k sl'
          { (sl'.ctx.setCk (fK w) (some { kr with committed := true })).setCb (fX w)
              ⟨cipherBlock decrypt kr.record (sl'.ctx.rcb (fY w)).val, decrypt && kr.record.sensitiveOut⟩ with
                pc := sl'.ctx.pc + 4 })) ∧
      (∀ kr, x.rck (fK w) = some kr → cipherPermitted decrypt kr.record = false →
        exec i s = .next (denied kr.handleReg)) ∧
      (x.rck (fK w) = none → exec i s = .next (denied (fK w)))
    ciph (.ciphEncrypt c w) 0 false ∧ ciph (.ciphDecrypt c w) 1 true ∧
    (s.Issues c k sl w 0x38 0xFFF1 → fD w = 0 →
      (algHash alg = true → exec (.pipeInit c w) s = .next (s.withCtx k sl
        { x.setPipe (pipeOf alg) (some { alg := alg }) with pc := x.pc + 4 })) ∧
      (algHash alg = false → algKeyed alg = false →
        exec (.pipeInit c w) s = .next (s.raiseExc c k { cause := 1, insn := w })) ∧
      (algKeyed alg = true → x.rck (fK w) = none → exec (.pipeInit c w) s = .next (denied (fK w))) ∧
      (∀ kr, algKeyed alg = true → x.rck (fK w) = some kr →
        (algType alg kr.record.type = false ∨ kr.record.permits useMacGen = false →
          exec (.pipeInit c w) s = .next (denied kr.handleReg)) ∧
        (algType alg kr.record.type = true → kr.record.permits useMacGen = true →
          ∀ sl', (s.commitUse kr).slot? k = some sl' → exec (.pipeInit c w) s = .next ((s.commitUse kr).withCtx k sl'
            { (sl'.ctx.setCk (fK w) (some { kr with committed := true })).setPipe (pipeOf alg)
                (some { alg := alg, key := some kr.record }) with pc := sl'.ctx.pc + 4 })))) ∧
    (∀ b t, s.Issues c k sl w 0x38 0xFFCF → fD w = 1 →
      s.coreReadRange c k sl (a.setWidth 32).toNat (absorbCount a) = (0, .done (b, t)) →
      exec (.pipeAbsorb c w) s = .next (t.modCtx k fun x =>
        (x.setPipe (fZ w) ((x.rpipe (fZ w)).map fun p => { p with absorbed := p.absorbed ++ b })).step)) ∧
    (s.Issues c k sl w 0x38 0x1F0FCF → fD w = 2 →
      (∀ p, x.rpipe (fZ w) = some p → exec (.pipeFinal c w) s = .next (s.withCtx k sl
        { (x.putBlocks (fX w) p.out).setPipe (fZ w) none with pc := x.pc + 4 })) ∧
      (x.rpipe (fZ w) = none → ∃ v, exec (.pipeFinal c w) s = .next ({ s with freeNext := s.freeNext + 1 }.withCtx k sl
        { x.setCb (fX w) ⟨v, false⟩ with pc := x.pc + 4 }))) ∧
    (s.Issues c k sl w 0x38 0x1FFFCF → fD w = 3 →
      exec (.pipeReset c w) s = .next (s.withCtx k sl { x.setPipe (fZ w) none with pc := x.pc + 4 }))

/-- R224 to R227, R274, R298, R310, R349, R353 to R370, R576: KRES reserves a use and loads the key register, parks its
command where the hot cache misses, and raises KEY where a check fails; HCHK reports what KRES would find; KOP RELEASE
empties a key register, INSTALL makes a resident key and DELETE empties its slot, both sealed only. ENGQ SUBMIT sends a job,
under a key whose use it reserves where the job takes one, fails it at once with DESCRIPTOR or NO_ENGINE, gives 0 to a
command with four jobs, and parks a command whose queue is full; it issues again when there is room. POLL reads a job's
status word and frees a number whose job has ended, ABORT aborts it; OWLEV raises its event. -/
def Obligations.KeyAndQueueInstructions : Prop :=
  ∀ (c k : Nat) (sl : Slot) (w : BitVec 32) (s : State),
    let x := sl.ctx
    let a := x.rg (fA w)
    let found := s.resolve (s.cmdDomain sl.fn) {} (x.rk (fK w))
    let keyExc := fun st : Status => s.raiseExc c k { cause := 5, status := st, kindex := fK w, insn := w }
    let illegal := s.raiseExc c k { cause := 1, insn := w }
    (s.Issues c k sl w 0x39 0x3FF8FF1 →
      (∀ key r, found = .ok key r → sl.miss = none → x.rck (fX w) = none →
        exec (.kres c w) s = .next (((s.hit k key).reserveUse key).withCtx k sl
          { x.setCk (fX w) (some { key := key, record := r, handleReg := fK w }) with pc := x.pc + 4 })) ∧
      (∀ key, found = .missed key → exec (.kres c w) s = .next (s.parkMiss k key)) ∧
      (∀ st, found = .failed st → exec (.kres c w) s = .next (keyExc st))) ∧
    (s.Issues c k sl w 0x3D 0x3E0FFF1 →
      (∀ key r, found = .ok key r → sl.miss = none →
        exec (.hchk c w) s = .next ((s.hit k key).wroteG k sl (fA w) 0)) ∧
      (∀ key, found = .missed key → exec (.hchk c w) s = .next (s.parkMiss k key)) ∧
      (∀ st, found = .failed st →
        exec (.hchk c w) s = .next (s.wroteG k { sl with miss := none } (fA w) (st.zeroExtend 64)))) ∧
    (∀ kr, s.Issues c k sl w 0x3A 0x1FFFF1 → fD w = 0 → x.rck (fK w) = some kr → ∃ u sl',
      exec (.kopRelease c w) s = .next u ∧ u.slot? k = some sl' ∧
      sl' = { sl with ctx := { x.setCk (fK w) none with pc := x.pc + 4 },
                      owed := if kr.committed || kr.streamKey then sl.owed else sl.owed ++ [kr] } ∧
      u = { s with host := u.host, sett := u.sett } ∧ u.sett.keys = s.sett.keys) ∧
    (s.Issues c k sl w 0x3A 0xF001 → fD w = 1 →
      (sl.programWorld = false → exec (.kopInstall c w) s = .next illegal) ∧
      (sl.programWorld = true → a.toNat % 8 ≠ 0 → exec (.kopInstall c w) s = .next (keyExc 0x0204)) ∧
      (∀ b u, sl.programWorld = true → a.toNat % 8 = 0 → s.coreRead c k sl a.toNat 32 = .done (b, u) →
        let bad := fun (st : Status) (u : State) =>
          exec (.kopInstall c w) s = .next (u.raiseExc c k { cause := 5, status := st, kindex := fK w, insn := w })
        let made := installRecord? (s.cmdDomain sl.fn) b
          (natLe 16 (x.rcb (fY w)).val.toNat ++ natLe 16 (x.rcb (fZ w)).val.toNat)
        (u.antler.debug = true → bad 0x0310 u) ∧
        (u.antler.debug = false → made = none → bad 0x0204 u) ∧
        (∀ r st t, u.antler.debug = false → made = some r → u.createKey r = (.inl st, t) → bad st t) ∧
        (∀ r h t, u.antler.debug = false → made = some r → u.createKey r = (.inr h, t) →
          exec (.kopInstall c w) s = .next (t.modCtx k fun x => (x.setK (fK w) h).step)))) ∧
    (s.Issues c k sl w 0x3A 0x1FFFF1 → fD w = 2 →
      (sl.programWorld = false → exec (.kopDelete c w) s = .next illegal) ∧
      (∀ st, sl.programWorld = true → s.deletable (s.cmdDomain sl.fn) (x.rk (fK w)) = .inl st →
        exec (.kopDelete c w) s = .next (keyExc st)) ∧
      (∀ key, sl.programWorld = true → s.deletable (s.cmdDomain sl.fn) (x.rk (fK w)) = .inr key →
        exec (.kopDelete c w) s = .next ((s.deleteKey key).modCtx k Ctx.step))) ∧
    (fD w = 0 →
      let keyed := fY w % 2 = 1
      let cell := sl.jobCell k a.toNat
      let b := s.jobBytes k sl a.toNat 64
      let j := parseDescriptor (fZ w % 2 == 1) b
      let gives := fun (n : Nat) (t : State) => exec (.engqSubmit c w) s = .next
        (t.modCtx k fun x => (x.setG (fA w) (BitVec.ofNat 64 n)).step)
      s.Issues c k sl w 0x3B (if fY w % 2 = 1 then 0xFEE1 else 0xFEEF) → a.toNat % 64 = 0 →
      jobRange sl.programWorld false a.toNat 64 = true → s.larderWaits cell.1 cell.2 = false →
      s.Sound cell.1 cell.2 64 →
      (sl.freeJob? = none → exec (.engqSubmit c w) s = .next (s.wroteG k sl (fA w) 0)) ∧
      (∀ n, sl.freeJob? = some n →
        (¬ keyed →
          (s.groupFor? sl j.hedgehog = none → gives n (s.failJob k n 5 j)) ∧
          (∀ g, s.groupFor? sl j.hedgehog = some g → j.descriptorOk b sl.programWorld none = false →
            gives n (s.failJob k n 1 j)) ∧
          (∀ g, s.groupFor? sl j.hedgehog = some g → j.descriptorOk b sl.programWorld none = true →
            (128 ≤ (s.queue j.hedgehog g).length →
              exec (.engqSubmit c w) s = .next ((s.setSlot k { sl with retry := some w }).park k .parked)) ∧
            (∀ rnd t, (s.queue j.hedgehog g).length < 128 →
              let d := opRandom j.operation j.length j.param 0
              ((d = 0 ∧ rnd = [] ∧ t = s) ∨ (d ≠ 0 ∧ s.draw k d = (.served rnd, t))) →
              gives n (t.sendJob k n g { j with random := rnd, key := none })))) ∧
        (keyed → (∀ st, found = .failed st → exec (.engqSubmit c w) s = .next (keyExc st)) ∧
          (∀ key, found = .missed key → exec (.engqSubmit c w) s = .next (s.parkMiss k key)) ∧
          (∀ key r, found = .ok key r →
            (opPermits j.operation r = false → exec (.engqSubmit c w) s = .next (keyExc 0x0204)) ∧
            (∀ g rnd t, opPermits j.operation r = true → s.groupFor? sl j.hedgehog = some g →
              j.descriptorOk b sl.programWorld (some r) = true → (s.queue j.hedgehog g).length < 128 →
              let d := opRandom j.operation j.length j.param r.type
              ((d = 0 ∧ rnd = [] ∧ t = s) ∨ (d ≠ 0 ∧ s.draw k d = (.served rnd, t))) →
              gives n (((t.hit k key).reserveUse key).sendJob k n g
                { j with random := rnd, key := some { key := key, record := r, handleReg := fK w } })))))) ∧
    (∀ g, s.slot? k = some sl → sl.retry = some w → sl.phase = .parked → sl.skulk = some (c / 4) → sl.setId.isSome = true →
      x.padUntil = none → s.groupFor? sl (fZ w % 2 == 1) = some g →
      (128 ≤ (s.queue (fZ w % 2 == 1) g).length → exec (.engqSubmitRetry k c) s = .next s) ∧
      (s.awake (domSkulk (c / 4)) = true → s.core c = {} → (s.queue (fZ w % 2 == 1) g).length < 128 →
        let sl' := { sl with phase := .running, retry := none, core := some c }
        exec (.engqSubmitRetry k c) s = .next
          (((s.setCore c { slot := some k }).setSlot k sl').submit c k sl' w))) ∧
    (s.Issues c k sl w 0x3B 0xFFFF →
      (∀ j, fD w = 1 → tget? sl.jobs a.toNat = some j → exec (.engqPoll c w) s = .next (State.wroteG k
        { sl with jobs := if j.state.terminal then terase sl.jobs a.toNat else sl.jobs }
        (fA w) (BitVec.ofNat 64 j.statusWord) s)) ∧
      (fD w = 1 → tget? sl.jobs a.toNat = none → exec (.engqPoll c w) s = .next (s.wroteG k sl (fA w) 7)) ∧
      (fD w = 2 → exec (.engqAbort c w) s = .next ((s.abortJob k a.toNat).modCtx k Ctx.step))) ∧
    (s.Issues c k sl w 0x3C 0x3E0FE00 →
      let code := w.toNat % 512
      let raised := fun (code last : Nat) => (s.raise code
        (natLe 8 a.toNat ++ natLe 2 sl.fn ++ natLe 1 c ++ natLe 1 last)).withCtx k sl { x with pc := x.pc + 4 }
      (sl.programWorld = false → exec (.owlev c w) s = .next illegal) ∧
      (sl.programWorld = true → 0x120 ≤ code → code ≤ 0x13F → exec (.owlev c w) s = .next (raised code 0)) ∧
      (sl.programWorld = true → (code < 0x120 ∨ 0x13F < code) →
        exec (.owlev c w) s = .next (raised 0x12F (if code < 0x100 then code else 0xFF))))

/-! ## Engine jobs and engines -/

/-- R346, R356, R361 to R365, Table 9-2: the engine of the head job of an awake group takes it and computes. The
integer operations give A × B, A to the power B and the inverse A^(C − 2) modulo C, or OPERAND for an A or B that is
not below C; a signature or decryption whose fault check fails leaves no output but FAULT_CHECK (R381); a verification
gives a match, MISMATCH or OPERAND; a generated pair is a new key with the attributes given; ML-KEM decapsulation of a
ciphertext of the right length always succeeds (R383); ML-DSA signing stops at 256 iterations (R384). -/
def Obligations.EngineTakesItsJob : Prop :=
  ∀ (k n e : Nat) (sl : Slot) (j a : Job) (r : KeyRec) (s : State), a = s.loadOperands k sl j →
    r = (j.key.map (·.record)).getD {} → leNat a.operandB < 2 ^ (64 * j.length) → leNat a.operandC < 2 ^ (64 * j.length) →
    (s.JobWaits k n opModmul sl j e → leNat a.operandA < leNat a.operandC → leNat a.operandB < leNat a.operandC →
      Takes (.jobModmul k n) s k n e j
        { out := natLe (8 * j.length) (leNat a.operandA * leNat a.operandB % leNat a.operandC) }) ∧
    (s.JobWaits k n opModmul sl j e → leNat a.operandC ≤ leNat a.operandA ∨ leNat a.operandC ≤ leNat a.operandB →
      Takes (.jobModmul k n) s k n e j { code := codeOperand }) ∧
    (leNat a.operandC ≤ leNat a.operandA →
      (s.JobWaits k n opModexp sl j e → Takes (.jobModexp k n) s k n e j { code := codeOperand }) ∧
      (s.JobWaits k n opModexpPub sl j e → Takes (.jobModexpPub k n) s k n e j { code := codeOperand }) ∧
      (s.JobWaits k n opModinv sl j e → Takes (.jobModinv k n) s k n e j { code := codeOperand })) ∧
    (s.JobWaits k n opModexp sl j e → leNat a.operandA < leNat a.operandC →
      Takes (.jobModexp k n) s k n e j
        { out := natLe (8 * j.length) (leNat a.operandA ^ leNat a.operandB % leNat a.operandC) }) ∧
    (s.JobWaits k n opModexpPub sl j e → leNat a.operandA < leNat a.operandC → leNat a.operandB < 2 ^ (64 * j.param) →
      Takes (.jobModexpPub k n) s k n e j
        { out := natLe (8 * j.length) (leNat a.operandA ^ leNat a.operandB % leNat a.operandC) }) ∧
    (s.JobWaits k n opModinv sl j e → leNat a.operandA < leNat a.operandC →
      Takes (.jobModinv k n) s k n e j
        { out := natLe (8 * j.length) (leNat a.operandA ^ (leNat a.operandC - 2) % leNat a.operandC) }) ∧
    (s.JobWaits k n opRsaSign sl j e →
      Takes (.jobRsaSign k n false) s k n e j
        { out := fit r.modBytes (Config.rsaSign (bits j.param 7 0) (bits j.param 15 8) r.bytes a.operandA j.random) } ∧
      Takes (.jobRsaSign k n true) s k n e j { code := codeFaultCheck }) ∧
    (s.JobWaits k n opRsaDecrypt sl j e →
      Takes (.jobRsaDecrypt k n true) s k n e j { code := codeFaultCheck } ∧
      Takes (.jobRsaDecrypt k n false) s k n e j (match Config.rsaDecrypt (bits j.param 15 8) r.bytes a.operandA with
        | some b => { out := b.take (opOutSize opRsaDecrypt 0 0 j.param r.type r) }
        | none => { code := codeOperand })) ∧
    (s.JobWaits k n opRsaVerify sl j e → Takes (.jobRsaVerify k n) s k n e j
      (verifyOut (Config.rsaVerify (bits j.param 7 0) (bits j.param 15 8) r.bytes a.operandA a.operandB))) ∧
    (s.JobWaits k n opRsaKeygen sl j e →
      let pair := Config.rsaKeygen j.length j.random
      let body := natLe 2 (64 * j.length) ++ fit (Config.rsaBodyBytes true (64 * j.length)) (pair.1 ++ pair.2)
      (∀ d, attrRecord? 0 1 (if j.direct then 0 else leField a.attributes 16 8) a.attributes body = some d →
        d.type = 0x10 → Takes (.jobRsaKeygen k n) s k n e j
          { newKey := some d, publicKey := fit (8 * j.length + 8) pair.2 }) ∧
      (attrRecord? 0 1 (if j.direct then 0 else leField a.attributes 16 8) a.attributes body = none →
        Takes (.jobRsaKeygen k n) s k n e j { code := codeDescriptor })) ∧
    (s.JobWaits k n opEcdsaSign sl j e → Takes (.jobEcdsaSign k n) s k n e j
      { out := fit (2 * orderBytes r.type) (Config.ecdsaSign r.type r.bytes a.operandA j.random) }) ∧
    (s.JobWaits k n opEcdsaVerify sl j e → Takes (.jobEcdsaVerify k n) s k n e j
      (verifyOut (Config.ecdsaCheck r.type r.bytes a.operandA a.operandB))) ∧
    (s.JobWaits k n opEcdh sl j e → Takes (.jobEcdh k n) s k n e j (match Config.ecdh r.type r.bytes a.operandA with
      | some z => { secret := some z }
      | none => { code := codeOperand })) ∧
    (∀ d, s.JobWaits k n opEcKeygen sl j e → attrRecord? 0 1 (if j.direct then 0 else leField a.attributes 16 8) a.attributes
        (fit ((typeLength? j.param).getD 0) (Config.ecKeygen j.param j.random).1) = some d → d.type = j.param →
      Takes (.jobEcKeygen k n) s k n e j
        { newKey := some d, publicKey := fit (publicLen j.param) (Config.ecKeygen j.param j.random).2 }) ∧
    (s.JobWaits k n opEddsaSign sl j e → Takes (.jobEddsaSign k n) s k n e j
      { out := fit (eddsaLen r.type) (Config.eddsaSign r.type r.bytes a.operandA) }) ∧
    (s.JobWaits k n opEddsaVerify sl j e → Takes (.jobEddsaVerify k n) s k n e j
      (verifyOut (Config.eddsaCheck r.type r.bytes a.operandA a.operandB))) ∧
    (∀ d, s.JobWaits k n opMlkemKeygen sl j e → attrRecord? 0 1 (if j.direct then 0 else leField a.attributes 16 8)
        a.attributes (fit 64 (Config.mlkemKeygen j.param j.random).1) = some d → d.type = j.param →
      Takes (.jobMlkemKeygen k n) s k n e j
        { newKey := some d, publicKey := fit (publicLen j.param) (Config.mlkemKeygen j.param j.random).2 }) ∧
    (s.JobWaits k n opMlkemEncaps sl j e →
      Takes (.jobMlkemEncaps k n) s k n e j (match Config.mlkemEncaps r.type r.bytes j.random with
        | some (c, z) => { out := fit (mlkemLen r.type) c, secret := some z }
        | none => { code := codeOperand })) ∧
    (s.JobWaits k n opMlkemDecaps sl j e → a.operandA.length = mlkemLen r.type →
      Takes (.jobMlkemDecaps k n) s k n e j { secret := some (Config.mlkemDecaps r.type r.bytes a.operandA) }) ∧
    (s.JobWaits k n opMlkemDecaps sl j e → a.operandA.length ≠ mlkemLen r.type →
      Takes (.jobMlkemDecaps k n) s k n e j { code := codeOperand }) ∧
    (∀ d, s.JobWaits k n opMldsaKeygen sl j e → attrRecord? 0 1 (if j.direct then 0 else leField a.attributes 16 8)
        a.attributes (fit 32 (Config.mldsaKeygen j.param j.random).1) = some d → d.type = j.param →
      Takes (.jobMldsaKeygen k n) s k n e j
        { newKey := some d, publicKey := fit (publicLen j.param) (Config.mldsaKeygen j.param j.random).2 }) ∧
    (s.JobWaits k n opMldsaSign sl j e →
      let i := Config.mldsaIterations r.type r.bytes a.operandA j.random
      Takes (.jobMldsaSign k n) s k n e j (if 256 < i then { code := codeBound, iterations := 256 } else
        { out := fit (mldsaLen r.type) (Config.mldsaSign r.type r.bytes a.operandA j.random),
          iterations := max 1 i })) ∧
    (s.JobWaits k n opMldsaVerify sl j e → Takes (.jobMldsaVerify k n) s k n e j
      (verifyOut (Config.mldsaCheck r.type r.bytes a.operandA a.operandB)))

/-- R350, R361, R364 to R367, R371, R376 to R379: what an engine does beside taking a job. It ends its job with the
code and the output delivered, in the larder or to the native command, and counts it; an engine that faults ends its
job with FAULT and takes no other; one that has cleared its operand memory after an abort is free; a swap takes effect
at once on an idle engine and otherwise at its idle boundary; a write of the active store is accepted while the engine
is idle and otherwise marked and answered with a bus error; a write of the shadow store is always accepted. -/
def Obligations.EngineEvents : Prop :=
  ∀ (h : Bool) (e : Nat) (x : Engine) (s : State), engineExists h e = true → s.engine h e = x →
    (∀ k n j c b t sl, x.running = some (k, n) → s.job? k n = some j → j.computed = true → s.outputWaits k j = false →
      s.deliver k j = (c, b, t) → t.slot? k = some sl → c ≠ codeFaultCheck →
      ∃ u i, exec (.engineJobDone h e) s = .next u ∧ u.job? k n = some i ∧
        i.state = (if codeDone c then .done else .failed) ∧ i.code = c ∧ i.output = (if j.direct then b else []) ∧
        (u.engine h e).running = none ∧ (u.engine h e).jobs = min 0xFFFFFFFF (x.jobs + 1) ∧
        u.mem.mem = (if j.direct then t.mem.mem else
          let cell := sl.jobCell k j.outAddr
          memPutBytes t.mem.mem (gateAddr cell.1 cell.2) (b.take j.outLength))) ∧
    (x.running = none → x.clearing = none →
      exec (.engineJobDone h e) s = .next s ∧ exec (.engineAbortCleared h e) s = .next s) ∧
    (∀ kind, x.faulted = true → exec (.engineFault h e kind) s = .next s) ∧
    (∀ kind, x.faulted = false → kind = 0 ∨ (kind = 1 ∧ h = false) →
      ∃ u, exec (.engineFault h e kind) s = .next u ∧ (u.engine h e).faulted = true ∧ (u.engine h e).running = none ∧
        (u.engine h e).faultBits = x.faultBits ||| BitVec.ofNat 32 (2 ^ kind) ∧
        ∀ k n j, x.running = some (k, n) → s.job? k n = some j →
          (∃ e' ∈ groupEngines h (e / perGroup h), e' ≠ e ∧ (s.engine h e').faulted = false) →
          ∃ i, u.job? k n = some i ∧ i.state = .failed ∧ i.code = codeFault) ∧
    (x.clearing.isSome = true →
      ∃ u, exec (.engineAbortCleared h e) s = .next u ∧
        u.engine h e = { x with clearing := none, memory := [], owner := none } ∧ u.host = s.host ∧ u.mem = s.mem) ∧
    (h = false →
      exec (.bearSwapRequest e) s = .next (if x.idle
        then s.setEngine false e { x with activeStore := 1 - x.activeStore, swap := false }
        else s.setEngine false e { x with swap := true }) ∧
      (x.swap = true → x.idle = true → exec (.bearStoreExchange e) s = .next
        (s.setEngine false e { x with activeStore := 1 - x.activeStore, swap := false })) ∧
      ∀ (addr : Nat) (v : Word), addr < 2048 → x.activeStore ≤ 1 →
        (x.faulted = false → x.idle = true → ∃ u, exec (.bearActiveWrite e addr v) s = .next u ∧
          (∀ st i, st ≤ 1 → (u.engine false e).word st i = if st = x.activeStore ∧ i = addr then v else x.word st i) ∧
          u.host = s.host ∧ u.mem = s.mem ∧ u.outputs = s.outputs) ∧
        (x.faulted = false → x.idle = false → ∃ u, exec (.bearActiveWrite e addr v) s = .next u ∧
          u.engine false e = { x with faultBits := x.faultBits ||| 8 } ∧ (∃ ev ∈ u.owl.intake, ev.code = 0x72) ∧
          u.outputs = s.outputs ++ [.fabric 0 7 (e * 0x10000 + 0x4000 + 8 * addr) true []] ∧
          u.host = s.host ∧ u.mem = s.mem) ∧
        (x.faulted = true → exec (.bearActiveWrite e addr v) s = .next s) ∧
        (∃ u, exec (.bearShadowWrite e addr v) s = .next u ∧
          (∀ st i, st ≤ 1 → (u.engine false e).word st i = if st = 1 - x.activeStore ∧ i = addr then v else x.word st i) ∧
          u.host = s.host ∧ u.mem = s.mem ∧ u.outputs = s.outputs))

/-! ## Sett and Squirrel -/

/-- R155, R285, R287 to R292, R466, R471: a key record that arrives enters its set, and the commands that wait for it leave
the miss pen; while the set is wholly pinned they wait on. A record that fails authentication, its body or a tree node on
its path, by itself or for an uncorrectable error, fails the keys that it covers and is counted. A command whose set has
stayed wholly pinned for 1 ms ends with 0x0530, and not before. A count that is due is written by a page commit, once one
can begin. -/
def Obligations.KeyRecordsArrive : Prop :=
  (∀ (key fault : Nat) (s : State), s.waitingFor key = [] → exec (.keyRecordArrival key fault) s = .next s) ∧
  (∀ (key : Nat) (s : State), s.waitingFor key ≠ [] →
    (∀ t, s.hotInsert? key = some t → ∃ u, exec (.keyRecordArrival key 0) s = .next u ∧ u.hotHit key = true ∧
      u.mem = s.mem ∧ u.sett = t.sett ∧ u = { s with host := u.host, sett := u.sett } ∧
      ∀ k ∈ s.waitingFor key, ∃ sl, u.slot? k = some sl ∧ sl.phase = if sl.skulk.isSome then .resume else .ready) ∧
    (s.hotInsert? key = none → ∃ u, exec (.keyRecordArrival key 0) s = .next u ∧ u = { s with host := u.host } ∧
      ∀ k sl m, s.slot? k = some sl → sl.phase = .missPen → sl.miss = some m → m.key = key →
        u.slot? k = some { sl with miss := some { m with arrived := true } })) ∧
  (∀ (key fault : Nat) (r : KeyRec) (s : State), s.waitingFor key ≠ [] → (s.keySlot key).record = some r → fault % 16 ≠ 0 →
    ∃ u, exec (.keyRecordArrival key fault) s = .next u ∧
      (fault % 16 ≤ 2 → ∃ r', (u.keySlot key).record = some r' ∧ r'.state = .failed) ∧
      (∀ j rj, 2 < fault % 16 → isPersistent j = false → j / 8 ^ (fault % 16 - 2) = key / 8 ^ (fault % 16 - 2) →
        (s.keySlot j).record = some rj → ∃ r', (u.keySlot j).record = some r' ∧ r'.state = .failed) ∧
      u.sett.integrityFailures = min useMax (s.sett.integrityFailures + 1) ∧
      ∃ e ∈ u.owl.intake, e.code = 0x40) ∧
  (∀ (k : Nat) (sl : Slot) (m : MissWait) (s : State), s.slot? k = some sl → sl.miss = some m →
    (sl.phase = .missPen → m.arrived = true → m.since + unitsPerMilli ≤ s.now → s.hotInsert? m.key = none →
      s.stayedPinned m = true → exec (.missPenTimeout k) s = .next (s.failCmd k 0x0530)) ∧
    (s.now < m.since + unitsPerMilli ∨ m.arrived = false ∨ s.hotInsert? m.key ≠ none ∨ s.stayedPinned m = false →
      exec (.missPenTimeout k) s = .next s)) ∧
  (∀ (key d : Nat) (s : State), tget? s.sett.countDue key = some d →
    (s.storeAccepts .sett = true → s.storeFree = false → exec (.persistentCountWrite key) s = .next s) ∧
    (s.storeAccepts .sett = false ∨ s.storeFree = true →
      ∃ u, exec (.persistentCountWrite key) s = .next u ∧ u.mem = (s.commitMaster key).mem ∧
        tget? u.sett.countDue key = none ∧ u.sett.keys = s.sett.keys ∧ u.host = s.host))

/-- R388 to R403, Tables 10-1, 10-2, 10-6: noise blocks, instances and waiting draws. A source is healthy after four
passing blocks and failed by a failing block in start-up, or by a block that makes 16 failures in its last 65,536. A passing
block of a healthy source is at hand for one instantiation or reseed. A running instance with fewer than 65,536 requests adds
256 units; one that must reseed takes an entropy input first, waits for it while a source is healthy, and stops where none
is. RESEED_ALL marks every running instance. The draw at the head takes its units whole; once every instance has stopped,
one that the queue cannot serve is refused. -/
def Obligations.RandomNumbersAreMade : Prop :=
  (∀ (i : Nat) (b : Bytes) (n : NoiseSource) (s : State), i < 2 → b.length = 512 → s.source i = n →
    let passes := (runs n.lastSample n.run false b).2.2 = false ∧ proportion b < 177
    let stands := s.rng.started = false ∨ ∀ j, j < 16 → (s.rng.instance? j).state ≠ .uninstantiated
    (passes → ∃ u m, exec (.noiseBlockTested i b) s = .next u ∧ u.source i = m ∧ m.blocks = n.blocks + 1 ∧
      m.fails = n.fails ∧ m.failures = n.failures ∧
      m.state = (if n.state = .startup ∧ 4 ≤ n.blocks + 1 then .healthy else n.state) ∧
      (stands → u.source (1 - i) = s.source (1 - i) ∧
        m.fresh = if n.state = .healthy then (b :: n.fresh).take 16 else n.fresh) ∧
      (∀ j ent, s.rng.started = true → j < 16 → (s.rng.instance? j).state = .uninstantiated →
        (∀ x, x < j → (s.rng.instance? x).state ≠ .uninstantiated) →
        (s.setSource i (n.test b)).rng.entropy? = some ent → u.rng.instance? j = Drbg.instantiate j ent)) ∧
    (¬ passes → ∃ u m, exec (.noiseBlockTested i b) s = .next u ∧ u.source i = m ∧ m.blocks = n.blocks + 1 ∧
      m.fails = (SatCount.add count31 1 n.fails).1 ∧ m.failures = ((n.blocks + 1) :: n.failures).take 16 ∧
      (stands → u.source (1 - i) = s.source (1 - i)) ∧
      m.state = (if n.state = .startup ∨ 16 ≤ m.windowFails then .failed else n.state) ∧
      (n.state ≠ .failed → m.state = .failed → ∃ e ∈ u.owl.intake, e.code = 0x80))) ∧
  (∀ (i : Nat) (s : State), s.rng.units + 256 ≤ 4096 → s.rng.nextRunning? = some i →
    let d := s.rng.instance? i
    (d.requests < 65536 → d.reseedDue = false →
      ∃ u, exec .drbgGenerate s = .next u ∧ u.rng.units = s.rng.units + 256 ∧ u.rng.nextInstance = (i + 1) % 16 ∧
        u.rng.instance? i = d.generated ∧ u = { s with rng := u.rng } ∧ u.rng.reseeds = s.rng.reseeds ∧
        u.rng.head = s.rng.head ∧ u.rng.waiting = s.rng.waiting) ∧
    ((65536 ≤ d.requests ∨ d.reseedDue = true) →
      (∀ ent, s.rng.healthy ≠ 0 → s.rng.entropy? = some ent →
        ∃ u, exec .drbgGenerate s = .next u ∧ u.rng.units = s.rng.units + 256 ∧
          u.rng.instance? i = (d.reseed ent).generated ∧ u.rng.reseeds = (SatCount.add count31 1 s.rng.reseeds).1 ∧
          (s.rng.source0.state = .healthy → u.rng.source0.fresh = s.rng.source0.fresh.tail) ∧
          (s.rng.source1.state = .healthy → u.rng.source1.fresh = s.rng.source1.fresh.tail)) ∧
      (s.rng.healthy ≠ 0 → s.rng.entropy? = none → exec .drbgGenerate s = .next s) ∧
      (s.rng.healthy = 0 → ∃ u, exec .drbgGenerate s = .next u ∧ (u.rng.instance? i).state = .stopped ∧
        u.rng.units = s.rng.units ∧ u = { s with rng := u.rng }))) ∧
  (∀ s : State,
    (4096 < s.rng.units + 256 ∨ s.rng.nextRunning? = none → exec .drbgGenerate s = .next s) ∧
    (s.presented 0 rngBase = true → s.rng.healthy ≠ 0 → s.rng.anyRunning = true →
      ∃ u, exec .rngReseedAll s = .next u ∧ u.rng.reseedAll = true ∧ u = { s with rng := u.rng } ∧
        u.rng.units = s.rng.units ∧
        ∀ i, (s.rng.instance? i).state = .running → tget? s.rng.drbgs i ≠ none → (u.rng.instance? i).reseedDue = true) ∧
    (s.rng.healthy = 0 ∨ s.rng.anyRunning = false → exec .rngReseedAll s = .next s)) ∧
  (∀ (w : WaitingDraw) (ws : List WaitingDraw) (s : State), s.rng.waiting = w :: ws →
    let served := drawUnits w.bytes ≤ s.rng.units ∧ s.rng.shut = false
    (served → ∃ u, exec .randomDrawServed s = .next u ∧
      (w.slot = none → u.rng.head = s.rng.head + drawUnits w.bytes ∧ u.rng.units = s.rng.units - drawUnits w.bytes) ∧
      (∀ k sl, w.slot = some k → s.slot? k = some sl → s.portOf? k = none → s.leads = false →
        u.rng.waiting = ws ∧ u.rng.head = s.rng.head + drawUnits w.bytes ∧
        u.rng.units = s.rng.units - drawUnits w.bytes ∧
        (let bytes := (s.rng.unitBytes s.rng.head (drawUnits w.bytes)).take w.bytes
         u.slot? k = some { sl with drawn := some bytes }))) ∧
    (¬ served → s.rng.allStopped = true → ∀ k, w.slot = some k → s.portOf? k = none → s.leads = false →
      ∃ t : State, exec .randomDrawServed s = .next (t.failCmd k 0x0405) ∧ t.host = s.host ∧ t.rng.waiting = ws ∧
        t.rng.shut = true ∧ t.rng.refused = (SatCount.add count31 1 s.rng.refused).1) ∧
    (¬ served → s.rng.allStopped = false → exec .randomDrawServed s = .next s))

/-! ## Memories -/

/-- R376, R449 to R453, R456, R458 to R462, R464, R465, R473 to R480: the background test takes the regions of a larder in
turn, copies each to the save buffer, counts regions with single-bit faults, and replaces one with a multi-bit fault by a
spare; without a spare the skulk is withdrawn or the region fenced. An access that the gate permits reads or writes exactly
the bytes it names, one that it refuses is a bus error and is captured, one to a larder being wiped waits, and one beyond
the target does not exist. A page commit gives a page its new content once the power-fail warning is armed and a shadow page
is free, waits before that, and is refused after the fence or without the right to the page; the oldest commit retires, and
the request that has waited longest begins; the fence closes 1 ms after the warning, and no request waits any more. -/
def Obligations.MemoriesAndGates : Prop :=
  (∀ (n : Nat) (s : State),
    (24 < n ∨ s.testSkipped n = true → ∀ fault bad, exec (.larderTestSlot n fault bad) s = .next s) ∧
    (n ≤ 24 → s.testSkipped n = false →
      let r := if n = 24 then 4096 else 2048
      let t := tget s.mem.tests n {}
      let tested := fun (fault : Nat) (t' : LarderTest) => ∃ u save, exec (.larderTestSlot n fault none) s = .next u ∧
        save.length = 32 ∧ tget u.mem.tests n {} = { t' with region := (t.region + 1) % r, save := save } ∧
        u.mem.mem = s.mem.mem ∧ u.mem.withdrawn = s.mem.withdrawn ∧ u.host = s.host
      tested 0 t ∧ tested 1 { t with singleBit := if 0xFFFF ≤ t.singleBit + 1 then 0xFFFF else t.singleBit + 1 } ∧
      (t.sparesUsed < 4 →
        tested 2 { t with sparesUsed := t.sparesUsed + 1, replaced := t.replaced ++ [t.region] } ∧
        ∀ fault i, i < 32 → ∃ u, exec (.larderTestSlot n fault (some i)) s = .next u ∧
          (tget u.mem.tests n {}).sparesUsed = t.sparesUsed + 1 ∧
          (if n = 24 then sealedLarderAddr 0 else larderAddr n 0) + 256 * t.region + 8 * i ∈ u.mem.poisoned) ∧
      (4 ≤ t.sparesUsed → n = 24 → ¬ t.region ∈ t.fenced →
        tested 2 { t with fenced := t.fenced ++ [t.region], outOfService := true }) ∧
      (4 ≤ t.sparesUsed → n < 24 → t.outOfService = false →
        ∃ u, exec (.larderTestSlot n 2 none) s = .next u ∧ u.mem.withdrawn.getLsbD n = true ∧
          (tget u.mem.tests n {}).outOfService = true))) ∧
  (∀ (m g off size kind err : Nat) (w c : Bool) (data : Bytes) (s : State), g < 16 → size ≠ 0 → off + size ≤ gateSize g →
    off % 64 + size ≤ 64 → m < 256 → m ≠ 0xA3 →
    (s.idleCore m = true ∨ s.larderWaits g off = true → exec (.fabricAccess m w g off kind size data c err) s = .next s) ∧
    (s.idleCore m = false → s.larderWaits g off = false →
      let refusal := s.gateRefusal? m (s.masterWorld m w) g off kind
      (refusal = none → s.fencedAt g off = false →
        (kind = accRead → s.poisonedAt (gateAddr g off) size = false →
          (g = 7 → exec (.fabricAccess m w g off kind size data true 0) s =
            .next (s.emit (.fabric m 7 off false (natLe size (s.engineReg off))))) ∧
          (g ≠ 7 → s.mem.flipped = [] → exec (.fabricAccess m w g off kind size data true 0) s =
            .next (s.emit (.fabric m g off false (s.readTarget g off size)))) ∧
          (g < 3 ∨ 7 < g → ∃ u, exec (.fabricAccess m w g off kind size data true 0) s = .next u ∧
            u.outputs = s.outputs ++ [.fabric m g off false (memBytes s.mem.mem (gateAddr g off) size)] ∧
            u.mem.mem = s.mem.mem ∧ u.host = s.host)) ∧
        (kind = accWrite → data.length = size →
          (g = 0 → s.mem.fenced = true → exec (.fabricAccess m w g off kind size data true 0) s =
            .next (s.storeRefused.emit (.fabric m g off false []))) ∧
          (3 ≤ g → g ≤ 6 → exec (.fabricAccess m w g off kind size data true 0) s =
            .next ((s.writeTarget g off data).emit (.fabric m g off false []))) ∧
          (g = 7 → s.activeWriteRefused off = true → ∃ u o, exec (.fabricAccess m w g off kind size data true 0) s =
            .next u ∧ u.outputs = s.outputs ++ [.fabric m 7 o true []]) ∧
          (g < 3 ∨ 7 < g → g ≠ 0 ∨ s.mem.fenced = false →
            ∃ u, exec (.fabricAccess m w g off kind size data true 0) s = .next u ∧
              memBytes u.mem.mem (gateAddr g off) size = data ∧
              (∀ a, a < gateAddr g off ∨ gateAddr g off + size ≤ a → memByte u.mem.mem a = memByte s.mem.mem a) ∧
              u.outputs = s.outputs ++ [.fabric m g off false []] ∧ u.host = s.host))) ∧
      (∀ r, refusal = some r → m < 0x10 ∨ 0xA0 ≤ m →
        ∃ u, exec (.fabricAccess m w g off kind size data true err) s = .next u ∧ u.mem.mem = s.mem.mem ∧
          u.outputs = s.outputs ++ [.fabric m g off true []] ∧ (tget u.mem.gates g {}).captured = true ∧
          (tget u.mem.gates g {}).count = (SatCount.add count31 1 (tget s.mem.gates g {}).count).1 ∧
          u.host = s.host))) ∧
  (∀ (m g off size kind err : Nat) (w c : Bool) (data : Bytes) (s : State), 16 ≤ g ∨ gateSize g < off + size →
    exec (.fabricAccess m w g off kind size data c err) s = .fault .noSuchAddress) ∧
  (∀ (p n : Nat) (b : Bytes) (s : State),
    let c : CommitSource := if n = 0 then .controller else if n = 1 then
      (if p = timeFloorPage then .timeFloor else .controller) else if n = 2 then .sett else .owl
    let may := (s.rights c.master true (targetOf 0 (256 * p))).w
    (131072 ≤ p → exec (.pageCommit p b n) s = .next s) ∧
    (p < 131072 → may = true → s.storeAccepts c = true → s.storeFree = true →
      ∃ u, exec (.pageCommit p b n) s = .next u ∧ memBytes u.mem.mem (storeAddr (p * 256)) 256 = fit 256 b ∧
        (∀ a, a < storeAddr (p * 256) ∨ storeAddr (p * 256) + 256 ≤ a → memByte u.mem.mem a = memByte s.mem.mem a) ∧
        u.mem.commits = s.mem.commits ++ [{ page := p, source := c, bytes := fit 256 b, marked := true,
                                            seq := s.mem.commitSeq, crc := crc32c (fit 256 b) }] ∧
        u = { s with mem := u.mem }) ∧
    (p < 131072 → may = true → s.storeAccepts c = true → s.storeFree = false →
      exec (.pageCommit p b n) s = .next { s with
        mem.waitingCommits := s.mem.waitingCommits ++ [{ page := p, source := c, bytes := b }] }) ∧
    (p < 131072 → may = true → s.storeAccepts c = false → exec (.pageCommit p b n) s = .next s.storeRefused) ∧
    (p < 131072 → may = false → ∃ u, exec (.pageCommit p b n) s = .next u ∧ u.mem.mem = s.mem.mem ∧
      u.mem.commits = s.mem.commits ∧ u.mem.waitingCommits = s.mem.waitingCommits ∧
      (tget u.mem.gates 0 {}).captured = true)) ∧
  (∀ (c : PageCommit) (cs : List PageCommit) (s : State), s.mem.commits = c :: cs → s.lodge.ctl.phase ≠ .commit →
    s.boot.fwPhase ≠ .fetch → (∀ p r, (s.port p).request = some r → r.held = []) →
    (s.mem.waitingCommits = [] → exec .pageCommitRetired s = .next { s with mem.commits := cs }) ∧
    (∀ d, s.mem.waitingCommits = [d] → s.power.holdupArmed = true → cs.length < 16 → exec .pageCommitRetired s =
      .next (State.beginCommit d { s with mem.commits := cs, mem.waitingCommits := [] }))) ∧
  (∀ s : State,
    (s.mem.fenced = true → s.mem.fencedAt + unitsPerMilli ≤ s.now →
      ∃ u, exec .pstoreFenceClose s = .next u ∧ u.mem.fenceClosed = true ∧ u.mem.waitingCommits = [] ∧
        u.mem.commits = s.mem.commits ∧ u.mem.mem = s.mem.mem ∧ u.host = s.host) ∧
    (s.mem.fenced = false ∨ s.now < s.mem.fencedAt + unitsPerMilli → exec .pstoreFenceClose s = .next s))

/-! ## Resets, boot and firmware -/

/-- R482, R483, R485, R487, Tables 13-1 and 13-2: the events that reset the device. A power-on with the line input in
range asserts POWER_GOOD and resets with cause 0; PERST#, an in-band hot reset, the loss of the link, the key in
DEV_RESET and a lockstep mismatch reset with causes 1 to 5. None of these does anything while POWER_GOOD is low, during
a power-fail warning, or while the boundary-scan port holds the device. A reset keeps the life-cycle state, the tamper
latch, the roots and the enrolments, discards the slots, rings, engines, key registers, hot cache, open ceremony and
resident keys and every memory but the persistent store, leaves the device without a lodge in force, and starts the
boot. -/
def Obligations.DeviceResets : Prop :=
  (∀ s : State,
    (s.power.powerGood = true → s.power.warning = false → s.pins.jtag.holds = false →
      exec .perstAssert s = .next (s.restart .booting 1 true) ∧
      (s.host.linkUp = true → exec .pcieHotReset s = .next (s.restart .booting 2 true) ∧
        exec .pcieLinkDown s = .next (s.restart .booting 3 true)) ∧
      (s.boot.phase = .configured ∨ s.boot.phase = .ready ∨ s.boot.phase = .recovery →
        exec (.devReset 0x7296B007) s = .next (s.restart .booting 4 true)) ∧
      exec .lockstepMismatch s = .next (s.restart .booting 5 true)) ∧
    (s.power.powerGood = false ∨ s.power.warning = true ∨ s.pins.jtag.holds = true →
      exec .perstAssert s = .next s ∧ exec .pcieHotReset s = .next s ∧ exec .pcieLinkDown s = .next s ∧
      exec (.devReset 0x7296B007) s = .next s ∧ exec .lockstepMismatch s = .next s) ∧
    (s.host.linkUp = false → exec .pcieHotReset s = .next s ∧ exec .pcieLinkDown s = .next s)) ∧
  (∀ (key : Reg) (s : State), key ≠ 0x7296B007 → exec (.devReset key) s = .next s) ∧
  (∀ (cv : Nat) (s : State),
    (s.power.powerGood = true ∨ cv < 3600 ∨ 6000 < cv → exec (.powerOn cv) s = .next s) ∧
    (s.power.powerGood = false → 3600 ≤ cv → cv ≤ 6000 →
      ∃ t, exec (.powerOn cv) s = .next t ∧ t.power.powerGood = true ∧ t.power.lineCentivolts = cv ∧
        t.power.powerGoodAt = s.now ∧ t.boot.phase = (if s.pins.jtag.holds then .off else .booting) ∧
        t.boot.cause = 0 ∧ t.host = {} ∧ t.compute = {} ∧ t.lodge.inForce = none ∧ t.antler.state = s.antler.state ∧
        t.tamper.latched = s.tamper.latched ∧ t.tamper.productionRoot = s.tamper.productionRoot ∧
        t.quill.enrolments = s.quill.enrolments)) ∧
  (∀ (p : BootPhase) (c : Nat) (rails : Bool) (s : State),
    let t := s.restart p c rails
    t.boot.phase = p ∧ t.boot.cause = c ∧ t.boot.start = s.now ∧ t.host = {} ∧ t.compute = {} ∧ t.sett.hot = [] ∧
    t.sett.masterKey = none ∧ t.sett.tableKey = none ∧ t.sett.storageKeys = [] ∧ t.lodge.inForce = none ∧
    t.antler.state = s.antler.state ∧ t.tamper.latched = s.tamper.latched ∧ t.tamper.testRoot = s.tamper.testRoot ∧
    t.tamper.productionRoot = s.tamper.productionRoot ∧ t.tamper.auditRoot = s.tamper.auditRoot ∧
    t.quill.enrolments = s.quill.enrolments ∧ t.quill.ceremony = {} ∧
    (∀ k, k < persistentBase → (t.keySlot k).record = none) ∧ ∀ a, gateAddr 1 0 ≤ a → memByte t.mem.mem a = 0)

/-- R486, R488 to R494, Table 13-3: the boot. A self-test that fails halts the device with its link down; without DRAM, or
with no firmware slot that passes its checks, it ends in recovery; with a slot that passes it ends ready on that slot. The
boot waits for the noise sources. Outside the boot the event does nothing. The hold-up bank arms the warning, and the
changes that the boot owes the store are made. -/
def Obligations.BootEndsReadyOrInRecovery : Prop :=
  (∀ (lc : BitVec 3) (kat : Option Nat) (reads : List (Nat × Bytes)) (s : State),
    (s.boot.phase ≠ .booting → s.boot.phase ≠ .configured → ∀ st d, exec (.boot st d lc kat reads) s = .next s) ∧
    (s.boot.phase = .booting ∨ s.boot.phase = .configured →
      (∀ d, exec (.boot false d lc kat reads) s =
        .next { s with boot.phase := .halted, host.linkUp := false, host.linkSpeed := 0, host.linkWidth := 0 }) ∧
      (s.rng.ready = false → exec (.boot true true lc none reads) s = .next s) ∧
      (∃ t, exec (.boot true false lc kat reads) s = .next t ∧ t.boot.phase = .recovery ∧ t.host = s.host ∧
        t.lodge.inForce = s.lodge.inForce ∧
        (if s.boot.preferred = 0 then t.boot.outcomeA else t.boot.outcomeB) = 8) ∧
      (kat ≠ none ∨ s.rng.ready = true →
        let c := (s.replayJournal.bootStep2 lc).chooseSlot reads
        ∃ t, exec (.boot true true lc kat reads) s = .next t ∧ t.boot.outcomeA = c.1.boot.outcomeA ∧
          t.boot.outcomeB = c.1.boot.outcomeB ∧ t.boot.phase = (if c.2 then .ready else .recovery) ∧
          (c.2 = true → t.boot.slot = c.1.boot.slot ∧ t.boot.runningSvn = c.1.boot.runningSvn)))) ∧
  (∀ s : State,
    (s.power.powerGood = true → s.power.warning = false → s.power.holdupArmed = false →
      ∃ t, exec .holdupArmed s = .next t ∧ t.power.holdupArmed = true ∧ t.boot.preferDue = none ∧
        t.antler.copiesDue = false ∧ t.lodge.stored = none) ∧
    (s.power.powerGood = false ∨ s.power.warning = true ∨ s.power.holdupArmed = true →
      exec .holdupArmed s = .next s))

/-- R462, R464, R465, R486, R495 to R500, Tables 13-8, 13-15, 13-16 and 14-13: the firmware operations. FW_STAGE begins the
fetch of an image, or ends with what refuses it; the image is checked, the slot that is not running is marked invalid and
written; the end of the write makes that slot valid and preferred; FW_COMMIT raises the anti-rollback counter to the
running image's security version; FW_EXCHANGE exchanges PREFERRED. What needs the store waits until a page commit can
begin, and is refused and counted when the store accepts none; a commit or an exchange waits for the end of a TRANSITION
or DEBUG_OPEN. A GO while one is in progress reports 0x0B. -/
def Obligations.FirmwareOperations : Prop :=
  (∀ s : State, s.fwShown = true →
    (s.boot.fwPhase = .idle → ∃ t, exec (.fwStage none) s = .next t ∧ t.lodge = s.lodge ∧ t.antler = s.antler ∧
      t.boot.slotA = s.boot.slotA ∧ t.boot.slotB = s.boot.slotB ∧ t.host = s.host ∧
      if s.stageRefusal = 0 then t.boot.fwPhase = .fetch ∧ t.boot.fwRunOp = 1 ∧ t.boot.fwRunLen = s.boot.fwSrcLen.toNat
      else t.boot.fwPhase = .idle ∧ t.boot.fwOutcome = s.stageRefusal ∧ t.boot.fwResultOp = 1) ∧
    (s.boot.fwPhase ≠ .idle →
      exec (.fwStage none) s = .next { s with boot.fwOp := 1, boot.fwOutcome := 0x0B, boot.fwResultOp := 1 } ∧
      exec .fwCommit s = .next { s with boot.fwOp := 2, boot.fwOutcome := 0x0B, boot.fwResultOp := 2 } ∧
      exec .fwExchange s = .next { s with boot.fwOp := 3, boot.fwOutcome := 0x0B, boot.fwResultOp := 3 }) ∧
    (s.boot.fwPhase = .idle → s.storeAccepts .controller = false →
      exec .fwCommit s = .next s.storeRefused ∧ exec .fwExchange s = .next s.storeRefused) ∧
    (s.boot.fwPhase = .idle → s.storeAccepts .controller = true →
      (s.storeFree = false ∨ s.antlerHolds = true →
        exec .fwCommit s = .next (s.startFw 2) ∧ exec .fwExchange s = .next (s.startFw 3)) ∧
      (s.storeFree = true → s.antlerHolds = false →
        (∃ t, exec .fwCommit s = .next t ∧ t.boot.fwPhase = .idle ∧ t.boot.fwResultOp = 2 ∧ t.host = s.host ∧
          t.boot.preferred = s.boot.preferred ∧ t.boot.slotA = s.boot.slotA ∧ t.boot.slotB = s.boot.slotB ∧
          if s.boot.antiRollback < s.boot.runningSvn then t.boot.antiRollback = s.boot.runningSvn ∧ t.boot.fwOutcome = 0
          else t.boot.antiRollback = s.boot.antiRollback ∧ t.boot.fwOutcome = 9) ∧
        ∃ t, exec .fwExchange s = .next t ∧ t.boot.fwPhase = .idle ∧ t.boot.fwResultOp = 3 ∧ t.host = s.host ∧
          t.boot.antiRollback = s.boot.antiRollback ∧ t.boot.slotA = s.boot.slotA ∧ t.boot.slotB = s.boot.slotB ∧
          if (s.boot.slotOf (1 - s.boot.preferred)).valid then t.boot.preferred = 1 - s.boot.preferred ∧
            t.boot.fwOutcome = 0
          else t.boot.preferred = s.boot.preferred ∧ t.boot.fwOutcome = 9))) ∧
  (∀ (ok : Bool) (b : Bytes) (s : State), s.boot.fwPhase = .fetch → s.boot.fwRunOp = 1 →
    (s.boot.fwWaits = true → s.antlerHolds = true → exec (.fwStage (some (ok, b))) s = .next s) ∧
    (s.boot.fwWaits = false ∨ s.antlerHolds = false →
      let o := if ok then fwCheck s.antler.state s.boot.antiRollback none (fit s.boot.fwRunLen b) else 1
      let passes := fun P : Prop => if o = 0 then P else
        ∃ t, exec (.fwStage (some (ok, b))) s = .next t ∧ t.boot.fwPhase = .idle ∧ t.boot.fwOutcome = o ∧
          t.boot.fwResultOp = 1 ∧ t.boot.slotA = s.boot.slotA ∧ t.boot.slotB = s.boot.slotB ∧ t.mem = s.mem
      (s.storeAccepts .controller = false → passes (exec (.fwStage (some (ok, b))) s = .next s.storeRefused)) ∧
      (s.storeAccepts .controller = true → s.storeFree = false → passes (exec (.fwStage (some (ok, b))) s = .next s)) ∧
      (s.storeAccepts .controller = true → s.storeFree = true →
        passes (∃ t, exec (.fwStage (some (ok, b))) s = .next t ∧ t.boot.fwPhase = .write ∧
          t.boot.fwImage = fit s.boot.fwRunLen b ∧ (t.boot.slotOf s.idleSlot).valid = false ∧
          t.boot.slotOf (1 - s.idleSlot) = s.boot.slotOf (1 - s.idleSlot) ∧ t.host = s.host)))) ∧
  (∀ s : State, s.boot.fwPhase = .write →
    (∃ t, exec (.fwFlashWriteDone false) s = .next t ∧ t.boot.fwOutcome = 3 ∧ t.boot.fwPhase = .idle ∧
      t.boot.slotA = s.boot.slotA ∧ t.boot.slotB = s.boot.slotB ∧ t.boot.preferred = s.boot.preferred ∧ t.mem = s.mem) ∧
    (s.storeAccepts .controller = false → exec (.fwFlashWriteDone true) s = .next s.storeRefused) ∧
    (s.storeAccepts .controller = true → s.storeFree = false → exec (.fwFlashWriteDone true) s = .next s) ∧
    (s.storeAccepts .controller = true → s.storeFree = true →
      ∃ t, exec (.fwFlashWriteDone true) s = .next t ∧ t.boot.preferred = s.idleSlot ∧ t.boot.fwOutcome = 0 ∧
        t.boot.fwPhase = .idle ∧ t.boot.slotOf (1 - s.idleSlot) = s.boot.slotOf (1 - s.idleSlot) ∧
        t.boot.slotOf s.idleSlot =
          { valid := true, digest := Config.sha3 s.boot.fwImage, flash := s.boot.fwImage }))

/-! ## Lodge operations -/

/-- R91 to R99, R104 to R113, R462, R464, R465, Tables 3-2 and 3-3: the lodge operations. STAGE_FULL_IMAGE and APPLY_DELTA
begin a fetch, or report step 1 with 0x0140; a chain of 32 deltas refuses another with 0x0541; DISCARD_STAGED_IMAGE removes
the staged image; a GO while one is in progress reports 0x0540. A fetched image is judged: the failing step ends the
operation and changes nothing else, an accepted image is written to the flash; a staged image then enters the lodge
record, and a delta holds its affected pools and commits when they are quiescent: its tables are in force from then
on. A delta whose pools are not quiescent in time ends with 0x0542, one that the standby rejects with 0x0543. What needs
the store waits until a page commit can begin, and is refused and counted when the store accepts none. -/
def Obligations.LodgeOperations : Prop :=
  (∀ s : State, s.ldgShown = true → s.lodge.ctl.phase = .idle →
    (s.lodge.ctl.step1 8388608 = true → ∃ t, exec .stageFullImage s = .next t ∧ t.lodge.ctl.phase = .fetch ∧
      t.lodge.ctl.runOp = 1 ∧ t.lodge.ctl.runAddr = s.lodge.ctl.srcAddr ∧
      t.lodge.ctl.runLen = s.lodge.ctl.srcLen.toNat ∧ t = { s with lodge.ctl := t.lodge.ctl }) ∧
    (s.lodge.ctl.step1 8388608 = false → ∃ t, exec .stageFullImage s = .next t ∧ t.lodge.ctl.phase = .idle ∧
      t.lodge.ctl.resultStatus = 0x0140 ∧ t.lodge.ctl.resultStep = 1 ∧ t.lodge.ctl.resultOp = 1 ∧
      t = { s with lodge.ctl := t.lodge.ctl, owl := t.owl }) ∧
    (32 ≤ (s.lodge.record.current.map (·.chain)).getD 0 →
      ∃ t, exec .applyDelta s = .next t ∧ t.lodge.ctl.phase = .idle ∧ t.lodge.ctl.resultStatus = 0x0541 ∧
        t.lodge.ctl.resultStep = 0 ∧ t = { s with lodge.ctl := t.lodge.ctl }) ∧
    ((s.lodge.record.current.map (·.chain)).getD 0 < 32 →
      (s.lodge.ctl.step1 131072 = true → ∃ t, exec .applyDelta s = .next t ∧ t.lodge.ctl.phase = .fetch ∧
        t.lodge.ctl.runOp = 2 ∧ t.lodge.ctl.runLen = s.lodge.ctl.srcLen.toNat ∧ t = { s with lodge.ctl := t.lodge.ctl }) ∧
      (s.lodge.ctl.step1 131072 = false → ∃ t, exec .applyDelta s = .next t ∧ t.lodge.ctl.phase = .idle ∧
        t.lodge.ctl.resultStatus = 0x0140 ∧ t.lodge.ctl.resultStep = 1 ∧ t.lodge.ctl.resultOp = 2 ∧
        t = { s with lodge.ctl := t.lodge.ctl, owl := t.owl })) ∧
    (s.storeAccepts .controller = false → exec .discardStagedImage s = .next s.storeRefused) ∧
    (s.storeAccepts .controller = true → s.storeFree = false ∨ s.antlerHolds = true →
      exec .discardStagedImage s = .next (s.startLodge 3 .commit)) ∧
    (s.storeAccepts .controller = true → s.storeFree = true → s.antlerHolds = false →
      ∃ t, exec .discardStagedImage s = .next t ∧
      t.lodge.record = { s.lodge.record with staged := none } ∧ t.lodge.ctl.phase = .idle ∧
      t.lodge.ctl.resultStatus = 0 ∧ t.lodge.ctl.resultOp = 3 ∧ t.lodge.inForce = s.lodge.inForce ∧ t.host = s.host)) ∧
  (∀ s : State, s.ldgShown = true → s.lodge.ctl.phase ≠ .idle →
    exec .stageFullImage s = .next (s.refuseGo 1) ∧ exec .applyDelta s = .next (s.refuseGo 2) ∧
    exec .discardStagedImage s = .next (s.refuseGo 3) ∧
    ∀ op, (s.refuseGo op).lodge.ctl.resultStatus = 0x0540 ∧ (s.refuseGo op).lodge.ctl.resultStep = 0 ∧
      (s.refuseGo op).lodge.ctl.resultOp = op ∧ (s.refuseGo op).lodge.ctl.phase = s.lodge.ctl.phase ∧
      s.refuseGo op = { s with lodge.ctl := (s.refuseGo op).lodge.ctl }) ∧
  (∀ (ok : Bool) (b : Bytes) (s : State), s.lodge.ctl.phase = .fetch →
    (s.lodge.ctl.waits = true → s.antlerHolds = true → exec (.lodgeFetchDone ok b) s = .next s) ∧
    (s.lodge.ctl.waits = false ∨ s.antlerHolds = false →
      (∃ t, exec (.lodgeFetchDone false b) s = .next t ∧ t.lodge.ctl.phase = .idle ∧
        t.lodge.ctl.resultStatus = 0x0140 ∧ t.lodge.ctl.resultStep = 1 ∧
        t = { s with lodge.ctl := t.lodge.ctl, owl := t.owl }) ∧
      ∃ t, exec (.lodgeFetchDone true b) s = .next t ∧ t = { s with lodge.ctl := t.lodge.ctl, owl := t.owl } ∧
        match s.judge (fit s.lodge.ctl.runLen b) with
        | .rejected n st => t.lodge.ctl.phase = .idle ∧ t.lodge.ctl.resultStatus = st ∧ t.lodge.ctl.resultStep = n
        | .accepted l => t.lodge.ctl.phase = .flashWrite ∧ t.lodge.ctl.image = fit s.lodge.ctl.runLen b ∧
            t.lodge.ctl.parsed = some l)) ∧
  (∀ (l : Lodge) (s : State), s.lodge.ctl.phase = .flashWrite → s.lodge.ctl.parsed = some l →
    (∃ t, exec (.lodgeFlashWriteDone false) s = .next t ∧ t.lodge.ctl.phase = .idle ∧
      t.lodge.ctl.resultStatus = 0x0F40 ∧ t = { s with lodge.ctl := t.lodge.ctl }) ∧
    (s.lodge.ctl.runOp ≠ 2 →
      (s.storeAccepts .controller = false → exec (.lodgeFlashWriteDone true) s = .next s.storeRefused) ∧
      (s.storeAccepts .controller = true → s.storeFree = false → exec (.lodgeFlashWriteDone true) s = .next s) ∧
      (s.storeAccepts .controller = true → s.storeFree = true →
        ∃ t, exec (.lodgeFlashWriteDone true) s = .next t ∧ t.lodge.ctl.phase = .idle ∧ t.lodge.ctl.resultStatus = 0 ∧
          t.lodge.record = { s.lodge.record with staged := some (fullEntry s.lodge.ctl.image) } ∧
          t.lodge.flashStaged.full = s.lodge.ctl.image ∧ t.lodge.inForce = s.lodge.inForce ∧ t.host = s.host)) ∧
    (s.lodge.ctl.runOp = 2 → ∃ t, exec (.lodgeFlashWriteDone true) s = .next t ∧ t.lodge.ctl.phase = .quiescing ∧
      t.lodge.ctl.affected = affectedPools s.tables l ∧ t.lodge.record = s.lodge.record ∧
      t.lodge.inForce = s.lodge.inForce ∧
      ∀ f, f ≠ 0 → (s.tables.serves (affectedPools s.tables l) f = true ∨ l.serves (affectedPools s.tables l) f = true) →
        t.deltaHold f = true)) ∧
  (∀ (l : Lodge) (fetched : List (Nat × Bytes)) (bad : Option (Nat × Nat)) (s : State), s.lodge.ctl.phase = .quiescing →
    s.lodge.ctl.parsed = some l →
    (s.lodge.ctl.quiesced = false ∨ s.quiescent = false ∨ s.pairCommits = false →
      exec (.deltaCommit fetched bad) s = .next s) ∧
    (s.lodge.ctl.quiesced = true → s.quiescent = true → s.pairCommits = true →
      (s.storeAccepts .controller = false → exec (.deltaCommit fetched bad) s = .next s.storeRefused) ∧
      (s.storeAccepts .controller = true → s.storeFree = false → exec (.deltaCommit fetched bad) s = .next s) ∧
      (s.storeAccepts .controller = true → s.storeFree = true →
        ∃ t, exec (.deltaCommit fetched bad) s = .next t ∧ t.lodge.inForce = some l ∧
          t.lodge.record.highSerial = imgSerial s.lodge.ctl.image ∧
          t.lodge.record.current = s.lodge.record.current.map (·.extend s.lodge.ctl.image) ∧
          t.lodge.flashCurrent.deltas = s.lodge.flashCurrent.deltas ++ [s.lodge.ctl.image] ∧
          (t.host.due = [] → s.lodge.ctl.runOp = 2 → s.lodge.ctl.waits = false →
            t.lodge.ctl.phase = .idle ∧ t.lodge.ctl.resultStatus = 0 ∧ t.lodge.ctl.resultOp = 2)))) ∧
  (∀ s : State, s.lodge.ctl.phase = .quiescing →
    (s.now < s.lodge.ctl.deadline ∨ s.lodge.ctl.quiesced = true → exec .deltaQuiesceTimeout s = .next s) ∧
    (s.lodge.ctl.deadline ≤ s.now → s.lodge.ctl.quiesced = false → ∃ t, exec .deltaQuiesceTimeout s = .next t ∧
      t.lodge.ctl.phase = .idle ∧ t.lodge.ctl.resultStatus = 0x0542 ∧ t.lodge.ctl.resultStep = 0 ∧
      t.lodge.inForce = s.lodge.inForce ∧ t.lodge.record = s.lodge.record ∧ t.mem = s.mem) ∧
    (s.pair.phase = .active ∨ s.pair.phase = .standby →
      exec (.deltaPeerVerdict true) s = .next { s with lodge.ctl.peerAccepted := true } ∧
      ∃ t, exec (.deltaPeerVerdict false) s = .next t ∧ t.lodge.ctl.phase = .idle ∧
        t.lodge.ctl.resultStatus = 0x0543 ∧ t.lodge.ctl.resultStep = 0 ∧ t.lodge.inForce = s.lodge.inForce ∧
        t.lodge.record = s.lodge.record) ∧
    (s.pair.phase ≠ .active → s.pair.phase ≠ .standby → ∀ a, exec (.deltaPeerVerdict a) s = .next s))

/-! ## Antler -/

/-- R263, R298, R403, R404, R454, R509 to R525, Tables 14-1, 14-6, 14-9 and 14-10: Antler's operations. A GO that nothing
refuses begins the fetch of the operation's message, or, for DEBUG_CHALLENGE, issues a challenge with a fresh nonce; a GO
that something refuses ends at once with its outcome, and one while an operation is in progress reports 0x0D. The first
check of a message that fails ends the operation with its outcome. PROVISION takes the twenty digests; TRANSITION erases
keys and enrolments and, once wipes, completions and copies are done, sets the life-cycle state; TEST_UNLOCK opens the port
and uses its token up; DEBUG_OPEN waits for the slots and then enters field debug, or gives up after 1,000 ms;
OWNER_ROTATE takes the new digest; a challenge closes after 600 s. -/
def Obligations.AntlerOperations : Prop :=
  (∀ (n : Nat) (bad : Option (Nat × Nat)) (op : Nat) (c : Instr) (s : State), s.presented 0 lcsBase = true →
    (op, c) ∈ [(1, Instr.provision none), (2, .transition none bad), (3, .testUnlock none n), (5, .debugOpen none),
      (6, .ownerRotate none)] →
    (s.antler.phase ≠ .idle → exec c s = .next { s with antler.op := BitVec.ofNat 3 op, antler.outcome := 0x0D,
                                                          antler.resultOp := BitVec.ofNat 3 op }) ∧
    (s.antler.phase = .idle → ∃ t, exec c s = .next t ∧ t = { s with antler := t.antler } ∧
      t.antler.state = s.antler.state ∧
      if s.lcRefusal op = 0 then t.antler.phase = .fetch ∧ t.antler.runOp = BitVec.ofNat 3 op
      else t.antler.phase = .idle ∧ t.antler.outcome = s.lcRefusal op ∧ t.antler.resultOp = BitVec.ofNat 3 op)) ∧
  (∀ s : State, s.presented 0 lcsBase = true →
    (s.antler.phase ≠ .idle → exec .debugChallenge s =
      .next { s with antler.op := 4, antler.outcome := 0x0D, antler.resultOp := 4 }) ∧
    (s.antler.phase = .idle → s.lcRefusal 4 ≠ 0 → ∃ t, exec .debugChallenge s = .next t ∧ t.antler.phase = .idle ∧
      t.antler.outcome = s.lcRefusal 4 ∧ t.antler.challenge = s.antler.challenge ∧ t = { s with antler := t.antler }) ∧
    (s.antler.phase = .idle → s.lcRefusal 4 = 0 →
      (s.rng.serves 32 = true → ∃ t c, exec .debugChallenge s = .next t ∧ t.antler.phase = .idle ∧
        t.antler.outcome = 0 ∧ t.antler.challenge = some c ∧ c.take 16 = Config.deviceId ∧
        slice c 16 32 = fit 32 ((s.rng.unitBytes s.rng.head 2).take 32) ∧
        t.antler.challengeExpires = s.now + 600 * unitsPerSecond ∧ t.rng.units = s.rng.units - 2) ∧
      (s.rng.serves 32 = false → s.rng.refuses = true → ∃ t, exec .debugChallenge s = .next t ∧ t.antler.phase = .idle ∧
        t.antler.outcome = 0x11 ∧ t.antler.challenge = none ∧ t.rng.units = s.rng.units ∧
        t.rng.refused = (SatCount.add count31 1 s.rng.refused).1) ∧
      (s.rng.serves 32 = false → s.rng.refuses = false → ∃ t, exec .debugChallenge s = .next t ∧
        t.antler.phase = .check ∧ t.antler.challenge = none ∧
        t.rng.waiting = s.rng.waiting ++ [{ bytes := nonceBytes }]))) ∧
  (∀ (op : Nat) (b : Bytes) (n : Nat) (bad : Option (Nat × Nat)) (c : Instr) (s : State), s.antler.phase = .fetch →
    s.antler.runOp = BitVec.ofNat 3 op →
    (op, c) ∈ [(1, Instr.provision (some (false, b))), (2, .transition (some (false, b)) bad),
      (3, .testUnlock (some (false, b)) n), (5, .debugOpen (some (false, b))), (6, .ownerRotate (some (false, b)))] →
    ∃ t, exec c s = .next t ∧ t.antler.phase = .idle ∧ t.antler.outcome = 1 ∧ t.antler.state = s.antler.state ∧
      t.antler.challenge = s.antler.challenge ∧ t.sett = s.sett ∧ t.host = s.host) ∧
  (∀ (msg : Bytes) (s : State), s.antler.phase = .fetch →
    (s.antler.runOp = 1 →
      let b := fit 656 msg
      let ds := provisionDigests b
      let o := if ¬ (slice b 0 8 = provisionMagic ∧ allZero (slice b 8 8) = true) then 2
        else if s.antler.provisioned = true ∨ ds.any allZero = true ∨ distinct ds = false then 5 else 0
      ∃ t, exec (.provision (some (true, msg))) s = .next t ∧ t.antler.phase = .idle ∧ t.antler.outcome = o ∧
        t.antler.state = s.antler.state ∧ t.host = s.host ∧
        if o = 0 then t.antler.provisioned = true ∧ t.antler.digests = ds
        else t.antler.provisioned = s.antler.provisioned ∧ t.antler.digests = s.antler.digests) ∧
    (∀ bad, s.antler.runOp = 2 →
      let b := fit 80 msg
      let o := s.transitionCheck b
      (o ≠ 0 → ∃ t, exec (.transition (some (true, msg)) bad) s = .next t ∧ t.antler.state = s.antler.state ∧
        t.antler.phase = .idle ∧ t.antler.outcome = o ∧ t.quill.enrolments = s.quill.enrolments ∧ t.sett = s.sett ∧
        t.host = s.host) ∧
      (∀ lc, o = 0 → lifeCycleOf? (leField b 8 1) = some lc →
        (s.transitionDraws lc = none → ∃ t, exec (.transition (some (true, msg)) bad) s = .next t ∧
          t.antler.state = s.antler.state ∧ t.antler.phase = .idle ∧ t.antler.outcome = 0x11 ∧ t.sett = s.sett ∧
          t.quill.enrolments = s.quill.enrolments) ∧
        (s.transitionDraws lc ≠ none → ∃ t, exec (.transition (some (true, msg)) bad) s = .next t ∧
          t.antler.state = s.antler.state ∧ t.antler.phase = .wiping ∧ t.antler.target = some lc ∧
          t.antler.transitionAt = s.now ∧ t.quill.enrolments = [] ∧ t.quill.ceremony.phase = .idle ∧
          (∀ e ∈ t.sett.keys, isPersistent e.1 = false) ∧
          (lc = .endOfLife → t.cub.identity = none ∧ t.cub.departing = [])))) ∧
    (∀ n, s.antler.runOp = 3 →
      let b := fit 48 msg
      let used := s.antler.unlockUsed
      let formed := slice b 0 8 = unlockMagic ∧ allZero (slice b 8 8) = true
      let token := (List.range 16).find? fun i => s.tokenIs (slice b 0x10 32) (3 + i)
      let fails := fun o : Nat => ∃ t, exec (.testUnlock (some (true, msg)) n) s = .next t ∧ t.antler.phase = .idle ∧
        t.antler.outcome = o ∧ t.antler.unlockUsed = used ∧ t.antler.testOpen = s.antler.testOpen
      (¬ formed → fails 2) ∧ (formed → used = 0xFFFF → fails 8) ∧
      (formed → used ≠ 0xFFFF → token = none → fails 4) ∧
      (∀ i, formed → used ≠ 0xFFFF → token = some i →
        (used.getLsbD i = true → fails 8) ∧
        (used.getLsbD i = false → 3 ≤ n → ∃ t, exec (.testUnlock (some (true, msg)) n) s = .next t ∧
          t.antler.phase = .idle ∧ t.antler.outcome = 0 ∧ t.antler.testOpen = true ∧
          t.antler.unlockUsed = used ||| BitVec.ofNat 16 (2 ^ i) ∧ t.antler.copy0.unlockUsed = t.antler.unlockUsed ∧
          t.antler.copy2.unlockUsed = t.antler.unlockUsed) ∧
        (used.getLsbD i = false → n < 3 → ∃ t, exec (.testUnlock (some (true, msg)) n) s = .next t ∧
          t.antler.phase = .copies ∧ t.antler.testOpen = s.antler.testOpen ∧ t = { s with antler := t.antler }))) ∧
    (s.antler.runOp = 5 →
      let b := fit 7504 msg
      let o := if ¬ (slice b 0 8 = debugMagic ∧ allZero (slice b 8 8) = true ∧ allZero (slice b 0x1D43 13) = true) then 2
        else if s.antler.debug then 0xF else if s.antler.challenge ≠ some (slice b 0x10 64) then 9
        else if signedBy (BitVec.ofNat 256 (leNat (s.antler.digests.getD 19 []))) 0x50 b = false then 0xA
        else if 0xFFFF ≤ s.antler.debugCount then 0xC else 0
      ∃ t, exec (.debugOpen (some (true, msg))) s = .next t ∧ t.antler.debug = s.antler.debug ∧
        t.antler.challenge = (if o = 2 ∨ o = 0xF then s.antler.challenge else none) ∧
        if o = 0 then t.antler.phase = .quiescing ∧ t.antler.quiesceUntil = s.now + 1000 * unitsPerMilli ∧
          t = { s.cancelAll with antler := t.antler }
        else t.antler.phase = .idle ∧ t.antler.outcome = o ∧ t.host = s.host) ∧
    (s.antler.runOp = 6 →
      let b := fit 7488 msg
      let o := if ¬ (slice b 0 8 = rotateMagic ∧ allZero (slice b 9 7) = true ∧ allZero (slice b 0x20 32) = false ∧
            allZero (slice b 0x1D33 13) = true) then 2
        else if signedBy s.antler.ownerDigest 0x40 b = false then 0xA else if slice b 0x10 16 ≠ Config.deviceId then 6
        else if 255 ≤ s.antler.rotations then 0xC else if leField b 8 1 ≠ s.antler.rotations + 1 then 6 else 0
      ∃ t, exec (.ownerRotate (some (true, msg))) s = .next t ∧ t.antler.phase = .idle ∧ t.antler.outcome = o ∧
        t.host = s.host ∧
        if o = 0 then t.antler.rotations = s.antler.rotations + 1 ∧
          t.antler.ownerDigest = BitVec.ofNat 256 (leNat (slice b 0x20 32))
        else t.antler.rotations = s.antler.rotations ∧ t.antler.ownerDigest = s.antler.ownerDigest)) ∧
  (∀ (n : Nat) (lc : LifeCycle) (s : State), (s.antler.phase = .wiping ∨ s.antler.phase = .copies) →
    s.antler.target = some lc →
    let held := ∃ e ∈ s.host.slots, e.2.phase ≠ .fetching
    let late := s.antler.transitionAt + 2 * unitsPerMilli ≤ s.now
    ((held ∧ ¬ late) ∨ s.wiping = true → exec (.transitionComplete n) s = .next s) ∧
    (¬ held ∨ late → s.wiping = false →
      (3 ≤ n → ∃ t, exec (.transitionComplete n) s = .next t ∧ t.antler.state = lc ∧ t.antler.phase = .idle ∧
        t.antler.outcome = 0 ∧ t.antler.copy0.state = lc ∧ t.antler.copy1.state = lc ∧ t.antler.copy2.state = lc ∧
        (lc ≠ .makerTest → t.tamper.testRoot = none) ∧ (lc ≠ .production → t.tamper.productionRoot = none) ∧
        (lc ≠ .endOfLife → t.tamper.latched = false ∧ t.antler.ownerDigest = s.antler.newOwner) ∧
        (∀ e ∈ t.sett.keys, isPersistent e.1 = true) ∧ t.sett.hot = []) ∧
      (n < 3 → ∃ t, exec (.transitionComplete n) s = .next t ∧ t.antler.state = s.antler.state ∧
        t.antler.phase = .copies ∧ t.antler.copy2 = s.antler.copy2))) ∧
  (∀ s : State, (s.antler.challengeExpires ≤ s.now →
      exec .debugChallengeExpiry s = .next { s with antler.challenge := none }) ∧
    (s.now < s.antler.challengeExpires → exec .debugChallengeExpiry s = .next s)) ∧
  (∀ s : State, s.antler.phase = .quiescing →
    (s.host.slots = [] → exec .debugQuiesceTimeout s = .next s ∧ ∀ bad, ∃ t, exec (.debugQuiesced bad) s = .next t ∧
      t.antler.debug = true ∧ t.antler.phase = .idle ∧ t.antler.outcome = 0 ∧ t.sett.hot = [] ∧
      t.quill.ceremony.phase = .idle ∧ t.tamper.derivationBlocked = true ∧ t.sett.tableKey = s.sett.tableKey ∧
      t.sett.storageKeys = s.sett.storageKeys ∧
      t.antler.debugCount = (SatCount.add 0xFFFF 1 ⟨s.antler.debugCount, s.antler.debugOverflow⟩).1.count) ∧
    (s.host.slots ≠ [] → (∀ bad, exec (.debugQuiesced bad) s = .next s) ∧
      (s.now < s.antler.quiesceUntil → exec .debugQuiesceTimeout s = .next s) ∧
      (s.antler.quiesceUntil ≤ s.now → ∃ t, exec .debugQuiesceTimeout s = .next t ∧ t.antler.phase = .idle ∧
        t.antler.outcome = 0x0B ∧ t.antler.debug = s.antler.debug ∧ t.sett = s.sett)))

/-! ## Tamper monitors and Torpor -/

/-- R263, R528 to R549, Tables 15-1 to 15-3: samples, counting and confirmation. A sample outside the limits in force is an
event of its monitor, one inside them is not; a stale calibration narrows the window of a rail; a monitor that does not run
gives no event. An event that does not make K within W only counts; one that does, on a device that has not confirmed one
before, sets the latch with its monitor and kind, zeroes every root, clears the Sett's keys and, while the logic side is
powered, responds: the hot cache, Squirrel's output, an open ceremony and the GPIO directions are gone; a later one only
counts. A lid that is discrepant for N ticks confirms. The response is over when its commands and wipes are; then every
switched domain is gated. -/
def Obligations.TamperMonitors : Prop :=
  (∀ (m kind : Nat) (s : State),
    (s.monRuns m = false ∨ (s.monitor m).events.head? = some s.tick → s.monEvent m kind = s) ∧
    (s.monRuns m = true → (s.monitor m).events.head? ≠ some s.tick →
      let t := s.monEvent m kind
      let hit := confirms (s.monK m) (s.monW m) s.tick (s.monitor m).events
      (hit = false → t.tamper.latched = s.tamper.latched ∧
        (t.monitor m).count = (SatCount.add count31 1 (s.monitor m).count).1 ∧
        (t.monitor m).events = (s.tick :: (s.monitor m).events).take 16 ∧ t.host = s.host) ∧
      (hit = true → s.tamper.latched = true → t.tamper.latchMonitor = s.tamper.latchMonitor ∧
        t.tamper.latchKind = s.tamper.latchKind ∧
        t.tamper.confirmed = (SatCount.add 0xFFFF 1 s.tamper.confirmed).1 ∧ t.host = s.host) ∧
      (hit = true → s.tamper.latched = false → t.tamper.latched = true ∧ t.tamper.latchMonitor = m ∧
        t.tamper.latchKind = kind ∧ t.tamper.testRoot = none ∧ t.tamper.productionRoot = none ∧
        t.tamper.auditRoot = none ∧ t.sett.masterKey = none ∧ t.sett.tableKey = none ∧ t.sett.storageKeys = [] ∧
        (s.logicPowered = true → t.tamper.response = 1 ∧ t.sett.hot = [] ∧ t.rng.units = 0 ∧
          t.quill.ceremony.phase = .idle ∧ t.pins.gpioDir = 0)))) ∧
  (∀ (m : Nat) (margin v l u : Int) (s : State), s.monLower m = some l → s.monUpper m = some u →
    s.monReading m margin v =
      if v < l + margin then s.monEvent m 0 else if u - margin < v then s.monEvent m 1 else s) ∧
  (∀ (site : Nat) (level u : Int) (s : State),
    (256 ≤ site ∨ s.monRuns site = false → exec (.lightSample site level) s = .next s) ∧
    (site < 256 → s.monRuns site = true → s.monUpper site = some u →
      (s.compensatedLight site level ≤ u → exec (.lightSample site level) s = .next s) ∧
      (u < s.compensatedLight site level → exec (.lightSample site level) s =
        .next ((s.setSite site { s.site site with photodiode := true }).monEvent site 1)))) ∧
  (∀ (site : Nat) (s : State), exec (.canaryScan site false) s = .next s ∧
    (256 ≤ site ∨ s.monRuns (0x100 + site) = false → exec (.canaryScan site true) s = .next s) ∧
    (site < 256 → s.monRuns (0x100 + site) = true → exec (.canaryScan site true) s =
      .next ((s.setSite site { s.site site with canary := true }).monEvent (0x100 + site) 2))) ∧
  (∀ (sensor : Nat) (v : Int) (s : State),
    (8 ≤ sensor ∨ s.monRuns (0x200 + sensor) = false → exec (.temperatureSample sensor v) s = .next s) ∧
    (sensor < 8 → s.monRuns (0x200 + sensor) = true →
      ∃ t : State, exec (.temperatureSample sensor v) s = .next (t.monReading (0x200 + sensor) 0 v) ∧
        tget? t.tamper.temps sensor = some v ∧ t.tamper.latched = s.tamper.latched ∧ t.host = s.host)) ∧
  (∀ (m : Nat) (v : Int) (s : State), 0x210 ≤ m → m ≤ 0x213 →
    (s.monRuns m = false → exec (.voltageExcursion m v) s = .next s) ∧
    (s.monRuns m = true → exec (.voltageExcursion m v) s = .next (
      if m = 0x213 then s.monReading m 0 v
      else s.monReading m (if s.stale m then 10 else 0) (v - (s.calibration m).value)))) ∧
  (∀ (v : Int) (lost : Bool) (s : State),
    (s.monRuns 0x220 = false → exec (.clockExcursion 0x220 v lost) s = .next s) ∧
    (s.monRuns 0x220 = true → exec (.clockExcursion 0x220 v true) s = .next (s.monEvent 0x220 2) ∧
      exec (.clockExcursion 0x220 v false) s = .next (s.monReading 0x220 0 v)) ∧
    (∀ l u, s.monRuns 0x221 = true → s.monLower 0x221 = some l → s.monUpper 0x221 = some u →
      exec (.clockExcursion 0x221 v lost) s =
        .next (State.monReading 0x221 0 v { s with tamper.rcClock := decide (v < l ∨ u < v) }))) ∧
  (∀ (o sh : BitVec 4) (s : State), (s.monRuns 0x230 = false → exec (.meshSample o sh) s = .next s) ∧
    (s.monRuns 0x230 = true →
      let t : State := { s with tamper.lfsr := Config.lfsrNext s.tamper.lfsr, tamper.meshOpen := o, tamper.meshShort := sh }
      exec (.meshSample o sh) s =
        .next (if o ≠ 0 then t.monEvent 0x230 3 else if sh ≠ 0 then t.monEvent 0x230 4 else t))) ∧
  (∀ (lid : Nat) (s : State), 
    (4 ≤ lid ∨ s.monRuns (0x240 + lid) = false → ∀ a b, exec (.lidSample lid a b) s = .next s) ∧
    (lid < 4 → s.monRuns (0x240 + lid) = true →
      let old := tget s.tamper.lids lid {}
      let glitch := 1 ≤ old.run ∧ old.run < s.monN (0x240 + lid)
      (∃ t, exec (.lidSample lid true false) s = .next t ∧ (tget t.tamper.lids lid {}).state = 0 ∧
        (tget t.tamper.lids lid {}).run = 0 ∧
        (glitch → (tget t.tamper.lids lid {}).glitches = (SatCount.add count31 1 old.glitches).1) ∧
        (¬ glitch → (tget t.tamper.lids lid {}).glitches = old.glitches) ∧
        t.tamper.monitors = s.tamper.monitors ∧ t.tamper.latched = s.tamper.latched ∧ t.host = s.host) ∧
      (∃ t : State, exec (.lidSample lid false true) s = .next (t.monEvent (0x240 + lid) 5) ∧
        (tget t.tamper.lids lid {}).state = 1 ∧ (tget t.tamper.lids lid {}).run = 0 ∧
        t.tamper.latched = s.tamper.latched ∧ t.tamper.monitors = s.tamper.monitors ∧ t.host = s.host) ∧
      (∀ a, old.run < 0xFFFF →
        let new : Lid := { old with chanA := a, chanB := a, state := 2, run := old.run + 1 }
        let t : State := { s with tamper.lids := tset s.tamper.lids lid new }
        exec (.lidSample lid a a) s =
          .next (if old.run + 1 = s.monN (0x240 + lid) then t.confirmTamper (0x240 + lid) 6 else t)))) ∧
  (∀ s : State,
    let held := ∃ e ∈ s.host.slots, e.2.phase ≠ .fetching
    let late := s.tamper.confirmedAt + 2 * unitsPerMilli ≤ s.now
    (s.tamper.response ≠ 1 ∨ s.logicPowered = false ∨ (held ∧ ¬ late) ∨ s.wiping = true →
      exec .tamperResponseDone s = .next s) ∧
    (s.tamper.response = 1 → s.logicPowered = true → (¬ held ∨ late) → s.wiping = false →
      ∃ t, exec .tamperResponseDone s = .next t ∧ t.tamper.response = 2 ∧ (∀ d, t.awake d = false) ∧
        t.tamper.latched = s.tamper.latched ∧ (∃ e ∈ t.owl.intake, e.code = 0xE0) ∧
        t.mem.verifyFail = (s.mem.verifyFail || s.readBack.isSome)))

/-- R535, R543, R544, R553 to R559, R562: health periods, calibration slots, cells and supplies. At the end of a period a
site whose two designs agree is not alone any more, and one that has disagreed for four periods is degraded; a
calibration slot takes up to 16 queued monitors in ascending order; a cell removed has no voltage, one inserted has the
voltage given, and its identity is read while the logic side is powered; the Torpor domain that comes up from no supply has
no root and the latch set with monitor 0x3FF and kind 7; when POWER_GOOD falls the domain moves to its cell and the logic
side loses its state. -/
def Obligations.TorporAndCells : Prop :=
  (∀ s : State, (s.monRuns 0 = false → exec .healthPeriodEnd s = .next s ∧ ∀ xs, exec (.calibrationSlot xs) s = .next s) ∧
    (s.monRuns 0 = true → (s.tamper.sites.map Prod.fst).Nodup →
      ∃ t, exec .healthPeriodEnd s = .next t ∧ t.tamper.monitors = s.tamper.monitors ∧ t.host = s.host ∧
        (∀ n, tget? s.tamper.sites n = none → tget? t.tamper.sites n = none) ∧
        ∀ n v, tget? s.tamper.sites n = some v → t.site n =
          { lonePeriods := if v.photodiode = v.canary then 0 else v.lonePeriods + 1,
            degraded := v.degraded || (v.photodiode != v.canary && decide (4 ≤ v.lonePeriods + 1)) }) ∧
    (s.monRuns 0 = true → ∀ xs : List Int,
      let ms := (calibrated.filter fun m => (s.monitor m).queued).take 16
      ∃ t, exec (.calibrationSlot xs) s = .next t ∧ t = { s with tamper.monitors := t.tamper.monitors } ∧
        (∀ (i m : Nat) (x : Int), ms[i]? = some m → xs[i]? = some x →
          t.monitor m = { s.monitor m with queued := false,
                                           cal := some { temp := s.tamper.highest, load := s.load, value := x } }) ∧
        ∀ m, (∀ i, i < xs.length → ms[i]? ≠ some m) → t.monitor m = s.monitor m)) ∧
  (∀ (c : Nat) (raw : Bytes) (v : Nat) (s : State),
    (2 ≤ c → exec (.cellRemoved c) s = .next s ∧ exec (.cellInserted c raw v) s = .next s ∧
      exec (.cellLow c v) s = .next s) ∧
    (c < 2 → (s.cell c).present = true → exec (.cellInserted c raw v) s = .next s ∧
      (260 ≤ v → exec (.cellLow c v) s = .next s) ∧
      (∃ t, exec (.cellRemoved c) s = .next t ∧ (t.cell c).present = false ∧ (t.cell c).volts = 0 ∧
        (t.cell c).idValid = false ∧ t.cell (1 - c) = s.settleService.cell (1 - c) ∧ t.host = s.host) ∧
      (v < 260 → ∃ t, exec (.cellLow c v) s = .next t ∧ (t.cell c).volts = v ∧ (t.cell c).present = true ∧
        t.cell (1 - c) = s.settleService.cell (1 - c) ∧ t.host = s.host)) ∧
    (c < 2 → (s.cell c).present = false → exec (.cellRemoved c) s = .next s ∧ exec (.cellLow c v) s = .next s ∧
      (v < 1024 → ∃ t, exec (.cellInserted c raw v) s = .next t ∧ (t.cell c).present = true ∧ (t.cell c).volts = v ∧
        t.cell (1 - c) = s.settleService.cell (1 - c) ∧ t.host = s.host ∧
        (s.logicPowered = true → (t.cell c).identity = fit 16 raw ∧
          (t.cell c).idValid = (crc8 ((fit 16 raw).take 15) == byteAt (fit 16 raw) 15)) ∧
        (s.logicPowered = false → (t.cell c).identity = (s.cell c).identity ∧ (t.cell c).idValid = false)))) ∧
  (∀ s : State,
    (s.tamper.torporPowered = true → (s.logicPowered = true ∨ s.servingCell? ≠ none) →
      exec .torporPowerOn s = .next s) ∧
    (s.tamper.torporPowered = false ∨ (s.logicPowered = false ∧ s.servingCell? = none) →
      ∃ t, exec .torporPowerOn s = .next t ∧ t.tamper.torporPowered = true ∧ t.tamper.latched = true ∧
        t.tamper.latchMonitor = 0x3FF ∧ t.tamper.latchKind = 7 ∧ t.tamper.testRoot = none ∧
        t.tamper.productionRoot = none ∧ t.tamper.auditRoot = none ∧ t.calendar.isSet = false ∧ t.host = s.host)) ∧
  (∀ s : State,
    (s.power.powerGood = true →
      (∃ t, exec (.torporChangeover true) s = .next t ∧ t.tamper.onLogicSide = true ∧ t.host = s.host ∧
        t.power = s.power) ∧
      ∃ t, exec (.torporChangeover false) s = .next t ∧ t.tamper.onLogicSide = false ∧ t.boot.phase = .off ∧
        t.host = {} ∧ t.power.powerGood = false) ∧
    (s.power.powerGood = false → exec (.torporChangeover true) s = .next s ∧
      ∃ t, exec (.torporChangeover false) s = .next t ∧ t.tamper.onLogicSide = false ∧ t.power = s.power))

/-! ## Owl -/

/-- R567 to R572, R574 to R581: events enter the log. A privileged event that opens a fold, and an ordinary event
whose bucket holds a token, become a record at the next granule with the next sequence, which carries the chain, behind a
due CHECKPOINT and, where it would cross the end of the region, behind a PAD; an equal privileged event within 1 s is
folded, an ordinary one without a token is dropped and counted, and a reserved code is not recorded. The page of the
oldest staged record commits when it is due, and counts that are 1 s old are appended. -/
def Obligations.OwlRecordsEvents : Prop :=
  (∀ s : State, s.owl.intake = [] → exec .owlEvent s = .next s) ∧
  (∀ (e : OwlEvent) (q : List OwlEvent) (s : State), s.owl.intake = e :: q →
    (∃ t, exec .owlEvent s = .next t ∧ (∀ x ∈ q, x ∈ t.owl.intake) ∧ t.host = s.host ∧ t.mem = s.mem) ∧
    (owlClass? e.code = none → exec .owlEvent s = .next { s with owl.intake := q }) ∧
    (e.code ≠ 0xE0 ∨ ((∀ r ∈ s.owl.records, r.committed = true) ∧ ∀ f ∈ s.owl.folds, f.2.pending = 0) →
      let fresh := ∀ f, tget? s.owl.folds e.code = some f →
        f.pending = 0 ∧ (f.payload ≠ e.payload ∨ f.appendedTick + ticksPerSecond ≤ s.tick)
      let token := 1000000 ≤ ((tget s.owl.buckets e.code {}).refill s.micros).microTokens
      let n := owlSize e.payload.length
      let isEvent := fun (r : OwlRecord) => r.code = e.code ∧ r.payload = e.payload ∧
        r.privileged = (owlClass? e.code == some .privileged) ∧
        r.repeats = (if owlClass? e.code = some .privileged then 0 else (tget s.owl.buckets e.code {}).dropped) ∧
        r.seconds = e.calendar / 65536 ∧ r.fraction = e.calendar % 65536 ∧ r.timeUnset = e.timeUnset ∧
        r.committed = false
      let clear := fun (g k : Nat) => ∀ x ∈ s.owl.records, x.meets g k = false
      ((owlClass? e.code = some .privileged ∧ fresh) ∨ (owlClass? e.code = some .ordinary ∧ token) →
        (s.owl.checkpointDue = false → s.owl.seqNext % 256 ≠ 0 → s.owl.crosses e.payload.length = false →
          clear s.owl.granuleNext n →
          ∃ t r, exec .owlEvent s = .next t ∧ t.owl.records = s.owl.records ++ [r] ∧ isEvent r ∧
            r.seq = s.owl.seqNext ∧ r.granule = s.owl.granuleNext ∧
            r.chainAfter = Config.sha3 (natLe 32 s.owl.chainNow.toNat ++ r.header ++ r.payload) ∧
            t.owl.chain = r.chainAfter ∧ t.owl.seqNext = s.owl.seqNext + 1) ∧
        (s.owl.checkpointDue = true ∨ s.owl.seqNext % 256 = 0 → s.owl.granuleNext + 4 + n ≤ owlGranules →
          clear s.owl.granuleNext (4 + n) →
          ∃ t c r, exec .owlEvent s = .next t ∧ t.owl.records = s.owl.records ++ [c, r] ∧ c.code = 1 ∧
            c.seq = s.owl.seqNext ∧ c.payload = natLe 8 s.owl.seqNext ++ natLe 32 s.owl.chainNow.toNat ∧
            isEvent r ∧ r.seq = s.owl.seqNext + 1 ∧ r.granule = s.owl.granuleNext + 4 ∧
            t.owl.seqNext = s.owl.seqNext + 2 ∧ t.owl.checkpointDue = false) ∧
        (s.owl.checkpointDue = false → s.owl.seqNext % 256 ≠ 0 → (s.owl.seqNext + 1) % 256 ≠ 0 →
          s.owl.granuleNext < owlGranules → owlGranules < s.owl.granuleNext + n → n ≤ s.owl.granuleNext →
          clear s.owl.granuleNext (owlGranules - s.owl.granuleNext) → clear 0 n →
          ∃ t p r, exec .owlEvent s = .next t ∧ t.owl.records = s.owl.records ++ [p, r] ∧ p.code = 0 ∧
            p.seq = s.owl.seqNext ∧ p.granule = s.owl.granuleNext ∧ isEvent r ∧ r.seq = s.owl.seqNext + 1 ∧
            r.granule = 0 ∧ t.owl.seqNext = s.owl.seqNext + 2)) ∧
      (∀ f, owlClass? e.code = some .privileged → tget? s.owl.folds e.code = some f → f.payload = e.payload →
        s.tick < f.appendedTick + ticksPerSecond →
        ∃ t, exec .owlEvent s = .next t ∧ t.owl.records = s.owl.records ∧ t.owl.seqNext = s.owl.seqNext ∧
          (tget t.owl.folds e.code {}).pending = (SatCount.add repeatMax 1 ⟨f.pending, f.saturated⟩).1.count ∧
          t.owl.folded = (SatCount.add count31 1 s.owl.folded).1) ∧
      (owlClass? e.code = some .ordinary → ¬ token →
        ∃ t, exec .owlEvent s = .next t ∧ t.owl.records = s.owl.records ∧ t.owl.seqNext = s.owl.seqNext ∧
          (tget t.owl.buckets e.code {}).dropped =
            (SatCount.add repeatMax 1 ⟨(tget s.owl.buckets e.code {}).dropped,
              (tget s.owl.buckets e.code {}).dropSaturated⟩).1.count ∧
          t.owl.dropped = (SatCount.add count31 1 s.owl.dropped).1))) ∧
  (∀ s : State,
    (s.owlPageDue = false ∨ s.power.holdupArmed = false ∨ 16 ≤ s.mem.commits.length →
      exec .owlPageCommit s = .next s) ∧
    (s.owlPageDue = true → s.power.holdupArmed = true → s.mem.commits.length < 16 → s.storeAccepts .owl = false →
      exec .owlPageCommit s = .next s.storeRefused) ∧
    (∀ r, s.owl.records.find? (fun x => !x.committed) = some r → s.owlPageDue = true → s.power.holdupArmed = true →
      s.mem.commits.length < 16 → s.storeAccepts .owl = true →
      ∃ t, exec .owlPageCommit s = .next t ∧ (∀ x ∈ t.owl.records, x.lastPage = r.lastPage → x.committed = true) ∧
        t.owl.records.map (·.seq) = s.owl.records.map (·.seq) ∧ t.mem.commits.length = s.mem.commits.length + 1 ∧
        t.owl.seqCommitted ≠ none ∧ t.host = s.host)) ∧
  (∀ s : State, (∀ f ∈ s.owl.folds, f.2.pending = 0) → exec .owlFoldFlush s = .next s) ∧
  (∀ (c : Nat) (f : OwlFold) (s : State), tget? s.owl.folds c = some f → f.pending ≠ 0 →
    f.appendedTick + ticksPerSecond ≤ s.tick →
    ∃ t, exec .owlFoldFlush s = .next t ∧ (tget t.owl.folds c {}).pending = 0 ∧ s.owl.seqNext < t.owl.seqNext ∧
      (∀ x ∈ s.owl.intake, x ∈ t.owl.intake) ∧ t.host = s.host)

/-- R564, R565, R583 to R585, R590: the operations of the EVR_ block. A GO begins the operation; one with an address or a
length that does not fit ends with outcome 0x01, and one while an operation is in progress reports 0x06. A READ copies
whole records from EVR_READ_SEQ on and moves it past them; a sequence that has been overwritten is outcome 0x02, and a
failed write 0x01. A checkpoint and the audit keys need the audit root, without which the outcome is 0x03. SET_TIME sets
the calendar and its floor, or reports why not. The end of an operation that is not in progress does nothing. -/
def Obligations.EvrOperations : Prop :=
  (∀ (go ok : Bool) (s : State), s.evrShown = false → exec (.evrRead go ok) s = .next s ∧
    exec (.checkpointExport go ok) s = .next s ∧ exec (.auditKeys go ok) s = .next s ∧ exec .setTime s = .next s) ∧
  (∀ (ok : Bool) (op : Nat) (c : Instr) (s : State), s.evrShown = true →
    (op, c) ∈ [(1, Instr.evrRead true ok), (2, .checkpointExport true ok), (3, .auditKeys true ok)] →
    let n := s.owl.dstLen.toNat
    let fits := s.owl.dstAddr.toNat % 64 = 0 ∧
      (if op = 1 then n % 16 = 0 ∧ 256 ≤ n ∧ n ≤ 1048576 else if op = 2 then 4848 ≤ n else 2688 ≤ n)
    ∃ t, exec c s = .next t ∧ t = { s with owl := t.owl } ∧ t.owl.records = s.owl.records ∧
      (s.owl.busy = true → t.owl.busy = true ∧ t.owl.runOp = s.owl.runOp ∧ t.owl.outcome = 6 ∧
        t.owl.resultOp = BitVec.ofNat 3 op) ∧
      (s.owl.busy = false → ¬ fits → t.owl.busy = false ∧ t.owl.outcome = 1 ∧ t.owl.resultOp = BitVec.ofNat 3 op) ∧
      (s.owl.busy = false → fits → t.owl.busy = true ∧ t.owl.runOp = BitVec.ofNat 3 op)) ∧
  (∀ (ok : Bool) (s : State), s.evrShown = true →
    (s.evrRuns 1 = false → exec (.evrRead false ok) s = .next s) ∧
    (s.evrRuns 2 = false → exec (.checkpointExport false ok) s = .next s) ∧
    (s.evrRuns 3 = false → exec (.auditKeys false ok) s = .next s) ∧
    (s.evrRuns 1 = true →
      let rs := takeRecords (s.owl.records.filter fun r => decide (s.owl.readSeq.toNat ≤ r.seq)) s.owl.dstLen.toNat
      let written := ok = true ∧ (s.fnSt 0).busMaster = true
      (s.owl.readSeq.toNat < s.owl.oldest → exec (.evrRead false ok) s = .next (s.evrEnd 2 0)) ∧
      (s.owl.oldest ≤ s.owl.readSeq.toNat → rs = [] → exec (.evrRead false ok) s = .next (s.evrEnd 0 0)) ∧
      (s.owl.oldest ≤ s.owl.readSeq.toNat → rs ≠ [] → ¬ written → exec (.evrRead false ok) s = .next (s.evrEnd 1 0)) ∧
      (s.owl.oldest ≤ s.owl.readSeq.toNat → rs ≠ [] → written →
        ∃ t, exec (.evrRead false ok) s = .next t ∧ t.owl.busy = false ∧ t.owl.outcome = 0 ∧
          t.owl.readSeq = s.owl.readSeq + BitVec.ofNat 64 rs.length ∧ t.owl.resultCount = min 0xFFFF rs.length ∧
          t.outputs = s.outputs ++ [.hostWrite 0 s.owl.dstAddr.toNat false (rs.flatMap OwlRecord.stored)] ∧
          t.owl.records = s.owl.records)) ∧
    (s.auditRoot? = none →
      (s.evrRuns 2 = true → exec (.checkpointExport false ok) s = .next (s.evrEnd 3 0)) ∧
      (s.evrRuns 3 = true → exec (.auditKeys false ok) s = .next (s.evrEnd 3 0))) ∧
    (∀ root, s.auditRoot? = some root →
      let written := ok = true ∧ (s.fnSt 0).busMaster = true
      (s.evrRuns 2 = true → ∃ t b, exec (.checkpointExport false ok) s = .next t ∧ t.owl.busy = false ∧
        t.owl.outcome = (if written then 0 else 1) ∧ t.owl.resultOp = 2 ∧ b.length = 4848 ∧
        b.take 8 = [0x54, 0x53, 0x4D, 0x4F, 0x57, 0x4C, 0x43, 0x50] ∧
        t.outputs = s.outputs ++ (if written then [.hostWrite 0 s.owl.dstAddr.toNat false b] else [])) ∧
      (s.evrRuns 3 = true → ∃ t, exec (.auditKeys false ok) s = .next t ∧ t.owl.busy = false ∧
        t.owl.outcome = (if written then 0 else 1) ∧ t.owl.resultOp = 3 ∧
        t.outputs = s.outputs ++ (if written then [.hostWrite 0 s.owl.dstAddr.toNat false
          (fit 96 (auditEcdsa root).2 ++ fit 2592 (auditMldsa root).2)] else []))) ∧
    (s.owl.busy = true → exec .setTime s =
      .next { s with owl.control := 4, owl.outcome := 6, owl.resultOp := 4, owl.resultCount := 0 }) ∧
    (s.owl.busy = false →
      let new := s.owl.timeSet.toNat % 2 ^ 56
      (s.setTimeOutcome new = 0 → ∃ t, exec .setTime s = .next t ∧ t.owl.outcome = 0 ∧ t.owl.resultOp = 4 ∧
        t.calendar.isSet = true ∧ t.calNow = new ∧ t.calendar.floor = new / 65536 ∧ t.calendar.lastSetTick = s.tick ∧
        t.host = s.host) ∧
      (s.setTimeOutcome new ≠ 0 → exec .setTime s = .next
        { s with owl.control := 4, owl.outcome := s.setTimeOutcome new, owl.resultOp := 4, owl.resultCount := 0 })))

/-! ## Woodpecker units and burrow queues -/

/-- R591 to R599, Tables 17-1 and 17-7: the Woodpecker units. CRC_START latches the parameters, sets the register to INIT
and clears the count; a preset loads its parameters, any other PRESET takes the written fields with WIDTH within 8 to 64;
a parameter write takes its value and leaves PRESET 0; a data write feeds its bytes, least significant first; the
alive counter follows a value by 1, counts one that repeats and adds up the values skipped. Only the unit addressed
changes; a unit that does not exist or is not presented takes nothing. -/
def Obligations.CrcUnits : Prop :=
  ∀ (n : Nat) (w : Reg) (x : Word) (s : State),
    (∀ reg, s.crcShown n = false ∨ 3 ≤ reg → exec (.crcParameterWrite n reg x) s = .next s) ∧
    (s.crcShown n = false → ∀ c ∈ [Instr.crcStart n, .crcConfigWrite n w, .crcDataB n w, .crcDataH n w, .crcDataW n w,
      .crcAliveRestart n, .crcAlive n w], exec c s = .next s) ∧
    (s.crcShown n = true →
      let v := s.crcUnit n
      let y : BitVec 4 := w.setWidth 4
      let d := (y - v.aliveLast).toNat
      let becomes := fun (c : Instr) (u : CrcUnit) => ∃ t, exec c s = .next t ∧ t.crcUnit n = u ∧
        (∀ m, m ≠ n → t.crcUnit m = s.crcUnit m) ∧ t.check.queues = s.check.queues ∧ t.mem = s.mem
      let fed := fun (b : Bytes) => { v with reg := b.foldl (crcByte v.latched) v.reg,
                                             bytes := (SatCount.add count31 b.length v.bytes).1 }
      becomes (.crcStart n) { v with latched := v.params, reg := lowBits v.params.width v.params.init, bytes := {} } ∧
      (∀ p, crcPreset? (bits w.toNat 2 0) = some p →
        becomes (.crcConfigWrite n w) { v with preset := bits w.toNat 2 0, params := p }) ∧
      (crcPreset? (bits w.toNat 2 0) = none →
        let width := max 8 (min 64 (bits w.toNat 14 8))
        let p := { v.params with width := width, refin := bit w.toNat 16, refout := bit w.toNat 17 }
        becomes (.crcConfigWrite n w) { v with preset := 0, params := p }) ∧
      becomes (.crcParameterWrite n 0 x) { v with preset := 0, params := { v.params with poly := x } } ∧
      becomes (.crcParameterWrite n 1 x) { v with preset := 0, params := { v.params with init := x } } ∧
      becomes (.crcParameterWrite n 2 x) { v with preset := 0, params := { v.params with xorout := x } } ∧
      becomes (.crcDataB n w) (fed (natLe 1 w.toNat)) ∧ becomes (.crcDataH n w) (fed (natLe 2 w.toNat)) ∧
      becomes (.crcDataW n w) (fed (natLe 4 w.toNat)) ∧
      becomes (.crcAliveRestart n) { v with aliveStarted := false, aliveLast := 0 } ∧
      (v.aliveStarted = false → becomes (.crcAlive n w) { v with aliveStarted := true, aliveLast := y }) ∧
      (v.aliveStarted = true → d = 1 → becomes (.crcAlive n w) { v with aliveLast := y }) ∧
      (v.aliveStarted = true → d = 0 → becomes (.crcAlive n w)
        { v with aliveRepeat := true, repeats := (SatCount.add 0x7FFF 1 v.repeats).1 }) ∧
      (v.aliveStarted = true → 2 ≤ d → becomes (.crcAlive n w)
        { v with aliveLast := y, aliveSkip := true, skipped := (SatCount.add 0x7FFF (d - 1) v.skipped).1 }))

/-- R601 to R608, Tables 17-2, 17-4 and 17-5: the burrow queues. The words of a packet become visible with its LAST word,
and an abandoned packet leaves nothing; a word that meets a full queue drops its packet with a GAP in the queues that drop,
and waits in the others; what is left of a dropped packet is discarded to its LAST word; a read takes the oldest word with
its tag, EMPTY from an empty queue, and a CUT after a reset within a packet; the consumer of a pack link's queue that meets
a GAP or a CUT asks for the missing frames again; a flush empties the queue, and so does a pointer mismatch, of which the
first is captured and after which the queue's owner acts. -/
def Obligations.BurrowQueues : Prop :=
  (∀ (q kind : Nat) (w : Word) (read : Bool) (s : State), 16 ≤ q → exec (.burrowWrite q kind w) s = .next s ∧
    exec (.burrowRead q) s = .next s ∧ exec (.burrowFlush q) s = .next s ∧
    exec (.burrowPointerMismatch q read) s = .next s) ∧
  (∀ (q : Nat) (v : BurrowQueue) (s : State), q < 16 → s.burrow q = v →
    let dropped := v.discarding = true ∨ v.flushedAt = some s.now
    let asks := fun t : State => if q = 12 ∨ q = 13 then t.askAgain (q - 12) else t
    (∀ w : Word, dropped →
      exec (.burrowWrite q 0 w) s = .next (s.setBurrow q { v with partialWords := [], discarding := true }) ∧
      exec (.burrowWrite q 1 w) s = .next (s.setBurrow q { v with partialWords := [], discarding := false })) ∧
    (∀ w : Word, ¬ dropped → 2 ≤ v.free q →
      exec (.burrowWrite q 0 w) s = .next (s.setBurrow q { v with partialWords := v.partialWords ++ [w] }) ∧
      exec (.burrowWrite q 1 w) s = .next (s.setBurrow q { v with
        words := v.words ++ packetWords (s.now + unitsPerFabricCycle) (v.partialWords ++ [w]), partialWords := [] })) ∧
    (∀ w, exec (.burrowWrite q 2 w) s = .next (s.setBurrow q { v with partialWords := [], discarding := false })) ∧
    (∀ (w : Word) (last : Bool), ¬ dropped → v.free q < 2 →
      (burrowDrops q = true → ∃ t, exec (.burrowWrite q last.toNat w) s = .next t ∧ t.burrow q =
          { v with partialWords := [], words := placeGap (s.now + unitsPerFabricCycle) v.words, discarding := !last } ∧
        t.check.drops = (SatCount.add count31 1 s.check.drops).1 ∧ (∀ p, p ≠ q → t.burrow p = s.burrow p)) ∧
      (burrowDrops q = false → exec (.burrowWrite q last.toNat w) s = .next s)) ∧
    (v.cutDue = false → v.words = [] → exec (.burrowRead q) s = .next (s.emit (.burrow q 0 0))) ∧
    (v.cutDue = true → exec (.burrowRead q) s = .next (asks
      ((s.setBurrow q { v with cutDue := false, midPacket := false }).emit (.burrow q 6 0)))) ∧
    (∀ w ws, v.cutDue = false → v.words = w :: ws →
      (w.visibleAt ≤ s.now →
        let t := (s.setBurrow q { v with words := ws, midPacket := w.tag == tagData }).emit (.burrow q w.tag.toNat w.data)
        exec (.burrowRead q) s = .next (if w.tag = tagGap then asks t else t)) ∧
      (s.now < w.visibleAt → w.tag ≠ tagGap ∨ w.data.toNat ≤ 1 →
        exec (.burrowRead q) s = .next (s.emit (.burrow q 0 0))) ∧
      (s.now < w.visibleAt → w.tag = tagGap → 1 < w.data.toNat → exec (.burrowRead q) s = .next (asks
        ((s.setBurrow q { v with words := { w with data := 1 } :: ws }).emit (.burrow q 4 (w.data - 1)))))) ∧
    (∃ t, exec (.burrowFlush q) s = .next t ∧ (t.burrow q).words = [] ∧ (t.burrow q).partialWords = [] ∧
      (t.burrow q).cutDue = (v.cutDue || v.midPacket) ∧ (t.burrow q).flushedAt = some s.now ∧
      (∀ p, p ≠ q → t.burrow p = s.burrow p) ∧ t.mem = s.mem ∧ t.host = s.host) ∧
    (∀ read, ∃ u : State, exec (.burrowPointerMismatch q read) s = .next (u.burrowOwner q) ∧ (u.burrow q).words = [] ∧
      (u.burrow q).partialWords = [] ∧ (u.burrow q).cutDue = (v.cutDue || v.midPacket) ∧
      (s.check.faultCaptured = false → u.check.faultCaptured = true ∧ u.check.faultQueue = q ∧ u.check.faultSide = read) ∧
      (s.check.faultCaptured = true → s.check.faultAt ≠ s.now → u.check.faultQueue = s.check.faultQueue ∧
        u.check.faultSide = s.check.faultSide) ∧
      u.check.resets = (SatCount.add count31 1 s.check.resets).1 ∧ u.host = s.host ∧
      (14 ≤ q → u.burrowOwner q = u)))

/-! ## Pack pairs -/

/-- R404, R612 to R616, R644 to R647, Tables 18-5 and 18-7: the pack links, the pairing exchange and synchronisation. A lane
is in SYNC after three valid headers and lost after four bad ones; frames are accepted in the order of SEQ, a gap asks
again, an acknowledgement frees frames and a request sends them again; a pairing frame that fails an item of R612 is
refused for 1 s, one that passes begins the exchange, and its end makes the half send or receive the items, or, in step,
gives a new key; the serving half holds admission, starts in-step execution once it holds no slot, and gives up holding
after 100 ms. A frame for a link that does not take frames, or whose tag does not hold, does nothing. -/
def Obligations.PackLinksAndPairing : Prop :=
  (∀ (l n : Nat) (ok : Bool) (v : Lane) (s : State), (s.link l).lane n = v →
    (s.packLive = false ∨ s.links.contains l = false ∨ 2 ≤ n → exec (.frameHeader l n ok) s = .next s) ∧
    (s.packLive = true → s.links.contains l = true → n < 2 →
    ∃ t, exec (.frameHeader l n ok) s = .next t ∧
      (v.state = .hunt → (t.link l).lane n = if ok then { state := .presync, good := 1 } else v) ∧
      (v.state = .presync → ok = true → (t.link l).lane n =
        if v.good + 1 < 3 then { v with good := v.good + 1 } else { state := .sync }) ∧
      (v.state = .presync → ok = false → (t.link l).lane n = {}) ∧
      (v.state = .sync → ok = true → (t.link l).lane n = { v with bad := 0 } ∧ (t.link l).errors = (s.link l).errors) ∧
      (v.state = .sync → ok = false → (t.link l).errors = (SatCount.add count31 1 (s.link l).errors).1 ∧
        (t.link l).lane n = if v.bad + 1 < 4 then { v with bad := v.bad + 1 } else {}))) ∧
  (∀ (l seq ack : Nat) (b : Bytes) (tag : Bool) (s : State),
    (s.linkTakes l = false ∨ tag = false → exec (.dataFrame l seq ack b tag) s = .next s ∧
      exec (.idleFrame l ack tag) s = .next s ∧ exec (.retransmissionRequest l seq ack tag) s = .next s) ∧
    (976 < b.length → exec (.dataFrame l seq ack b tag) s = .next s) ∧
    (s.linkTakes l = true →
      (b.length ≤ 976 →
        (seq = (s.link l).recvSeq → ∃ t, exec (.dataFrame l seq ack b true) s = .next t ∧
          (t.link l).recvSeq = seq + 1 ∧ t.outputs = s.outputs ∧ t.host = s.host) ∧
        ((s.link l).recvSeq < seq → ∃ t, exec (.dataFrame l seq ack b true) s = .next t ∧
          (t.link l).recvSeq = (s.link l).recvSeq ∧
          t.outputs = s.outputs ++ [.packFrame l 3 (s.link l).recvSeq (s.link l).recvSeq []]) ∧
        (seq < (s.link l).recvSeq → ∃ t, exec (.dataFrame l seq ack b true) s = .next t ∧
          (t.link l).recvSeq = (s.link l).recvSeq ∧ t.outputs = s.outputs)) ∧
      exec (.idleFrame l ack true) s = .next (s.takeAck l ack) ∧
      ((s.link l).sendSeq < ack → s.takeAck l ack = s) ∧
      (ack ≤ (s.link l).sendSeq → (∀ f ∈ ((s.takeAck l ack).link l).unacked, ack ≤ f.1) ∧
        ((s.takeAck l ack).link l).recvSeq = (s.link l).recvSeq ∧ (s.takeAck l ack).outputs = s.outputs ∧
        (s.takeAck l ack).host = s.host) ∧
      (let u := (s.takeAck l ack).link l
       let again := u.unacked.filter fun f => decide (seq ≤ f.1)
       ∃ t, exec (.retransmissionRequest l seq ack true) s = .next t ∧ t.host = s.host ∧
        t.outputs = s.outputs ++ again.map (fun f => .packFrame l 1 f.1 u.recvSeq f.2) ∧
        (t.link l).unacked = u.unacked ∧ (t.link l).xmit = (u.xmit + again.length) % 2 ^ 48 ∧
        (t.link l).errors = (SatCount.add count31 again.length (s.link l).errors).1))) ∧
  (∀ (l : Nat) (o : PairOffer) (c : Bytes) (s : State),
    let frame := exec (.pairingFrame l o.device o.pairId o.names o.publics o.lifeCycle o.digest o.state o.pref c) s
    (s.linkTakes l = false → frame = .next s) ∧
    (s.linkTakes l = true → s.leads = false → s.pair.phase ≠ .standby → s.pairable = false → frame = .next s) ∧
    (s.linkTakes l = true → s.leads = false → s.pair.phase ≠ .standby → s.pairable = true →
      let phase := if s.servesAlone then s.pair.phase else .pairing
      (∀ i, s.pairRefusal? o = some i → ∃ t, frame = .next t ∧ t.pair.refusal = i ∧
        t.pair.retryAt = s.now + unitsPerSecond ∧ t.pair.exchange = false ∧ t.outputs = s.outputs) ∧
      (s.pairRefusal? o = none → s.pair.exchange = false → s.drawNow 32 = none →
        ∃ t, frame = .next t ∧ t.pair.refusal = 0 ∧ t.pair.exchange = false ∧ t.pair.phase = s.pair.phase ∧
          t.outputs = s.outputs) ∧
      (∀ rnd u, s.pairRefusal? o = none → s.pair.exchange = false → s.drawNow 32 = some (rnd, u) →
        match Config.mlkemEncaps 0x3E (o.publics.drop 97) rnd with
        | none => ∃ t, frame = .next t ∧ t.pair.refusal = 0 ∧
          t.pair.exchange = false ∧ t.pair.phase = s.pair.phase ∧ t.outputs = s.outputs
        | some x => c.length ≠ 1568 → ∃ t, frame = .next t ∧
          t.pair.refusal = 0 ∧ t.pair.exchange = true ∧ t.pair.cipherOut = x.1 ∧ t.pair.secretOut = x.2 ∧
          t.pair.phase = phase ∧ t.outputs.length = s.outputs.length + 1) ∧
      (s.pairRefusal? o = none → s.pair.exchange = true → c.length ≠ 1568 → ∃ t, frame = .next t ∧
        t.pair.refusal = 0 ∧ t.pair.exchange = true ∧ t.pair.phase = phase ∧ t.outputs = s.outputs) ∧
      (s.pairRefusal? o = none → c.length = 1568 →
        (s.pair.exchange = true ∨
          ∃ rnd u x, s.drawNow 32 = some (rnd, u) ∧ Config.mlkemEncaps 0x3E (o.publics.drop 97) rnd = some x) →
        let key? := s.openIdentity.bind fun i => Config.ecdh 0x21 i.p384Private (o.publics.take 97)
        ∃ t, frame = .next t ∧ t.pair.refusal = 0 ∧
          if key? = none then t.pair.exchange = true ∧ t.pair.pairKey = s.pair.pairKey ∧ t.pair.phase = phase
          else t.pair.exchange = false ∧ t.pair.pairKey.length = 32 ∧
            (t.pair.syncing = true ∨ t.pair.phase = .syncing))) ∧
    (s.linkTakes l = true → s.leads = true ∨ s.pair.phase = .standby →
      (o.device ≠ s.pair.peer.device ∨ c.length ≠ 1568 → frame = .next s) ∧
      (o.device = s.pair.peer.device → c.length = 1568 → s.pair.exchange = true →
        ∃ t, frame = .next t ∧ t.pair.phase = s.pair.phase ∧ t.host = s.host ∧
          match s.openIdentity.bind fun i => Config.ecdh 0x21 i.p384Private (s.pair.peer.publics.take 97) with
          | none => t = s
          | some _ => t.pair.exchange = false ∧ t.pair.pairKey.length = 32) ∧
      (o.device = s.pair.peer.device → c.length = 1568 → s.pair.exchange = false →
        (s.drawNow 32 = none → frame = .next s) ∧
        ∀ rnd u, s.drawNow 32 = some (rnd, u) →
          match Config.mlkemEncaps 0x3E (s.pair.peer.publics.drop 97) rnd with
          | none => frame = .next s
          | some x => ∃ t, frame = .next t ∧ t.pair.phase = s.pair.phase ∧ t.host = s.host ∧
              t.outputs.length = s.outputs.length + 1 ∧
              match s.openIdentity.bind fun i => Config.ecdh 0x21 i.p384Private (s.pair.peer.publics.take 97) with
              | none => t.pair.exchange = true ∧ t.pair.cipherOut = x.1
              | some _ => t.pair.exchange = false ∧ t.pair.pairKey.length = 32))) ∧
  (∀ s : State,
    (s.pair.refusal = 0 ∨ s.packLive = false ∨ s.pairable = false → exec .pairingRetry s = .next s) ∧
    (s.pair.refusal ≠ 0 → s.packLive = true → s.pairable = true →
      exec .pairingRetry s = .next { s with outputs := s.outputs ++
        (s.links.filter fun l => (s.link l).up).map fun l => .packFrame l 4 0 0 s.offer })) ∧
  (∀ (kind key : Nat) (b : Bytes) (s : State),
    (s.pair.phase = .syncing → exec (.syncItem kind key b) s =
      .next { s with pair.syncItems := putItem s.pair.syncItems ⟨kind, key, b⟩ }) ∧
    (s.pair.phase ≠ .syncing → exec (.syncItem kind key b) s = .next s)) ∧
  (∀ s : State,
    let sent := s.servesAlone = true ∧ s.pair.syncing = true ∧ s.pair.syncHold = false ∧ s.pair.syncRetryAt ≤ s.now ∧
      (s.link s.streamLink).waiting = []
    let quiet := s.servesAlone = true ∧ s.pair.syncHold = true ∧ s.host.slots = [] ∧ s.anyLinkUp = true
    let late := s.pair.syncHold = true ∧ s.host.slots ≠ [] ∧ s.pair.syncHoldAt + 100 * unitsPerMilli ≤ s.now
    (sent → exec .syncItemsSent s = .next { s.cancelAll with pair.syncHold := true, pair.syncHoldAt := s.now }) ∧
    (¬ sent → exec .syncItemsSent s = .next s) ∧
    (quiet → ∃ t, exec .syncQuiesced s = .next t ∧ t.pair.phase = .active ∧ t.pair.inStep = true ∧
      t.pair.startedAt = s.now ∧ t.pair.epoch = 0 ∧ t.pair.admissionNext = 0 ∧ t.pair.requestNext = 1 ∧
      t.pair.syncHold = false ∧ t.quill.ceremony.phase = .idle ∧ t.host = s.host) ∧
    (¬ quiet → exec .syncQuiesced s = .next s) ∧
    (late → ∃ t, exec .syncHoldTimeout s = .next t ∧ t.pair.syncHold = false ∧
      t.pair.syncRetryAt = s.now + unitsPerSecond ∧ t.host.slots = s.host.slots ∧ t.mem = s.mem) ∧
    (¬ late → exec .syncHoldTimeout s = .next s))

/-- R111, R405, R406, R617 to R620, R624, R633, R639, Table 18-1: the records that a standby takes. ADMIT puts the command
into a slot and moves the mirrored SQ head past its entry; DRAW keeps its random bytes, or counts those of a command that the
standby does not run; DOORBELL mirrors tail and head; STATE takes a master-key record, an enrolment or a result; EPOCH ends
the epoch; GPIO drives the outputs; DELTA is validated as an operation of the standby's own, or rejected while one is in
progress. A half that is no standby takes none of them, and a record of a command that it does not hold does nothing. -/
def Obligations.StandbyFollowsTheActive : Prop :=
  (∀ (a f p kind : Nat) (b i : Bytes) (ws : List (Nat × Nat)) (v : BitVec 16) (s : State), s.standby = false →
    exec (.admitRecord a f p b i) s = .next s ∧ exec (.draw a b) s = .next s ∧ exec (.doorbell f a p) s = .next s ∧
    exec (.state a kind b) s = .next s ∧ exec (.epoch a p ws) s = .next s ∧ exec (.gpio v) s = .next s ∧
    exec (.delta b) s = .next s) ∧
  (∀ s : State, s.standby = true →
    (∀ a f p b i c, s.commandAt? a = some c → exec (.admitRecord a f p b i) s = .next s) ∧
    (∀ a f p b i, s.commandAt? a = none →
      let u := s.makeRoom f (parseEntry b).tag
      (lowest? Config.slots (fun k => (u.slot? k).isNone) = none → exec (.admitRecord a f p b i) s = .next u) ∧
      (∀ k, lowest? Config.slots (fun k => (u.slot? k).isNone) = some k →
        ∃ t sl, exec (.admitRecord a f p b i) s = .next t ∧ t.slot? k = some sl ∧ sl.fn = f ∧ sl.entry = parseEntry b ∧
          sl.ringIndex = p ∧ sl.admittedAsStandby = true ∧
          (∃ c ∈ t.pair.commands, c.admission = a ∧ c.slot = k ∧ c.fn = f) ∧
          (t.ring f).sqHead = (p + 1) % (s.ring f).sqSize)) ∧
    (∀ a b kind, s.commandAt? a = none → exec (.draw a b) s = .next s ∧ exec (.state a kind b) s = .next s) ∧
    (∀ a b c, s.commandAt? a = some c →
      let adopts := ∃ sl, s.slot? c.slot = some sl ∧ standbyAdopts sl.entry.opcode = true ∧ sl.entry.persId = 0
      let put := fun (c' : PairCommand) => exec (.draw a b) s = .next { s with
        pair.commands := s.pair.commands.map fun x => if x.admission = a then c' else x }
      (adopts → put { c with drawn := c.drawn + b.length }) ∧
      (¬ adopts → put { c with drawBytes := c.drawBytes ++ b, drawRefused := c.drawRefused || b.isEmpty })) ∧
    (∀ f tail head, exec (.doorbell f tail head) s = .next (s.setRing f { s.ring f with sqTail := tail, cqHead := head })) ∧
    (∀ a b c sl, s.commandAt? a = some c → s.slot? c.slot = some sl →
      (parseKeyRec? b = none → exec (.state a 1 b) s = .next s) ∧
      (∀ r, parseKeyRec? b = some r → ∃ t, exec (.state a 1 b) s = .next t ∧
        (t.keySlot sl.entry.master).record = some { r with generation := (s.keySlot sl.entry.master).generation } ∧
        t.host = s.host ∧ ∀ x, x ≠ sl.entry.master → t.keySlot x = s.keySlot x) ∧
      (let kept := s.quill.enrolments.filter fun e =>
         !(e.domain == leField b 0x20 2 && e.custodian == leField b 0x22 1)
       (allZero (b.take 32) = true → ∃ t, exec (.state a 2 b) s = .next t ∧ t.quill.enrolments = kept ∧
         t.host = s.host ∧ t.sett = s.sett) ∧
       (∀ e, allZero (b.take 32) = false → parseEnrolment? b = some e → ∃ t, exec (.state a 2 b) s = .next t ∧
         t.quill.enrolments = kept ++ [e] ∧ t.host = s.host ∧ t.sett = s.sett)) ∧
      (sl.phase ≠ .ended → ∃ t, exec (.state a 3 b) s = .next t ∧
        (t.slot? c.slot).map (fun x => (x.phase, x.status, x.result)) =
          some (.ended, BitVec.ofNat 16 (leField b 0 2), b.drop (7 + leField b 6 1))) ∧
      (sl.phase = .ended → exec (.state a 3 b) s = .next s) ∧
      (∀ kind, kind = 0 ∨ 3 < kind → exec (.state a kind b) s = .next s)) ∧
    (∀ last ws, (∃ t, exec (.epoch s.pair.epoch last ws) s = .next t ∧ t.pair.epoch = s.pair.epoch + 1 ∧
        t.pair.epochStart = s.now ∧ t.pair.epochFirst = (last + 1) % 2 ^ 64) ∧
      ∀ e, e ≠ s.pair.epoch → exec (.epoch e last ws) s = .next s) ∧
    (∀ v, exec (.gpio v) s = .next { s with pins.gpioOut := v }) ∧
    (∀ b, ∃ t, exec (.delta b) s = .next t ∧ t = { s with lodge.ctl := t.lodge.ctl, owl := t.owl } ∧
      (s.lodge.ctl.phase ≠ .idle → t.lodge.ctl.phase = s.lodge.ctl.phase ∧ t.lodge.ctl.resultStatus = 0x0543 ∧
        t.lodge.ctl.resultStep = 0) ∧
      (s.lodge.ctl.phase = .idle →
        match s.judgeDelta b with
        | .rejected _ _ => t.lodge.ctl.phase = .idle ∧ t.lodge.ctl.resultStatus = 0x0543 ∧ t.lodge.ctl.resultStep = 0
        | .accepted l =>
          if 32 ≤ (s.lodge.record.current.map (·.chain)).getD 0 then
            t.lodge.ctl.phase = .idle ∧ t.lodge.ctl.resultStatus = 0x0543
          else t.lodge.ctl.phase = .flashWrite ∧ t.lodge.ctl.parsed = some l ∧ t.lodge.ctl.image = b)))

/-- R345, R617, R622 to R642, Table 18-5: confirmation, the lease and switch-over. A RESULT or a digest that differs, and a
RESULT that has not come in 10 ms, are divergences; every millisecond ends an epoch. The active asks for its lease,
the standby grants it, and a grant extends it to LEASE_MS after the request; an active whose lease expires fences, or
serves alone with its witness; a standby takes over at a RELEASE or after the lapse, and a switch fences the active. A half
that fences closes its ceremony. Outside these conditions each of the events does nothing. -/
def Obligations.LeaseAndSwitchover : Prop :=
  (∀ (a : Nat) (b : Bytes) (s : State),
    (s.leads = false ∨ s.commandAt? a = none → exec (.result a b) s = .next s) ∧
    (∀ c, s.leads = true → s.commandAt? a = some c →
      (c.ownHash = none ∨ c.ownHash = some b → exec (.result a b) s = .next { s with
        pair.commands := s.pair.commands.map fun x => if x.admission = a then { x with peerHash := some b } else x }) ∧
      (∀ h, c.ownHash = some h → h ≠ b → ∃ t, exec (.result a b) s = .next t ∧ t.pair.divergentEpoch = c.epoch))) ∧
  (∀ (e : Nat) (b : Bytes) (s : State),
    (s.leads = false → s.standby = false → exec (.digest e b) s = .next s) ∧
    (s.leads = true ∨ s.standby = true → tget? s.pair.digests e = none →
      exec (.digest e b) s = .next { s with pair.peerDigests := tset s.pair.peerDigests e b }) ∧
    (∀ d, s.leads = true ∨ s.standby = true → tget? s.pair.digests e = some d →
      ∃ t, exec (.digest e b) s = .next t ∧
        (d = b → t.host = s.host ∧ t.pair.phase = s.pair.phase ∧ tget? t.pair.digests e = none) ∧
        (d ≠ b → t.pair.divergentEpoch = e ∧ (s.standby = true → t.pair.phase = .detached)))) ∧
  (∀ s : State,
    let late := fun c : PairCommand => !c.settled && !c.diverged && c.ownHash.isSome && c.peerHash.isNone &&
      decide (c.endedAt + 10 * unitsPerMilli ≤ s.now)
    (s.leads = false ∨ s.anyLinkUp = false ∨ s.pair.commands.find? late = none → exec .resultTimeout s = .next s) ∧
    (∀ c, s.leads = true → s.anyLinkUp = true → s.pair.commands.find? late = some c →
      ∃ t, exec .resultTimeout s = .next t ∧ t.pair.divergentEpoch = c.epoch) ∧
    (s.leads = false ∨ s.now < s.pair.epochStart + unitsPerMilli → exec .epochBoundary s = .next s) ∧
    (s.leads = true → s.pair.epochStart + unitsPerMilli ≤ s.now →
      ∃ t, exec .epochBoundary s = .next t ∧ t.pair.epoch = s.pair.epoch + 1 ∧ t.pair.epochStart = s.now ∧
        t.pair.epochFirst = s.pair.admissionNext ∧ t.pair.wrote = []) ∧
    (s.pair.phase ≠ .active ∨ s.now < s.pair.lastRequestAt + s.packSec.renewMs * unitsPerMilli →
      exec .leaseRenewal s = .next s) ∧
    (s.pair.phase = .active → s.pair.lastRequestAt + s.packSec.renewMs * unitsPerMilli ≤ s.now →
      ∃ t, exec .leaseRenewal s = .next t ∧ t.pair.lastRequestAt = s.now ∧
        t.pair.requestNext = s.pair.requestNext + 1 ∧ tget? t.pair.requests s.pair.requestNext = some s.now ∧
        t.host = s.host)) ∧
  (∀ (l r : Nat) (s : State),
    (s.linkTakes l = false ∨ 2 ^ 32 ≤ r ∨ (s.standby = false ∧ s.pair.phase ≠ .syncing) →
      exec (.leaseReq l r) s = .next s) ∧
    (s.linkTakes l = true → r < 2 ^ 32 →
      (s.standby = true → ∃ t, exec (.leaseReq l r) s = .next t ∧ t.pair.lastGrantAt = s.now ∧
        t.outputs = s.outputs ++ [.packRecord l 0x21 (natLe 4 r)] ∧ t.pair.phase = .standby ∧ t.host = s.host) ∧
      (s.pair.phase = .syncing → ∃ t, exec (.leaseReq l r) s = .next t ∧ t.pair.phase = .standby ∧
        t.pair.startedAt = s.now ∧ t.pair.lastGrantAt = s.now ∧ t.pair.epoch = 0))) ∧
  (∀ (r : Nat) (s : State),
    (s.leads = false ∨ tget? s.pair.requests r = none → exec (.grant r) s = .next s) ∧
    (∀ at', s.leads = true → tget? s.pair.requests r = some at' →
      exec (.grant r) s = .next { s with pair.leaseUntil := max s.pair.leaseUntil (at' + s.packSec.lease) })) ∧
  (∀ s : State,
    (s.leads = false ∨ s.now < s.leaseEnd → exec .leaseExpiry s = .next s) ∧
    (s.leads = true → s.leaseEnd ≤ s.now →
      (s.witnessed = false → ∃ t, exec .leaseExpiry s = .next t ∧ t.pair.phase = .fenced ∧ t.pair.inStep = false ∧
        t.quill.ceremony.phase = .idle ∧ t.pair.lastCause = (if s.packSec.witness = 1 then 4 else 1)) ∧
      (s.witnessed = true → ∃ t, exec .leaseExpiry s = .next t ∧ t.pair.phase = .solo ∧ t.pair.lastCause = 5))) ∧
  (∀ (found : List (Nat × List Nat)) (lists : List (Nat × Bytes)) (s : State),
    let lapsed := s.pair.lastGrantAt + s.packSec.lapse ≤ s.now
    (s.standby = false ∨ ¬ lapsed ∨ (s.packSec.witness = 1 ∧ s.witnessed = false) →
      exec (.leaseLapseTakeover found lists) s = .next s) ∧
    (s.standby = true → lapsed → s.packSec.witness ≠ 1 ∨ s.witnessed = true →
      ∃ t, exec (.leaseLapseTakeover found lists) s = .next t ∧ t.pair.phase = .active ∧ t.pair.inStep = false ∧
        t.quill.ceremony.phase = .idle ∧ t.pair.lastCause = (if s.packSec.witness = 1 then 4 else 1))) ∧
  (∀ (cause last : Nat) (is : List (Nat × Nat)) (found : List (Nat × List Nat)) (lists : List (Nat × Bytes)) (s : State),
    let release := exec (.release cause last is found lists) s
    (256 ≤ cause ∨ 2 ^ 64 ≤ last → release = .next s) ∧
    (cause < 256 → last < 2 ^ 64 →
      (s.standby = true → cause = 2 ∨ cause = 3 → ∃ t, release = .next t ∧ t.pair.phase = .active ∧
        t.pair.inStep = false ∧ t.pair.lastCause = cause ∧ t.quill.ceremony.phase = .idle) ∧
      (s.standby = true → cause ≠ 2 → cause ≠ 3 → ∃ t, release = .next t ∧ t.pair.phase = .detached ∧
        t.pair.divergentEpoch = s.pair.epoch) ∧
      (s.leads = true → ∃ t, release = .next t ∧ t.pair.phase = .solo ∧ t.pair.inStep = false) ∧
      (s.pair.phase = .active → s.pair.inStep = false → release = .next s) ∧
      (s.pair.phase = .syncing → ∃ t, release = .next t ∧ t.pair.phase = .detached ∧ t.pair.syncItems = []) ∧
      (s.pair.phase = .solo → release =
        .next { s with pair.syncing := false, pair.syncHold := false, pair.syncItems := [] }) ∧
      (s.pair.phase ∈ [.none, .detached, .pairing, .fenced] → release = .next s))) ∧
  (∀ s : State,
    (s.pair.phase ≠ .active ∨ s.presented 0 packBase = false → exec .packSwitch s = .next s) ∧
    (s.pair.phase = .active → s.presented 0 packBase = true →
      ∃ t, exec .packSwitch s = .next t ∧ t.pair.phase = .fenced ∧ t.pair.inStep = false ∧ t.pair.lastCause = 2 ∧
        t.quill.ceremony.phase = .idle)) ∧
  (∀ (key : Reg) (s : State),
    let solo := s.presented 0 packBase = true ∧ key = 0x50107296 ∧ s.pair.tampered = false ∧
      (s.pair.phase = .detached ∨ s.pair.phase = .fenced)
    (solo → ∃ t, exec (.packSolo key) s = .next t ∧ t.pair.phase = .solo ∧ t.pair.lastCause = 5 ∧ t.mem = s.mem) ∧
    (¬ solo → exec (.packSolo key) s = .next s)) ∧
  (∀ (level : Bool) (s : State),
    let since := if level = s.pair.witness then s.pair.witnessSince else s.now
    (level = true ∨ s.packSec.witness ≠ 1 ∨ s.pair.phase ≠ .solo →
      exec (.packWitnessChange level) s = .next { s with pair.witness := level, pair.witnessSince := since }) ∧
    (level = false → s.packSec.witness = 1 → s.pair.phase = .solo →
      ∃ t, exec (.packWitnessChange level) s = .next t ∧ t.pair.witness = false ∧ t.pair.phase = .fenced ∧
        t.quill.ceremony.phase = .idle)) ∧
  (∀ s : State,
    let held := s.pair.phase = .detached ∧ s.witnessed = true ∧ s.pair.tampered = false ∧
      s.pair.witnessSince + s.packSec.lapse ≤ s.now
    (held → ∃ t, exec .witnessHoldExpiry s = .next t ∧ t.pair.phase = .solo ∧ t.pair.lastCause = 5 ∧ t.mem = s.mem) ∧
    (¬ held → exec .witnessHoldExpiry s = .next s))

/-- R627, R628, Table 18-2: the exercise. On an active half the command runs at once and gives the result of Table 18-2, with
WAKE once what sleeps is awake; on another half, or while an exercise runs, it ends with outcome 0x02 or 0x03. Every
EXERCISE_INTERVAL the active runs one of its own and records it, and wakes what sleeps first. -/
def Obligations.PairExercise : Prop :=
  (∀ (k : Nat) (sl : Slot) (cs : List Nat) (b : BitVec 32) (h : BitVec 16) (ks : List Nat) (s : State),
    let run := fun u : State => (u.exercise ⟨cs, b, h, ks⟩).2.succeed k (u.exercise ⟨cs, b, h, ks⟩).1
    let command := exec (.pairExercise k cs b h ks) s
    (s.exercising = true → s.pair.exerciseSlot = some k →
      (s.asleep = [] → command = .next (run { s with pair.exerciseRunning := false })) ∧
      (s.asleep ≠ [] → command = .next s)) ∧
    (s.exercising = false ∨ s.pair.exerciseSlot ≠ some k → s.slot? k = some sl → sl.phase = .ready → sl.fn = 0 →
      sl.entry.persId = 0 → sl.setId = none → sl.entry.opcode = 0x0600 → sl.entry.streamPart = 0 →
      sl.entry.inLength = 0 → paramZero sl.entry [0] = true →
      (2 ≤ sl.entry.p 0 → command = .next (s.failCmd k 0x0106)) ∧
      (sl.entry.p 0 < 2 →
        (s.pair.phase ≠ .active → sl.admittedAsStandby = false → command = .next (s.succeed k ([2] ++ zeros 27))) ∧
        (s.pair.phase = .active ∨ sl.admittedAsStandby = true →
          (s.exercising = true → command = .next (s.succeed k ([3] ++ zeros 27))) ∧
          (s.exercising = false → sl.entry.p 0 = 0 ∨ s.asleep = [] → command = .next (run s)) ∧
          (s.exercising = false → sl.entry.p 0 = 1 → s.asleep ≠ [] → ∃ t, command = .next t ∧
            t.pair.exerciseRunning = true ∧ t.pair.exerciseSlot = some k ∧
            (t.slot? k).map (fun x => (x.phase, x.entry)) = some (.waiting, sl.entry)))))) ∧
  (∀ (x : ExerciseFound) (s : State), (s.exercise x).1.length = 28 ∧ s.exercise {} = (zeros 28, s) ∧
    (x.keys = [] → (s.exercise x).2 = s) ∧
    let cores := (List.range Config.cores).filter fun c => x.cores.contains c && s.awake (domSkulk (c / 4))
    leField (s.exercise x).1 2 2 = cores.length ∧ (cores ≠ [] → leField (s.exercise x).1 0 1 = 1)) ∧
  (∀ (cs : List Nat) (b : BitVec 32) (h : BitVec 16) (ks : List Nat) (s : State),
    let due := s.pair.exerciseAt + s.packSec.exerciseInterval * unitsPerSecond ≤ s.now
    let recorded := fun o : Option Nat => ∃ t, exec (.exerciseIntervalExpiry cs b h ks) s = .next t ∧
      t.pair.exerciseAt = s.now ∧
      ∃ e ∈ t.owl.intake, e.code = 0x103 ∧ ∀ n, o = some n → leField e.payload 0 1 = n
    (s.packSec.exerciseInterval = 0 ∨ s.pair.phase ≠ .active →
      exec (.exerciseIntervalExpiry cs b h ks) s = .next s) ∧
    (s.packSec.exerciseInterval ≠ 0 → s.pair.phase = .active →
      (s.exercising = true → s.pair.exerciseSlot = none →
        (s.asleep = [] → recorded none) ∧ (s.asleep ≠ [] → exec (.exerciseIntervalExpiry cs b h ks) s = .next s)) ∧
      (s.exercising = true → s.pair.exerciseSlot ≠ none → due → recorded (some 3)) ∧
      (s.exercising = false → due →
        (s.asleep = [] → recorded none) ∧
        (s.asleep ≠ [] → ∃ t, exec (.exerciseIntervalExpiry cs b h ks) s = .next t ∧ t.pair.exerciseRunning = true ∧
          t.pair.exerciseSlot = none)) ∧
      (s.exercising = false ∨ s.pair.exerciseSlot ≠ none → ¬ due →
        exec (.exerciseIntervalExpiry cs b h ks) s = .next s)))

/-! ## Power and pins -/

/-- R375, R454, R455, R648 to R674, R678, Tables 19-2 to 19-4: power and the switched domains. A valid frame of the isolated
link is answered and gives voltage and current, a bad one is counted; a lost link, an undervoltage, an overvoltage and a
converter fault raise the warning with their cause, which drops every slot and gates every domain; the line's return
resets the device. A domain gates when it is idle or asked to and unclaimed, waits while it is claimed, wakes 20 µs after
it is asked to, and a request that waits 50 ms is refused; a skulk's larder is zero after either. A request that the lodge
does not permit ends with outcome 3, and one for no domain with 4. -/
def Obligations.PowerAndDomains : Prop :=
  (∀ (crc follows : Bool) (cv ma : Nat) (s : State),
    (s.power.powerGood = false → exec (.isolatedLinkFrame crc follows cv ma) s = .next s) ∧
    (s.power.powerGood = true → crc = true → follows = true →
      ∃ t, exec (.isolatedLinkFrame crc follows cv ma) s = .next t ∧ t.power.lineCentivolts = cv ∧
      t.power.lineMilliamps = ma ∧ t.power.linkUp = true ∧ t.power.linkValidAt = s.now ∧ t.host = s.host ∧
      t.outputs = s.outputs ++ [.isolated s.power.modeInForce s.targetNow (s.power.linkSeq + 1)]) ∧
    (s.power.powerGood = true → crc = false ∨ follows = false →
      ∃ t, exec (.isolatedLinkFrame crc follows cv ma) s = .next t ∧ t.outputs = s.outputs ∧
      t.power.lineCentivolts = s.power.lineCentivolts ∧ t.power.linkValidAt = s.power.linkValidAt ∧
      t.power.linkErrors = (SatCount.add count31 1 s.power.linkErrors).1)) ∧
  (∀ (cv : Nat) (s : State),
    let warns := fun (c : Instr) (cause : Nat) => ∃ t, exec c s = .next t ∧ t.power.warning = true ∧
      t.power.lastWarning = cause ∧ t.host.slots = [] ∧ t.mem.fenced = true ∧ t.mem.fencedAt = s.now ∧
      (∀ d, t.awake d = false) ∧ t.pair.phase = (if s.pair.phase = .active then .fenced else s.pair.phase)
    let silent := s.power.linkUp = true ∧ s.power.linkValidAt + 50 * unitsPerMicro ≤ s.now
    (s.power.powerGood = true → s.power.warning = false →
      (cv < 3400 → warns (.lineUndervoltage cv) 1) ∧ (6200 < cv → warns (.lineOvervoltage cv) 2) ∧
      warns .converterFault 4 ∧
      (silent → warns .isolatedLinkLost 3 ∧ ∀ t, exec .isolatedLinkLost s = .next t → t.power.linkUp = false)) ∧
    (3400 ≤ cv → exec (.lineUndervoltage cv) s = .next s) ∧ (cv ≤ 6200 → exec (.lineOvervoltage cv) s = .next s) ∧
    (¬ silent → exec .isolatedLinkLost s = .next s) ∧
    (s.power.powerGood = false ∨ s.power.warning = true → exec (.lineUndervoltage cv) s = .next s ∧
      exec (.lineOvervoltage cv) s = .next s ∧ exec .converterFault s = .next s ∧
      (silent → exec .isolatedLinkLost s = .next { s with power.linkUp := false }))) ∧
  (∀ s : State,
    (s.power.warning = true → s.power.powerGood = true →
      ∃ t, exec .lineReturn s = .next t ∧ t.boot.phase = (if s.pins.jtag.holds then .off else .booting) ∧
        t.boot.cause = 0 ∧ t.power.warning = false ∧ t.power.powerGood = true ∧ t.host = {}) ∧
    (s.power.warning = false ∨ s.power.powerGood = false → exec .lineReturn s = .next s) ∧
    (let ended := s.power.target ≠ s.power.targetGoal ∧ s.targetNow = s.power.targetGoal
     (ended → exec .powerRampDone s =
       .next { s with power.target := s.power.targetGoal, power.modeInForce := s.power.mode }) ∧
     (¬ ended → exec .powerRampDone s = .next s))) ∧
  (∀ (d : Nat) (bad : Option (Nat × Nat)) (s : State),
    let zeroed := fun t : State => if d < 24 then ∀ i, i < 0x80000 → memByte t.mem.mem (larderAddr d i) = 0
      else t.mem = s.mem
    let gates := fun (c : Instr) => ∃ t, exec c s = .next t ∧ t.awake d = false ∧ t.gatePending d = false ∧
      (t.dom d).gatingUntil = some (s.now + 20 * unitsPerMicro) ∧ zeroed t ∧
      ∀ e, e ≠ d → t.awake e = s.awake e
    (s.idleGate d = true → gates (.idleGateExpiry d)) ∧
    (s.idleGate d = false → s.idleLong d = true → exec (.idleGateExpiry d) s = .next (s.startClears d)) ∧
    (s.idleLong d = false → exec (.idleGateExpiry d) s = .next s) ∧
    (s.gatePending d = true → s.awake d = true → s.claimed d = false → gates (.deferredGate d)) ∧
    (s.gatePending d = true → s.awake d = true → s.claimed d = true →
      exec (.deferredGate d) s = .next (s.startClears d)) ∧
    (s.gatePending d = false ∨ s.awake d = false → exec (.deferredGate d) s = .next s) ∧
    ((s.startClears d).host = s.host ∧ (s.startClears d).mem = s.mem ∧ (s.startClears d).power = s.power) ∧
    ((s.dom d).gatingUntil = none → exec (.gateComplete d bad) s = .next s) ∧
    ((s.dom d).gatingUntil ≠ none → ∃ t, exec (.gateComplete d bad) s = .next t ∧ (t.dom d).gatingUntil = none ∧
      (bad = none → t.mem = s.mem ∧ t.host = s.host) ∧ (bad ≠ none → t.mem.verifyFail = true)) ∧
    ((∀ w, (s.dom d).wakingUntil = some w → s.now < w) ∨ (s.dom d).gatingUntil ≠ none →
      exec (.domainWakeDone d bad) s = .next s) ∧
    (∀ w, (s.dom d).wakingUntil = some w → w ≤ s.now → (s.dom d).gatingUntil = none →
      ∃ t, exec (.domainWakeDone d bad) s = .next t ∧ t.awake d = true ∧ (t.dom d).wakingUntil = none ∧
        (t.dom d).idleSince = s.now ∧ (bad = none → t.mem = s.mem) ∧ (bad ≠ none → t.mem.verifyFail = true) ∧
        (24 ≤ d → d < 32 → bad = none → ∀ e ∈ groupEngines false (d - 24),
          (t.engine false e).store0 = (List.range s.boot.microcode.length).zip s.boot.microcode ∧
          (t.engine false e).store1 = (t.engine false e).store0)) ∧
    (s.pwrShown = false → exec (.pwrWake d) s = .next s ∧ exec (.pwrGate d) s = .next s ∧
      exec (.pwrCancel d) s = .next s) ∧
    (s.pwrShown = true → 36 ≤ d → exec (.pwrWake d) s = .next (s.reqResult 4 (d % 64) 1) ∧
      exec (.pwrGate d) s = .next (s.reqResult 4 (d % 64) 2) ∧ exec (.pwrCancel d) s = .next (s.reqResult 4 (d % 64) 3)) ∧
    (s.pwrShown = true → d < 36 → s.reqPermitted d = false → exec (.pwrWake d) s = .next (s.reqResult 3 d 1)) ∧
    (s.pwrShown = true → d < 36 → s.reqPermitted d = false ∨ s.alwaysOn d = true →
      exec (.pwrGate d) s = .next (s.reqResult 3 d 2)) ∧
    (∀ o n op, s.reqResult o n op = { s with power.reqOutcome := o, power.reqDomain := n, power.reqOp := op }) ∧
    (s.pwrShown = true → s.reqPermitted d = true →
      (∃ t, exec (.pwrWake d) s = .next t ∧ t.gatePending d = false ∧ t.awake d = s.awake d ∧
        t.power.reqOutcome = 0 ∧ t.power.reqDomain = d ∧ t.power.reqOp = 1 ∧
        (s.awake d = true → (t.dom d).idleSince = s.now ∧ t.mem = s.mem) ∧
        (s.waking d = true → (t.dom d).wakingUntil = (s.dom d).wakingUntil) ∧
        (s.gated d = true → zeroed t ∧ (t.dom d).wakingUntil =
          some (max s.now ((s.dom d).gatingUntil.getD 0) + 20 * unitsPerMicro))) ∧
      (s.alwaysOn d = false →
        (s.gated d = true → exec (.pwrGate d) s = .next (s.reqResult 0 d 2)) ∧
        (s.waking d = true ∨ s.claimed d = true → s.gated d = false → ∃ t, exec (.pwrGate d) s = .next t ∧
          t.awake d = s.awake d ∧ (t.dom d).gateRequestedAt = some ((s.dom d).gateRequestedAt.getD s.now) ∧
          t.power.reqOutcome = 1 ∧ t.power.reqDomain = d ∧ t.power.reqOp = 2 ∧ t.mem = s.mem) ∧
        (s.awake d = true → s.waking d = false → s.claimed d = false → gates (.pwrGate d)))) ∧
    (s.pwrShown = true → d < 36 →
      (s.gatePending d = true → ∃ t, exec (.pwrCancel d) s = .next t ∧ t.gatePending d = false ∧
        t.power.reqOutcome = 5 ∧ t.power.reqDomain = d ∧ t.power.reqOp = 3 ∧ t.awake d = s.awake d) ∧
      (s.gatePending d = false → exec (.pwrCancel d) s = .next (s.reqResult 0 d 3))) ∧
    ((∀ r, (s.dom d).gateRequestedAt = some r → s.now < r + 50000 * unitsPerMicro) →
      exec (.gateRequestTimeout d) s = .next s) ∧
    (∀ r, (s.dom d).gateRequestedAt = some r → r + 50000 * unitsPerMicro ≤ s.now →
      ∃ t, exec (.gateRequestTimeout d) s = .next t ∧ t.gatePending d = false ∧ t.power.reqOutcome = 2 ∧
        t.power.refused = s.power.refused ||| BitVec.ofNat 64 (2 ^ d) ∧ t.awake d = s.awake d ∧
        ∃ e ∈ t.owl.intake, e.code = 0x110)) ∧
  (∀ (v : Reg) (w : Word) (s : State),
    (s.pwrShown = false ∨ s.power.locked = true →
      exec (.pwrModeWrite v) s = .next s ∧ exec (.pwrAlwaysOnWrite w) s = .next s) ∧
    (s.pwrShown = true → s.power.locked = false →
      (∃ t, exec (.pwrModeWrite v) s = .next t ∧ t.power.mode = v.getLsbD 0 ∧
        t.power.ceiling = max 400 (min 1100 (bits v.toNat 26 16)) ∧ t = { s with power := t.power } ∧
        (s.power.mode ≠ v.getLsbD 0 → t.power.modeInForce = (v.getLsbD 0 || s.power.modeInForce) ∧
          t.power.rampFrom = s.now)) ∧
      ∃ t, exec (.pwrAlwaysOnWrite w) s = .next t ∧ t.power.alwaysOn = w &&& s.enabledDomains ∧
        ∀ d, d < 34 → t.alwaysOn d = true → s.alwaysOn d = false → t.gatePending d = false ∧
          (s.gated d = true → s.lodge.inForce.isSome = true → s.domEnabled d = true → t.waking d = true)))

/-- R117, R119, R409, R484, R494, R633, R684 to R687, R697, Table 4-1: pins, the boundary-scan port and the link. The GPIO
registers take their writes while the half acts, and the active sends the outputs to its standby; IDCODE gives the identity,
EXTEST, CLAMP and HIGHZ hold the device in a reset in BLANK and MAKER_TEST; the link comes up with its speed and width; a
configuration request is answered with Configuration Request Retry Status while the device boots, and after that reads its
item or writes it. Entry to D3hot ends the admission of entries in flight and holds admission, and the return to D0 keeps
every ring and wakes the host domain under a lodge. -/
def Obligations.PinsAndLink : Prop :=
  (∀ (v : Reg) (s : State),
    let takes := s.devWritable = true ∧ s.acts = true
    (takes → s.tamper.latched = false → exec (.devGpioDirWrite v) s = .next { s with pins.gpioDir := v.setWidth 16 }) ∧
    (¬ takes ∨ s.tamper.latched = true → exec (.devGpioDirWrite v) s = .next s) ∧
    (takes → s.leads = false → exec (.devGpioOutWrite v) s = .next { s with pins.gpioOut := v.setWidth 16 }) ∧
    (takes → s.leads = true → ∃ t, exec (.devGpioOutWrite v) s = .next t ∧ t.pins.gpioOut = v.setWidth 16 ∧
      t.outputs = s.outputs ++ [.packRecord s.streamLink 6 (natLe 2 (v.setWidth 16 : BitVec 16).toNat)] ∧
      t.host = s.host) ∧
    (¬ takes → exec (.devGpioOutWrite v) s = .next s)) ∧
  (∀ (code : Nat) (s : State),
    let i := s.jtagApplied (jtagInstr code)
    (s.power.powerGood = false ∨ s.power.warning = true → exec (.jtagInstruction code) s = .next s) ∧
    (s.power.powerGood = true → s.power.warning = false →
      (i.holds = true → s.pins.jtag.holds = true → exec (.jtagInstruction code) s = .next { s with pins.jtag := i }) ∧
      (i.holds = true → s.pins.jtag.holds = false → ∃ t, exec (.jtagInstruction code) s = .next t ∧ t.pins.jtag = i ∧
        t.boot.phase = .off ∧ t.boot.cause = 3 ∧ t.host = {} ∧ t.antler.state = s.antler.state) ∧
      (i.holds = false → s.pins.jtag.holds = true → exec (.jtagInstruction code) s =
        .next (State.restart .booting 3 true { s with pins.jtag := i })) ∧
      (i.holds = false → s.pins.jtag.holds = false → exec (.jtagInstruction code) s =
        .next { s with pins.jtag := i, outputs := s.outputs ++ if i = .idcode then [.idcode idcode] else [] })) ∧
    (s.jtagApplied .idcode = .idcode ∧ s.jtagApplied .sample = .sample ∧ s.jtagApplied .bypass = .bypass) ∧
    ∀ j, j.holds = true →
      s.jtagApplied j = if s.antler.state = .blank ∨ s.antler.state = .makerTest then j else .bypass) ∧
  (∀ (speed width : Nat) (s : State),
    let trained := s.boot.phase ≠ .off ∧ s.boot.phase ≠ .halted ∧ 1 ≤ speed ∧ speed ≤ 5 ∧
      width ∈ ([1, 2, 4, 8, 16] : List Nat)
    let up : State := { s with host.linkUp := true, host.linkSpeed := speed, host.linkWidth := width }
    (¬ trained → exec (.pcieLinkUp speed width) s = .next s) ∧
    (trained → s.boot.phase ≠ .booting ∨ s.now < s.boot.start + 60 * unitsPerMilli →
      exec (.pcieLinkUp speed width) s = .next up) ∧
    (trained → s.boot.phase = .booting → s.boot.start + 60 * unitsPerMilli ≤ s.now →
      exec (.pcieLinkUp speed width) s = .next { up with boot.phase := .configured })) ∧
  (∀ (f i : Nat) (v : Word) (s : State),
    let request := exec (.configurationRequest f i v) s
    let u : State := if s.retryEnds then { s with boot.phase := .configured } else s
    let done := u.emit (.config f false 0)
    (s.host.linkUp = false ∨ s.boot.phase = .off ∨ s.boot.phase = .halted → request = .next s) ∧
    (s.host.linkUp = true → s.boot.phase = .booting → s.now < s.boot.start + 60 * unitsPerMilli →
      request = .next (s.emit (.config f true 0))) ∧
    (s.host.linkUp = true → s.boot.phase ≠ .off → s.boot.phase ≠ .halted →
      s.boot.phase ≠ .booting ∨ s.boot.start + 60 * unitsPerMilli ≤ s.now →
      (u.configurable f = false → request = .next u) ∧
      (u.configurable f = true →
        (∀ n, 16 ≤ i → u.configValue f i = some n →
          request = .next (u.emit (.config f false (BitVec.ofNat 64 n)))) ∧
        (16 ≤ i → u.configValue f i = none → ∃ t x, request = .next t ∧ t.outputs = s.outputs ++ [.config f false x] ∧
          t.host = s.host) ∧
        (i = 0 → ∃ t, request = .next t ∧ (t.fnSt f).busMaster = v.getLsbD 0 ∧ t.outputs = done.outputs ∧
          ∀ g, g ≠ f → t.fnSt g = s.fnSt g) ∧
        (i = 1 → request = .next (done.setFn f { s.fnSt f with relaxed := v.getLsbD 0 })) ∧
        (i = 2 → v.getLsbD 0 = true → request = exec (if f = 0 then .pfFlr else .vfFlr f) done) ∧
        (i = 2 → v.getLsbD 0 = false → request = .next done) ∧
        (i = 3 → f = 0 → s.cub.vfEnable = false → s.boot.phase ≠ .recovery → v.toNat ≤ 2047 →
          request = .next { done with cub.numVfs := v.toNat }) ∧
        (i = 3 → f ≠ 0 ∨ s.cub.vfEnable = true ∨ s.boot.phase = .recovery ∨ 2047 < v.toNat → request = .next done) ∧
        (i = 4 → f = 0 → s.boot.phase ≠ .recovery → v.getLsbD 0 = true →
          request = .next { done with cub.vfEnable := true }) ∧
        (i = 4 → f = 0 → s.boot.phase ≠ .recovery → v.getLsbD 0 = false → request = exec .vfEnableClear done) ∧
        (i = 4 → f ≠ 0 ∨ s.boot.phase = .recovery → request = .next done) ∧
        (i = 5 → f = 0 → v.toNat % 4 = 3 → request = exec .d3hotEntry done) ∧
        (i = 5 → f = 0 → v.toNat % 4 = 0 → request = exec .d0Entry done) ∧
        (i = 5 → f ≠ 0 ∨ v.toNat % 4 = 1 ∨ v.toNat % 4 = 2 → request = .next done) ∧
        (i = 6 → 128 * 2 ^ v.toNat ≤ 512 →
          request = .next (done.setFn f { s.fnSt f with maxPayload := 128 * 2 ^ v.toNat })) ∧
        (i = 7 → 128 * 2 ^ v.toNat ≤ 4096 →
          request = .next (done.setFn f { s.fnSt f with maxRead := 128 * 2 ^ v.toNat })) ∧
        (i = 8 → request = .next (done.setFn f
          { s.fnSt f with nonFatal := (s.fnSt f).nonFatal && !v.getLsbD 0 })) ∧
        (9 ≤ i → i < 16 → request = .next done)))) ∧
  (∀ s : State,
    (∃ t, exec .d3hotEntry s = .next t ∧ t.host.d3hot = true ∧ t.admitting = false ∧ t = { s with host := t.host } ∧
      (∀ f, (t.ring f).enabled = (s.ring f).enabled ∧ (t.ring f).sqTail = (s.ring f).sqTail ∧
        (t.ring f).cqHead = (s.ring f).cqHead ∧ (t.ring f).cqWrite = (s.ring f).cqWrite) ∧
      ∀ k sl, s.slot? k = some sl → (t.slot? k).map (fun x => (x.phase, x.entry)) = some (sl.phase, sl.entry)) ∧
    (s.host.d3hot = false → exec .d0Entry s = .next s) ∧
    (s.host.d3hot = true → ∃ t, exec .d0Entry s = .next t ∧ t.host = { s.host with d3hot := false } ∧
      t.mem = s.mem ∧ t.outputs = s.outputs ∧ t.cub = s.cub ∧ t.sett = s.sett ∧
      (s.gated domHost = true → s.lodge.inForce.isSome = true → (t.dom domHost).wakingUntil =
        some (max s.now ((s.dom domHost).gatingUntil.getD 0) + 20 * unitsPerMicro)) ∧
      (s.gated domHost = false ∨ s.lodge.inForce = none → t.power = s.power)))
end

