-- ==== Sys2Proof/Laws/Cores.lean ====
section
/-! SUPPORT. Laws of the transaction cores: what issuing an instruction is when its word lies at the program counter, and
what a register-only instruction, a load, a store, a branch and an exception leave. -/

namespace Sys2Proof.Machine

theorem running?_slot {c k : Nat} {sl : Slot} {s : State} (h : s.running? c = some (k, sl)) :
    (s.core c).slot = some k ∧ s.slot? k = some sl ∧ sl.phase = .running ∧ sl.setId.isSome = true ∧
      sl.ctx.padUntil = none := by
  unfold State.running? at h
  split at h
  · cases h
  · split at h
    · cases h
    · split at h
      · rename_i hc _ _ hs hp
        cases h
        exact ⟨hc, hs, hp.1, hp.2.1, Option.isNone_iff_eq_none.1 hp.2.2⟩
      · cases h

theorem modSlot_of_some {k : Nat} {f : Slot → Slot} {sl : Slot} {s : State} (h : s.slot? k = some sl) :
    s.modSlot k f = s.setSlot k (f sl) := by simp [State.modSlot, h]

theorem modCtx_of_some {k : Nat} {f : Ctx → Ctx} {sl : Slot} {s : State} (h : s.slot? k = some sl) :
    s.modCtx k f = s.withCtx k sl (f sl.ctx) := by
  simp [State.modCtx, modSlot_of_some h, State.withCtx]

theorem State.Issues.slot {s : State} {c k : Nat} {sl : Slot} {w : BitVec 32} {op : Nat} {zero : BitVec 32}
    (h : s.Issues c k sl w op zero) : s.slot? k = some sl := (running?_slot h.1).2.1

/-- An instruction that issues does its own work and nothing before it. -/
theorem State.Issues.issue {s : State} {c k : Nat} {sl : Slot} {w : BitVec 32} {op : Nat} {zero : BitVec 32}
    (h : s.Issues c k sl w op zero) (f : Nat → Slot → State → State) : s.issue c w op zero f = f k sl s := by
  obtain ⟨h1, h2, h3, h4, h5, h6⟩ := h
  have : ¬ (0x100000 ≤ sl.ctx.pc.toNat) := by omega
  unfold State.issue
  simp [h1, h3, h4, h5, h6, this]

/-- A register-only instruction that issues gives its command the registers it computes and the next program counter. -/
theorem State.Issues.issueReg {s : State} {c k : Nat} {sl : Slot} {w : BitVec 32} {op : Nat} {zero : BitVec 32}
    (h : s.Issues c k sl w op zero) (f : Ctx → Ctx) : s.issueReg c w op zero f = s.withCtx k sl (f sl.ctx).step := by
  rw [State.issueReg, h.issue, modCtx_of_some h.slot]

/-- A register-only instruction that writes one general register. -/
theorem State.Issues.issueReg_setG {s : State} {c k : Nat} {sl : Slot} {w : BitVec 32} {op : Nat} {zero : BitVec 32}
    (h : s.Issues c k sl w op zero) (i : Nat) (v : Ctx → Word) :
    s.issueReg c w op zero (fun x => x.setG i (v x)) = s.wroteG k sl i (v sl.ctx) := by
  rw [h.issueReg]
  simp only [State.wroteG, Ctx.step]
  congr 2
  simp only [Ctx.setG]
  split <;> rfl

theorem Ctx.rg_setG (x : Ctx) (v : Word) (i j : Nat) (h0 : 0 < i) (hi : i < 32) :
    (x.setG i v).rg j = if j = i then v else x.rg j := by
  unfold Ctx.setG Ctx.rg
  have : i ≠ 0 := by omega
  simp only [this, if_false]
  by_cases hj : j = i
  · subst hj; simp [this, hi]
  · simp only [hj, if_false]
    split
    · rfl
    · rw [Vector.getElem?_setIfInBounds_ne (Ne.symm hj)]

end Sys2Proof.Machine
end

