-- ==== Sys2Proof/Laws/Memory.lean ====
section
/-! SUPPORT. Laws of the sparse tables and of the sparse memory: a read after a write, every other place untouched, and the
canonical form kept by every operation on memory. -/

namespace Sys2Proof.Machine

/-! ## Tables -/

@[simp] theorem tget?_tset_self {α : Type} (t : Tbl α) (n : Nat) (v : α) : tget? (tset t n v) n = some v := by
  induction t with
  | nil => simp [tset, tget?]
  | cons e t ih =>
    obtain ⟨k, w⟩ := e
    simp only [tset]
    split
    · simp [tget?]
    · split
      · simp [tget?]
      · simp [tget?, ih]; omega

@[simp] theorem tget?_tset_ne {α : Type} (t : Tbl α) (n m : Nat) (v : α) (h : m ≠ n) :
    tget? (tset t n v) m = tget? t m := by
  induction t with
  | nil => simp [tset, tget?]; omega
  | cons e t ih =>
    obtain ⟨k, w⟩ := e
    simp only [tset]
    split
    · simp [tget?]; omega
    · split
      · subst_vars
        have : ¬ k = m := fun x => h x.symm
        simp [tget?, this]
      · simp [tget?, ih]

theorem tget?_tset {α : Type} (t : Tbl α) (n m : Nat) (v : α) :
    tget? (tset t n v) m = if m = n then some v else tget? t m := by
  split
  · subst_vars; simp
  · simp [*]

@[simp] theorem tget_tset_self {α : Type} (t : Tbl α) (n : Nat) (v d : α) : tget (tset t n v) n d = v := by
  simp [tget]

@[simp] theorem tget_tset_ne {α : Type} (t : Tbl α) (n m : Nat) (v d : α) (h : m ≠ n) :
    tget (tset t n v) m d = tget t m d := by
  simp [tget, h]

@[simp] theorem tget?_terase_self {α : Type} (t : Tbl α) (n : Nat) : tget? (terase t n) n = none := by
  induction t with
  | nil => rfl
  | cons e t ih =>
    obtain ⟨k, w⟩ := e
    by_cases h : k = n
    · subst h; simpa [terase] using ih
    · simp [terase, h, tget?]; simpa [terase] using ih

@[simp] theorem tget?_terase_ne {α : Type} (t : Tbl α) (n m : Nat) (h : m ≠ n) :
    tget? (terase t n) m = tget? t m := by
  induction t with
  | nil => rfl
  | cons e t ih =>
    obtain ⟨k, w⟩ := e
    by_cases hk : k = n
    · subst hk
      have : ¬ k = m := fun x => h x.symm
      simpa [terase, tget?, this] using ih
    · rw [terase, List.filter_cons_of_pos (by simpa using hk)]
      simp only [tget?]
      split
      · rfl
      · exact ih

/-! ## One byte of memory -/

@[simp] theorem memByte_memPut_self (m : List Host.Cell) (a : Nat) (v : Byte) : memByte (memPut m a v) a = v := by
  unfold memByte memPut
  split <;> simp [*]

@[simp] theorem memByte_memPut_ne (m : List Host.Cell) (a b : Nat) (v : Byte) (h : b ≠ a) :
    memByte (memPut m a v) b = memByte m b := by
  unfold memByte memPut
  split <;> simp [*]

/-! ## Strings -/

/-- A write of a string leaves every byte outside it as it was. -/
theorem memByte_memPutBytes_outside (b : Bytes) : ∀ (m : List Host.Cell) (a x : Nat), x < a ∨ a + b.length ≤ x →
    memByte (memPutBytes m a b) x = memByte m x := by
  induction b with
  | nil => intros; rfl
  | cons v t ih =>
    intro m a x h
    simp only [List.length_cons] at h
    rw [memPutBytes, ih _ _ _ (by omega), memByte_memPut_ne _ _ _ _ (by omega)]

/-- A write of a string writes each of its bytes. -/
theorem memByte_memPutBytes_inside (b : Bytes) : ∀ (m : List Host.Cell) (a i : Nat), i < b.length →
    memByte (memPutBytes m a b) (a + i) = byteAt b i := by
  induction b with
  | nil => intro m a i h; simp at h
  | cons v t ih =>
    intro m a i h
    rw [memPutBytes]
    cases i with
    | zero => rw [memByte_memPutBytes_outside _ _ _ _ (by omega)]; simp [byteAt]
    | succ i =>
      have := ih (memPut m a v) (a + 1) i (by simpa using h)
      rw [show a + (i + 1) = a + 1 + i by omega, this]; simp [byteAt]

/-- A string that was written reads back. -/
theorem memBytes_memPutBytes (m : List Host.Cell) (a : Nat) (b : Bytes) : memBytes (memPutBytes m a b) a b.length = b := by
  apply List.ext_getElem
  · simp [memBytes]
  · intro i h₁ h₂
    simp [memBytes, memByte_memPutBytes_inside b m a i h₂, byteAt, h₂]

/-! ## The canonical form -/

theorem wf_nil : Memory.wf [] = true := rfl

/-- The canonical form, read off a list. -/
theorem wf_iff (m : List Host.Cell) : Memory.wf m = true ↔ (m.map Prod.fst).Pairwise (· < ·) ∧ ∀ c ∈ m, c.2 ≠ 0 := by
  simp [Memory.wf]

/-- Dropping entries keeps the canonical form. -/
theorem wf_filter {m : List Host.Cell} (p : Host.Cell → Bool) (h : Memory.wf m = true) : Memory.wf (m.filter p) = true := by
  rw [wf_iff] at h ⊢
  refine ⟨h.1.sublist ((List.filter_sublist).map _), fun c hc => h.2 c (List.mem_of_mem_filter hc)⟩

theorem wf_terase {m : List Host.Cell} (a : Nat) (h : Memory.wf m = true) : Memory.wf (terase m a) = true :=
  wf_filter _ h

theorem wf_memWipe {m : List Host.Cell} (lo hi : Nat) (h : Memory.wf m = true) : Memory.wf (memWipe m lo hi) = true :=
  wf_filter _ h

/-- An entry of a table after a write is the one written or was there. -/
theorem mem_tset {α : Type} {t : Tbl α} {n : Nat} {v : α} {e : Nat × α} (h : e ∈ tset t n v) : e = (n, v) ∨ e ∈ t := by
  induction t with
  | nil => simpa [tset] using h
  | cons x t ih =>
    obtain ⟨k, w⟩ := x
    simp only [tset] at h
    split at h
    · simpa using h
    · split at h
      · simp only [List.mem_cons] at h ⊢
        tauto
      · simp only [List.mem_cons] at h ⊢
        rcases h with h | h
        · exact Or.inr (Or.inl h)
        · have := ih h
          tauto

theorem wf_tset {m : List Host.Cell} (a : Nat) (v : Byte) (hv : v ≠ 0) (h : Memory.wf m = true) :
    Memory.wf (tset m a v) = true := by
  induction m with
  | nil => simp [tset, Memory.wf]; exact hv
  | cons x t ih =>
    obtain ⟨k, w⟩ := x
    rw [wf_iff] at h
    obtain ⟨hp, hz⟩ := h
    simp only [List.map_cons, List.pairwise_cons, List.mem_map, forall_exists_index, and_imp,
      forall_apply_eq_imp_iff₂] at hp
    have ht : Memory.wf t = true := by
      rw [wf_iff]; exact ⟨hp.2, fun c hc => hz c (List.mem_cons_of_mem _ hc)⟩
    have hw : w ≠ 0 := hz (k, w) List.mem_cons_self
    simp only [tset]
    split
    · rw [wf_iff]
      refine ⟨?_, ?_⟩
      · simp only [List.map_cons, List.pairwise_cons, List.mem_cons, List.mem_map, forall_eq_or_imp,
          forall_exists_index, and_imp, forall_apply_eq_imp_iff₂]
        exact ⟨⟨by omega, fun c hc => by have := hp.1 c hc; omega⟩, hp.1, hp.2⟩
      · intro c hc
        rcases List.mem_cons.1 hc with rfl | hc
        · exact hv
        · exact hz c hc
    · split
      · subst_vars
        rw [wf_iff]
        refine ⟨?_, ?_⟩
        · simp only [List.map_cons, List.pairwise_cons, List.mem_map, forall_exists_index, and_imp,
            forall_apply_eq_imp_iff₂]
          exact hp
        · intro c hc
          rcases List.mem_cons.1 hc with rfl | hc
          · exact hv
          · exact hz c (List.mem_cons_of_mem _ hc)
      · have hi := (wf_iff _).1 (ih ht)
        rw [wf_iff]
        refine ⟨?_, ?_⟩
        · simp only [List.map_cons, List.pairwise_cons, List.mem_map, forall_exists_index, and_imp,
            forall_apply_eq_imp_iff₂]
          refine ⟨fun c hc => ?_, hi.1⟩
          rcases mem_tset hc with rfl | hc
          · show k < a; omega
          · exact hp.1 c hc
        · intro c hc
          rcases List.mem_cons.1 hc with rfl | hc
          · exact hw
          · exact hi.2 c hc

theorem wf_memPut {m : List Host.Cell} (a : Nat) (v : Byte) (h : Memory.wf m = true) : Memory.wf (memPut m a v) = true := by
  unfold memPut
  split
  · exact wf_terase a h
  · exact wf_tset a v ‹_› h

theorem wf_memPutBytes (b : Bytes) : ∀ (m : List Host.Cell) (a : Nat), Memory.wf m = true →
    Memory.wf (memPutBytes m a b) = true := by
  induction b with
  | nil => intro m a h; exact h
  | cons v t ih => intro m a h; exact ih _ _ (wf_memPut a v h)

/-- A wipe leaves nothing in its range and everything outside it. -/
theorem memByte_memWipe (m : List Host.Cell) (lo hi x : Nat) :
    memByte (memWipe m lo hi) x = if lo ≤ x ∧ x < hi then 0 else memByte m x := by
  unfold memByte memWipe
  induction m with
  | nil => simp [tget?]
  | cons e t ih =>
    obtain ⟨k, w⟩ := e
    by_cases hk : k < lo ∨ hi ≤ k
    · rw [List.filter_cons_of_pos (by simpa using hk)]
      simp only [tget?]
      by_cases hx : k = x
      · subst hx
        rw [if_pos rfl, if_neg (by omega), if_pos rfl]
      · rw [if_neg hx, if_neg hx, ih]
    · rw [List.filter_cons_of_neg (by simpa using hk)]
      rw [ih]
      by_cases hx : k = x
      · subst hx
        rw [if_pos (by omega), if_pos (by omega)]
      · simp [tget?, hx]

end Sys2Proof.Machine
end

