-- ==== Sys2Proof/Laws/State.lean ====
section
/-! SUPPORT. Laws of State: its parts through folds and choices, and what each table of it holds after an update. -/

namespace Sys2Proof.Machine

/-! ## The parts of State through a fold and through a choice -/

@[simp] theorem foldl_now {α : Type} (g : State → α → State) (h : ∀ s x, (g s x).now = s.now) (l : List α) (s : State) :
    (l.foldl g s).now = s.now := by
  induction l generalizing s with
  | nil => rfl
  | cons a l ih => simp [ih, h]
@[simp] theorem foldl_lodge {α : Type} (g : State → α → State) (h : ∀ s x, (g s x).lodge = s.lodge) (l : List α) (s : State) :
    (l.foldl g s).lodge = s.lodge := by
  induction l generalizing s with
  | nil => rfl
  | cons a l ih => simp [ih, h]
@[simp] theorem foldl_host {α : Type} (g : State → α → State) (h : ∀ s x, (g s x).host = s.host) (l : List α) (s : State) :
    (l.foldl g s).host = s.host := by
  induction l generalizing s with
  | nil => rfl
  | cons a l ih => simp [ih, h]
@[simp] theorem foldl_cub {α : Type} (g : State → α → State) (h : ∀ s x, (g s x).cub = s.cub) (l : List α) (s : State) :
    (l.foldl g s).cub = s.cub := by
  induction l generalizing s with
  | nil => rfl
  | cons a l ih => simp [ih, h]
@[simp] theorem foldl_sett {α : Type} (g : State → α → State) (h : ∀ s x, (g s x).sett = s.sett) (l : List α) (s : State) :
    (l.foldl g s).sett = s.sett := by
  induction l generalizing s with
  | nil => rfl
  | cons a l ih => simp [ih, h]
@[simp] theorem foldl_quill {α : Type} (g : State → α → State) (h : ∀ s x, (g s x).quill = s.quill) (l : List α) (s : State) :
    (l.foldl g s).quill = s.quill := by
  induction l generalizing s with
  | nil => rfl
  | cons a l ih => simp [ih, h]
@[simp] theorem foldl_compute {α : Type} (g : State → α → State) (h : ∀ s x, (g s x).compute = s.compute) (l : List α) (s : State) :
    (l.foldl g s).compute = s.compute := by
  induction l generalizing s with
  | nil => rfl
  | cons a l ih => simp [ih, h]
@[simp] theorem foldl_rng {α : Type} (g : State → α → State) (h : ∀ s x, (g s x).rng = s.rng) (l : List α) (s : State) :
    (l.foldl g s).rng = s.rng := by
  induction l generalizing s with
  | nil => rfl
  | cons a l ih => simp [ih, h]
@[simp] theorem foldl_mem {α : Type} (g : State → α → State) (h : ∀ s x, (g s x).mem = s.mem) (l : List α) (s : State) :
    (l.foldl g s).mem = s.mem := by
  induction l generalizing s with
  | nil => rfl
  | cons a l ih => simp [ih, h]
@[simp] theorem foldl_boot {α : Type} (g : State → α → State) (h : ∀ s x, (g s x).boot = s.boot) (l : List α) (s : State) :
    (l.foldl g s).boot = s.boot := by
  induction l generalizing s with
  | nil => rfl
  | cons a l ih => simp [ih, h]
@[simp] theorem foldl_antler {α : Type} (g : State → α → State) (h : ∀ s x, (g s x).antler = s.antler) (l : List α) (s : State) :
    (l.foldl g s).antler = s.antler := by
  induction l generalizing s with
  | nil => rfl
  | cons a l ih => simp [ih, h]
@[simp] theorem foldl_tamper {α : Type} (g : State → α → State) (h : ∀ s x, (g s x).tamper = s.tamper) (l : List α) (s : State) :
    (l.foldl g s).tamper = s.tamper := by
  induction l generalizing s with
  | nil => rfl
  | cons a l ih => simp [ih, h]
@[simp] theorem foldl_calendar {α : Type} (g : State → α → State) (h : ∀ s x, (g s x).calendar = s.calendar) (l : List α) (s : State) :
    (l.foldl g s).calendar = s.calendar := by
  induction l generalizing s with
  | nil => rfl
  | cons a l ih => simp [ih, h]
@[simp] theorem foldl_owl {α : Type} (g : State → α → State) (h : ∀ s x, (g s x).owl = s.owl) (l : List α) (s : State) :
    (l.foldl g s).owl = s.owl := by
  induction l generalizing s with
  | nil => rfl
  | cons a l ih => simp [ih, h]
@[simp] theorem foldl_status {α : Type} (g : State → α → State) (h : ∀ s x, (g s x).status = s.status) (l : List α) (s : State) :
    (l.foldl g s).status = s.status := by
  induction l generalizing s with
  | nil => rfl
  | cons a l ih => simp [ih, h]
@[simp] theorem foldl_check {α : Type} (g : State → α → State) (h : ∀ s x, (g s x).check = s.check) (l : List α) (s : State) :
    (l.foldl g s).check = s.check := by
  induction l generalizing s with
  | nil => rfl
  | cons a l ih => simp [ih, h]
@[simp] theorem foldl_pair {α : Type} (g : State → α → State) (h : ∀ s x, (g s x).pair = s.pair) (l : List α) (s : State) :
    (l.foldl g s).pair = s.pair := by
  induction l generalizing s with
  | nil => rfl
  | cons a l ih => simp [ih, h]
@[simp] theorem foldl_power {α : Type} (g : State → α → State) (h : ∀ s x, (g s x).power = s.power) (l : List α) (s : State) :
    (l.foldl g s).power = s.power := by
  induction l generalizing s with
  | nil => rfl
  | cons a l ih => simp [ih, h]
@[simp] theorem foldl_pins {α : Type} (g : State → α → State) (h : ∀ s x, (g s x).pins = s.pins) (l : List α) (s : State) :
    (l.foldl g s).pins = s.pins := by
  induction l generalizing s with
  | nil => rfl
  | cons a l ih => simp [ih, h]
@[simp] theorem foldl_outputs {α : Type} (g : State → α → State) (h : ∀ s x, (g s x).outputs = s.outputs) (l : List α) (s : State) :
    (l.foldl g s).outputs = s.outputs := by
  induction l generalizing s with
  | nil => rfl
  | cons a l ih => simp [ih, h]
@[simp] theorem foldl_freeNext {α : Type} (g : State → α → State) (h : ∀ s x, (g s x).freeNext = s.freeNext) (l : List α) (s : State) :
    (l.foldl g s).freeNext = s.freeNext := by
  induction l generalizing s with
  | nil => rfl
  | cons a l ih => simp [ih, h]
@[simp] theorem foldl_pending {α : Type} (g : State → α → State) (h : ∀ s x, (g s x).pending = s.pending) (l : List α) (s : State) :
    (l.foldl g s).pending = s.pending := by
  induction l generalizing s with
  | nil => rfl
  | cons a l ih => simp [ih, h]
@[simp] theorem ite_now (c : Prop) [Decidable c] (a b : State) :
    (if c then a else b).now = if c then a.now else b.now := by split <;> rfl
@[simp] theorem ite_lodge (c : Prop) [Decidable c] (a b : State) :
    (if c then a else b).lodge = if c then a.lodge else b.lodge := by split <;> rfl
@[simp] theorem ite_host (c : Prop) [Decidable c] (a b : State) :
    (if c then a else b).host = if c then a.host else b.host := by split <;> rfl
@[simp] theorem ite_cub (c : Prop) [Decidable c] (a b : State) :
    (if c then a else b).cub = if c then a.cub else b.cub := by split <;> rfl
@[simp] theorem ite_sett (c : Prop) [Decidable c] (a b : State) :
    (if c then a else b).sett = if c then a.sett else b.sett := by split <;> rfl
@[simp] theorem ite_quill (c : Prop) [Decidable c] (a b : State) :
    (if c then a else b).quill = if c then a.quill else b.quill := by split <;> rfl
@[simp] theorem ite_compute (c : Prop) [Decidable c] (a b : State) :
    (if c then a else b).compute = if c then a.compute else b.compute := by split <;> rfl
@[simp] theorem ite_rng (c : Prop) [Decidable c] (a b : State) :
    (if c then a else b).rng = if c then a.rng else b.rng := by split <;> rfl
@[simp] theorem ite_mem (c : Prop) [Decidable c] (a b : State) :
    (if c then a else b).mem = if c then a.mem else b.mem := by split <;> rfl
@[simp] theorem ite_boot (c : Prop) [Decidable c] (a b : State) :
    (if c then a else b).boot = if c then a.boot else b.boot := by split <;> rfl
@[simp] theorem ite_antler (c : Prop) [Decidable c] (a b : State) :
    (if c then a else b).antler = if c then a.antler else b.antler := by split <;> rfl
@[simp] theorem ite_tamper (c : Prop) [Decidable c] (a b : State) :
    (if c then a else b).tamper = if c then a.tamper else b.tamper := by split <;> rfl
@[simp] theorem ite_calendar (c : Prop) [Decidable c] (a b : State) :
    (if c then a else b).calendar = if c then a.calendar else b.calendar := by split <;> rfl
@[simp] theorem ite_owl (c : Prop) [Decidable c] (a b : State) :
    (if c then a else b).owl = if c then a.owl else b.owl := by split <;> rfl
@[simp] theorem ite_status (c : Prop) [Decidable c] (a b : State) :
    (if c then a else b).status = if c then a.status else b.status := by split <;> rfl
@[simp] theorem ite_check (c : Prop) [Decidable c] (a b : State) :
    (if c then a else b).check = if c then a.check else b.check := by split <;> rfl
@[simp] theorem ite_pair (c : Prop) [Decidable c] (a b : State) :
    (if c then a else b).pair = if c then a.pair else b.pair := by split <;> rfl
@[simp] theorem ite_power (c : Prop) [Decidable c] (a b : State) :
    (if c then a else b).power = if c then a.power else b.power := by split <;> rfl
@[simp] theorem ite_pins (c : Prop) [Decidable c] (a b : State) :
    (if c then a else b).pins = if c then a.pins else b.pins := by split <;> rfl
@[simp] theorem ite_outputs (c : Prop) [Decidable c] (a b : State) :
    (if c then a else b).outputs = if c then a.outputs else b.outputs := by split <;> rfl
@[simp] theorem ite_freeNext (c : Prop) [Decidable c] (a b : State) :
    (if c then a else b).freeNext = if c then a.freeNext else b.freeNext := by split <;> rfl
@[simp] theorem ite_pending (c : Prop) [Decidable c] (a b : State) :
    (if c then a else b).pending = if c then a.pending else b.pending := by split <;> rfl


/-! ## Reading what an update has written -/

@[simp] theorem slot?_setSlot_self (k : Nat) (v : Slot) (s : State) : (s.setSlot k v).slot? k = some v := by
  simp [State.setSlot, State.slot?]
@[simp] theorem slot?_setSlot_ne {j k : Nat} (v : Slot) (s : State) (h : j ≠ k) : (s.setSlot k v).slot? j = s.slot? j := by
  simp [State.setSlot, State.slot?, h]

@[simp] theorem ring_setRing_self (k : Nat) (v : Ring) (s : State) : (s.setRing k v).ring k = v := by
  simp [State.setRing, State.ring]
@[simp] theorem ring_setRing_ne {j k : Nat} (v : Ring) (s : State) (h : j ≠ k) : (s.setRing k v).ring j = s.ring j := by
  simp [State.setRing, State.ring, h]

@[simp] theorem fnSt_setFn_self (k : Nat) (v : FnState) (s : State) : (s.setFn k v).fnSt k = v := by
  simp [State.setFn, State.fnSt]
@[simp] theorem fnSt_setFn_ne {j k : Nat} (v : FnState) (s : State) (h : j ≠ k) : (s.setFn k v).fnSt j = s.fnSt j := by
  simp [State.setFn, State.fnSt, h]

@[simp] theorem port_setPort_self (k : Nat) (v : QuillPort) (s : State) : (s.setPort k v).port k = v := by
  simp [State.setPort, State.port]
@[simp] theorem port_setPort_ne {j k : Nat} (v : QuillPort) (s : State) (h : j ≠ k) : (s.setPort k v).port j = s.port j := by
  simp [State.setPort, State.port, h]

@[simp] theorem core_setCore_self (k : Nat) (v : CoreState) (s : State) : (s.setCore k v).core k = v := by
  simp [State.setCore, State.core]
@[simp] theorem core_setCore_ne {j k : Nat} (v : CoreState) (s : State) (h : j ≠ k) : (s.setCore k v).core j = s.core j := by
  simp [State.setCore, State.core, h]

@[simp] theorem crcUnit_setCrc_self (k : Nat) (v : CrcUnit) (s : State) : (s.setCrc k v).crcUnit k = v := by
  simp [State.setCrc, State.crcUnit]
@[simp] theorem crcUnit_setCrc_ne {j k : Nat} (v : CrcUnit) (s : State) (h : j ≠ k) : (s.setCrc k v).crcUnit j = s.crcUnit j := by
  simp [State.setCrc, State.crcUnit, h]

@[simp] theorem burrow_setBurrow_self (k : Nat) (v : BurrowQueue) (s : State) : (s.setBurrow k v).burrow k = v := by
  simp [State.setBurrow, State.burrow]
@[simp] theorem burrow_setBurrow_ne {j k : Nat} (v : BurrowQueue) (s : State) (h : j ≠ k) : (s.setBurrow k v).burrow j = s.burrow j := by
  simp [State.setBurrow, State.burrow, h]

@[simp] theorem dom_setDom_self (k : Nat) (v : PowerDomain) (s : State) : (s.setDom k v).dom k = v := by
  simp [State.setDom, State.dom]
@[simp] theorem dom_setDom_ne {j k : Nat} (v : PowerDomain) (s : State) (h : j ≠ k) : (s.setDom k v).dom j = s.dom j := by
  simp [State.setDom, State.dom, h]

@[simp] theorem keySlot_setKeySlot_self (k : Nat) (v : KeySlot) (s : State) : (s.setKeySlot k v).keySlot k = v := by
  simp [State.setKeySlot, State.keySlot]
@[simp] theorem keySlot_setKeySlot_ne {j k : Nat} (v : KeySlot) (s : State) (h : j ≠ k) : (s.setKeySlot k v).keySlot j = s.keySlot j := by
  simp [State.setKeySlot, State.keySlot, h]

@[simp] theorem cell_setCell_self (k : Nat) (v : Cell) (s : State) : (s.setCell k v).cell k = v := by
  simp [State.setCell, State.cell]
@[simp] theorem cell_setCell_ne {j k : Nat} (v : Cell) (s : State) (h : j ≠ k) : (s.setCell k v).cell j = s.cell j := by
  simp [State.setCell, State.cell, h]

@[simp] theorem monitor_setMonitor_self (k : Nat) (v : Monitor) (s : State) : (s.setMonitor k v).monitor k = v := by
  simp [State.setMonitor, State.monitor]
@[simp] theorem monitor_setMonitor_ne {j k : Nat} (v : Monitor) (s : State) (h : j ≠ k) : (s.setMonitor k v).monitor j = s.monitor j := by
  simp [State.setMonitor, State.monitor, h]

@[simp] theorem site_setSite_self (k : Nat) (v : SiteHealth) (s : State) : (s.setSite k v).site k = v := by
  simp [State.setSite, State.site]
@[simp] theorem site_setSite_ne {j k : Nat} (v : SiteHealth) (s : State) (h : j ≠ k) : (s.setSite k v).site j = s.site j := by
  simp [State.setSite, State.site, h]

@[simp] theorem engine_setEngine_self (h : Bool) (e : Nat) (x : Engine) (s : State) :
    (s.setEngine h e x).engine h e = x := by cases h <;> simp [State.setEngine, State.engine, State.engines]
@[simp] theorem engine_setEngine_ne (h : Bool) {i e : Nat} (x : Engine) (s : State) (n : i ≠ e) :
    (s.setEngine h e x).engine h i = s.engine h i := by cases h <;> simp [State.setEngine, State.engine, State.engines, n]

end Sys2Proof.Machine
end

