-- ==== Sys2Proof/Laws/Frames.lean ====
section
/-! SUPPORT. What each shared operation leaves unchanged: the parts of State that it does not write. -/

namespace Sys2Proof.Machine

/-! ## The operations -/

@[simp] theorem State_setRing_keeps : ∀ a0 a1 s, (State.setRing a0 a1 s).now = s.now ∧ (State.setRing a0 a1 s).lodge =
    s.lodge ∧ (State.setRing a0 a1 s).cub = s.cub ∧ (State.setRing a0 a1 s).sett = s.sett ∧ (State.setRing a0 a1
    s).quill = s.quill ∧ (State.setRing a0 a1 s).compute = s.compute ∧ (State.setRing a0 a1 s).rng = s.rng ∧
    (State.setRing a0 a1 s).mem = s.mem ∧ (State.setRing a0 a1 s).boot = s.boot ∧ (State.setRing a0 a1 s).antler =
    s.antler ∧ (State.setRing a0 a1 s).tamper = s.tamper ∧ (State.setRing a0 a1 s).calendar = s.calendar ∧
    (State.setRing a0 a1 s).owl = s.owl ∧ (State.setRing a0 a1 s).status = s.status ∧ (State.setRing a0 a1 s).check =
    s.check ∧ (State.setRing a0 a1 s).pair = s.pair ∧ (State.setRing a0 a1 s).power = s.power ∧ (State.setRing a0 a1
    s).pins = s.pins ∧ (State.setRing a0 a1 s).outputs = s.outputs ∧ (State.setRing a0 a1 s).freeNext = s.freeNext ∧
    (State.setRing a0 a1 s).pending = s.pending := by
  intros; simp [State.setRing]
@[simp] theorem State_noteEligible_keeps : ∀ s, (State.noteEligible s).now = s.now ∧ (State.noteEligible s).lodge =
    s.lodge ∧ (State.noteEligible s).cub = s.cub ∧ (State.noteEligible s).sett = s.sett ∧ (State.noteEligible s).quill
    = s.quill ∧ (State.noteEligible s).compute = s.compute ∧ (State.noteEligible s).rng = s.rng ∧ (State.noteEligible
    s).mem = s.mem ∧ (State.noteEligible s).boot = s.boot ∧ (State.noteEligible s).antler = s.antler ∧
    (State.noteEligible s).tamper = s.tamper ∧ (State.noteEligible s).calendar = s.calendar ∧ (State.noteEligible
    s).owl = s.owl ∧ (State.noteEligible s).status = s.status ∧ (State.noteEligible s).check = s.check ∧
    (State.noteEligible s).pair = s.pair ∧ (State.noteEligible s).power = s.power ∧ (State.noteEligible s).pins =
    s.pins ∧ (State.noteEligible s).outputs = s.outputs ∧ (State.noteEligible s).freeNext = s.freeNext ∧
    (State.noteEligible s).pending = s.pending := by
  intros; simp [State.noteEligible]
@[simp] theorem State_endLodge_keeps : ∀ a0 a1 s, (State.endLodge a0 a1 s).now = s.now ∧ (State.endLodge a0 a1 s).host
    = s.host ∧ (State.endLodge a0 a1 s).cub = s.cub ∧ (State.endLodge a0 a1 s).sett = s.sett ∧ (State.endLodge a0 a1
    s).quill = s.quill ∧ (State.endLodge a0 a1 s).compute = s.compute ∧ (State.endLodge a0 a1 s).rng = s.rng ∧
    (State.endLodge a0 a1 s).mem = s.mem ∧ (State.endLodge a0 a1 s).boot = s.boot ∧ (State.endLodge a0 a1 s).antler =
    s.antler ∧ (State.endLodge a0 a1 s).tamper = s.tamper ∧ (State.endLodge a0 a1 s).calendar = s.calendar ∧
    (State.endLodge a0 a1 s).owl = s.owl ∧ (State.endLodge a0 a1 s).status = s.status ∧ (State.endLodge a0 a1 s).check
    = s.check ∧ (State.endLodge a0 a1 s).pair = s.pair ∧ (State.endLodge a0 a1 s).power = s.power ∧ (State.endLodge a0
    a1 s).pins = s.pins ∧ (State.endLodge a0 a1 s).outputs = s.outputs ∧ (State.endLodge a0 a1 s).freeNext =
    s.freeNext ∧ (State.endLodge a0 a1 s).pending = s.pending := by
  intros; simp [State.endLodge]
@[simp] theorem State_endLodgeOp_keeps : ∀ a0 s, (State.endLodgeOp a0 s).now = s.now ∧ (State.endLodgeOp a0 s).host =
    s.host ∧ (State.endLodgeOp a0 s).cub = s.cub ∧ (State.endLodgeOp a0 s).sett = s.sett ∧ (State.endLodgeOp a0
    s).quill = s.quill ∧ (State.endLodgeOp a0 s).compute = s.compute ∧ (State.endLodgeOp a0 s).rng = s.rng ∧
    (State.endLodgeOp a0 s).mem = s.mem ∧ (State.endLodgeOp a0 s).boot = s.boot ∧ (State.endLodgeOp a0 s).antler =
    s.antler ∧ (State.endLodgeOp a0 s).tamper = s.tamper ∧ (State.endLodgeOp a0 s).calendar = s.calendar ∧
    (State.endLodgeOp a0 s).owl = s.owl ∧ (State.endLodgeOp a0 s).status = s.status ∧ (State.endLodgeOp a0 s).check =
    s.check ∧ (State.endLodgeOp a0 s).pair = s.pair ∧ (State.endLodgeOp a0 s).power = s.power ∧ (State.endLodgeOp a0
    s).pins = s.pins ∧ (State.endLodgeOp a0 s).outputs = s.outputs ∧ (State.endLodgeOp a0 s).freeNext = s.freeNext ∧
    (State.endLodgeOp a0 s).pending = s.pending := by
  intros; simp [State.endLodgeOp]
@[simp] theorem State_setQueue_keeps : ∀ a0 a1 a2 s, (State.setQueue a0 a1 a2 s).now = s.now ∧ (State.setQueue a0 a1
    a2 s).lodge = s.lodge ∧ (State.setQueue a0 a1 a2 s).host = s.host ∧ (State.setQueue a0 a1 a2 s).cub = s.cub ∧
    (State.setQueue a0 a1 a2 s).sett = s.sett ∧ (State.setQueue a0 a1 a2 s).quill = s.quill ∧ (State.setQueue a0 a1 a2
    s).rng = s.rng ∧ (State.setQueue a0 a1 a2 s).mem = s.mem ∧ (State.setQueue a0 a1 a2 s).boot = s.boot ∧
    (State.setQueue a0 a1 a2 s).antler = s.antler ∧ (State.setQueue a0 a1 a2 s).tamper = s.tamper ∧ (State.setQueue a0
    a1 a2 s).calendar = s.calendar ∧ (State.setQueue a0 a1 a2 s).owl = s.owl ∧ (State.setQueue a0 a1 a2 s).status =
    s.status ∧ (State.setQueue a0 a1 a2 s).check = s.check ∧ (State.setQueue a0 a1 a2 s).pair = s.pair ∧
    (State.setQueue a0 a1 a2 s).power = s.power ∧ (State.setQueue a0 a1 a2 s).pins = s.pins ∧ (State.setQueue a0 a1 a2
    s).outputs = s.outputs ∧ (State.setQueue a0 a1 a2 s).freeNext = s.freeNext ∧ (State.setQueue a0 a1 a2 s).pending =
    s.pending := by
  intros; simp [State.setQueue]
@[simp] theorem State_setSlot_keeps : ∀ a0 a1 s, (State.setSlot a0 a1 s).now = s.now ∧ (State.setSlot a0 a1 s).lodge =
    s.lodge ∧ (State.setSlot a0 a1 s).cub = s.cub ∧ (State.setSlot a0 a1 s).sett = s.sett ∧ (State.setSlot a0 a1
    s).quill = s.quill ∧ (State.setSlot a0 a1 s).compute = s.compute ∧ (State.setSlot a0 a1 s).rng = s.rng ∧
    (State.setSlot a0 a1 s).mem = s.mem ∧ (State.setSlot a0 a1 s).boot = s.boot ∧ (State.setSlot a0 a1 s).antler =
    s.antler ∧ (State.setSlot a0 a1 s).tamper = s.tamper ∧ (State.setSlot a0 a1 s).calendar = s.calendar ∧
    (State.setSlot a0 a1 s).owl = s.owl ∧ (State.setSlot a0 a1 s).status = s.status ∧ (State.setSlot a0 a1 s).check =
    s.check ∧ (State.setSlot a0 a1 s).pair = s.pair ∧ (State.setSlot a0 a1 s).power = s.power ∧ (State.setSlot a0 a1
    s).pins = s.pins ∧ (State.setSlot a0 a1 s).outputs = s.outputs ∧ (State.setSlot a0 a1 s).freeNext = s.freeNext ∧
    (State.setSlot a0 a1 s).pending = s.pending := by
  intros; simp [State.setSlot]
@[simp] theorem State_modSlot_keeps : ∀ a0 a1 s, (State.modSlot a0 a1 s).now = s.now ∧ (State.modSlot a0 a1 s).lodge =
    s.lodge ∧ (State.modSlot a0 a1 s).cub = s.cub ∧ (State.modSlot a0 a1 s).sett = s.sett ∧ (State.modSlot a0 a1
    s).quill = s.quill ∧ (State.modSlot a0 a1 s).compute = s.compute ∧ (State.modSlot a0 a1 s).rng = s.rng ∧
    (State.modSlot a0 a1 s).mem = s.mem ∧ (State.modSlot a0 a1 s).boot = s.boot ∧ (State.modSlot a0 a1 s).antler =
    s.antler ∧ (State.modSlot a0 a1 s).tamper = s.tamper ∧ (State.modSlot a0 a1 s).calendar = s.calendar ∧
    (State.modSlot a0 a1 s).owl = s.owl ∧ (State.modSlot a0 a1 s).status = s.status ∧ (State.modSlot a0 a1 s).check =
    s.check ∧ (State.modSlot a0 a1 s).pair = s.pair ∧ (State.modSlot a0 a1 s).power = s.power ∧ (State.modSlot a0 a1
    s).pins = s.pins ∧ (State.modSlot a0 a1 s).outputs = s.outputs ∧ (State.modSlot a0 a1 s).freeNext = s.freeNext ∧
    (State.modSlot a0 a1 s).pending = s.pending := by
  intros; unfold State.modSlot ; (repeat' split) <;> simp
@[simp] theorem State_setJob_keeps : ∀ a0 a1 a2 s, (State.setJob a0 a1 a2 s).now = s.now ∧ (State.setJob a0 a1 a2
    s).lodge = s.lodge ∧ (State.setJob a0 a1 a2 s).cub = s.cub ∧ (State.setJob a0 a1 a2 s).sett = s.sett ∧
    (State.setJob a0 a1 a2 s).quill = s.quill ∧ (State.setJob a0 a1 a2 s).compute = s.compute ∧ (State.setJob a0 a1 a2
    s).rng = s.rng ∧ (State.setJob a0 a1 a2 s).mem = s.mem ∧ (State.setJob a0 a1 a2 s).boot = s.boot ∧ (State.setJob
    a0 a1 a2 s).antler = s.antler ∧ (State.setJob a0 a1 a2 s).tamper = s.tamper ∧ (State.setJob a0 a1 a2 s).calendar =
    s.calendar ∧ (State.setJob a0 a1 a2 s).owl = s.owl ∧ (State.setJob a0 a1 a2 s).status = s.status ∧ (State.setJob
    a0 a1 a2 s).check = s.check ∧ (State.setJob a0 a1 a2 s).pair = s.pair ∧ (State.setJob a0 a1 a2 s).power = s.power
    ∧ (State.setJob a0 a1 a2 s).pins = s.pins ∧ (State.setJob a0 a1 a2 s).outputs = s.outputs ∧ (State.setJob a0 a1 a2
    s).freeNext = s.freeNext ∧ (State.setJob a0 a1 a2 s).pending = s.pending := by
  intros; simp [State.setJob]
@[simp] theorem State_setKeySlot_keeps : ∀ a0 a1 s, (State.setKeySlot a0 a1 s).now = s.now ∧ (State.setKeySlot a0 a1
    s).lodge = s.lodge ∧ (State.setKeySlot a0 a1 s).host = s.host ∧ (State.setKeySlot a0 a1 s).cub = s.cub ∧
    (State.setKeySlot a0 a1 s).quill = s.quill ∧ (State.setKeySlot a0 a1 s).compute = s.compute ∧ (State.setKeySlot a0
    a1 s).rng = s.rng ∧ (State.setKeySlot a0 a1 s).mem = s.mem ∧ (State.setKeySlot a0 a1 s).boot = s.boot ∧
    (State.setKeySlot a0 a1 s).antler = s.antler ∧ (State.setKeySlot a0 a1 s).tamper = s.tamper ∧ (State.setKeySlot a0
    a1 s).calendar = s.calendar ∧ (State.setKeySlot a0 a1 s).owl = s.owl ∧ (State.setKeySlot a0 a1 s).status =
    s.status ∧ (State.setKeySlot a0 a1 s).check = s.check ∧ (State.setKeySlot a0 a1 s).pair = s.pair ∧
    (State.setKeySlot a0 a1 s).power = s.power ∧ (State.setKeySlot a0 a1 s).pins = s.pins ∧ (State.setKeySlot a0 a1
    s).outputs = s.outputs ∧ (State.setKeySlot a0 a1 s).freeNext = s.freeNext ∧ (State.setKeySlot a0 a1 s).pending =
    s.pending := by
  intros; simp [State.setKeySlot]
@[simp] theorem State_releaseUse_keeps : ∀ a0 s, (State.releaseUse a0 s).now = s.now ∧ (State.releaseUse a0 s).lodge =
    s.lodge ∧ (State.releaseUse a0 s).host = s.host ∧ (State.releaseUse a0 s).cub = s.cub ∧ (State.releaseUse a0
    s).quill = s.quill ∧ (State.releaseUse a0 s).compute = s.compute ∧ (State.releaseUse a0 s).rng = s.rng ∧
    (State.releaseUse a0 s).mem = s.mem ∧ (State.releaseUse a0 s).boot = s.boot ∧ (State.releaseUse a0 s).antler =
    s.antler ∧ (State.releaseUse a0 s).tamper = s.tamper ∧ (State.releaseUse a0 s).calendar = s.calendar ∧
    (State.releaseUse a0 s).owl = s.owl ∧ (State.releaseUse a0 s).status = s.status ∧ (State.releaseUse a0 s).check =
    s.check ∧ (State.releaseUse a0 s).pair = s.pair ∧ (State.releaseUse a0 s).power = s.power ∧ (State.releaseUse a0
    s).pins = s.pins ∧ (State.releaseUse a0 s).outputs = s.outputs ∧ (State.releaseUse a0 s).freeNext = s.freeNext ∧
    (State.releaseUse a0 s).pending = s.pending := by
  intros; simp [State.releaseUse]
@[simp] theorem State_noteUnpinned_keeps : ∀ a0 s, (State.noteUnpinned a0 s).now = s.now ∧ (State.noteUnpinned a0
    s).lodge = s.lodge ∧ (State.noteUnpinned a0 s).host = s.host ∧ (State.noteUnpinned a0 s).cub = s.cub ∧
    (State.noteUnpinned a0 s).quill = s.quill ∧ (State.noteUnpinned a0 s).compute = s.compute ∧ (State.noteUnpinned a0
    s).rng = s.rng ∧ (State.noteUnpinned a0 s).mem = s.mem ∧ (State.noteUnpinned a0 s).boot = s.boot ∧
    (State.noteUnpinned a0 s).antler = s.antler ∧ (State.noteUnpinned a0 s).tamper = s.tamper ∧ (State.noteUnpinned a0
    s).calendar = s.calendar ∧ (State.noteUnpinned a0 s).owl = s.owl ∧ (State.noteUnpinned a0 s).status = s.status ∧
    (State.noteUnpinned a0 s).check = s.check ∧ (State.noteUnpinned a0 s).pair = s.pair ∧ (State.noteUnpinned a0
    s).power = s.power ∧ (State.noteUnpinned a0 s).pins = s.pins ∧ (State.noteUnpinned a0 s).outputs = s.outputs ∧
    (State.noteUnpinned a0 s).freeNext = s.freeNext ∧ (State.noteUnpinned a0 s).pending = s.pending := by
  intros; simp [State.noteUnpinned]
@[simp] theorem State_endJob_keeps : ∀ a0 a1 a2 a3 s, (State.endJob a0 a1 a2 a3 s).now = s.now ∧ (State.endJob a0 a1
    a2 a3 s).lodge = s.lodge ∧ (State.endJob a0 a1 a2 a3 s).cub = s.cub ∧ (State.endJob a0 a1 a2 a3 s).quill = s.quill
    ∧ (State.endJob a0 a1 a2 a3 s).compute = s.compute ∧ (State.endJob a0 a1 a2 a3 s).rng = s.rng ∧ (State.endJob a0
    a1 a2 a3 s).mem = s.mem ∧ (State.endJob a0 a1 a2 a3 s).boot = s.boot ∧ (State.endJob a0 a1 a2 a3 s).antler =
    s.antler ∧ (State.endJob a0 a1 a2 a3 s).tamper = s.tamper ∧ (State.endJob a0 a1 a2 a3 s).calendar = s.calendar ∧
    (State.endJob a0 a1 a2 a3 s).owl = s.owl ∧ (State.endJob a0 a1 a2 a3 s).status = s.status ∧ (State.endJob a0 a1 a2
    a3 s).check = s.check ∧ (State.endJob a0 a1 a2 a3 s).pair = s.pair ∧ (State.endJob a0 a1 a2 a3 s).power = s.power
    ∧ (State.endJob a0 a1 a2 a3 s).pins = s.pins ∧ (State.endJob a0 a1 a2 a3 s).outputs = s.outputs ∧ (State.endJob a0
    a1 a2 a3 s).freeNext = s.freeNext ∧ (State.endJob a0 a1 a2 a3 s).pending = s.pending := by
  intros; unfold State.endJob; (repeat' split) <;> simp
@[simp] theorem State_setDom_keeps : ∀ a0 a1 s, (State.setDom a0 a1 s).now = s.now ∧ (State.setDom a0 a1 s).lodge =
    s.lodge ∧ (State.setDom a0 a1 s).host = s.host ∧ (State.setDom a0 a1 s).cub = s.cub ∧ (State.setDom a0 a1 s).sett
    = s.sett ∧ (State.setDom a0 a1 s).quill = s.quill ∧ (State.setDom a0 a1 s).compute = s.compute ∧ (State.setDom a0
    a1 s).rng = s.rng ∧ (State.setDom a0 a1 s).mem = s.mem ∧ (State.setDom a0 a1 s).boot = s.boot ∧ (State.setDom a0
    a1 s).antler = s.antler ∧ (State.setDom a0 a1 s).tamper = s.tamper ∧ (State.setDom a0 a1 s).calendar = s.calendar
    ∧ (State.setDom a0 a1 s).owl = s.owl ∧ (State.setDom a0 a1 s).status = s.status ∧ (State.setDom a0 a1 s).check =
    s.check ∧ (State.setDom a0 a1 s).pair = s.pair ∧ (State.setDom a0 a1 s).pins = s.pins ∧ (State.setDom a0 a1
    s).outputs = s.outputs ∧ (State.setDom a0 a1 s).freeNext = s.freeNext ∧ (State.setDom a0 a1 s).pending = s.pending
    := by
  intros; simp [State.setDom]
@[simp] theorem State_touchDom_keeps : ∀ a0 s, (State.touchDom a0 s).now = s.now ∧ (State.touchDom a0 s).lodge =
    s.lodge ∧ (State.touchDom a0 s).host = s.host ∧ (State.touchDom a0 s).cub = s.cub ∧ (State.touchDom a0 s).sett =
    s.sett ∧ (State.touchDom a0 s).quill = s.quill ∧ (State.touchDom a0 s).compute = s.compute ∧ (State.touchDom a0
    s).rng = s.rng ∧ (State.touchDom a0 s).mem = s.mem ∧ (State.touchDom a0 s).boot = s.boot ∧ (State.touchDom a0
    s).antler = s.antler ∧ (State.touchDom a0 s).tamper = s.tamper ∧ (State.touchDom a0 s).calendar = s.calendar ∧
    (State.touchDom a0 s).owl = s.owl ∧ (State.touchDom a0 s).status = s.status ∧ (State.touchDom a0 s).check =
    s.check ∧ (State.touchDom a0 s).pair = s.pair ∧ (State.touchDom a0 s).pins = s.pins ∧ (State.touchDom a0
    s).outputs = s.outputs ∧ (State.touchDom a0 s).freeNext = s.freeNext ∧ (State.touchDom a0 s).pending = s.pending
    := by
  intros; simp [State.touchDom]
@[simp] theorem State_setEngine_keeps : ∀ a0 a1 a2 s, (State.setEngine a0 a1 a2 s).now = s.now ∧ (State.setEngine a0
    a1 a2 s).lodge = s.lodge ∧ (State.setEngine a0 a1 a2 s).host = s.host ∧ (State.setEngine a0 a1 a2 s).cub = s.cub ∧
    (State.setEngine a0 a1 a2 s).sett = s.sett ∧ (State.setEngine a0 a1 a2 s).quill = s.quill ∧ (State.setEngine a0 a1
    a2 s).rng = s.rng ∧ (State.setEngine a0 a1 a2 s).mem = s.mem ∧ (State.setEngine a0 a1 a2 s).boot = s.boot ∧
    (State.setEngine a0 a1 a2 s).antler = s.antler ∧ (State.setEngine a0 a1 a2 s).tamper = s.tamper ∧ (State.setEngine
    a0 a1 a2 s).calendar = s.calendar ∧ (State.setEngine a0 a1 a2 s).owl = s.owl ∧ (State.setEngine a0 a1 a2 s).status
    = s.status ∧ (State.setEngine a0 a1 a2 s).check = s.check ∧ (State.setEngine a0 a1 a2 s).pair = s.pair ∧
    (State.setEngine a0 a1 a2 s).power = s.power ∧ (State.setEngine a0 a1 a2 s).pins = s.pins ∧ (State.setEngine a0 a1
    a2 s).outputs = s.outputs ∧ (State.setEngine a0 a1 a2 s).freeNext = s.freeNext ∧ (State.setEngine a0 a1 a2
    s).pending = s.pending := by
  intros; simp [State.setEngine]
@[simp] theorem State_raise_keeps : ∀ a0 a1 s, (State.raise a0 a1 s).now = s.now ∧ (State.raise a0 a1 s).lodge =
    s.lodge ∧ (State.raise a0 a1 s).host = s.host ∧ (State.raise a0 a1 s).cub = s.cub ∧ (State.raise a0 a1 s).sett =
    s.sett ∧ (State.raise a0 a1 s).quill = s.quill ∧ (State.raise a0 a1 s).compute = s.compute ∧ (State.raise a0 a1
    s).rng = s.rng ∧ (State.raise a0 a1 s).mem = s.mem ∧ (State.raise a0 a1 s).boot = s.boot ∧ (State.raise a0 a1
    s).antler = s.antler ∧ (State.raise a0 a1 s).tamper = s.tamper ∧ (State.raise a0 a1 s).calendar = s.calendar ∧
    (State.raise a0 a1 s).status = s.status ∧ (State.raise a0 a1 s).check = s.check ∧ (State.raise a0 a1 s).pair =
    s.pair ∧ (State.raise a0 a1 s).power = s.power ∧ (State.raise a0 a1 s).pins = s.pins ∧ (State.raise a0 a1
    s).outputs = s.outputs ∧ (State.raise a0 a1 s).freeNext = s.freeNext ∧ (State.raise a0 a1 s).pending = s.pending
    := by
  intros; simp [State.raise]
@[simp] theorem State_summary_keeps : ∀ a0 s, (State.summary a0 s).now = s.now ∧ (State.summary a0 s).lodge = s.lodge
    ∧ (State.summary a0 s).host = s.host ∧ (State.summary a0 s).cub = s.cub ∧ (State.summary a0 s).sett = s.sett ∧
    (State.summary a0 s).quill = s.quill ∧ (State.summary a0 s).compute = s.compute ∧ (State.summary a0 s).rng = s.rng
    ∧ (State.summary a0 s).mem = s.mem ∧ (State.summary a0 s).boot = s.boot ∧ (State.summary a0 s).antler = s.antler ∧
    (State.summary a0 s).tamper = s.tamper ∧ (State.summary a0 s).calendar = s.calendar ∧ (State.summary a0 s).owl =
    s.owl ∧ (State.summary a0 s).check = s.check ∧ (State.summary a0 s).pair = s.pair ∧ (State.summary a0 s).power =
    s.power ∧ (State.summary a0 s).pins = s.pins ∧ (State.summary a0 s).outputs = s.outputs ∧ (State.summary a0
    s).freeNext = s.freeNext ∧ (State.summary a0 s).pending = s.pending := by
  intros; simp [State.summary]
@[simp] theorem State_saturated_keeps : ∀ a0 a1 a2 s, (State.saturated a0 a1 a2 s).now = s.now ∧ (State.saturated a0
    a1 a2 s).lodge = s.lodge ∧ (State.saturated a0 a1 a2 s).host = s.host ∧ (State.saturated a0 a1 a2 s).cub = s.cub ∧
    (State.saturated a0 a1 a2 s).sett = s.sett ∧ (State.saturated a0 a1 a2 s).quill = s.quill ∧ (State.saturated a0 a1
    a2 s).compute = s.compute ∧ (State.saturated a0 a1 a2 s).rng = s.rng ∧ (State.saturated a0 a1 a2 s).mem = s.mem ∧
    (State.saturated a0 a1 a2 s).boot = s.boot ∧ (State.saturated a0 a1 a2 s).antler = s.antler ∧ (State.saturated a0
    a1 a2 s).tamper = s.tamper ∧ (State.saturated a0 a1 a2 s).calendar = s.calendar ∧ (State.saturated a0 a1 a2
    s).check = s.check ∧ (State.saturated a0 a1 a2 s).pair = s.pair ∧ (State.saturated a0 a1 a2 s).power = s.power ∧
    (State.saturated a0 a1 a2 s).pins = s.pins ∧ (State.saturated a0 a1 a2 s).outputs = s.outputs ∧ (State.saturated
    a0 a1 a2 s).freeNext = s.freeNext ∧ (State.saturated a0 a1 a2 s).pending = s.pending := by
  intros; simp [State.saturated]
@[simp] theorem State_gateViolation_keeps : ∀ s a0 a1 a2 a3 a4 a5, (State.gateViolation s a0 a1 a2 a3 a4 a5).now =
    s.now ∧ (State.gateViolation s a0 a1 a2 a3 a4 a5).lodge = s.lodge ∧ (State.gateViolation s a0 a1 a2 a3 a4 a5).host
    = s.host ∧ (State.gateViolation s a0 a1 a2 a3 a4 a5).cub = s.cub ∧ (State.gateViolation s a0 a1 a2 a3 a4 a5).sett
    = s.sett ∧ (State.gateViolation s a0 a1 a2 a3 a4 a5).quill = s.quill ∧ (State.gateViolation s a0 a1 a2 a3 a4
    a5).compute = s.compute ∧ (State.gateViolation s a0 a1 a2 a3 a4 a5).rng = s.rng ∧ (State.gateViolation s a0 a1 a2
    a3 a4 a5).boot = s.boot ∧ (State.gateViolation s a0 a1 a2 a3 a4 a5).antler = s.antler ∧ (State.gateViolation s a0
    a1 a2 a3 a4 a5).tamper = s.tamper ∧ (State.gateViolation s a0 a1 a2 a3 a4 a5).calendar = s.calendar ∧
    (State.gateViolation s a0 a1 a2 a3 a4 a5).check = s.check ∧ (State.gateViolation s a0 a1 a2 a3 a4 a5).pair =
    s.pair ∧ (State.gateViolation s a0 a1 a2 a3 a4 a5).power = s.power ∧ (State.gateViolation s a0 a1 a2 a3 a4
    a5).pins = s.pins ∧ (State.gateViolation s a0 a1 a2 a3 a4 a5).outputs = s.outputs ∧ (State.gateViolation s a0 a1
    a2 a3 a4 a5).freeNext = s.freeNext ∧ (State.gateViolation s a0 a1 a2 a3 a4 a5).pending = s.pending := by
  intros; simp [State.gateViolation]
@[simp] theorem State_countJob_keeps : ∀ a0 a1 s, (State.countJob a0 a1 s).now = s.now ∧ (State.countJob a0 a1
    s).lodge = s.lodge ∧ (State.countJob a0 a1 s).host = s.host ∧ (State.countJob a0 a1 s).cub = s.cub ∧
    (State.countJob a0 a1 s).sett = s.sett ∧ (State.countJob a0 a1 s).quill = s.quill ∧ (State.countJob a0 a1 s).rng =
    s.rng ∧ (State.countJob a0 a1 s).mem = s.mem ∧ (State.countJob a0 a1 s).boot = s.boot ∧ (State.countJob a0 a1
    s).antler = s.antler ∧ (State.countJob a0 a1 s).tamper = s.tamper ∧ (State.countJob a0 a1 s).calendar = s.calendar
    ∧ (State.countJob a0 a1 s).check = s.check ∧ (State.countJob a0 a1 s).pair = s.pair ∧ (State.countJob a0 a1
    s).power = s.power ∧ (State.countJob a0 a1 s).pins = s.pins ∧ (State.countJob a0 a1 s).outputs = s.outputs ∧
    (State.countJob a0 a1 s).freeNext = s.freeNext ∧ (State.countJob a0 a1 s).pending = s.pending := by
  intros; simp [State.countJob]
@[simp] theorem State_abortJob_keeps : ∀ a0 a1 s, (State.abortJob a0 a1 s).now = s.now ∧ (State.abortJob a0 a1
    s).lodge = s.lodge ∧ (State.abortJob a0 a1 s).cub = s.cub ∧ (State.abortJob a0 a1 s).quill = s.quill ∧
    (State.abortJob a0 a1 s).rng = s.rng ∧ (State.abortJob a0 a1 s).mem = s.mem ∧ (State.abortJob a0 a1 s).boot =
    s.boot ∧ (State.abortJob a0 a1 s).antler = s.antler ∧ (State.abortJob a0 a1 s).tamper = s.tamper ∧ (State.abortJob
    a0 a1 s).calendar = s.calendar ∧ (State.abortJob a0 a1 s).check = s.check ∧ (State.abortJob a0 a1 s).pair = s.pair
    ∧ (State.abortJob a0 a1 s).pins = s.pins ∧ (State.abortJob a0 a1 s).outputs = s.outputs ∧ (State.abortJob a0 a1
    s).freeNext = s.freeNext ∧ (State.abortJob a0 a1 s).pending = s.pending := by
  intros; unfold State.abortJob ; dsimp only; (repeat' split) <;> simp
@[simp] theorem State_abortJobs_keeps : ∀ a0 s, (State.abortJobs a0 s).now = s.now ∧ (State.abortJobs a0 s).lodge =
    s.lodge ∧ (State.abortJobs a0 s).cub = s.cub ∧ (State.abortJobs a0 s).quill = s.quill ∧ (State.abortJobs a0 s).rng
    = s.rng ∧ (State.abortJobs a0 s).mem = s.mem ∧ (State.abortJobs a0 s).boot = s.boot ∧ (State.abortJobs a0
    s).antler = s.antler ∧ (State.abortJobs a0 s).tamper = s.tamper ∧ (State.abortJobs a0 s).calendar = s.calendar ∧
    (State.abortJobs a0 s).check = s.check ∧ (State.abortJobs a0 s).pair = s.pair ∧ (State.abortJobs a0 s).pins =
    s.pins ∧ (State.abortJobs a0 s).outputs = s.outputs ∧ (State.abortJobs a0 s).freeNext = s.freeNext ∧
    (State.abortJobs a0 s).pending = s.pending := by
  intros; unfold State.abortJobs ; (repeat' split) <;> simp
@[simp] theorem State_setPort_keeps : ∀ a0 a1 s, (State.setPort a0 a1 s).now = s.now ∧ (State.setPort a0 a1 s).lodge =
    s.lodge ∧ (State.setPort a0 a1 s).host = s.host ∧ (State.setPort a0 a1 s).cub = s.cub ∧ (State.setPort a0 a1
    s).sett = s.sett ∧ (State.setPort a0 a1 s).compute = s.compute ∧ (State.setPort a0 a1 s).rng = s.rng ∧
    (State.setPort a0 a1 s).mem = s.mem ∧ (State.setPort a0 a1 s).boot = s.boot ∧ (State.setPort a0 a1 s).antler =
    s.antler ∧ (State.setPort a0 a1 s).tamper = s.tamper ∧ (State.setPort a0 a1 s).calendar = s.calendar ∧
    (State.setPort a0 a1 s).owl = s.owl ∧ (State.setPort a0 a1 s).status = s.status ∧ (State.setPort a0 a1 s).check =
    s.check ∧ (State.setPort a0 a1 s).pair = s.pair ∧ (State.setPort a0 a1 s).power = s.power ∧ (State.setPort a0 a1
    s).pins = s.pins ∧ (State.setPort a0 a1 s).outputs = s.outputs ∧ (State.setPort a0 a1 s).freeNext = s.freeNext ∧
    (State.setPort a0 a1 s).pending = s.pending := by
  intros; simp [State.setPort]
@[simp] theorem State_emit_keeps : ∀ a0 s, (State.emit a0 s).now = s.now ∧ (State.emit a0 s).lodge = s.lodge ∧
    (State.emit a0 s).host = s.host ∧ (State.emit a0 s).cub = s.cub ∧ (State.emit a0 s).sett = s.sett ∧ (State.emit a0
    s).quill = s.quill ∧ (State.emit a0 s).compute = s.compute ∧ (State.emit a0 s).rng = s.rng ∧ (State.emit a0 s).mem
    = s.mem ∧ (State.emit a0 s).boot = s.boot ∧ (State.emit a0 s).antler = s.antler ∧ (State.emit a0 s).tamper =
    s.tamper ∧ (State.emit a0 s).calendar = s.calendar ∧ (State.emit a0 s).owl = s.owl ∧ (State.emit a0 s).status =
    s.status ∧ (State.emit a0 s).check = s.check ∧ (State.emit a0 s).pair = s.pair ∧ (State.emit a0 s).power = s.power
    ∧ (State.emit a0 s).pins = s.pins ∧ (State.emit a0 s).freeNext = s.freeNext ∧ (State.emit a0 s).pending =
    s.pending := by
  intros; simp [State.emit]
@[simp] theorem State_setLink_keeps : ∀ a0 a1 s, (State.setLink a0 a1 s).now = s.now ∧ (State.setLink a0 a1 s).lodge =
    s.lodge ∧ (State.setLink a0 a1 s).host = s.host ∧ (State.setLink a0 a1 s).cub = s.cub ∧ (State.setLink a0 a1
    s).sett = s.sett ∧ (State.setLink a0 a1 s).quill = s.quill ∧ (State.setLink a0 a1 s).compute = s.compute ∧
    (State.setLink a0 a1 s).rng = s.rng ∧ (State.setLink a0 a1 s).mem = s.mem ∧ (State.setLink a0 a1 s).boot = s.boot
    ∧ (State.setLink a0 a1 s).antler = s.antler ∧ (State.setLink a0 a1 s).tamper = s.tamper ∧ (State.setLink a0 a1
    s).calendar = s.calendar ∧ (State.setLink a0 a1 s).owl = s.owl ∧ (State.setLink a0 a1 s).status = s.status ∧
    (State.setLink a0 a1 s).check = s.check ∧ (State.setLink a0 a1 s).power = s.power ∧ (State.setLink a0 a1 s).pins =
    s.pins ∧ (State.setLink a0 a1 s).outputs = s.outputs ∧ (State.setLink a0 a1 s).freeNext = s.freeNext ∧
    (State.setLink a0 a1 s).pending = s.pending := by
  intros; simp [State.setLink]
@[simp] theorem State_sendOn_keeps : ∀ a0 a1 a2 s, (State.sendOn a0 a1 a2 s).now = s.now ∧ (State.sendOn a0 a1 a2
    s).lodge = s.lodge ∧ (State.sendOn a0 a1 a2 s).host = s.host ∧ (State.sendOn a0 a1 a2 s).cub = s.cub ∧
    (State.sendOn a0 a1 a2 s).sett = s.sett ∧ (State.sendOn a0 a1 a2 s).quill = s.quill ∧ (State.sendOn a0 a1 a2
    s).compute = s.compute ∧ (State.sendOn a0 a1 a2 s).rng = s.rng ∧ (State.sendOn a0 a1 a2 s).mem = s.mem ∧
    (State.sendOn a0 a1 a2 s).boot = s.boot ∧ (State.sendOn a0 a1 a2 s).antler = s.antler ∧ (State.sendOn a0 a1 a2
    s).tamper = s.tamper ∧ (State.sendOn a0 a1 a2 s).calendar = s.calendar ∧ (State.sendOn a0 a1 a2 s).owl = s.owl ∧
    (State.sendOn a0 a1 a2 s).status = s.status ∧ (State.sendOn a0 a1 a2 s).check = s.check ∧ (State.sendOn a0 a1 a2
    s).power = s.power ∧ (State.sendOn a0 a1 a2 s).pins = s.pins ∧ (State.sendOn a0 a1 a2 s).freeNext = s.freeNext ∧
    (State.sendOn a0 a1 a2 s).pending = s.pending := by
  intros; simp [State.sendOn]
@[simp] theorem State_sendRecord_keeps : ∀ a0 a1 s, (State.sendRecord a0 a1 s).now = s.now ∧ (State.sendRecord a0 a1
    s).lodge = s.lodge ∧ (State.sendRecord a0 a1 s).host = s.host ∧ (State.sendRecord a0 a1 s).cub = s.cub ∧
    (State.sendRecord a0 a1 s).sett = s.sett ∧ (State.sendRecord a0 a1 s).quill = s.quill ∧ (State.sendRecord a0 a1
    s).compute = s.compute ∧ (State.sendRecord a0 a1 s).rng = s.rng ∧ (State.sendRecord a0 a1 s).mem = s.mem ∧
    (State.sendRecord a0 a1 s).boot = s.boot ∧ (State.sendRecord a0 a1 s).antler = s.antler ∧ (State.sendRecord a0 a1
    s).tamper = s.tamper ∧ (State.sendRecord a0 a1 s).calendar = s.calendar ∧ (State.sendRecord a0 a1 s).owl = s.owl ∧
    (State.sendRecord a0 a1 s).status = s.status ∧ (State.sendRecord a0 a1 s).check = s.check ∧ (State.sendRecord a0
    a1 s).power = s.power ∧ (State.sendRecord a0 a1 s).pins = s.pins ∧ (State.sendRecord a0 a1 s).freeNext =
    s.freeNext ∧ (State.sendRecord a0 a1 s).pending = s.pending := by
  intros; simp [State.sendRecord]
@[simp] theorem State_sendRelease_keeps : ∀ a0 s, (State.sendRelease a0 s).now = s.now ∧ (State.sendRelease a0
    s).lodge = s.lodge ∧ (State.sendRelease a0 s).host = s.host ∧ (State.sendRelease a0 s).cub = s.cub ∧
    (State.sendRelease a0 s).sett = s.sett ∧ (State.sendRelease a0 s).quill = s.quill ∧ (State.sendRelease a0
    s).compute = s.compute ∧ (State.sendRelease a0 s).rng = s.rng ∧ (State.sendRelease a0 s).mem = s.mem ∧
    (State.sendRelease a0 s).boot = s.boot ∧ (State.sendRelease a0 s).antler = s.antler ∧ (State.sendRelease a0
    s).tamper = s.tamper ∧ (State.sendRelease a0 s).calendar = s.calendar ∧ (State.sendRelease a0 s).owl = s.owl ∧
    (State.sendRelease a0 s).status = s.status ∧ (State.sendRelease a0 s).check = s.check ∧ (State.sendRelease a0
    s).power = s.power ∧ (State.sendRelease a0 s).pins = s.pins ∧ (State.sendRelease a0 s).freeNext = s.freeNext ∧
    (State.sendRelease a0 s).pending = s.pending := by
  intros; simp [State.sendRelease]
@[simp] theorem State_noteDivergence_keeps : ∀ a0 s, (State.noteDivergence a0 s).now = s.now ∧ (State.noteDivergence
    a0 s).lodge = s.lodge ∧ (State.noteDivergence a0 s).host = s.host ∧ (State.noteDivergence a0 s).cub = s.cub ∧
    (State.noteDivergence a0 s).sett = s.sett ∧ (State.noteDivergence a0 s).quill = s.quill ∧ (State.noteDivergence a0
    s).compute = s.compute ∧ (State.noteDivergence a0 s).rng = s.rng ∧ (State.noteDivergence a0 s).mem = s.mem ∧
    (State.noteDivergence a0 s).boot = s.boot ∧ (State.noteDivergence a0 s).antler = s.antler ∧ (State.noteDivergence
    a0 s).tamper = s.tamper ∧ (State.noteDivergence a0 s).calendar = s.calendar ∧ (State.noteDivergence a0 s).status =
    s.status ∧ (State.noteDivergence a0 s).check = s.check ∧ (State.noteDivergence a0 s).power = s.power ∧
    (State.noteDivergence a0 s).pins = s.pins ∧ (State.noteDivergence a0 s).outputs = s.outputs ∧
    (State.noteDivergence a0 s).freeNext = s.freeNext ∧ (State.noteDivergence a0 s).pending = s.pending := by
  intros; simp [State.noteDivergence]
@[simp] theorem State_adminRecord_keeps : ∀ a0 s, (State.adminRecord a0 s).now = s.now ∧ (State.adminRecord a0
    s).lodge = s.lodge ∧ (State.adminRecord a0 s).host = s.host ∧ (State.adminRecord a0 s).cub = s.cub ∧
    (State.adminRecord a0 s).sett = s.sett ∧ (State.adminRecord a0 s).quill = s.quill ∧ (State.adminRecord a0
    s).compute = s.compute ∧ (State.adminRecord a0 s).rng = s.rng ∧ (State.adminRecord a0 s).mem = s.mem ∧
    (State.adminRecord a0 s).boot = s.boot ∧ (State.adminRecord a0 s).antler = s.antler ∧ (State.adminRecord a0
    s).tamper = s.tamper ∧ (State.adminRecord a0 s).calendar = s.calendar ∧ (State.adminRecord a0 s).status = s.status
    ∧ (State.adminRecord a0 s).check = s.check ∧ (State.adminRecord a0 s).pair = s.pair ∧ (State.adminRecord a0
    s).power = s.power ∧ (State.adminRecord a0 s).pins = s.pins ∧ (State.adminRecord a0 s).outputs = s.outputs ∧
    (State.adminRecord a0 s).freeNext = s.freeNext ∧ (State.adminRecord a0 s).pending = s.pending := by
  intros; unfold State.adminRecord ; (repeat' split) <;> simp
@[simp] theorem State_setCore_keeps : ∀ a0 a1 s, (State.setCore a0 a1 s).now = s.now ∧ (State.setCore a0 a1 s).lodge =
    s.lodge ∧ (State.setCore a0 a1 s).host = s.host ∧ (State.setCore a0 a1 s).cub = s.cub ∧ (State.setCore a0 a1
    s).sett = s.sett ∧ (State.setCore a0 a1 s).quill = s.quill ∧ (State.setCore a0 a1 s).rng = s.rng ∧ (State.setCore
    a0 a1 s).mem = s.mem ∧ (State.setCore a0 a1 s).boot = s.boot ∧ (State.setCore a0 a1 s).antler = s.antler ∧
    (State.setCore a0 a1 s).tamper = s.tamper ∧ (State.setCore a0 a1 s).calendar = s.calendar ∧ (State.setCore a0 a1
    s).owl = s.owl ∧ (State.setCore a0 a1 s).status = s.status ∧ (State.setCore a0 a1 s).check = s.check ∧
    (State.setCore a0 a1 s).pair = s.pair ∧ (State.setCore a0 a1 s).power = s.power ∧ (State.setCore a0 a1 s).pins =
    s.pins ∧ (State.setCore a0 a1 s).outputs = s.outputs ∧ (State.setCore a0 a1 s).freeNext = s.freeNext ∧
    (State.setCore a0 a1 s).pending = s.pending := by
  intros; simp [State.setCore]
@[simp] theorem State_zeroMem_keeps : ∀ a0 a1 s, (State.zeroMem a0 a1 s).now = s.now ∧ (State.zeroMem a0 a1 s).lodge =
    s.lodge ∧ (State.zeroMem a0 a1 s).host = s.host ∧ (State.zeroMem a0 a1 s).cub = s.cub ∧ (State.zeroMem a0 a1
    s).sett = s.sett ∧ (State.zeroMem a0 a1 s).quill = s.quill ∧ (State.zeroMem a0 a1 s).compute = s.compute ∧
    (State.zeroMem a0 a1 s).rng = s.rng ∧ (State.zeroMem a0 a1 s).boot = s.boot ∧ (State.zeroMem a0 a1 s).antler =
    s.antler ∧ (State.zeroMem a0 a1 s).tamper = s.tamper ∧ (State.zeroMem a0 a1 s).calendar = s.calendar ∧
    (State.zeroMem a0 a1 s).owl = s.owl ∧ (State.zeroMem a0 a1 s).status = s.status ∧ (State.zeroMem a0 a1 s).check =
    s.check ∧ (State.zeroMem a0 a1 s).pair = s.pair ∧ (State.zeroMem a0 a1 s).power = s.power ∧ (State.zeroMem a0 a1
    s).pins = s.pins ∧ (State.zeroMem a0 a1 s).outputs = s.outputs ∧ (State.zeroMem a0 a1 s).freeNext = s.freeNext ∧
    (State.zeroMem a0 a1 s).pending = s.pending := by
  intros; simp [State.zeroMem]
@[simp] theorem State_zeroFrame_keeps : ∀ a0 a1 s, (State.zeroFrame a0 a1 s).now = s.now ∧ (State.zeroFrame a0 a1
    s).lodge = s.lodge ∧ (State.zeroFrame a0 a1 s).host = s.host ∧ (State.zeroFrame a0 a1 s).cub = s.cub ∧
    (State.zeroFrame a0 a1 s).sett = s.sett ∧ (State.zeroFrame a0 a1 s).quill = s.quill ∧ (State.zeroFrame a0 a1
    s).compute = s.compute ∧ (State.zeroFrame a0 a1 s).rng = s.rng ∧ (State.zeroFrame a0 a1 s).boot = s.boot ∧
    (State.zeroFrame a0 a1 s).antler = s.antler ∧ (State.zeroFrame a0 a1 s).tamper = s.tamper ∧ (State.zeroFrame a0 a1
    s).calendar = s.calendar ∧ (State.zeroFrame a0 a1 s).owl = s.owl ∧ (State.zeroFrame a0 a1 s).status = s.status ∧
    (State.zeroFrame a0 a1 s).check = s.check ∧ (State.zeroFrame a0 a1 s).pair = s.pair ∧ (State.zeroFrame a0 a1
    s).power = s.power ∧ (State.zeroFrame a0 a1 s).pins = s.pins ∧ (State.zeroFrame a0 a1 s).outputs = s.outputs ∧
    (State.zeroFrame a0 a1 s).freeNext = s.freeNext ∧ (State.zeroFrame a0 a1 s).pending = s.pending := by
  intros; simp [State.zeroFrame]
@[simp] theorem State_releaseCore_keeps : ∀ a0 s, (State.releaseCore a0 s).now = s.now ∧ (State.releaseCore a0
    s).lodge = s.lodge ∧ (State.releaseCore a0 s).cub = s.cub ∧ (State.releaseCore a0 s).sett = s.sett ∧
    (State.releaseCore a0 s).quill = s.quill ∧ (State.releaseCore a0 s).rng = s.rng ∧ (State.releaseCore a0 s).boot =
    s.boot ∧ (State.releaseCore a0 s).antler = s.antler ∧ (State.releaseCore a0 s).tamper = s.tamper ∧
    (State.releaseCore a0 s).calendar = s.calendar ∧ (State.releaseCore a0 s).owl = s.owl ∧ (State.releaseCore a0
    s).status = s.status ∧ (State.releaseCore a0 s).check = s.check ∧ (State.releaseCore a0 s).pair = s.pair ∧
    (State.releaseCore a0 s).pins = s.pins ∧ (State.releaseCore a0 s).outputs = s.outputs ∧ (State.releaseCore a0
    s).freeNext = s.freeNext ∧ (State.releaseCore a0 s).pending = s.pending := by
  intros; unfold State.releaseCore; (repeat' split) <;> simp
@[simp] theorem State_closeStream_keeps : ∀ a0 a1 s, (State.closeStream a0 a1 s).now = s.now ∧ (State.closeStream a0
    a1 s).lodge = s.lodge ∧ (State.closeStream a0 a1 s).cub = s.cub ∧ (State.closeStream a0 a1 s).sett = s.sett ∧
    (State.closeStream a0 a1 s).quill = s.quill ∧ (State.closeStream a0 a1 s).compute = s.compute ∧ (State.closeStream
    a0 a1 s).rng = s.rng ∧ (State.closeStream a0 a1 s).mem = s.mem ∧ (State.closeStream a0 a1 s).boot = s.boot ∧
    (State.closeStream a0 a1 s).antler = s.antler ∧ (State.closeStream a0 a1 s).tamper = s.tamper ∧ (State.closeStream
    a0 a1 s).calendar = s.calendar ∧ (State.closeStream a0 a1 s).owl = s.owl ∧ (State.closeStream a0 a1 s).status =
    s.status ∧ (State.closeStream a0 a1 s).check = s.check ∧ (State.closeStream a0 a1 s).pair = s.pair ∧
    (State.closeStream a0 a1 s).power = s.power ∧ (State.closeStream a0 a1 s).pins = s.pins ∧ (State.closeStream a0 a1
    s).outputs = s.outputs ∧ (State.closeStream a0 a1 s).freeNext = s.freeNext ∧ (State.closeStream a0 a1 s).pending =
    s.pending := by
  intros; simp [State.closeStream]
@[simp] theorem State_releaseKeys_keeps : ∀ a0 s, (State.releaseKeys a0 s).now = s.now ∧ (State.releaseKeys a0
    s).lodge = s.lodge ∧ (State.releaseKeys a0 s).cub = s.cub ∧ (State.releaseKeys a0 s).quill = s.quill ∧
    (State.releaseKeys a0 s).compute = s.compute ∧ (State.releaseKeys a0 s).rng = s.rng ∧ (State.releaseKeys a0 s).mem
    = s.mem ∧ (State.releaseKeys a0 s).boot = s.boot ∧ (State.releaseKeys a0 s).antler = s.antler ∧ (State.releaseKeys
    a0 s).tamper = s.tamper ∧ (State.releaseKeys a0 s).calendar = s.calendar ∧ (State.releaseKeys a0 s).owl = s.owl ∧
    (State.releaseKeys a0 s).status = s.status ∧ (State.releaseKeys a0 s).check = s.check ∧ (State.releaseKeys a0
    s).pair = s.pair ∧ (State.releaseKeys a0 s).power = s.power ∧ (State.releaseKeys a0 s).pins = s.pins ∧
    (State.releaseKeys a0 s).outputs = s.outputs ∧ (State.releaseKeys a0 s).freeNext = s.freeNext ∧ (State.releaseKeys
    a0 s).pending = s.pending := by
  intros; unfold State.releaseKeys; (repeat' split) <;> simp
@[simp] theorem State_storeRefused_keeps : ∀ s, (State.storeRefused s).now = s.now ∧ (State.storeRefused s).lodge =
    s.lodge ∧ (State.storeRefused s).host = s.host ∧ (State.storeRefused s).cub = s.cub ∧ (State.storeRefused s).sett
    = s.sett ∧ (State.storeRefused s).quill = s.quill ∧ (State.storeRefused s).compute = s.compute ∧
    (State.storeRefused s).rng = s.rng ∧ (State.storeRefused s).boot = s.boot ∧ (State.storeRefused s).antler =
    s.antler ∧ (State.storeRefused s).tamper = s.tamper ∧ (State.storeRefused s).calendar = s.calendar ∧
    (State.storeRefused s).check = s.check ∧ (State.storeRefused s).pair = s.pair ∧ (State.storeRefused s).power =
    s.power ∧ (State.storeRefused s).pins = s.pins ∧ (State.storeRefused s).outputs = s.outputs ∧ (State.storeRefused
    s).freeNext = s.freeNext ∧ (State.storeRefused s).pending = s.pending := by
  intros; simp [State.storeRefused]
@[simp] theorem State_endStream_keeps : ∀ a0 s, (State.endStream a0 s).now = s.now ∧ (State.endStream a0 s).lodge =
    s.lodge ∧ (State.endStream a0 s).cub = s.cub ∧ (State.endStream a0 s).sett = s.sett ∧ (State.endStream a0 s).quill
    = s.quill ∧ (State.endStream a0 s).compute = s.compute ∧ (State.endStream a0 s).rng = s.rng ∧ (State.endStream a0
    s).mem = s.mem ∧ (State.endStream a0 s).boot = s.boot ∧ (State.endStream a0 s).antler = s.antler ∧
    (State.endStream a0 s).tamper = s.tamper ∧ (State.endStream a0 s).calendar = s.calendar ∧ (State.endStream a0
    s).owl = s.owl ∧ (State.endStream a0 s).status = s.status ∧ (State.endStream a0 s).check = s.check ∧
    (State.endStream a0 s).pair = s.pair ∧ (State.endStream a0 s).power = s.power ∧ (State.endStream a0 s).pins =
    s.pins ∧ (State.endStream a0 s).outputs = s.outputs ∧ (State.endStream a0 s).freeNext = s.freeNext ∧
    (State.endStream a0 s).pending = s.pending := by
  intros; simp [State.endStream]
@[simp] theorem State_cutLen_keeps : ∀ a0 a1 a2 a3 a4 s, (State.cutLen a0 a1 a2 a3 a4 s).now = s.now ∧ (State.cutLen
    a0 a1 a2 a3 a4 s).lodge = s.lodge ∧ (State.cutLen a0 a1 a2 a3 a4 s).cub = s.cub ∧ (State.cutLen a0 a1 a2 a3 a4
    s).quill = s.quill ∧ (State.cutLen a0 a1 a2 a3 a4 s).boot = s.boot ∧ (State.cutLen a0 a1 a2 a3 a4 s).antler =
    s.antler ∧ (State.cutLen a0 a1 a2 a3 a4 s).tamper = s.tamper ∧ (State.cutLen a0 a1 a2 a3 a4 s).calendar =
    s.calendar ∧ (State.cutLen a0 a1 a2 a3 a4 s).check = s.check ∧ (State.cutLen a0 a1 a2 a3 a4 s).pair = s.pair ∧
    (State.cutLen a0 a1 a2 a3 a4 s).pins = s.pins ∧ (State.cutLen a0 a1 a2 a3 a4 s).outputs = s.outputs ∧
    (State.cutLen a0 a1 a2 a3 a4 s).freeNext = s.freeNext ∧ (State.cutLen a0 a1 a2 a3 a4 s).pending = s.pending := by
  intros; unfold State.cutLen; dsimp only; (repeat' split) <;> simp
@[simp] theorem State_divergeSlot_keeps : ∀ a0 s, (State.divergeSlot a0 s).now = s.now ∧ (State.divergeSlot a0
    s).lodge = s.lodge ∧ (State.divergeSlot a0 s).cub = s.cub ∧ (State.divergeSlot a0 s).quill = s.quill ∧
    (State.divergeSlot a0 s).boot = s.boot ∧ (State.divergeSlot a0 s).antler = s.antler ∧ (State.divergeSlot a0
    s).tamper = s.tamper ∧ (State.divergeSlot a0 s).calendar = s.calendar ∧ (State.divergeSlot a0 s).check = s.check ∧
    (State.divergeSlot a0 s).pins = s.pins ∧ (State.divergeSlot a0 s).outputs = s.outputs ∧ (State.divergeSlot a0
    s).freeNext = s.freeNext ∧ (State.divergeSlot a0 s).pending = s.pending := by
  intros; unfold State.divergeSlot; dsimp only; (repeat' split) <;> simp
@[simp] theorem State_diverge_keeps : ∀ a0 s, (State.diverge a0 s).now = s.now ∧ (State.diverge a0 s).lodge = s.lodge
    ∧ (State.diverge a0 s).cub = s.cub ∧ (State.diverge a0 s).quill = s.quill ∧ (State.diverge a0 s).boot = s.boot ∧
    (State.diverge a0 s).antler = s.antler ∧ (State.diverge a0 s).tamper = s.tamper ∧ (State.diverge a0 s).calendar =
    s.calendar ∧ (State.diverge a0 s).check = s.check ∧ (State.diverge a0 s).pins = s.pins ∧ (State.diverge a0
    s).freeNext = s.freeNext ∧ (State.diverge a0 s).pending = s.pending := by
  intros; simp [State.diverge]
@[simp] theorem State_pairEnded_keeps : ∀ a0 s, (State.pairEnded a0 s).now = s.now ∧ (State.pairEnded a0 s).lodge =
    s.lodge ∧ (State.pairEnded a0 s).cub = s.cub ∧ (State.pairEnded a0 s).quill = s.quill ∧ (State.pairEnded a0
    s).boot = s.boot ∧ (State.pairEnded a0 s).antler = s.antler ∧ (State.pairEnded a0 s).tamper = s.tamper ∧
    (State.pairEnded a0 s).calendar = s.calendar ∧ (State.pairEnded a0 s).check = s.check ∧ (State.pairEnded a0
    s).pins = s.pins ∧ (State.pairEnded a0 s).freeNext = s.freeNext ∧ (State.pairEnded a0 s).pending = s.pending := by
  intros; unfold State.pairEnded ; (repeat' split) <;> simp
@[simp] theorem State_endLen_keeps : ∀ a0 a1 a2 a3 a4 s, (State.endLen a0 a1 a2 a3 a4 s).now = s.now ∧ (State.endLen
    a0 a1 a2 a3 a4 s).lodge = s.lodge ∧ (State.endLen a0 a1 a2 a3 a4 s).cub = s.cub ∧ (State.endLen a0 a1 a2 a3 a4
    s).quill = s.quill ∧ (State.endLen a0 a1 a2 a3 a4 s).boot = s.boot ∧ (State.endLen a0 a1 a2 a3 a4 s).antler =
    s.antler ∧ (State.endLen a0 a1 a2 a3 a4 s).tamper = s.tamper ∧ (State.endLen a0 a1 a2 a3 a4 s).calendar =
    s.calendar ∧ (State.endLen a0 a1 a2 a3 a4 s).check = s.check ∧ (State.endLen a0 a1 a2 a3 a4 s).pins = s.pins ∧
    (State.endLen a0 a1 a2 a3 a4 s).freeNext = s.freeNext ∧ (State.endLen a0 a1 a2 a3 a4 s).pending = s.pending := by
  intros; unfold State.endLen ; (repeat' split) <;> simp
@[simp] theorem State_endCmd_keeps : ∀ a0 a1 a2 a3 s, (State.endCmd a0 a1 a2 a3 s).now = s.now ∧ (State.endCmd a0 a1
    a2 a3 s).lodge = s.lodge ∧ (State.endCmd a0 a1 a2 a3 s).cub = s.cub ∧ (State.endCmd a0 a1 a2 a3 s).quill = s.quill
    ∧ (State.endCmd a0 a1 a2 a3 s).boot = s.boot ∧ (State.endCmd a0 a1 a2 a3 s).antler = s.antler ∧ (State.endCmd a0
    a1 a2 a3 s).tamper = s.tamper ∧ (State.endCmd a0 a1 a2 a3 s).calendar = s.calendar ∧ (State.endCmd a0 a1 a2 a3
    s).check = s.check ∧ (State.endCmd a0 a1 a2 a3 s).pins = s.pins ∧ (State.endCmd a0 a1 a2 a3 s).freeNext =
    s.freeNext ∧ (State.endCmd a0 a1 a2 a3 s).pending = s.pending := by
  intros; simp [State.endCmd]
@[simp] theorem State_succeed_keeps : ∀ a0 a1 s, (State.succeed a0 a1 s).now = s.now ∧ (State.succeed a0 a1 s).lodge =
    s.lodge ∧ (State.succeed a0 a1 s).cub = s.cub ∧ (State.succeed a0 a1 s).quill = s.quill ∧ (State.succeed a0 a1
    s).boot = s.boot ∧ (State.succeed a0 a1 s).antler = s.antler ∧ (State.succeed a0 a1 s).tamper = s.tamper ∧
    (State.succeed a0 a1 s).calendar = s.calendar ∧ (State.succeed a0 a1 s).check = s.check ∧ (State.succeed a0 a1
    s).pins = s.pins ∧ (State.succeed a0 a1 s).freeNext = s.freeNext ∧ (State.succeed a0 a1 s).pending = s.pending :=
    by
  intros; simp [State.succeed]
@[simp] theorem State_endRequest_keeps : ∀ a0 a1 a2 s, (State.endRequest a0 a1 a2 s).now = s.now ∧ (State.endRequest
    a0 a1 a2 s).lodge = s.lodge ∧ (State.endRequest a0 a1 a2 s).cub = s.cub ∧ (State.endRequest a0 a1 a2 s).boot =
    s.boot ∧ (State.endRequest a0 a1 a2 s).antler = s.antler ∧ (State.endRequest a0 a1 a2 s).tamper = s.tamper ∧
    (State.endRequest a0 a1 a2 s).calendar = s.calendar ∧ (State.endRequest a0 a1 a2 s).check = s.check ∧
    (State.endRequest a0 a1 a2 s).pins = s.pins ∧ (State.endRequest a0 a1 a2 s).freeNext = s.freeNext ∧
    (State.endRequest a0 a1 a2 s).pending = s.pending := by
  intros; unfold State.endRequest ; dsimp only; (repeat' split) <;> simp
@[simp] theorem State_failCmd_keeps : ∀ a0 a1 s, (State.failCmd a0 a1 s).now = s.now ∧ (State.failCmd a0 a1 s).lodge =
    s.lodge ∧ (State.failCmd a0 a1 s).cub = s.cub ∧ (State.failCmd a0 a1 s).quill = s.quill ∧ (State.failCmd a0 a1
    s).boot = s.boot ∧ (State.failCmd a0 a1 s).antler = s.antler ∧ (State.failCmd a0 a1 s).tamper = s.tamper ∧
    (State.failCmd a0 a1 s).calendar = s.calendar ∧ (State.failCmd a0 a1 s).check = s.check ∧ (State.failCmd a0 a1
    s).pins = s.pins ∧ (State.failCmd a0 a1 s).freeNext = s.freeNext ∧ (State.failCmd a0 a1 s).pending = s.pending :=
    by
  intros; simp [State.failCmd]
@[simp] theorem State_free_keeps : ∀ s, (State.free s).2.now = s.now ∧ (State.free s).2.lodge = s.lodge ∧ (State.free
    s).2.host = s.host ∧ (State.free s).2.cub = s.cub ∧ (State.free s).2.sett = s.sett ∧ (State.free s).2.quill =
    s.quill ∧ (State.free s).2.compute = s.compute ∧ (State.free s).2.rng = s.rng ∧ (State.free s).2.mem = s.mem ∧
    (State.free s).2.boot = s.boot ∧ (State.free s).2.antler = s.antler ∧ (State.free s).2.tamper = s.tamper ∧
    (State.free s).2.calendar = s.calendar ∧ (State.free s).2.owl = s.owl ∧ (State.free s).2.status = s.status ∧
    (State.free s).2.check = s.check ∧ (State.free s).2.pair = s.pair ∧ (State.free s).2.power = s.power ∧ (State.free
    s).2.pins = s.pins ∧ (State.free s).2.outputs = s.outputs ∧ (State.free s).2.pending = s.pending := by
  intros; simp [State.free]
@[simp] theorem State_movePieces_keeps : ∀ a0 n a1 a2 s, (State.movePieces a0 n a1 a2 s).2.now = s.now ∧
    (State.movePieces a0 n a1 a2 s).2.lodge = s.lodge ∧ (State.movePieces a0 n a1 a2 s).2.host = s.host ∧
    (State.movePieces a0 n a1 a2 s).2.cub = s.cub ∧ (State.movePieces a0 n a1 a2 s).2.sett = s.sett ∧
    (State.movePieces a0 n a1 a2 s).2.quill = s.quill ∧ (State.movePieces a0 n a1 a2 s).2.compute = s.compute ∧
    (State.movePieces a0 n a1 a2 s).2.rng = s.rng ∧ (State.movePieces a0 n a1 a2 s).2.boot = s.boot ∧
    (State.movePieces a0 n a1 a2 s).2.antler = s.antler ∧ (State.movePieces a0 n a1 a2 s).2.tamper = s.tamper ∧
    (State.movePieces a0 n a1 a2 s).2.calendar = s.calendar ∧ (State.movePieces a0 n a1 a2 s).2.check = s.check ∧
    (State.movePieces a0 n a1 a2 s).2.pair = s.pair ∧ (State.movePieces a0 n a1 a2 s).2.power = s.power ∧
    (State.movePieces a0 n a1 a2 s).2.pins = s.pins ∧ (State.movePieces a0 n a1 a2 s).2.outputs = s.outputs ∧
    (State.movePieces a0 n a1 a2 s).2.freeNext = s.freeNext ∧ (State.movePieces a0 n a1 a2 s).2.pending = s.pending :=
    by
  intro a0 n
  induction n with
  | zero => intros; simp [State.movePieces]
  | succ n ih => intros; unfold State.movePieces; (repeat' split) <;> simp [ih]
@[simp] theorem State_hostMove_keeps : ∀ a0 a1 a2 a3 s, (State.hostMove a0 a1 a2 a3 s).2.now = s.now ∧ (State.hostMove
    a0 a1 a2 a3 s).2.lodge = s.lodge ∧ (State.hostMove a0 a1 a2 a3 s).2.host = s.host ∧ (State.hostMove a0 a1 a2 a3
    s).2.cub = s.cub ∧ (State.hostMove a0 a1 a2 a3 s).2.sett = s.sett ∧ (State.hostMove a0 a1 a2 a3 s).2.quill =
    s.quill ∧ (State.hostMove a0 a1 a2 a3 s).2.compute = s.compute ∧ (State.hostMove a0 a1 a2 a3 s).2.rng = s.rng ∧
    (State.hostMove a0 a1 a2 a3 s).2.boot = s.boot ∧ (State.hostMove a0 a1 a2 a3 s).2.antler = s.antler ∧
    (State.hostMove a0 a1 a2 a3 s).2.tamper = s.tamper ∧ (State.hostMove a0 a1 a2 a3 s).2.calendar = s.calendar ∧
    (State.hostMove a0 a1 a2 a3 s).2.check = s.check ∧ (State.hostMove a0 a1 a2 a3 s).2.pair = s.pair ∧
    (State.hostMove a0 a1 a2 a3 s).2.power = s.power ∧ (State.hostMove a0 a1 a2 a3 s).2.pins = s.pins ∧
    (State.hostMove a0 a1 a2 a3 s).2.outputs = s.outputs ∧ (State.hostMove a0 a1 a2 a3 s).2.freeNext = s.freeNext ∧
    (State.hostMove a0 a1 a2 a3 s).2.pending = s.pending := by
  intros; unfold State.hostMove; split <;> simp
@[simp] theorem State_putTarget_keeps : ∀ a0 a1 a2 s, (State.putTarget a0 a1 a2 s).now = s.now ∧ (State.putTarget a0
    a1 a2 s).lodge = s.lodge ∧ (State.putTarget a0 a1 a2 s).host = s.host ∧ (State.putTarget a0 a1 a2 s).cub = s.cub ∧
    (State.putTarget a0 a1 a2 s).sett = s.sett ∧ (State.putTarget a0 a1 a2 s).quill = s.quill ∧ (State.putTarget a0 a1
    a2 s).compute = s.compute ∧ (State.putTarget a0 a1 a2 s).rng = s.rng ∧ (State.putTarget a0 a1 a2 s).boot = s.boot
    ∧ (State.putTarget a0 a1 a2 s).antler = s.antler ∧ (State.putTarget a0 a1 a2 s).tamper = s.tamper ∧
    (State.putTarget a0 a1 a2 s).calendar = s.calendar ∧ (State.putTarget a0 a1 a2 s).owl = s.owl ∧ (State.putTarget
    a0 a1 a2 s).status = s.status ∧ (State.putTarget a0 a1 a2 s).check = s.check ∧ (State.putTarget a0 a1 a2 s).pair =
    s.pair ∧ (State.putTarget a0 a1 a2 s).power = s.power ∧ (State.putTarget a0 a1 a2 s).pins = s.pins ∧
    (State.putTarget a0 a1 a2 s).outputs = s.outputs ∧ (State.putTarget a0 a1 a2 s).freeNext = s.freeNext ∧
    (State.putTarget a0 a1 a2 s).pending = s.pending := by
  intros; simp [State.putTarget]
@[simp] theorem State_fillInput_keeps : ∀ a0 a1 s, (State.fillInput a0 a1 s).now = s.now ∧ (State.fillInput a0 a1
    s).lodge = s.lodge ∧ (State.fillInput a0 a1 s).host = s.host ∧ (State.fillInput a0 a1 s).cub = s.cub ∧
    (State.fillInput a0 a1 s).sett = s.sett ∧ (State.fillInput a0 a1 s).quill = s.quill ∧ (State.fillInput a0 a1
    s).compute = s.compute ∧ (State.fillInput a0 a1 s).rng = s.rng ∧ (State.fillInput a0 a1 s).boot = s.boot ∧
    (State.fillInput a0 a1 s).antler = s.antler ∧ (State.fillInput a0 a1 s).tamper = s.tamper ∧ (State.fillInput a0 a1
    s).calendar = s.calendar ∧ (State.fillInput a0 a1 s).check = s.check ∧ (State.fillInput a0 a1 s).pair = s.pair ∧
    (State.fillInput a0 a1 s).power = s.power ∧ (State.fillInput a0 a1 s).pins = s.pins ∧ (State.fillInput a0 a1
    s).outputs = s.outputs ∧ (State.fillInput a0 a1 s).freeNext = s.freeNext ∧ (State.fillInput a0 a1 s).pending =
    s.pending := by
  intros; simp [State.fillInput]
@[simp] theorem State_lodgeReport_keeps : ∀ s, (State.lodgeReport s).now = s.now ∧ (State.lodgeReport s).host = s.host
    ∧ (State.lodgeReport s).cub = s.cub ∧ (State.lodgeReport s).sett = s.sett ∧ (State.lodgeReport s).quill = s.quill
    ∧ (State.lodgeReport s).compute = s.compute ∧ (State.lodgeReport s).rng = s.rng ∧ (State.lodgeReport s).mem =
    s.mem ∧ (State.lodgeReport s).boot = s.boot ∧ (State.lodgeReport s).antler = s.antler ∧ (State.lodgeReport
    s).tamper = s.tamper ∧ (State.lodgeReport s).calendar = s.calendar ∧ (State.lodgeReport s).owl = s.owl ∧
    (State.lodgeReport s).status = s.status ∧ (State.lodgeReport s).check = s.check ∧ (State.lodgeReport s).pair =
    s.pair ∧ (State.lodgeReport s).power = s.power ∧ (State.lodgeReport s).pins = s.pins ∧ (State.lodgeReport
    s).outputs = s.outputs ∧ (State.lodgeReport s).freeNext = s.freeNext ∧ (State.lodgeReport s).pending = s.pending
    := by
  intros; simp [State.lodgeReport]
@[simp] theorem State_noteQuiescent_keeps : ∀ s, (State.noteQuiescent s).now = s.now ∧ (State.noteQuiescent s).host =
    s.host ∧ (State.noteQuiescent s).cub = s.cub ∧ (State.noteQuiescent s).sett = s.sett ∧ (State.noteQuiescent
    s).quill = s.quill ∧ (State.noteQuiescent s).compute = s.compute ∧ (State.noteQuiescent s).rng = s.rng ∧
    (State.noteQuiescent s).mem = s.mem ∧ (State.noteQuiescent s).boot = s.boot ∧ (State.noteQuiescent s).antler =
    s.antler ∧ (State.noteQuiescent s).tamper = s.tamper ∧ (State.noteQuiescent s).calendar = s.calendar ∧
    (State.noteQuiescent s).owl = s.owl ∧ (State.noteQuiescent s).status = s.status ∧ (State.noteQuiescent s).check =
    s.check ∧ (State.noteQuiescent s).pair = s.pair ∧ (State.noteQuiescent s).power = s.power ∧ (State.noteQuiescent
    s).pins = s.pins ∧ (State.noteQuiescent s).outputs = s.outputs ∧ (State.noteQuiescent s).freeNext = s.freeNext ∧
    (State.noteQuiescent s).pending = s.pending := by
  intros; simp [State.noteQuiescent]
@[simp] theorem State_releaseSlot_keeps : ∀ a0 s, (State.releaseSlot a0 s).now = s.now ∧ (State.releaseSlot a0 s).cub
    = s.cub ∧ (State.releaseSlot a0 s).sett = s.sett ∧ (State.releaseSlot a0 s).quill = s.quill ∧ (State.releaseSlot
    a0 s).compute = s.compute ∧ (State.releaseSlot a0 s).rng = s.rng ∧ (State.releaseSlot a0 s).mem = s.mem ∧
    (State.releaseSlot a0 s).boot = s.boot ∧ (State.releaseSlot a0 s).antler = s.antler ∧ (State.releaseSlot a0
    s).tamper = s.tamper ∧ (State.releaseSlot a0 s).calendar = s.calendar ∧ (State.releaseSlot a0 s).owl = s.owl ∧
    (State.releaseSlot a0 s).status = s.status ∧ (State.releaseSlot a0 s).check = s.check ∧ (State.releaseSlot a0
    s).power = s.power ∧ (State.releaseSlot a0 s).pins = s.pins ∧ (State.releaseSlot a0 s).outputs = s.outputs ∧
    (State.releaseSlot a0 s).freeNext = s.freeNext ∧ (State.releaseSlot a0 s).pending = s.pending := by
  intros; simp [State.releaseSlot]
@[simp] theorem State_discardSlot_keeps : ∀ a0 s, (State.discardSlot a0 s).now = s.now ∧ (State.discardSlot a0 s).cub
    = s.cub ∧ (State.discardSlot a0 s).boot = s.boot ∧ (State.discardSlot a0 s).antler = s.antler ∧ (State.discardSlot
    a0 s).tamper = s.tamper ∧ (State.discardSlot a0 s).calendar = s.calendar ∧ (State.discardSlot a0 s).check =
    s.check ∧ (State.discardSlot a0 s).pins = s.pins ∧ (State.discardSlot a0 s).outputs = s.outputs ∧
    (State.discardSlot a0 s).freeNext = s.freeNext ∧ (State.discardSlot a0 s).pending = s.pending := by
  intros; simp [State.discardSlot]
@[simp] theorem State_discardSlots_keeps : ∀ s, (State.discardSlots s).now = s.now ∧ (State.discardSlots s).cub =
    s.cub ∧ (State.discardSlots s).boot = s.boot ∧ (State.discardSlots s).antler = s.antler ∧ (State.discardSlots
    s).tamper = s.tamper ∧ (State.discardSlots s).calendar = s.calendar ∧ (State.discardSlots s).check = s.check ∧
    (State.discardSlots s).pins = s.pins ∧ (State.discardSlots s).outputs = s.outputs ∧ (State.discardSlots
    s).freeNext = s.freeNext ∧ (State.discardSlots s).pending = s.pending := by
  intros; simp [State.discardSlots]
@[simp] theorem State_leaveStep_keeps : ∀ s, (State.leaveStep s).now = s.now ∧ (State.leaveStep s).lodge = s.lodge ∧
    (State.leaveStep s).host = s.host ∧ (State.leaveStep s).cub = s.cub ∧ (State.leaveStep s).sett = s.sett ∧
    (State.leaveStep s).quill = s.quill ∧ (State.leaveStep s).compute = s.compute ∧ (State.leaveStep s).rng = s.rng ∧
    (State.leaveStep s).mem = s.mem ∧ (State.leaveStep s).boot = s.boot ∧ (State.leaveStep s).antler = s.antler ∧
    (State.leaveStep s).tamper = s.tamper ∧ (State.leaveStep s).calendar = s.calendar ∧ (State.leaveStep s).owl =
    s.owl ∧ (State.leaveStep s).status = s.status ∧ (State.leaveStep s).check = s.check ∧ (State.leaveStep s).power =
    s.power ∧ (State.leaveStep s).pins = s.pins ∧ (State.leaveStep s).outputs = s.outputs ∧ (State.leaveStep
    s).freeNext = s.freeNext ∧ (State.leaveStep s).pending = s.pending := by
  intros; simp [State.leaveStep]
@[simp] theorem State_portsOff_keeps : ∀ s, (State.portsOff s).now = s.now ∧ (State.portsOff s).lodge = s.lodge ∧
    (State.portsOff s).host = s.host ∧ (State.portsOff s).cub = s.cub ∧ (State.portsOff s).sett = s.sett ∧
    (State.portsOff s).compute = s.compute ∧ (State.portsOff s).rng = s.rng ∧ (State.portsOff s).mem = s.mem ∧
    (State.portsOff s).boot = s.boot ∧ (State.portsOff s).antler = s.antler ∧ (State.portsOff s).tamper = s.tamper ∧
    (State.portsOff s).calendar = s.calendar ∧ (State.portsOff s).owl = s.owl ∧ (State.portsOff s).status = s.status ∧
    (State.portsOff s).check = s.check ∧ (State.portsOff s).pair = s.pair ∧ (State.portsOff s).power = s.power ∧
    (State.portsOff s).pins = s.pins ∧ (State.portsOff s).outputs = s.outputs ∧ (State.portsOff s).freeNext =
    s.freeNext ∧ (State.portsOff s).pending = s.pending := by
  intros; simp [State.portsOff]
@[simp] theorem State_detach_keeps : ∀ s, (State.detach s).now = s.now ∧ (State.detach s).cub = s.cub ∧ (State.detach
    s).boot = s.boot ∧ (State.detach s).antler = s.antler ∧ (State.detach s).tamper = s.tamper ∧ (State.detach
    s).calendar = s.calendar ∧ (State.detach s).check = s.check ∧ (State.detach s).pins = s.pins ∧ (State.detach
    s).outputs = s.outputs ∧ (State.detach s).freeNext = s.freeNext ∧ (State.detach s).pending = s.pending := by
  intros; simp [State.detach]
@[simp] theorem State_wipeLarder_keeps : ∀ a0 a1 a2 s, (State.wipeLarder a0 a1 a2 s).now = s.now ∧ (State.wipeLarder
    a0 a1 a2 s).lodge = s.lodge ∧ (State.wipeLarder a0 a1 a2 s).host = s.host ∧ (State.wipeLarder a0 a1 a2 s).cub =
    s.cub ∧ (State.wipeLarder a0 a1 a2 s).sett = s.sett ∧ (State.wipeLarder a0 a1 a2 s).quill = s.quill ∧
    (State.wipeLarder a0 a1 a2 s).compute = s.compute ∧ (State.wipeLarder a0 a1 a2 s).rng = s.rng ∧ (State.wipeLarder
    a0 a1 a2 s).boot = s.boot ∧ (State.wipeLarder a0 a1 a2 s).antler = s.antler ∧ (State.wipeLarder a0 a1 a2 s).tamper
    = s.tamper ∧ (State.wipeLarder a0 a1 a2 s).calendar = s.calendar ∧ (State.wipeLarder a0 a1 a2 s).owl = s.owl ∧
    (State.wipeLarder a0 a1 a2 s).status = s.status ∧ (State.wipeLarder a0 a1 a2 s).check = s.check ∧
    (State.wipeLarder a0 a1 a2 s).pair = s.pair ∧ (State.wipeLarder a0 a1 a2 s).power = s.power ∧ (State.wipeLarder a0
    a1 a2 s).pins = s.pins ∧ (State.wipeLarder a0 a1 a2 s).outputs = s.outputs ∧ (State.wipeLarder a0 a1 a2
    s).freeNext = s.freeNext ∧ (State.wipeLarder a0 a1 a2 s).pending = s.pending := by
  intros; simp [State.wipeLarder]
@[simp] theorem State_beginWake_keeps : ∀ a0 s, (State.beginWake a0 s).now = s.now ∧ (State.beginWake a0 s).lodge =
    s.lodge ∧ (State.beginWake a0 s).host = s.host ∧ (State.beginWake a0 s).cub = s.cub ∧ (State.beginWake a0 s).sett
    = s.sett ∧ (State.beginWake a0 s).quill = s.quill ∧ (State.beginWake a0 s).compute = s.compute ∧ (State.beginWake
    a0 s).rng = s.rng ∧ (State.beginWake a0 s).boot = s.boot ∧ (State.beginWake a0 s).antler = s.antler ∧
    (State.beginWake a0 s).tamper = s.tamper ∧ (State.beginWake a0 s).calendar = s.calendar ∧ (State.beginWake a0
    s).check = s.check ∧ (State.beginWake a0 s).pair = s.pair ∧ (State.beginWake a0 s).pins = s.pins ∧
    (State.beginWake a0 s).outputs = s.outputs ∧ (State.beginWake a0 s).freeNext = s.freeNext ∧ (State.beginWake a0
    s).pending = s.pending := by
  intros; simp [State.beginWake]
@[simp] theorem State_reqResult_keeps : ∀ a0 a1 a2 s, (State.reqResult a0 a1 a2 s).now = s.now ∧ (State.reqResult a0
    a1 a2 s).lodge = s.lodge ∧ (State.reqResult a0 a1 a2 s).host = s.host ∧ (State.reqResult a0 a1 a2 s).cub = s.cub ∧
    (State.reqResult a0 a1 a2 s).sett = s.sett ∧ (State.reqResult a0 a1 a2 s).quill = s.quill ∧ (State.reqResult a0 a1
    a2 s).compute = s.compute ∧ (State.reqResult a0 a1 a2 s).rng = s.rng ∧ (State.reqResult a0 a1 a2 s).mem = s.mem ∧
    (State.reqResult a0 a1 a2 s).boot = s.boot ∧ (State.reqResult a0 a1 a2 s).antler = s.antler ∧ (State.reqResult a0
    a1 a2 s).tamper = s.tamper ∧ (State.reqResult a0 a1 a2 s).calendar = s.calendar ∧ (State.reqResult a0 a1 a2 s).owl
    = s.owl ∧ (State.reqResult a0 a1 a2 s).status = s.status ∧ (State.reqResult a0 a1 a2 s).check = s.check ∧
    (State.reqResult a0 a1 a2 s).pair = s.pair ∧ (State.reqResult a0 a1 a2 s).pins = s.pins ∧ (State.reqResult a0 a1
    a2 s).outputs = s.outputs ∧ (State.reqResult a0 a1 a2 s).freeNext = s.freeNext ∧ (State.reqResult a0 a1 a2
    s).pending = s.pending := by
  intros; simp [State.reqResult]
@[simp] theorem State_endGateRequest_keeps : ∀ a0 a1 s, (State.endGateRequest a0 a1 s).now = s.now ∧
    (State.endGateRequest a0 a1 s).lodge = s.lodge ∧ (State.endGateRequest a0 a1 s).host = s.host ∧
    (State.endGateRequest a0 a1 s).cub = s.cub ∧ (State.endGateRequest a0 a1 s).sett = s.sett ∧ (State.endGateRequest
    a0 a1 s).quill = s.quill ∧ (State.endGateRequest a0 a1 s).compute = s.compute ∧ (State.endGateRequest a0 a1 s).rng
    = s.rng ∧ (State.endGateRequest a0 a1 s).mem = s.mem ∧ (State.endGateRequest a0 a1 s).boot = s.boot ∧
    (State.endGateRequest a0 a1 s).antler = s.antler ∧ (State.endGateRequest a0 a1 s).tamper = s.tamper ∧
    (State.endGateRequest a0 a1 s).calendar = s.calendar ∧ (State.endGateRequest a0 a1 s).owl = s.owl ∧
    (State.endGateRequest a0 a1 s).status = s.status ∧ (State.endGateRequest a0 a1 s).check = s.check ∧
    (State.endGateRequest a0 a1 s).pair = s.pair ∧ (State.endGateRequest a0 a1 s).pins = s.pins ∧
    (State.endGateRequest a0 a1 s).outputs = s.outputs ∧ (State.endGateRequest a0 a1 s).freeNext = s.freeNext ∧
    (State.endGateRequest a0 a1 s).pending = s.pending := by
  intros; simp [State.endGateRequest]
@[simp] theorem State_reload_keeps : ∀ a0 a1 s, (State.reload a0 a1 s).now = s.now ∧ (State.reload a0 a1 s).lodge =
    s.lodge ∧ (State.reload a0 a1 s).cub = s.cub ∧ (State.reload a0 a1 s).sett = s.sett ∧ (State.reload a0 a1 s).quill
    = s.quill ∧ (State.reload a0 a1 s).compute = s.compute ∧ (State.reload a0 a1 s).rng = s.rng ∧ (State.reload a0 a1
    s).mem = s.mem ∧ (State.reload a0 a1 s).boot = s.boot ∧ (State.reload a0 a1 s).antler = s.antler ∧ (State.reload
    a0 a1 s).tamper = s.tamper ∧ (State.reload a0 a1 s).calendar = s.calendar ∧ (State.reload a0 a1 s).owl = s.owl ∧
    (State.reload a0 a1 s).status = s.status ∧ (State.reload a0 a1 s).check = s.check ∧ (State.reload a0 a1 s).pair =
    s.pair ∧ (State.reload a0 a1 s).power = s.power ∧ (State.reload a0 a1 s).pins = s.pins ∧ (State.reload a0 a1
    s).outputs = s.outputs ∧ (State.reload a0 a1 s).freeNext = s.freeNext ∧ (State.reload a0 a1 s).pending = s.pending
    := by
  intros; simp [State.reload]
@[simp] theorem State_setMonitor_keeps : ∀ a0 a1 s, (State.setMonitor a0 a1 s).now = s.now ∧ (State.setMonitor a0 a1
    s).lodge = s.lodge ∧ (State.setMonitor a0 a1 s).host = s.host ∧ (State.setMonitor a0 a1 s).cub = s.cub ∧
    (State.setMonitor a0 a1 s).sett = s.sett ∧ (State.setMonitor a0 a1 s).quill = s.quill ∧ (State.setMonitor a0 a1
    s).compute = s.compute ∧ (State.setMonitor a0 a1 s).rng = s.rng ∧ (State.setMonitor a0 a1 s).mem = s.mem ∧
    (State.setMonitor a0 a1 s).boot = s.boot ∧ (State.setMonitor a0 a1 s).antler = s.antler ∧ (State.setMonitor a0 a1
    s).calendar = s.calendar ∧ (State.setMonitor a0 a1 s).owl = s.owl ∧ (State.setMonitor a0 a1 s).status = s.status ∧
    (State.setMonitor a0 a1 s).check = s.check ∧ (State.setMonitor a0 a1 s).pair = s.pair ∧ (State.setMonitor a0 a1
    s).power = s.power ∧ (State.setMonitor a0 a1 s).pins = s.pins ∧ (State.setMonitor a0 a1 s).outputs = s.outputs ∧
    (State.setMonitor a0 a1 s).freeNext = s.freeNext ∧ (State.setMonitor a0 a1 s).pending = s.pending := by
  intros; simp [State.setMonitor]
@[simp] theorem State_applyTighten_keeps : ∀ a0 s, (State.applyTighten a0 s).now = s.now ∧ (State.applyTighten a0
    s).lodge = s.lodge ∧ (State.applyTighten a0 s).host = s.host ∧ (State.applyTighten a0 s).cub = s.cub ∧
    (State.applyTighten a0 s).sett = s.sett ∧ (State.applyTighten a0 s).quill = s.quill ∧ (State.applyTighten a0
    s).compute = s.compute ∧ (State.applyTighten a0 s).rng = s.rng ∧ (State.applyTighten a0 s).mem = s.mem ∧
    (State.applyTighten a0 s).boot = s.boot ∧ (State.applyTighten a0 s).antler = s.antler ∧ (State.applyTighten a0
    s).calendar = s.calendar ∧ (State.applyTighten a0 s).owl = s.owl ∧ (State.applyTighten a0 s).status = s.status ∧
    (State.applyTighten a0 s).check = s.check ∧ (State.applyTighten a0 s).pair = s.pair ∧ (State.applyTighten a0
    s).power = s.power ∧ (State.applyTighten a0 s).pins = s.pins ∧ (State.applyTighten a0 s).outputs = s.outputs ∧
    (State.applyTighten a0 s).freeNext = s.freeNext ∧ (State.applyTighten a0 s).pending = s.pending := by
  intros; simp [State.applyTighten]
@[simp] theorem State_park_keeps : ∀ a0 a1 s, (State.park a0 a1 s).now = s.now ∧ (State.park a0 a1 s).lodge = s.lodge
    ∧ (State.park a0 a1 s).cub = s.cub ∧ (State.park a0 a1 s).sett = s.sett ∧ (State.park a0 a1 s).quill = s.quill ∧
    (State.park a0 a1 s).rng = s.rng ∧ (State.park a0 a1 s).mem = s.mem ∧ (State.park a0 a1 s).boot = s.boot ∧
    (State.park a0 a1 s).antler = s.antler ∧ (State.park a0 a1 s).tamper = s.tamper ∧ (State.park a0 a1 s).calendar =
    s.calendar ∧ (State.park a0 a1 s).owl = s.owl ∧ (State.park a0 a1 s).status = s.status ∧ (State.park a0 a1
    s).check = s.check ∧ (State.park a0 a1 s).pair = s.pair ∧ (State.park a0 a1 s).power = s.power ∧ (State.park a0 a1
    s).pins = s.pins ∧ (State.park a0 a1 s).outputs = s.outputs ∧ (State.park a0 a1 s).freeNext = s.freeNext ∧
    (State.park a0 a1 s).pending = s.pending := by
  intros; unfold State.park ; (repeat' split) <;> simp
@[simp] theorem State_awaitJobs_keeps : ∀ a0 s, (State.awaitJobs a0 s).now = s.now ∧ (State.awaitJobs a0 s).lodge =
    s.lodge ∧ (State.awaitJobs a0 s).cub = s.cub ∧ (State.awaitJobs a0 s).sett = s.sett ∧ (State.awaitJobs a0 s).quill
    = s.quill ∧ (State.awaitJobs a0 s).rng = s.rng ∧ (State.awaitJobs a0 s).mem = s.mem ∧ (State.awaitJobs a0 s).boot
    = s.boot ∧ (State.awaitJobs a0 s).antler = s.antler ∧ (State.awaitJobs a0 s).tamper = s.tamper ∧ (State.awaitJobs
    a0 s).calendar = s.calendar ∧ (State.awaitJobs a0 s).owl = s.owl ∧ (State.awaitJobs a0 s).status = s.status ∧
    (State.awaitJobs a0 s).check = s.check ∧ (State.awaitJobs a0 s).pair = s.pair ∧ (State.awaitJobs a0 s).power =
    s.power ∧ (State.awaitJobs a0 s).pins = s.pins ∧ (State.awaitJobs a0 s).outputs = s.outputs ∧ (State.awaitJobs a0
    s).freeNext = s.freeNext ∧ (State.awaitJobs a0 s).pending = s.pending := by
  intros; unfold State.awaitJobs ; (repeat' split) <;> simp
@[simp] theorem State_takeUnits_keeps : ∀ a0 s, (State.takeUnits a0 s).2.now = s.now ∧ (State.takeUnits a0 s).2.lodge
    = s.lodge ∧ (State.takeUnits a0 s).2.host = s.host ∧ (State.takeUnits a0 s).2.cub = s.cub ∧ (State.takeUnits a0
    s).2.sett = s.sett ∧ (State.takeUnits a0 s).2.quill = s.quill ∧ (State.takeUnits a0 s).2.compute = s.compute ∧
    (State.takeUnits a0 s).2.mem = s.mem ∧ (State.takeUnits a0 s).2.boot = s.boot ∧ (State.takeUnits a0 s).2.antler =
    s.antler ∧ (State.takeUnits a0 s).2.tamper = s.tamper ∧ (State.takeUnits a0 s).2.calendar = s.calendar ∧
    (State.takeUnits a0 s).2.owl = s.owl ∧ (State.takeUnits a0 s).2.status = s.status ∧ (State.takeUnits a0 s).2.check
    = s.check ∧ (State.takeUnits a0 s).2.pair = s.pair ∧ (State.takeUnits a0 s).2.power = s.power ∧ (State.takeUnits
    a0 s).2.pins = s.pins ∧ (State.takeUnits a0 s).2.outputs = s.outputs ∧ (State.takeUnits a0 s).2.freeNext =
    s.freeNext ∧ (State.takeUnits a0 s).2.pending = s.pending := by
  intros; simp [State.takeUnits]
theorem State_drawNow_keeps : ∀ a0 s t, State.drawNow a0 s = some t → t.2.now = s.now ∧ t.2.lodge = s.lodge ∧ t.2.host
    = s.host ∧ t.2.cub = s.cub ∧ t.2.sett = s.sett ∧ t.2.quill = s.quill ∧ t.2.compute = s.compute ∧ t.2.mem = s.mem ∧
    t.2.boot = s.boot ∧ t.2.antler = s.antler ∧ t.2.tamper = s.tamper ∧ t.2.calendar = s.calendar ∧ t.2.owl = s.owl ∧
    t.2.status = s.status ∧ t.2.check = s.check ∧ t.2.pair = s.pair ∧ t.2.power = s.power ∧ t.2.pins = s.pins ∧
    t.2.outputs = s.outputs ∧ t.2.freeNext = s.freeNext ∧ t.2.pending = s.pending := by
  intro a s t h; unfold State.drawNow at h; split at h
  · cases h; simp
  · cases h
theorem State_beginExchange_keeps : ∀ s t, State.beginExchange s = some t → t.now = s.now ∧ t.lodge = s.lodge ∧ t.host
    = s.host ∧ t.cub = s.cub ∧ t.sett = s.sett ∧ t.quill = s.quill ∧ t.compute = s.compute ∧ t.mem = s.mem ∧ t.boot =
    s.boot ∧ t.antler = s.antler ∧ t.tamper = s.tamper ∧ t.calendar = s.calendar ∧ t.owl = s.owl ∧ t.status = s.status
    ∧ t.check = s.check ∧ t.power = s.power ∧ t.pins = s.pins ∧ t.outputs = s.outputs ∧ t.freeNext = s.freeNext ∧
    t.pending = s.pending := by
  intro s t h; unfold State.beginExchange at h; split at h
  · cases h; simp
  · split at h
    · cases h
    · rename_i r s' h0
      obtain ⟨x, h1, rfl⟩ := Option.map_eq_some_iff.1 h; have := State_drawNow_keeps _ _ _ h0; simp_all
@[simp] theorem State_copyPage_keeps : ∀ s a1, (State.copyPage s a1).now = s.now ∧ (State.copyPage s a1).lodge =
    s.lodge ∧ (State.copyPage s a1).host = s.host ∧ (State.copyPage s a1).cub = s.cub ∧ (State.copyPage s a1).sett =
    s.sett ∧ (State.copyPage s a1).quill = s.quill ∧ (State.copyPage s a1).compute = s.compute ∧ (State.copyPage s
    a1).rng = s.rng ∧ (State.copyPage s a1).boot = s.boot ∧ (State.copyPage s a1).antler = s.antler ∧ (State.copyPage
    s a1).tamper = s.tamper ∧ (State.copyPage s a1).calendar = s.calendar ∧ (State.copyPage s a1).owl = s.owl ∧
    (State.copyPage s a1).status = s.status ∧ (State.copyPage s a1).check = s.check ∧ (State.copyPage s a1).pair =
    s.pair ∧ (State.copyPage s a1).power = s.power ∧ (State.copyPage s a1).pins = s.pins ∧ (State.copyPage s
    a1).outputs = s.outputs ∧ (State.copyPage s a1).freeNext = s.freeNext ∧ (State.copyPage s a1).pending = s.pending
    := by
  intros; simp [State.copyPage]
@[simp] theorem State_refuseWaiting_keeps : ∀ s, (State.refuseWaiting s).now = s.now ∧ (State.refuseWaiting s).lodge =
    s.lodge ∧ (State.refuseWaiting s).host = s.host ∧ (State.refuseWaiting s).cub = s.cub ∧ (State.refuseWaiting s).sett
    = s.sett ∧ (State.refuseWaiting s).quill = s.quill ∧ (State.refuseWaiting s).compute = s.compute ∧
    (State.refuseWaiting s).rng = s.rng ∧ (State.refuseWaiting s).boot = s.boot ∧ (State.refuseWaiting s).antler =
    s.antler ∧ (State.refuseWaiting s).tamper = s.tamper ∧ (State.refuseWaiting s).calendar = s.calendar ∧
    (State.refuseWaiting s).check = s.check ∧ (State.refuseWaiting s).pair = s.pair ∧ (State.refuseWaiting s).power =
    s.power ∧ (State.refuseWaiting s).pins = s.pins ∧ (State.refuseWaiting s).outputs = s.outputs ∧ (State.refuseWaiting
    s).freeNext = s.freeNext ∧ (State.refuseWaiting s).pending = s.pending := by
  intros; simp [State.refuseWaiting]
@[simp] theorem State_beginCommit_keeps : ∀ a0 s, (State.beginCommit a0 s).now = s.now ∧ (State.beginCommit a0
    s).lodge = s.lodge ∧ (State.beginCommit a0 s).host = s.host ∧ (State.beginCommit a0 s).cub = s.cub ∧
    (State.beginCommit a0 s).sett = s.sett ∧ (State.beginCommit a0 s).quill = s.quill ∧ (State.beginCommit a0
    s).compute = s.compute ∧ (State.beginCommit a0 s).rng = s.rng ∧ (State.beginCommit a0 s).boot = s.boot ∧
    (State.beginCommit a0 s).antler = s.antler ∧ (State.beginCommit a0 s).tamper = s.tamper ∧ (State.beginCommit a0
    s).calendar = s.calendar ∧ (State.beginCommit a0 s).owl = s.owl ∧ (State.beginCommit a0 s).status = s.status ∧
    (State.beginCommit a0 s).check = s.check ∧ (State.beginCommit a0 s).pair = s.pair ∧ (State.beginCommit a0 s).power
    = s.power ∧ (State.beginCommit a0 s).pins = s.pins ∧ (State.beginCommit a0 s).outputs = s.outputs ∧
    (State.beginCommit a0 s).freeNext = s.freeNext ∧ (State.beginCommit a0 s).pending = s.pending := by
  intros; simp [State.beginCommit]
@[simp] theorem State_requestCommit_keeps : ∀ s a0, (State.requestCommit s a0).now = s.now ∧ (State.requestCommit s
    a0).lodge = s.lodge ∧ (State.requestCommit s a0).host = s.host ∧ (State.requestCommit s a0).cub = s.cub ∧
    (State.requestCommit s a0).sett = s.sett ∧ (State.requestCommit s a0).quill = s.quill ∧ (State.requestCommit s
    a0).compute = s.compute ∧ (State.requestCommit s a0).rng = s.rng ∧ (State.requestCommit s a0).boot = s.boot ∧
    (State.requestCommit s a0).antler = s.antler ∧ (State.requestCommit s a0).tamper = s.tamper ∧ (State.requestCommit
    s a0).calendar = s.calendar ∧ (State.requestCommit s a0).check = s.check ∧ (State.requestCommit s a0).pair =
    s.pair ∧ (State.requestCommit s a0).power = s.power ∧ (State.requestCommit s a0).pins = s.pins ∧
    (State.requestCommit s a0).outputs = s.outputs ∧ (State.requestCommit s a0).freeNext = s.freeNext ∧
    (State.requestCommit s a0).pending = s.pending := by
  intros; unfold State.requestCommit; dsimp only; (repeat' split) <;> simp
@[simp] theorem State_commitObject_keeps : ∀ a0 a1 a2 s, (State.commitObject a0 a1 a2 s).now = s.now ∧
    (State.commitObject a0 a1 a2 s).lodge = s.lodge ∧ (State.commitObject a0 a1 a2 s).host = s.host ∧
    (State.commitObject a0 a1 a2 s).cub = s.cub ∧ (State.commitObject a0 a1 a2 s).sett = s.sett ∧ (State.commitObject
    a0 a1 a2 s).quill = s.quill ∧ (State.commitObject a0 a1 a2 s).compute = s.compute ∧ (State.commitObject a0 a1 a2
    s).rng = s.rng ∧ (State.commitObject a0 a1 a2 s).boot = s.boot ∧ (State.commitObject a0 a1 a2 s).antler = s.antler
    ∧ (State.commitObject a0 a1 a2 s).tamper = s.tamper ∧ (State.commitObject a0 a1 a2 s).calendar = s.calendar ∧
    (State.commitObject a0 a1 a2 s).check = s.check ∧ (State.commitObject a0 a1 a2 s).pair = s.pair ∧
    (State.commitObject a0 a1 a2 s).power = s.power ∧ (State.commitObject a0 a1 a2 s).pins = s.pins ∧
    (State.commitObject a0 a1 a2 s).outputs = s.outputs ∧ (State.commitObject a0 a1 a2 s).freeNext = s.freeNext ∧
    (State.commitObject a0 a1 a2 s).pending = s.pending := by
  intros; simp [State.commitObject]
@[simp] theorem State_commitSlots_keeps : ∀ s, (State.commitSlots s).now = s.now ∧ (State.commitSlots s).lodge =
    s.lodge ∧ (State.commitSlots s).host = s.host ∧ (State.commitSlots s).cub = s.cub ∧ (State.commitSlots s).sett =
    s.sett ∧ (State.commitSlots s).quill = s.quill ∧ (State.commitSlots s).compute = s.compute ∧ (State.commitSlots
    s).rng = s.rng ∧ (State.commitSlots s).boot = s.boot ∧ (State.commitSlots s).antler = s.antler ∧
    (State.commitSlots s).tamper = s.tamper ∧ (State.commitSlots s).calendar = s.calendar ∧ (State.commitSlots
    s).check = s.check ∧ (State.commitSlots s).pair = s.pair ∧ (State.commitSlots s).power = s.power ∧
    (State.commitSlots s).pins = s.pins ∧ (State.commitSlots s).outputs = s.outputs ∧ (State.commitSlots s).freeNext =
    s.freeNext ∧ (State.commitSlots s).pending = s.pending := by
  intros; simp [State.commitSlots]
@[simp] theorem State_clearGroup_keeps : ∀ a0 a1 s, (State.clearGroup a0 a1 s).now = s.now ∧ (State.clearGroup a0 a1
    s).lodge = s.lodge ∧ (State.clearGroup a0 a1 s).host = s.host ∧ (State.clearGroup a0 a1 s).cub = s.cub ∧
    (State.clearGroup a0 a1 s).sett = s.sett ∧ (State.clearGroup a0 a1 s).quill = s.quill ∧ (State.clearGroup a0 a1
    s).rng = s.rng ∧ (State.clearGroup a0 a1 s).mem = s.mem ∧ (State.clearGroup a0 a1 s).boot = s.boot ∧
    (State.clearGroup a0 a1 s).antler = s.antler ∧ (State.clearGroup a0 a1 s).tamper = s.tamper ∧ (State.clearGroup a0
    a1 s).calendar = s.calendar ∧ (State.clearGroup a0 a1 s).owl = s.owl ∧ (State.clearGroup a0 a1 s).status =
    s.status ∧ (State.clearGroup a0 a1 s).check = s.check ∧ (State.clearGroup a0 a1 s).pair = s.pair ∧
    (State.clearGroup a0 a1 s).power = s.power ∧ (State.clearGroup a0 a1 s).pins = s.pins ∧ (State.clearGroup a0 a1
    s).outputs = s.outputs ∧ (State.clearGroup a0 a1 s).freeNext = s.freeNext ∧ (State.clearGroup a0 a1 s).pending =
    s.pending := by
  intros; simp [State.clearGroup]
@[simp] theorem State_wipeContexts_keeps : ∀ a0 s, (State.wipeContexts a0 s).now = s.now ∧ (State.wipeContexts a0
    s).lodge = s.lodge ∧ (State.wipeContexts a0 s).cub = s.cub ∧ (State.wipeContexts a0 s).sett = s.sett ∧
    (State.wipeContexts a0 s).quill = s.quill ∧ (State.wipeContexts a0 s).compute = s.compute ∧ (State.wipeContexts a0
    s).rng = s.rng ∧ (State.wipeContexts a0 s).mem = s.mem ∧ (State.wipeContexts a0 s).boot = s.boot ∧
    (State.wipeContexts a0 s).antler = s.antler ∧ (State.wipeContexts a0 s).tamper = s.tamper ∧ (State.wipeContexts a0
    s).calendar = s.calendar ∧ (State.wipeContexts a0 s).owl = s.owl ∧ (State.wipeContexts a0 s).status = s.status ∧
    (State.wipeContexts a0 s).check = s.check ∧ (State.wipeContexts a0 s).pair = s.pair ∧ (State.wipeContexts a0
    s).power = s.power ∧ (State.wipeContexts a0 s).pins = s.pins ∧ (State.wipeContexts a0 s).outputs = s.outputs ∧
    (State.wipeContexts a0 s).freeNext = s.freeNext ∧ (State.wipeContexts a0 s).pending = s.pending := by
  intros; simp [State.wipeContexts]
@[simp] theorem State_wipeSkulk_keeps : ∀ a0 a1 s, (State.wipeSkulk a0 a1 s).now = s.now ∧ (State.wipeSkulk a0 a1
    s).lodge = s.lodge ∧ (State.wipeSkulk a0 a1 s).cub = s.cub ∧ (State.wipeSkulk a0 a1 s).sett = s.sett ∧
    (State.wipeSkulk a0 a1 s).quill = s.quill ∧ (State.wipeSkulk a0 a1 s).compute = s.compute ∧ (State.wipeSkulk a0 a1
    s).rng = s.rng ∧ (State.wipeSkulk a0 a1 s).boot = s.boot ∧ (State.wipeSkulk a0 a1 s).antler = s.antler ∧
    (State.wipeSkulk a0 a1 s).tamper = s.tamper ∧ (State.wipeSkulk a0 a1 s).calendar = s.calendar ∧ (State.wipeSkulk
    a0 a1 s).owl = s.owl ∧ (State.wipeSkulk a0 a1 s).status = s.status ∧ (State.wipeSkulk a0 a1 s).check = s.check ∧
    (State.wipeSkulk a0 a1 s).pair = s.pair ∧ (State.wipeSkulk a0 a1 s).power = s.power ∧ (State.wipeSkulk a0 a1
    s).pins = s.pins ∧ (State.wipeSkulk a0 a1 s).outputs = s.outputs ∧ (State.wipeSkulk a0 a1 s).freeNext = s.freeNext
    ∧ (State.wipeSkulk a0 a1 s).pending = s.pending := by
  intros; simp [State.wipeSkulk]
@[simp] theorem State_beginGate_keeps : ∀ a0 s, (State.beginGate a0 s).now = s.now ∧ (State.beginGate a0 s).lodge =
    s.lodge ∧ (State.beginGate a0 s).cub = s.cub ∧ (State.beginGate a0 s).sett = s.sett ∧ (State.beginGate a0 s).quill
    = s.quill ∧ (State.beginGate a0 s).rng = s.rng ∧ (State.beginGate a0 s).boot = s.boot ∧ (State.beginGate a0
    s).antler = s.antler ∧ (State.beginGate a0 s).tamper = s.tamper ∧ (State.beginGate a0 s).calendar = s.calendar ∧
    (State.beginGate a0 s).owl = s.owl ∧ (State.beginGate a0 s).status = s.status ∧ (State.beginGate a0 s).check =
    s.check ∧ (State.beginGate a0 s).pair = s.pair ∧ (State.beginGate a0 s).pins = s.pins ∧ (State.beginGate a0
    s).outputs = s.outputs ∧ (State.beginGate a0 s).freeNext = s.freeNext ∧ (State.beginGate a0 s).pending = s.pending
    := by
  intros; simp [State.beginGate]
@[simp] theorem State_failRequest_keeps : ∀ a0 a1 s, (State.failRequest a0 a1 s).now = s.now ∧ (State.failRequest a0
    a1 s).lodge = s.lodge ∧ (State.failRequest a0 a1 s).cub = s.cub ∧ (State.failRequest a0 a1 s).boot = s.boot ∧
    (State.failRequest a0 a1 s).antler = s.antler ∧ (State.failRequest a0 a1 s).tamper = s.tamper ∧ (State.failRequest
    a0 a1 s).calendar = s.calendar ∧ (State.failRequest a0 a1 s).check = s.check ∧ (State.failRequest a0 a1 s).pins =
    s.pins ∧ (State.failRequest a0 a1 s).freeNext = s.freeNext ∧ (State.failRequest a0 a1 s).pending = s.pending := by
  intros; unfold State.failRequest ; dsimp only; (repeat' split) <;> simp
@[simp] theorem State_squash_keeps : ∀ a0 a1 s, (State.squash a0 a1 s).now = s.now ∧ (State.squash a0 a1 s).lodge =
    s.lodge ∧ (State.squash a0 a1 s).cub = s.cub ∧ (State.squash a0 a1 s).boot = s.boot ∧ (State.squash a0 a1
    s).antler = s.antler ∧ (State.squash a0 a1 s).tamper = s.tamper ∧ (State.squash a0 a1 s).calendar = s.calendar ∧
    (State.squash a0 a1 s).check = s.check ∧ (State.squash a0 a1 s).pins = s.pins ∧ (State.squash a0 a1 s).freeNext =
    s.freeNext ∧ (State.squash a0 a1 s).pending = s.pending := by
  intros; unfold State.squash; (repeat' split) <;> simp
@[simp] theorem State_endAll_keeps : ∀ a0 s, (State.endAll a0 s).now = s.now ∧ (State.endAll a0 s).lodge = s.lodge ∧
    (State.endAll a0 s).cub = s.cub ∧ (State.endAll a0 s).boot = s.boot ∧ (State.endAll a0 s).antler = s.antler ∧
    (State.endAll a0 s).tamper = s.tamper ∧ (State.endAll a0 s).calendar = s.calendar ∧ (State.endAll a0 s).check =
    s.check ∧ (State.endAll a0 s).pins = s.pins ∧ (State.endAll a0 s).freeNext = s.freeNext ∧ (State.endAll a0
    s).pending = s.pending := by
  intros; simp [State.endAll]
@[simp] theorem State_wipeAll_keeps : ∀ a0 a1 s, (State.wipeAll a0 a1 s).now = s.now ∧ (State.wipeAll a0 a1 s).lodge =
    s.lodge ∧ (State.wipeAll a0 a1 s).cub = s.cub ∧ (State.wipeAll a0 a1 s).sett = s.sett ∧ (State.wipeAll a0 a1
    s).quill = s.quill ∧ (State.wipeAll a0 a1 s).compute = s.compute ∧ (State.wipeAll a0 a1 s).rng = s.rng ∧
    (State.wipeAll a0 a1 s).boot = s.boot ∧ (State.wipeAll a0 a1 s).antler = s.antler ∧ (State.wipeAll a0 a1 s).tamper
    = s.tamper ∧ (State.wipeAll a0 a1 s).calendar = s.calendar ∧ (State.wipeAll a0 a1 s).owl = s.owl ∧ (State.wipeAll
    a0 a1 s).status = s.status ∧ (State.wipeAll a0 a1 s).check = s.check ∧ (State.wipeAll a0 a1 s).pair = s.pair ∧
    (State.wipeAll a0 a1 s).power = s.power ∧ (State.wipeAll a0 a1 s).pins = s.pins ∧ (State.wipeAll a0 a1 s).outputs
    = s.outputs ∧ (State.wipeAll a0 a1 s).freeNext = s.freeNext ∧ (State.wipeAll a0 a1 s).pending = s.pending := by
  intros; simp [State.wipeAll]
@[simp] theorem State_closeCeremony_keeps : ∀ a0 s, (State.closeCeremony a0 s).now = s.now ∧ (State.closeCeremony a0
    s).lodge = s.lodge ∧ (State.closeCeremony a0 s).host = s.host ∧ (State.closeCeremony a0 s).cub = s.cub ∧
    (State.closeCeremony a0 s).sett = s.sett ∧ (State.closeCeremony a0 s).compute = s.compute ∧ (State.closeCeremony
    a0 s).rng = s.rng ∧ (State.closeCeremony a0 s).mem = s.mem ∧ (State.closeCeremony a0 s).boot = s.boot ∧
    (State.closeCeremony a0 s).antler = s.antler ∧ (State.closeCeremony a0 s).tamper = s.tamper ∧ (State.closeCeremony
    a0 s).calendar = s.calendar ∧ (State.closeCeremony a0 s).status = s.status ∧ (State.closeCeremony a0 s).check =
    s.check ∧ (State.closeCeremony a0 s).pair = s.pair ∧ (State.closeCeremony a0 s).power = s.power ∧
    (State.closeCeremony a0 s).pins = s.pins ∧ (State.closeCeremony a0 s).outputs = s.outputs ∧ (State.closeCeremony
    a0 s).freeNext = s.freeNext ∧ (State.closeCeremony a0 s).pending = s.pending := by
  intros; simp [State.closeCeremony]
@[simp] theorem State_lodgeBootFailed_keeps : ∀ a0 a1 a2 s, (State.lodgeBootFailed a0 a1 a2 s).now = s.now ∧
    (State.lodgeBootFailed a0 a1 a2 s).lodge = s.lodge ∧ (State.lodgeBootFailed a0 a1 a2 s).host = s.host ∧
    (State.lodgeBootFailed a0 a1 a2 s).cub = s.cub ∧ (State.lodgeBootFailed a0 a1 a2 s).sett = s.sett ∧
    (State.lodgeBootFailed a0 a1 a2 s).quill = s.quill ∧ (State.lodgeBootFailed a0 a1 a2 s).compute = s.compute ∧
    (State.lodgeBootFailed a0 a1 a2 s).rng = s.rng ∧ (State.lodgeBootFailed a0 a1 a2 s).mem = s.mem ∧
    (State.lodgeBootFailed a0 a1 a2 s).boot = s.boot ∧ (State.lodgeBootFailed a0 a1 a2 s).antler = s.antler ∧
    (State.lodgeBootFailed a0 a1 a2 s).tamper = s.tamper ∧ (State.lodgeBootFailed a0 a1 a2 s).calendar = s.calendar ∧
    (State.lodgeBootFailed a0 a1 a2 s).status = s.status ∧ (State.lodgeBootFailed a0 a1 a2 s).check = s.check ∧
    (State.lodgeBootFailed a0 a1 a2 s).pair = s.pair ∧ (State.lodgeBootFailed a0 a1 a2 s).power = s.power ∧
    (State.lodgeBootFailed a0 a1 a2 s).pins = s.pins ∧ (State.lodgeBootFailed a0 a1 a2 s).outputs = s.outputs ∧
    (State.lodgeBootFailed a0 a1 a2 s).freeNext = s.freeNext ∧ (State.lodgeBootFailed a0 a1 a2 s).pending = s.pending
    := by
  intros; simp [State.lodgeBootFailed]
@[simp] theorem State_setIdentity_keeps : ∀ a0 s, (State.setIdentity a0 s).now = s.now ∧ (State.setIdentity a0
    s).lodge = s.lodge ∧ (State.setIdentity a0 s).host = s.host ∧ (State.setIdentity a0 s).sett = s.sett ∧
    (State.setIdentity a0 s).quill = s.quill ∧ (State.setIdentity a0 s).compute = s.compute ∧ (State.setIdentity a0
    s).rng = s.rng ∧ (State.setIdentity a0 s).boot = s.boot ∧ (State.setIdentity a0 s).antler = s.antler ∧
    (State.setIdentity a0 s).tamper = s.tamper ∧ (State.setIdentity a0 s).calendar = s.calendar ∧ (State.setIdentity
    a0 s).check = s.check ∧ (State.setIdentity a0 s).pair = s.pair ∧ (State.setIdentity a0 s).power = s.power ∧
    (State.setIdentity a0 s).pins = s.pins ∧ (State.setIdentity a0 s).outputs = s.outputs ∧ (State.setIdentity a0
    s).freeNext = s.freeNext ∧ (State.setIdentity a0 s).pending = s.pending := by
  intros; simp [State.setIdentity]
@[simp] theorem State_setBurrow_keeps : ∀ a0 a1 s, (State.setBurrow a0 a1 s).now = s.now ∧ (State.setBurrow a0 a1
    s).lodge = s.lodge ∧ (State.setBurrow a0 a1 s).host = s.host ∧ (State.setBurrow a0 a1 s).cub = s.cub ∧
    (State.setBurrow a0 a1 s).sett = s.sett ∧ (State.setBurrow a0 a1 s).quill = s.quill ∧ (State.setBurrow a0 a1
    s).compute = s.compute ∧ (State.setBurrow a0 a1 s).rng = s.rng ∧ (State.setBurrow a0 a1 s).mem = s.mem ∧
    (State.setBurrow a0 a1 s).boot = s.boot ∧ (State.setBurrow a0 a1 s).antler = s.antler ∧ (State.setBurrow a0 a1
    s).tamper = s.tamper ∧ (State.setBurrow a0 a1 s).calendar = s.calendar ∧ (State.setBurrow a0 a1 s).owl = s.owl ∧
    (State.setBurrow a0 a1 s).status = s.status ∧ (State.setBurrow a0 a1 s).pair = s.pair ∧ (State.setBurrow a0 a1
    s).power = s.power ∧ (State.setBurrow a0 a1 s).pins = s.pins ∧ (State.setBurrow a0 a1 s).outputs = s.outputs ∧
    (State.setBurrow a0 a1 s).freeNext = s.freeNext ∧ (State.setBurrow a0 a1 s).pending = s.pending := by
  intros; simp [State.setBurrow]
@[simp] theorem State_burrowClear_keeps : ∀ a0 s, (State.burrowClear a0 s).now = s.now ∧ (State.burrowClear a0
    s).lodge = s.lodge ∧ (State.burrowClear a0 s).host = s.host ∧ (State.burrowClear a0 s).cub = s.cub ∧
    (State.burrowClear a0 s).sett = s.sett ∧ (State.burrowClear a0 s).quill = s.quill ∧ (State.burrowClear a0
    s).compute = s.compute ∧ (State.burrowClear a0 s).rng = s.rng ∧ (State.burrowClear a0 s).mem = s.mem ∧
    (State.burrowClear a0 s).boot = s.boot ∧ (State.burrowClear a0 s).antler = s.antler ∧ (State.burrowClear a0
    s).tamper = s.tamper ∧ (State.burrowClear a0 s).calendar = s.calendar ∧ (State.burrowClear a0 s).owl = s.owl ∧
    (State.burrowClear a0 s).status = s.status ∧ (State.burrowClear a0 s).pair = s.pair ∧ (State.burrowClear a0
    s).power = s.power ∧ (State.burrowClear a0 s).pins = s.pins ∧ (State.burrowClear a0 s).outputs = s.outputs ∧
    (State.burrowClear a0 s).freeNext = s.freeNext ∧ (State.burrowClear a0 s).pending = s.pending := by
  intros; simp [State.burrowClear]
@[simp] theorem State_modCtx_keeps : ∀ a0 a1 s, (State.modCtx a0 a1 s).now = s.now ∧ (State.modCtx a0 a1 s).lodge =
    s.lodge ∧ (State.modCtx a0 a1 s).cub = s.cub ∧ (State.modCtx a0 a1 s).sett = s.sett ∧ (State.modCtx a0 a1 s).quill
    = s.quill ∧ (State.modCtx a0 a1 s).compute = s.compute ∧ (State.modCtx a0 a1 s).rng = s.rng ∧ (State.modCtx a0 a1
    s).mem = s.mem ∧ (State.modCtx a0 a1 s).boot = s.boot ∧ (State.modCtx a0 a1 s).antler = s.antler ∧ (State.modCtx
    a0 a1 s).tamper = s.tamper ∧ (State.modCtx a0 a1 s).calendar = s.calendar ∧ (State.modCtx a0 a1 s).owl = s.owl ∧
    (State.modCtx a0 a1 s).status = s.status ∧ (State.modCtx a0 a1 s).check = s.check ∧ (State.modCtx a0 a1 s).pair =
    s.pair ∧ (State.modCtx a0 a1 s).power = s.power ∧ (State.modCtx a0 a1 s).pins = s.pins ∧ (State.modCtx a0 a1
    s).outputs = s.outputs ∧ (State.modCtx a0 a1 s).freeNext = s.freeNext ∧ (State.modCtx a0 a1 s).pending = s.pending
    := by
  intros; simp [State.modCtx]
@[simp] theorem State_setFn_keeps : ∀ a0 a1 s, (State.setFn a0 a1 s).now = s.now ∧ (State.setFn a0 a1 s).lodge =
    s.lodge ∧ (State.setFn a0 a1 s).host = s.host ∧ (State.setFn a0 a1 s).sett = s.sett ∧ (State.setFn a0 a1 s).quill
    = s.quill ∧ (State.setFn a0 a1 s).compute = s.compute ∧ (State.setFn a0 a1 s).rng = s.rng ∧ (State.setFn a0 a1
    s).mem = s.mem ∧ (State.setFn a0 a1 s).boot = s.boot ∧ (State.setFn a0 a1 s).antler = s.antler ∧ (State.setFn a0
    a1 s).tamper = s.tamper ∧ (State.setFn a0 a1 s).calendar = s.calendar ∧ (State.setFn a0 a1 s).owl = s.owl ∧
    (State.setFn a0 a1 s).status = s.status ∧ (State.setFn a0 a1 s).check = s.check ∧ (State.setFn a0 a1 s).pair =
    s.pair ∧ (State.setFn a0 a1 s).power = s.power ∧ (State.setFn a0 a1 s).pins = s.pins ∧ (State.setFn a0 a1
    s).outputs = s.outputs ∧ (State.setFn a0 a1 s).freeNext = s.freeNext ∧ (State.setFn a0 a1 s).pending = s.pending
    := by
  intros; simp [State.setFn]
@[simp] theorem State_setCrc_keeps : ∀ a0 a1 s, (State.setCrc a0 a1 s).now = s.now ∧ (State.setCrc a0 a1 s).lodge =
    s.lodge ∧ (State.setCrc a0 a1 s).host = s.host ∧ (State.setCrc a0 a1 s).cub = s.cub ∧ (State.setCrc a0 a1 s).sett
    = s.sett ∧ (State.setCrc a0 a1 s).quill = s.quill ∧ (State.setCrc a0 a1 s).compute = s.compute ∧ (State.setCrc a0
    a1 s).rng = s.rng ∧ (State.setCrc a0 a1 s).mem = s.mem ∧ (State.setCrc a0 a1 s).boot = s.boot ∧ (State.setCrc a0
    a1 s).antler = s.antler ∧ (State.setCrc a0 a1 s).tamper = s.tamper ∧ (State.setCrc a0 a1 s).calendar = s.calendar
    ∧ (State.setCrc a0 a1 s).owl = s.owl ∧ (State.setCrc a0 a1 s).status = s.status ∧ (State.setCrc a0 a1 s).pair =
    s.pair ∧ (State.setCrc a0 a1 s).power = s.power ∧ (State.setCrc a0 a1 s).pins = s.pins ∧ (State.setCrc a0 a1
    s).outputs = s.outputs ∧ (State.setCrc a0 a1 s).freeNext = s.freeNext ∧ (State.setCrc a0 a1 s).pending = s.pending
    := by
  intros; simp [State.setCrc]
@[simp] theorem State_commitRecord_keeps : ∀ s, (State.commitRecord s).now = s.now ∧ (State.commitRecord s).lodge =
    s.lodge ∧ (State.commitRecord s).host = s.host ∧ (State.commitRecord s).cub = s.cub ∧ (State.commitRecord s).sett
    = s.sett ∧ (State.commitRecord s).quill = s.quill ∧ (State.commitRecord s).compute = s.compute ∧
    (State.commitRecord s).rng = s.rng ∧ (State.commitRecord s).boot = s.boot ∧ (State.commitRecord s).antler =
    s.antler ∧ (State.commitRecord s).tamper = s.tamper ∧ (State.commitRecord s).calendar = s.calendar ∧
    (State.commitRecord s).check = s.check ∧ (State.commitRecord s).pair = s.pair ∧ (State.commitRecord s).power =
    s.power ∧ (State.commitRecord s).pins = s.pins ∧ (State.commitRecord s).outputs = s.outputs ∧ (State.commitRecord
    s).freeNext = s.freeNext ∧ (State.commitRecord s).pending = s.pending := by
  intros; simp [State.commitRecord]
@[simp] theorem State_sendState_keeps : ∀ a0 a1 a2 s, (State.sendState a0 a1 a2 s).now = s.now ∧ (State.sendState a0
    a1 a2 s).lodge = s.lodge ∧ (State.sendState a0 a1 a2 s).host = s.host ∧ (State.sendState a0 a1 a2 s).cub = s.cub ∧
    (State.sendState a0 a1 a2 s).sett = s.sett ∧ (State.sendState a0 a1 a2 s).quill = s.quill ∧ (State.sendState a0 a1
    a2 s).compute = s.compute ∧ (State.sendState a0 a1 a2 s).rng = s.rng ∧ (State.sendState a0 a1 a2 s).mem = s.mem ∧
    (State.sendState a0 a1 a2 s).boot = s.boot ∧ (State.sendState a0 a1 a2 s).antler = s.antler ∧ (State.sendState a0
    a1 a2 s).tamper = s.tamper ∧ (State.sendState a0 a1 a2 s).calendar = s.calendar ∧ (State.sendState a0 a1 a2 s).owl
    = s.owl ∧ (State.sendState a0 a1 a2 s).status = s.status ∧ (State.sendState a0 a1 a2 s).check = s.check ∧
    (State.sendState a0 a1 a2 s).power = s.power ∧ (State.sendState a0 a1 a2 s).pins = s.pins ∧ (State.sendState a0 a1
    a2 s).freeNext = s.freeNext ∧ (State.sendState a0 a1 a2 s).pending = s.pending := by
  intros; unfold State.sendState ; (repeat' split) <;> simp
@[simp] theorem State_endFwOp_keeps : ∀ a0 s, (State.endFwOp a0 s).now = s.now ∧ (State.endFwOp a0 s).lodge = s.lodge
    ∧ (State.endFwOp a0 s).host = s.host ∧ (State.endFwOp a0 s).cub = s.cub ∧ (State.endFwOp a0 s).sett = s.sett ∧
    (State.endFwOp a0 s).quill = s.quill ∧ (State.endFwOp a0 s).compute = s.compute ∧ (State.endFwOp a0 s).rng = s.rng
    ∧ (State.endFwOp a0 s).mem = s.mem ∧ (State.endFwOp a0 s).antler = s.antler ∧ (State.endFwOp a0 s).tamper =
    s.tamper ∧ (State.endFwOp a0 s).calendar = s.calendar ∧ (State.endFwOp a0 s).owl = s.owl ∧ (State.endFwOp a0
    s).status = s.status ∧ (State.endFwOp a0 s).check = s.check ∧ (State.endFwOp a0 s).pair = s.pair ∧ (State.endFwOp
    a0 s).power = s.power ∧ (State.endFwOp a0 s).pins = s.pins ∧ (State.endFwOp a0 s).outputs = s.outputs ∧
    (State.endFwOp a0 s).freeNext = s.freeNext ∧ (State.endFwOp a0 s).pending = s.pending := by
  intros; simp [State.endFwOp]
@[simp] theorem State_reportFw_keeps : ∀ a0 a1 s, (State.reportFw a0 a1 s).now = s.now ∧ (State.reportFw a0 a1
    s).lodge = s.lodge ∧ (State.reportFw a0 a1 s).host = s.host ∧ (State.reportFw a0 a1 s).cub = s.cub ∧
    (State.reportFw a0 a1 s).sett = s.sett ∧ (State.reportFw a0 a1 s).quill = s.quill ∧ (State.reportFw a0 a1
    s).compute = s.compute ∧ (State.reportFw a0 a1 s).rng = s.rng ∧ (State.reportFw a0 a1 s).mem = s.mem ∧
    (State.reportFw a0 a1 s).antler = s.antler ∧ (State.reportFw a0 a1 s).tamper = s.tamper ∧ (State.reportFw a0 a1
    s).calendar = s.calendar ∧ (State.reportFw a0 a1 s).status = s.status ∧ (State.reportFw a0 a1 s).check = s.check ∧
    (State.reportFw a0 a1 s).pair = s.pair ∧ (State.reportFw a0 a1 s).power = s.power ∧ (State.reportFw a0 a1 s).pins
    = s.pins ∧ (State.reportFw a0 a1 s).outputs = s.outputs ∧ (State.reportFw a0 a1 s).freeNext = s.freeNext ∧
    (State.reportFw a0 a1 s).pending = s.pending := by
  intros; simp [State.reportFw]
@[simp] theorem State_commitFw_keeps : ∀ s, (State.commitFw s).now = s.now ∧ (State.commitFw s).lodge = s.lodge ∧
    (State.commitFw s).host = s.host ∧ (State.commitFw s).cub = s.cub ∧ (State.commitFw s).sett = s.sett ∧
    (State.commitFw s).quill = s.quill ∧ (State.commitFw s).compute = s.compute ∧ (State.commitFw s).rng = s.rng ∧
    (State.commitFw s).antler = s.antler ∧ (State.commitFw s).tamper = s.tamper ∧ (State.commitFw s).calendar =
    s.calendar ∧ (State.commitFw s).check = s.check ∧ (State.commitFw s).pair = s.pair ∧ (State.commitFw s).power =
    s.power ∧ (State.commitFw s).pins = s.pins ∧ (State.commitFw s).outputs = s.outputs ∧ (State.commitFw s).freeNext
    = s.freeNext ∧ (State.commitFw s).pending = s.pending := by
  intros; simp [State.commitFw]
@[simp] theorem State_commitMaster_keeps : ∀ a0 s, (State.commitMaster a0 s).now = s.now ∧ (State.commitMaster a0
    s).lodge = s.lodge ∧ (State.commitMaster a0 s).host = s.host ∧ (State.commitMaster a0 s).cub = s.cub ∧
    (State.commitMaster a0 s).sett = s.sett ∧ (State.commitMaster a0 s).quill = s.quill ∧ (State.commitMaster a0
    s).compute = s.compute ∧ (State.commitMaster a0 s).rng = s.rng ∧ (State.commitMaster a0 s).boot = s.boot ∧
    (State.commitMaster a0 s).antler = s.antler ∧ (State.commitMaster a0 s).tamper = s.tamper ∧ (State.commitMaster a0
    s).calendar = s.calendar ∧ (State.commitMaster a0 s).check = s.check ∧ (State.commitMaster a0 s).pair = s.pair ∧
    (State.commitMaster a0 s).power = s.power ∧ (State.commitMaster a0 s).pins = s.pins ∧ (State.commitMaster a0
    s).outputs = s.outputs ∧ (State.commitMaster a0 s).freeNext = s.freeNext ∧ (State.commitMaster a0 s).pending =
    s.pending := by
  intros; simp [State.commitMaster]
@[simp] theorem State_hotChanged_keeps : ∀ a0 s, (State.hotChanged a0 s).now = s.now ∧ (State.hotChanged a0 s).lodge =
    s.lodge ∧ (State.hotChanged a0 s).host = s.host ∧ (State.hotChanged a0 s).cub = s.cub ∧ (State.hotChanged a0
    s).quill = s.quill ∧ (State.hotChanged a0 s).compute = s.compute ∧ (State.hotChanged a0 s).rng = s.rng ∧
    (State.hotChanged a0 s).mem = s.mem ∧ (State.hotChanged a0 s).boot = s.boot ∧ (State.hotChanged a0 s).antler =
    s.antler ∧ (State.hotChanged a0 s).tamper = s.tamper ∧ (State.hotChanged a0 s).calendar = s.calendar ∧
    (State.hotChanged a0 s).owl = s.owl ∧ (State.hotChanged a0 s).status = s.status ∧ (State.hotChanged a0 s).check =
    s.check ∧ (State.hotChanged a0 s).pair = s.pair ∧ (State.hotChanged a0 s).power = s.power ∧ (State.hotChanged a0
    s).pins = s.pins ∧ (State.hotChanged a0 s).outputs = s.outputs ∧ (State.hotChanged a0 s).freeNext = s.freeNext ∧
    (State.hotChanged a0 s).pending = s.pending := by
  intros; simp [State.hotChanged]
@[simp] theorem State_commitUse_keeps : ∀ a0 s, (State.commitUse a0 s).now = s.now ∧ (State.commitUse a0 s).lodge =
    s.lodge ∧ (State.commitUse a0 s).host = s.host ∧ (State.commitUse a0 s).cub = s.cub ∧ (State.commitUse a0 s).quill
    = s.quill ∧ (State.commitUse a0 s).compute = s.compute ∧ (State.commitUse a0 s).rng = s.rng ∧ (State.commitUse a0
    s).mem = s.mem ∧ (State.commitUse a0 s).boot = s.boot ∧ (State.commitUse a0 s).antler = s.antler ∧
    (State.commitUse a0 s).tamper = s.tamper ∧ (State.commitUse a0 s).calendar = s.calendar ∧ (State.commitUse a0
    s).owl = s.owl ∧ (State.commitUse a0 s).status = s.status ∧ (State.commitUse a0 s).check = s.check ∧
    (State.commitUse a0 s).pair = s.pair ∧ (State.commitUse a0 s).power = s.power ∧ (State.commitUse a0 s).pins =
    s.pins ∧ (State.commitUse a0 s).outputs = s.outputs ∧ (State.commitUse a0 s).freeNext = s.freeNext ∧
    (State.commitUse a0 s).pending = s.pending := by
  intros; unfold State.commitUse ; dsimp only; (repeat' split) <;> simp
@[simp] theorem State_pairTampered_keeps : ∀ s, (State.pairTampered s).now = s.now ∧ (State.pairTampered s).lodge =
    s.lodge ∧ (State.pairTampered s).host = s.host ∧ (State.pairTampered s).cub = s.cub ∧ (State.pairTampered s).sett
    = s.sett ∧ (State.pairTampered s).quill = s.quill ∧ (State.pairTampered s).compute = s.compute ∧
    (State.pairTampered s).rng = s.rng ∧ (State.pairTampered s).mem = s.mem ∧ (State.pairTampered s).boot = s.boot ∧
    (State.pairTampered s).antler = s.antler ∧ (State.pairTampered s).tamper = s.tamper ∧ (State.pairTampered
    s).calendar = s.calendar ∧ (State.pairTampered s).owl = s.owl ∧ (State.pairTampered s).status = s.status ∧
    (State.pairTampered s).check = s.check ∧ (State.pairTampered s).power = s.power ∧ (State.pairTampered s).pins =
    s.pins ∧ (State.pairTampered s).freeNext = s.freeNext ∧ (State.pairTampered s).pending = s.pending := by
  intros; simp [State.pairTampered]
@[simp] theorem State_endLcOp_keeps : ∀ a0 s, (State.endLcOp a0 s).now = s.now ∧ (State.endLcOp a0 s).lodge = s.lodge
    ∧ (State.endLcOp a0 s).host = s.host ∧ (State.endLcOp a0 s).cub = s.cub ∧ (State.endLcOp a0 s).sett = s.sett ∧
    (State.endLcOp a0 s).quill = s.quill ∧ (State.endLcOp a0 s).compute = s.compute ∧ (State.endLcOp a0 s).rng = s.rng
    ∧ (State.endLcOp a0 s).mem = s.mem ∧ (State.endLcOp a0 s).boot = s.boot ∧ (State.endLcOp a0 s).tamper = s.tamper ∧
    (State.endLcOp a0 s).calendar = s.calendar ∧ (State.endLcOp a0 s).owl = s.owl ∧ (State.endLcOp a0 s).status =
    s.status ∧ (State.endLcOp a0 s).check = s.check ∧ (State.endLcOp a0 s).pair = s.pair ∧ (State.endLcOp a0 s).power
    = s.power ∧ (State.endLcOp a0 s).pins = s.pins ∧ (State.endLcOp a0 s).outputs = s.outputs ∧ (State.endLcOp a0
    s).freeNext = s.freeNext ∧ (State.endLcOp a0 s).pending = s.pending := by
  intros; simp [State.endLcOp]
@[simp] theorem State_tamperLc_keeps : ∀ s, (State.tamperLc s).now = s.now ∧ (State.tamperLc s).lodge = s.lodge ∧
    (State.tamperLc s).host = s.host ∧ (State.tamperLc s).cub = s.cub ∧ (State.tamperLc s).sett = s.sett ∧
    (State.tamperLc s).quill = s.quill ∧ (State.tamperLc s).compute = s.compute ∧ (State.tamperLc s).rng = s.rng ∧
    (State.tamperLc s).mem = s.mem ∧ (State.tamperLc s).boot = s.boot ∧ (State.tamperLc s).tamper = s.tamper ∧
    (State.tamperLc s).calendar = s.calendar ∧ (State.tamperLc s).owl = s.owl ∧ (State.tamperLc s).status = s.status ∧
    (State.tamperLc s).check = s.check ∧ (State.tamperLc s).pair = s.pair ∧ (State.tamperLc s).power = s.power ∧
    (State.tamperLc s).pins = s.pins ∧ (State.tamperLc s).outputs = s.outputs ∧ (State.tamperLc s).freeNext =
    s.freeNext ∧ (State.tamperLc s).pending = s.pending := by
  intros; unfold State.tamperLc ; dsimp only; (repeat' split) <;> simp
@[simp] theorem State_stopEngines_keeps : ∀ s, (State.stopEngines s).now = s.now ∧ (State.stopEngines s).lodge =
    s.lodge ∧ (State.stopEngines s).host = s.host ∧ (State.stopEngines s).cub = s.cub ∧ (State.stopEngines s).sett =
    s.sett ∧ (State.stopEngines s).quill = s.quill ∧ (State.stopEngines s).rng = s.rng ∧ (State.stopEngines s).mem =
    s.mem ∧ (State.stopEngines s).boot = s.boot ∧ (State.stopEngines s).antler = s.antler ∧ (State.stopEngines
    s).tamper = s.tamper ∧ (State.stopEngines s).calendar = s.calendar ∧ (State.stopEngines s).owl = s.owl ∧
    (State.stopEngines s).status = s.status ∧ (State.stopEngines s).check = s.check ∧ (State.stopEngines s).pair =
    s.pair ∧ (State.stopEngines s).power = s.power ∧ (State.stopEngines s).pins = s.pins ∧ (State.stopEngines
    s).outputs = s.outputs ∧ (State.stopEngines s).freeNext = s.freeNext ∧ (State.stopEngines s).pending = s.pending
    := by
  intros; simp [State.stopEngines]
@[simp] theorem State_deactivate_keeps : ∀ a0 a1 s, (State.deactivate a0 a1 s).now = s.now ∧ (State.deactivate a0 a1
    s).lodge = s.lodge ∧ (State.deactivate a0 a1 s).host = s.host ∧ (State.deactivate a0 a1 s).cub = s.cub ∧
    (State.deactivate a0 a1 s).sett = s.sett ∧ (State.deactivate a0 a1 s).compute = s.compute ∧ (State.deactivate a0
    a1 s).rng = s.rng ∧ (State.deactivate a0 a1 s).mem = s.mem ∧ (State.deactivate a0 a1 s).boot = s.boot ∧
    (State.deactivate a0 a1 s).antler = s.antler ∧ (State.deactivate a0 a1 s).tamper = s.tamper ∧ (State.deactivate a0
    a1 s).calendar = s.calendar ∧ (State.deactivate a0 a1 s).owl = s.owl ∧ (State.deactivate a0 a1 s).status =
    s.status ∧ (State.deactivate a0 a1 s).check = s.check ∧ (State.deactivate a0 a1 s).pair = s.pair ∧
    (State.deactivate a0 a1 s).power = s.power ∧ (State.deactivate a0 a1 s).pins = s.pins ∧ (State.deactivate a0 a1
    s).outputs = s.outputs ∧ (State.deactivate a0 a1 s).freeNext = s.freeNext ∧ (State.deactivate a0 a1 s).pending =
    s.pending := by
  intros; simp [State.deactivate]
@[simp] theorem State_stopPorts_keeps : ∀ a0 s, (State.stopPorts a0 s).now = s.now ∧ (State.stopPorts a0 s).lodge =
    s.lodge ∧ (State.stopPorts a0 s).cub = s.cub ∧ (State.stopPorts a0 s).boot = s.boot ∧ (State.stopPorts a0
    s).antler = s.antler ∧ (State.stopPorts a0 s).tamper = s.tamper ∧ (State.stopPorts a0 s).calendar = s.calendar ∧
    (State.stopPorts a0 s).check = s.check ∧ (State.stopPorts a0 s).pins = s.pins ∧ (State.stopPorts a0 s).freeNext =
    s.freeNext ∧ (State.stopPorts a0 s).pending = s.pending := by
  intros; simp [State.stopPorts]
@[simp] theorem State_endEvrOp_keeps : ∀ a0 a1 s, (State.endEvrOp a0 a1 s).now = s.now ∧ (State.endEvrOp a0 a1
    s).lodge = s.lodge ∧ (State.endEvrOp a0 a1 s).host = s.host ∧ (State.endEvrOp a0 a1 s).cub = s.cub ∧
    (State.endEvrOp a0 a1 s).sett = s.sett ∧ (State.endEvrOp a0 a1 s).quill = s.quill ∧ (State.endEvrOp a0 a1
    s).compute = s.compute ∧ (State.endEvrOp a0 a1 s).rng = s.rng ∧ (State.endEvrOp a0 a1 s).mem = s.mem ∧
    (State.endEvrOp a0 a1 s).boot = s.boot ∧ (State.endEvrOp a0 a1 s).antler = s.antler ∧ (State.endEvrOp a0 a1
    s).tamper = s.tamper ∧ (State.endEvrOp a0 a1 s).calendar = s.calendar ∧ (State.endEvrOp a0 a1 s).status = s.status
    ∧ (State.endEvrOp a0 a1 s).check = s.check ∧ (State.endEvrOp a0 a1 s).pair = s.pair ∧ (State.endEvrOp a0 a1
    s).power = s.power ∧ (State.endEvrOp a0 a1 s).pins = s.pins ∧ (State.endEvrOp a0 a1 s).outputs = s.outputs ∧
    (State.endEvrOp a0 a1 s).freeNext = s.freeNext ∧ (State.endEvrOp a0 a1 s).pending = s.pending := by
  intros; simp [State.endEvrOp]
@[simp] theorem State_cancelFetches_keeps : ∀ a0 s, (State.cancelFetches a0 s).now = s.now ∧ (State.cancelFetches a0
    s).lodge = s.lodge ∧ (State.cancelFetches a0 s).cub = s.cub ∧ (State.cancelFetches a0 s).sett = s.sett ∧
    (State.cancelFetches a0 s).quill = s.quill ∧ (State.cancelFetches a0 s).compute = s.compute ∧ (State.cancelFetches
    a0 s).rng = s.rng ∧ (State.cancelFetches a0 s).mem = s.mem ∧ (State.cancelFetches a0 s).boot = s.boot ∧
    (State.cancelFetches a0 s).antler = s.antler ∧ (State.cancelFetches a0 s).tamper = s.tamper ∧ (State.cancelFetches
    a0 s).calendar = s.calendar ∧ (State.cancelFetches a0 s).owl = s.owl ∧ (State.cancelFetches a0 s).status =
    s.status ∧ (State.cancelFetches a0 s).check = s.check ∧ (State.cancelFetches a0 s).pair = s.pair ∧
    (State.cancelFetches a0 s).power = s.power ∧ (State.cancelFetches a0 s).pins = s.pins ∧ (State.cancelFetches a0
    s).outputs = s.outputs ∧ (State.cancelFetches a0 s).freeNext = s.freeNext ∧ (State.cancelFetches a0 s).pending =
    s.pending := by
  intros; unfold State.cancelFetches; (repeat' split) <;> simp
@[simp] theorem State_cancelAll_keeps : ∀ s, (State.cancelAll s).now = s.now ∧ (State.cancelAll s).lodge = s.lodge ∧
    (State.cancelAll s).cub = s.cub ∧ (State.cancelAll s).sett = s.sett ∧ (State.cancelAll s).quill = s.quill ∧
    (State.cancelAll s).compute = s.compute ∧ (State.cancelAll s).rng = s.rng ∧ (State.cancelAll s).mem = s.mem ∧
    (State.cancelAll s).boot = s.boot ∧ (State.cancelAll s).antler = s.antler ∧ (State.cancelAll s).tamper = s.tamper
    ∧ (State.cancelAll s).calendar = s.calendar ∧ (State.cancelAll s).owl = s.owl ∧ (State.cancelAll s).status =
    s.status ∧ (State.cancelAll s).check = s.check ∧ (State.cancelAll s).pair = s.pair ∧ (State.cancelAll s).power =
    s.power ∧ (State.cancelAll s).pins = s.pins ∧ (State.cancelAll s).outputs = s.outputs ∧ (State.cancelAll
    s).freeNext = s.freeNext ∧ (State.cancelAll s).pending = s.pending := by
  intros; simp [State.cancelAll]
@[simp] theorem State_respond_keeps : ∀ s, (State.respond s).now = s.now ∧ (State.respond s).calendar = s.calendar ∧
    (State.respond s).check = s.check ∧ (State.respond s).freeNext = s.freeNext ∧ (State.respond s).pending =
    s.pending := by
  intros; simp [State.respond]
@[simp] theorem State_clearSettKeys_keeps : ∀ s, (State.clearSettKeys s).now = s.now ∧ (State.clearSettKeys s).lodge =
    s.lodge ∧ (State.clearSettKeys s).host = s.host ∧ (State.clearSettKeys s).cub = s.cub ∧ (State.clearSettKeys
    s).quill = s.quill ∧ (State.clearSettKeys s).compute = s.compute ∧ (State.clearSettKeys s).rng = s.rng ∧
    (State.clearSettKeys s).mem = s.mem ∧ (State.clearSettKeys s).boot = s.boot ∧ (State.clearSettKeys s).antler =
    s.antler ∧ (State.clearSettKeys s).tamper = s.tamper ∧ (State.clearSettKeys s).calendar = s.calendar ∧
    (State.clearSettKeys s).owl = s.owl ∧ (State.clearSettKeys s).status = s.status ∧ (State.clearSettKeys s).check =
    s.check ∧ (State.clearSettKeys s).pair = s.pair ∧ (State.clearSettKeys s).power = s.power ∧ (State.clearSettKeys
    s).pins = s.pins ∧ (State.clearSettKeys s).outputs = s.outputs ∧ (State.clearSettKeys s).freeNext = s.freeNext ∧
    (State.clearSettKeys s).pending = s.pending := by
  intros; simp [State.clearSettKeys]
@[simp] theorem State_confirmTamper_keeps : ∀ a0 a1 s, (State.confirmTamper a0 a1 s).now = s.now ∧
    (State.confirmTamper a0 a1 s).calendar = s.calendar ∧ (State.confirmTamper a0 a1 s).check = s.check ∧
    (State.confirmTamper a0 a1 s).freeNext = s.freeNext ∧ (State.confirmTamper a0 a1 s).pending = s.pending := by
  intros; simp [State.confirmTamper]
@[simp] theorem State_countDrawn_keeps : ∀ a0 a1 s, (State.countDrawn a0 a1 s).now = s.now ∧ (State.countDrawn a0 a1
    s).lodge = s.lodge ∧ (State.countDrawn a0 a1 s).host = s.host ∧ (State.countDrawn a0 a1 s).cub = s.cub ∧
    (State.countDrawn a0 a1 s).sett = s.sett ∧ (State.countDrawn a0 a1 s).quill = s.quill ∧ (State.countDrawn a0 a1
    s).compute = s.compute ∧ (State.countDrawn a0 a1 s).rng = s.rng ∧ (State.countDrawn a0 a1 s).mem = s.mem ∧
    (State.countDrawn a0 a1 s).boot = s.boot ∧ (State.countDrawn a0 a1 s).antler = s.antler ∧ (State.countDrawn a0 a1
    s).tamper = s.tamper ∧ (State.countDrawn a0 a1 s).calendar = s.calendar ∧ (State.countDrawn a0 a1 s).owl = s.owl ∧
    (State.countDrawn a0 a1 s).status = s.status ∧ (State.countDrawn a0 a1 s).check = s.check ∧ (State.countDrawn a0
    a1 s).power = s.power ∧ (State.countDrawn a0 a1 s).pins = s.pins ∧ (State.countDrawn a0 a1 s).outputs = s.outputs
    ∧ (State.countDrawn a0 a1 s).freeNext = s.freeNext ∧ (State.countDrawn a0 a1 s).pending = s.pending := by
  intros; simp [State.countDrawn]
@[simp] theorem State_countError_keeps : ∀ a0 a1 a2 s, (State.countError a0 a1 a2 s).now = s.now ∧ (State.countError
    a0 a1 a2 s).lodge = s.lodge ∧ (State.countError a0 a1 a2 s).host = s.host ∧ (State.countError a0 a1 a2 s).cub =
    s.cub ∧ (State.countError a0 a1 a2 s).sett = s.sett ∧ (State.countError a0 a1 a2 s).quill = s.quill ∧
    (State.countError a0 a1 a2 s).compute = s.compute ∧ (State.countError a0 a1 a2 s).rng = s.rng ∧ (State.countError
    a0 a1 a2 s).boot = s.boot ∧ (State.countError a0 a1 a2 s).antler = s.antler ∧ (State.countError a0 a1 a2 s).tamper
    = s.tamper ∧ (State.countError a0 a1 a2 s).calendar = s.calendar ∧ (State.countError a0 a1 a2 s).check = s.check ∧
    (State.countError a0 a1 a2 s).pair = s.pair ∧ (State.countError a0 a1 a2 s).power = s.power ∧ (State.countError a0
    a1 a2 s).pins = s.pins ∧ (State.countError a0 a1 a2 s).outputs = s.outputs ∧ (State.countError a0 a1 a2
    s).freeNext = s.freeNext ∧ (State.countError a0 a1 a2 s).pending = s.pending := by
  intros; unfold State.countError ; (repeat' split) <;> simp
@[simp] theorem State_countHit_keeps : ∀ a0 s, (State.countHit a0 s).now = s.now ∧ (State.countHit a0 s).lodge =
    s.lodge ∧ (State.countHit a0 s).host = s.host ∧ (State.countHit a0 s).cub = s.cub ∧ (State.countHit a0 s).quill =
    s.quill ∧ (State.countHit a0 s).compute = s.compute ∧ (State.countHit a0 s).rng = s.rng ∧ (State.countHit a0
    s).mem = s.mem ∧ (State.countHit a0 s).boot = s.boot ∧ (State.countHit a0 s).antler = s.antler ∧ (State.countHit
    a0 s).tamper = s.tamper ∧ (State.countHit a0 s).calendar = s.calendar ∧ (State.countHit a0 s).owl = s.owl ∧
    (State.countHit a0 s).status = s.status ∧ (State.countHit a0 s).check = s.check ∧ (State.countHit a0 s).pair =
    s.pair ∧ (State.countHit a0 s).power = s.power ∧ (State.countHit a0 s).pins = s.pins ∧ (State.countHit a0
    s).outputs = s.outputs ∧ (State.countHit a0 s).freeNext = s.freeNext ∧ (State.countHit a0 s).pending = s.pending
    := by
  intros; simp [State.countHit]
@[simp] theorem State_crcFeed_keeps : ∀ a0 a1 s, (State.crcFeed a0 a1 s).now = s.now ∧ (State.crcFeed a0 a1 s).lodge =
    s.lodge ∧ (State.crcFeed a0 a1 s).host = s.host ∧ (State.crcFeed a0 a1 s).cub = s.cub ∧ (State.crcFeed a0 a1
    s).sett = s.sett ∧ (State.crcFeed a0 a1 s).quill = s.quill ∧ (State.crcFeed a0 a1 s).compute = s.compute ∧
    (State.crcFeed a0 a1 s).rng = s.rng ∧ (State.crcFeed a0 a1 s).mem = s.mem ∧ (State.crcFeed a0 a1 s).boot = s.boot
    ∧ (State.crcFeed a0 a1 s).antler = s.antler ∧ (State.crcFeed a0 a1 s).tamper = s.tamper ∧ (State.crcFeed a0 a1
    s).calendar = s.calendar ∧ (State.crcFeed a0 a1 s).pair = s.pair ∧ (State.crcFeed a0 a1 s).power = s.power ∧
    (State.crcFeed a0 a1 s).pins = s.pins ∧ (State.crcFeed a0 a1 s).outputs = s.outputs ∧ (State.crcFeed a0 a1
    s).freeNext = s.freeNext ∧ (State.crcFeed a0 a1 s).pending = s.pending := by
  intros; simp [State.crcFeed]
@[simp] theorem State_placeBody_keeps : ∀ a0 s, (State.placeBody a0 s).2.now = s.now ∧ (State.placeBody a0 s).2.lodge
    = s.lodge ∧ (State.placeBody a0 s).2.host = s.host ∧ (State.placeBody a0 s).2.cub = s.cub ∧ (State.placeBody a0
    s).2.quill = s.quill ∧ (State.placeBody a0 s).2.compute = s.compute ∧ (State.placeBody a0 s).2.rng = s.rng ∧
    (State.placeBody a0 s).2.mem = s.mem ∧ (State.placeBody a0 s).2.boot = s.boot ∧ (State.placeBody a0 s).2.antler =
    s.antler ∧ (State.placeBody a0 s).2.tamper = s.tamper ∧ (State.placeBody a0 s).2.calendar = s.calendar ∧
    (State.placeBody a0 s).2.owl = s.owl ∧ (State.placeBody a0 s).2.status = s.status ∧ (State.placeBody a0 s).2.check
    = s.check ∧ (State.placeBody a0 s).2.pair = s.pair ∧ (State.placeBody a0 s).2.power = s.power ∧ (State.placeBody
    a0 s).2.pins = s.pins ∧ (State.placeBody a0 s).2.outputs = s.outputs ∧ (State.placeBody a0 s).2.freeNext =
    s.freeNext ∧ (State.placeBody a0 s).2.pending = s.pending := by
  intros; unfold State.placeBody; dsimp only; (repeat' split) <;> simp
@[simp] theorem State_failKey_keeps : ∀ a0 s, (State.failKey a0 s).now = s.now ∧ (State.failKey a0 s).lodge = s.lodge
    ∧ (State.failKey a0 s).host = s.host ∧ (State.failKey a0 s).cub = s.cub ∧ (State.failKey a0 s).quill = s.quill ∧
    (State.failKey a0 s).compute = s.compute ∧ (State.failKey a0 s).rng = s.rng ∧ (State.failKey a0 s).mem = s.mem ∧
    (State.failKey a0 s).boot = s.boot ∧ (State.failKey a0 s).antler = s.antler ∧ (State.failKey a0 s).tamper =
    s.tamper ∧ (State.failKey a0 s).calendar = s.calendar ∧ (State.failKey a0 s).owl = s.owl ∧ (State.failKey a0
    s).status = s.status ∧ (State.failKey a0 s).check = s.check ∧ (State.failKey a0 s).pair = s.pair ∧ (State.failKey
    a0 s).power = s.power ∧ (State.failKey a0 s).pins = s.pins ∧ (State.failKey a0 s).outputs = s.outputs ∧
    (State.failKey a0 s).freeNext = s.freeNext ∧ (State.failKey a0 s).pending = s.pending := by
  intros; simp [State.failKey]
@[simp] theorem State_writeBack_keeps : ∀ a0 s, (State.writeBack a0 s).now = s.now ∧ (State.writeBack a0 s).lodge =
    s.lodge ∧ (State.writeBack a0 s).host = s.host ∧ (State.writeBack a0 s).cub = s.cub ∧ (State.writeBack a0 s).quill
    = s.quill ∧ (State.writeBack a0 s).compute = s.compute ∧ (State.writeBack a0 s).rng = s.rng ∧ (State.writeBack a0
    s).mem = s.mem ∧ (State.writeBack a0 s).boot = s.boot ∧ (State.writeBack a0 s).antler = s.antler ∧
    (State.writeBack a0 s).tamper = s.tamper ∧ (State.writeBack a0 s).calendar = s.calendar ∧ (State.writeBack a0
    s).owl = s.owl ∧ (State.writeBack a0 s).status = s.status ∧ (State.writeBack a0 s).check = s.check ∧
    (State.writeBack a0 s).pair = s.pair ∧ (State.writeBack a0 s).power = s.power ∧ (State.writeBack a0 s).pins =
    s.pins ∧ (State.writeBack a0 s).outputs = s.outputs ∧ (State.writeBack a0 s).freeNext = s.freeNext ∧
    (State.writeBack a0 s).pending = s.pending := by
  intros; unfold State.writeBack; dsimp only; (repeat' split) <;> simp
@[simp] theorem State_createKey_keeps : ∀ a0 s, (State.createKey a0 s).2.now = s.now ∧ (State.createKey a0 s).2.lodge
    = s.lodge ∧ (State.createKey a0 s).2.host = s.host ∧ (State.createKey a0 s).2.cub = s.cub ∧ (State.createKey a0
    s).2.quill = s.quill ∧ (State.createKey a0 s).2.compute = s.compute ∧ (State.createKey a0 s).2.rng = s.rng ∧
    (State.createKey a0 s).2.mem = s.mem ∧ (State.createKey a0 s).2.boot = s.boot ∧ (State.createKey a0 s).2.antler =
    s.antler ∧ (State.createKey a0 s).2.tamper = s.tamper ∧ (State.createKey a0 s).2.calendar = s.calendar ∧
    (State.createKey a0 s).2.owl = s.owl ∧ (State.createKey a0 s).2.status = s.status ∧ (State.createKey a0 s).2.check
    = s.check ∧ (State.createKey a0 s).2.pair = s.pair ∧ (State.createKey a0 s).2.power = s.power ∧ (State.createKey
    a0 s).2.pins = s.pins ∧ (State.createKey a0 s).2.outputs = s.outputs ∧ (State.createKey a0 s).2.freeNext =
    s.freeNext ∧ (State.createKey a0 s).2.pending = s.pending := by
  intros; unfold State.createKey; (repeat' split) <;> simp
@[simp] theorem State_useKey_keeps : ∀ a0 a1 s, (State.useKey a0 a1 s).now = s.now ∧ (State.useKey a0 a1 s).lodge =
    s.lodge ∧ (State.useKey a0 a1 s).cub = s.cub ∧ (State.useKey a0 a1 s).quill = s.quill ∧ (State.useKey a0 a1
    s).compute = s.compute ∧ (State.useKey a0 a1 s).rng = s.rng ∧ (State.useKey a0 a1 s).mem = s.mem ∧ (State.useKey
    a0 a1 s).boot = s.boot ∧ (State.useKey a0 a1 s).antler = s.antler ∧ (State.useKey a0 a1 s).tamper = s.tamper ∧
    (State.useKey a0 a1 s).calendar = s.calendar ∧ (State.useKey a0 a1 s).owl = s.owl ∧ (State.useKey a0 a1 s).status
    = s.status ∧ (State.useKey a0 a1 s).check = s.check ∧ (State.useKey a0 a1 s).pair = s.pair ∧ (State.useKey a0 a1
    s).power = s.power ∧ (State.useKey a0 a1 s).pins = s.pins ∧ (State.useKey a0 a1 s).outputs = s.outputs ∧
    (State.useKey a0 a1 s).freeNext = s.freeNext ∧ (State.useKey a0 a1 s).pending = s.pending := by
  intros; simp [State.useKey]
@[simp] theorem State_failHandle_keeps : ∀ a0 a1 a2 s, (State.failHandle a0 a1 a2 s).now = s.now ∧ (State.failHandle
    a0 a1 a2 s).lodge = s.lodge ∧ (State.failHandle a0 a1 a2 s).cub = s.cub ∧ (State.failHandle a0 a1 a2 s).quill =
    s.quill ∧ (State.failHandle a0 a1 a2 s).boot = s.boot ∧ (State.failHandle a0 a1 a2 s).antler = s.antler ∧
    (State.failHandle a0 a1 a2 s).tamper = s.tamper ∧ (State.failHandle a0 a1 a2 s).calendar = s.calendar ∧
    (State.failHandle a0 a1 a2 s).check = s.check ∧ (State.failHandle a0 a1 a2 s).pins = s.pins ∧ (State.failHandle a0
    a1 a2 s).freeNext = s.freeNext ∧ (State.failHandle a0 a1 a2 s).pending = s.pending := by
  intros; simp [State.failHandle]
@[simp] theorem State_parkMiss_keeps : ∀ a0 a1 s, (State.parkMiss a0 a1 s).now = s.now ∧ (State.parkMiss a0 a1
    s).lodge = s.lodge ∧ (State.parkMiss a0 a1 s).cub = s.cub ∧ (State.parkMiss a0 a1 s).quill = s.quill ∧
    (State.parkMiss a0 a1 s).rng = s.rng ∧ (State.parkMiss a0 a1 s).mem = s.mem ∧ (State.parkMiss a0 a1 s).boot =
    s.boot ∧ (State.parkMiss a0 a1 s).antler = s.antler ∧ (State.parkMiss a0 a1 s).tamper = s.tamper ∧ (State.parkMiss
    a0 a1 s).calendar = s.calendar ∧ (State.parkMiss a0 a1 s).owl = s.owl ∧ (State.parkMiss a0 a1 s).status = s.status
    ∧ (State.parkMiss a0 a1 s).check = s.check ∧ (State.parkMiss a0 a1 s).pair = s.pair ∧ (State.parkMiss a0 a1
    s).power = s.power ∧ (State.parkMiss a0 a1 s).pins = s.pins ∧ (State.parkMiss a0 a1 s).outputs = s.outputs ∧
    (State.parkMiss a0 a1 s).freeNext = s.freeNext ∧ (State.parkMiss a0 a1 s).pending = s.pending := by
  intros; simp [State.parkMiss]
@[simp] theorem State_reserveUse_keeps : ∀ a0 s, (State.reserveUse a0 s).now = s.now ∧ (State.reserveUse a0 s).lodge =
    s.lodge ∧ (State.reserveUse a0 s).host = s.host ∧ (State.reserveUse a0 s).cub = s.cub ∧ (State.reserveUse a0
    s).quill = s.quill ∧ (State.reserveUse a0 s).compute = s.compute ∧ (State.reserveUse a0 s).rng = s.rng ∧
    (State.reserveUse a0 s).mem = s.mem ∧ (State.reserveUse a0 s).boot = s.boot ∧ (State.reserveUse a0 s).antler =
    s.antler ∧ (State.reserveUse a0 s).tamper = s.tamper ∧ (State.reserveUse a0 s).calendar = s.calendar ∧
    (State.reserveUse a0 s).owl = s.owl ∧ (State.reserveUse a0 s).status = s.status ∧ (State.reserveUse a0 s).check =
    s.check ∧ (State.reserveUse a0 s).pair = s.pair ∧ (State.reserveUse a0 s).power = s.power ∧ (State.reserveUse a0
    s).pins = s.pins ∧ (State.reserveUse a0 s).outputs = s.outputs ∧ (State.reserveUse a0 s).freeNext = s.freeNext ∧
    (State.reserveUse a0 s).pending = s.pending := by
  intros; simp [State.reserveUse]
@[simp] theorem State_hotTouch_keeps : ∀ a0 s, (State.hotTouch a0 s).now = s.now ∧ (State.hotTouch a0 s).lodge =
    s.lodge ∧ (State.hotTouch a0 s).host = s.host ∧ (State.hotTouch a0 s).cub = s.cub ∧ (State.hotTouch a0 s).quill =
    s.quill ∧ (State.hotTouch a0 s).compute = s.compute ∧ (State.hotTouch a0 s).rng = s.rng ∧ (State.hotTouch a0
    s).mem = s.mem ∧ (State.hotTouch a0 s).boot = s.boot ∧ (State.hotTouch a0 s).antler = s.antler ∧ (State.hotTouch
    a0 s).tamper = s.tamper ∧ (State.hotTouch a0 s).calendar = s.calendar ∧ (State.hotTouch a0 s).owl = s.owl ∧
    (State.hotTouch a0 s).status = s.status ∧ (State.hotTouch a0 s).check = s.check ∧ (State.hotTouch a0 s).pair =
    s.pair ∧ (State.hotTouch a0 s).power = s.power ∧ (State.hotTouch a0 s).pins = s.pins ∧ (State.hotTouch a0
    s).outputs = s.outputs ∧ (State.hotTouch a0 s).freeNext = s.freeNext ∧ (State.hotTouch a0 s).pending = s.pending
    := by
  intros; simp [State.hotTouch]
@[simp] theorem State_hit_keeps : ∀ a0 a1 s, (State.hit a0 a1 s).now = s.now ∧ (State.hit a0 a1 s).lodge = s.lodge ∧
    (State.hit a0 a1 s).cub = s.cub ∧ (State.hit a0 a1 s).quill = s.quill ∧ (State.hit a0 a1 s).compute = s.compute ∧
    (State.hit a0 a1 s).rng = s.rng ∧ (State.hit a0 a1 s).mem = s.mem ∧ (State.hit a0 a1 s).boot = s.boot ∧ (State.hit
    a0 a1 s).antler = s.antler ∧ (State.hit a0 a1 s).tamper = s.tamper ∧ (State.hit a0 a1 s).calendar = s.calendar ∧
    (State.hit a0 a1 s).owl = s.owl ∧ (State.hit a0 a1 s).status = s.status ∧ (State.hit a0 a1 s).check = s.check ∧
    (State.hit a0 a1 s).pair = s.pair ∧ (State.hit a0 a1 s).power = s.power ∧ (State.hit a0 a1 s).pins = s.pins ∧
    (State.hit a0 a1 s).outputs = s.outputs ∧ (State.hit a0 a1 s).freeNext = s.freeNext ∧ (State.hit a0 a1 s).pending
    = s.pending := by
  intros; simp [State.hit]
@[simp] theorem State_resolveFrom_keeps : ∀ a0 a1 a2 a3 s, (State.resolveFrom a0 a1 a2 a3 s).2.now = s.now ∧
    (State.resolveFrom a0 a1 a2 a3 s).2.lodge = s.lodge ∧ (State.resolveFrom a0 a1 a2 a3 s).2.cub = s.cub ∧
    (State.resolveFrom a0 a1 a2 a3 s).2.quill = s.quill ∧ (State.resolveFrom a0 a1 a2 a3 s).2.boot = s.boot ∧
    (State.resolveFrom a0 a1 a2 a3 s).2.antler = s.antler ∧ (State.resolveFrom a0 a1 a2 a3 s).2.tamper = s.tamper ∧
    (State.resolveFrom a0 a1 a2 a3 s).2.calendar = s.calendar ∧ (State.resolveFrom a0 a1 a2 a3 s).2.check = s.check ∧
    (State.resolveFrom a0 a1 a2 a3 s).2.pins = s.pins ∧ (State.resolveFrom a0 a1 a2 a3 s).2.freeNext = s.freeNext ∧
    (State.resolveFrom a0 a1 a2 a3 s).2.pending = s.pending := by
  intro a0 a1 a2 a3 s; induction a3 generalizing s with
  | nil => simp [State.resolveFrom]
  | cons i t ih =>
    rw [State.resolveFrom]; split
    · exact ih s
    · split
      · simp
      · simp
      · simp [ih]
@[simp] theorem State_discardStaged_keeps : ∀ s, (State.discardStaged s).now = s.now ∧ (State.discardStaged s).host =
    s.host ∧ (State.discardStaged s).cub = s.cub ∧ (State.discardStaged s).sett = s.sett ∧ (State.discardStaged
    s).quill = s.quill ∧ (State.discardStaged s).compute = s.compute ∧ (State.discardStaged s).rng = s.rng ∧
    (State.discardStaged s).boot = s.boot ∧ (State.discardStaged s).antler = s.antler ∧ (State.discardStaged s).tamper
    = s.tamper ∧ (State.discardStaged s).calendar = s.calendar ∧ (State.discardStaged s).check = s.check ∧
    (State.discardStaged s).pair = s.pair ∧ (State.discardStaged s).power = s.power ∧ (State.discardStaged s).pins =
    s.pins ∧ (State.discardStaged s).outputs = s.outputs ∧ (State.discardStaged s).freeNext = s.freeNext ∧
    (State.discardStaged s).pending = s.pending := by
  intros; simp [State.discardStaged]
@[simp] theorem State_exchangeFw_keeps : ∀ s, (State.exchangeFw s).now = s.now ∧ (State.exchangeFw s).lodge = s.lodge
    ∧ (State.exchangeFw s).host = s.host ∧ (State.exchangeFw s).cub = s.cub ∧ (State.exchangeFw s).sett = s.sett ∧
    (State.exchangeFw s).quill = s.quill ∧ (State.exchangeFw s).compute = s.compute ∧ (State.exchangeFw s).rng = s.rng
    ∧ (State.exchangeFw s).antler = s.antler ∧ (State.exchangeFw s).tamper = s.tamper ∧ (State.exchangeFw s).calendar
    = s.calendar ∧ (State.exchangeFw s).check = s.check ∧ (State.exchangeFw s).pair = s.pair ∧ (State.exchangeFw
    s).power = s.power ∧ (State.exchangeFw s).pins = s.pins ∧ (State.exchangeFw s).outputs = s.outputs ∧
    (State.exchangeFw s).freeNext = s.freeNext ∧ (State.exchangeFw s).pending = s.pending := by
  intros; simp [State.exchangeFw]
@[simp] theorem State_resumeDiscard_keeps : ∀ s, (State.resumeDiscard s).now = s.now ∧ (State.resumeDiscard s).host =
    s.host ∧ (State.resumeDiscard s).cub = s.cub ∧ (State.resumeDiscard s).sett = s.sett ∧ (State.resumeDiscard
    s).quill = s.quill ∧ (State.resumeDiscard s).compute = s.compute ∧ (State.resumeDiscard s).rng = s.rng ∧
    (State.resumeDiscard s).boot = s.boot ∧ (State.resumeDiscard s).antler = s.antler ∧ (State.resumeDiscard s).tamper
    = s.tamper ∧ (State.resumeDiscard s).calendar = s.calendar ∧ (State.resumeDiscard s).check = s.check ∧
    (State.resumeDiscard s).pair = s.pair ∧ (State.resumeDiscard s).power = s.power ∧ (State.resumeDiscard s).pins =
    s.pins ∧ (State.resumeDiscard s).outputs = s.outputs ∧ (State.resumeDiscard s).freeNext = s.freeNext ∧
    (State.resumeDiscard s).pending = s.pending := by
  intros; simp [State.resumeDiscard, State.onStore]
@[simp] theorem State_resumeFw_keeps : ∀ s, (State.resumeFw s).now = s.now ∧ (State.resumeFw s).lodge = s.lodge ∧
    (State.resumeFw s).host = s.host ∧ (State.resumeFw s).cub = s.cub ∧ (State.resumeFw s).sett = s.sett ∧
    (State.resumeFw s).quill = s.quill ∧ (State.resumeFw s).compute = s.compute ∧ (State.resumeFw s).rng = s.rng ∧
    (State.resumeFw s).antler = s.antler ∧ (State.resumeFw s).tamper = s.tamper ∧ (State.resumeFw s).calendar =
    s.calendar ∧ (State.resumeFw s).check = s.check ∧ (State.resumeFw s).pair = s.pair ∧ (State.resumeFw s).power =
    s.power ∧ (State.resumeFw s).pins = s.pins ∧ (State.resumeFw s).outputs = s.outputs ∧ (State.resumeFw s).freeNext
    = s.freeNext ∧ (State.resumeFw s).pending = s.pending := by
  intros; simp [State.resumeFw, State.onStore]
@[simp] theorem State_resumeWaiting_keeps : ∀ s, (State.resumeWaiting s).now = s.now ∧ (State.resumeWaiting s).host =
    s.host ∧ (State.resumeWaiting s).cub = s.cub ∧ (State.resumeWaiting s).sett = s.sett ∧ (State.resumeWaiting
    s).quill = s.quill ∧ (State.resumeWaiting s).compute = s.compute ∧ (State.resumeWaiting s).rng = s.rng ∧
    (State.resumeWaiting s).antler = s.antler ∧ (State.resumeWaiting s).tamper = s.tamper ∧ (State.resumeWaiting
    s).calendar = s.calendar ∧ (State.resumeWaiting s).check = s.check ∧ (State.resumeWaiting s).pair = s.pair ∧
    (State.resumeWaiting s).power = s.power ∧ (State.resumeWaiting s).pins = s.pins ∧ (State.resumeWaiting s).outputs
    = s.outputs ∧ (State.resumeWaiting s).freeNext = s.freeNext ∧ (State.resumeWaiting s).pending = s.pending := by
  intros; simp [State.resumeWaiting]
@[simp] theorem State_finishLc_keeps : ∀ a0 s, (State.finishLc a0 s).now = s.now ∧ (State.finishLc a0 s).host = s.host
    ∧ (State.finishLc a0 s).cub = s.cub ∧ (State.finishLc a0 s).sett = s.sett ∧ (State.finishLc a0 s).quill = s.quill
    ∧ (State.finishLc a0 s).compute = s.compute ∧ (State.finishLc a0 s).rng = s.rng ∧ (State.finishLc a0 s).tamper =
    s.tamper ∧ (State.finishLc a0 s).calendar = s.calendar ∧ (State.finishLc a0 s).check = s.check ∧ (State.finishLc
    a0 s).pair = s.pair ∧ (State.finishLc a0 s).power = s.power ∧ (State.finishLc a0 s).pins = s.pins ∧
    (State.finishLc a0 s).outputs = s.outputs ∧ (State.finishLc a0 s).freeNext = s.freeNext ∧ (State.finishLc a0
    s).pending = s.pending := by
  intros; simp [State.finishLc]
@[simp] theorem State_freeBody_keeps : ∀ a0 s, (State.freeBody a0 s).now = s.now ∧ (State.freeBody a0 s).lodge =
    s.lodge ∧ (State.freeBody a0 s).host = s.host ∧ (State.freeBody a0 s).cub = s.cub ∧ (State.freeBody a0 s).quill =
    s.quill ∧ (State.freeBody a0 s).compute = s.compute ∧ (State.freeBody a0 s).rng = s.rng ∧ (State.freeBody a0
    s).mem = s.mem ∧ (State.freeBody a0 s).boot = s.boot ∧ (State.freeBody a0 s).antler = s.antler ∧ (State.freeBody
    a0 s).tamper = s.tamper ∧ (State.freeBody a0 s).calendar = s.calendar ∧ (State.freeBody a0 s).owl = s.owl ∧
    (State.freeBody a0 s).status = s.status ∧ (State.freeBody a0 s).check = s.check ∧ (State.freeBody a0 s).pair =
    s.pair ∧ (State.freeBody a0 s).power = s.power ∧ (State.freeBody a0 s).pins = s.pins ∧ (State.freeBody a0
    s).outputs = s.outputs ∧ (State.freeBody a0 s).freeNext = s.freeNext ∧ (State.freeBody a0 s).pending = s.pending
    := by
  intros; simp [State.freeBody]
@[simp] theorem State_deleteKey_keeps : ∀ a0 s, (State.deleteKey a0 s).now = s.now ∧ (State.deleteKey a0 s).lodge =
    s.lodge ∧ (State.deleteKey a0 s).cub = s.cub ∧ (State.deleteKey a0 s).quill = s.quill ∧ (State.deleteKey a0
    s).compute = s.compute ∧ (State.deleteKey a0 s).rng = s.rng ∧ (State.deleteKey a0 s).mem = s.mem ∧
    (State.deleteKey a0 s).boot = s.boot ∧ (State.deleteKey a0 s).antler = s.antler ∧ (State.deleteKey a0 s).tamper =
    s.tamper ∧ (State.deleteKey a0 s).calendar = s.calendar ∧ (State.deleteKey a0 s).owl = s.owl ∧ (State.deleteKey a0
    s).status = s.status ∧ (State.deleteKey a0 s).check = s.check ∧ (State.deleteKey a0 s).pair = s.pair ∧
    (State.deleteKey a0 s).power = s.power ∧ (State.deleteKey a0 s).pins = s.pins ∧ (State.deleteKey a0 s).outputs =
    s.outputs ∧ (State.deleteKey a0 s).freeNext = s.freeNext ∧ (State.deleteKey a0 s).pending = s.pending := by
  intros; unfold State.deleteKey; dsimp only; (repeat' split) <;> simp
@[simp] theorem State_dirtied_keeps : ∀ a0 a1 a2 s, (State.dirtied a0 a1 a2 s).now = s.now ∧ (State.dirtied a0 a1 a2
    s).lodge = s.lodge ∧ (State.dirtied a0 a1 a2 s).host = s.host ∧ (State.dirtied a0 a1 a2 s).sett = s.sett ∧
    (State.dirtied a0 a1 a2 s).quill = s.quill ∧ (State.dirtied a0 a1 a2 s).compute = s.compute ∧ (State.dirtied a0 a1
    a2 s).rng = s.rng ∧ (State.dirtied a0 a1 a2 s).mem = s.mem ∧ (State.dirtied a0 a1 a2 s).boot = s.boot ∧
    (State.dirtied a0 a1 a2 s).antler = s.antler ∧ (State.dirtied a0 a1 a2 s).tamper = s.tamper ∧ (State.dirtied a0 a1
    a2 s).calendar = s.calendar ∧ (State.dirtied a0 a1 a2 s).owl = s.owl ∧ (State.dirtied a0 a1 a2 s).status =
    s.status ∧ (State.dirtied a0 a1 a2 s).check = s.check ∧ (State.dirtied a0 a1 a2 s).pair = s.pair ∧ (State.dirtied
    a0 a1 a2 s).power = s.power ∧ (State.dirtied a0 a1 a2 s).pins = s.pins ∧ (State.dirtied a0 a1 a2 s).outputs =
    s.outputs ∧ (State.dirtied a0 a1 a2 s).freeNext = s.freeNext ∧ (State.dirtied a0 a1 a2 s).pending = s.pending :=
    by
  intros; simp [State.dirtied]
@[simp] theorem State_dmaOut_keeps : ∀ a0 a1 a2 a3 s, (State.dmaOut a0 a1 a2 a3 s).now = s.now ∧ (State.dmaOut a0 a1
    a2 a3 s).lodge = s.lodge ∧ (State.dmaOut a0 a1 a2 a3 s).host = s.host ∧ (State.dmaOut a0 a1 a2 a3 s).sett = s.sett
    ∧ (State.dmaOut a0 a1 a2 a3 s).quill = s.quill ∧ (State.dmaOut a0 a1 a2 a3 s).compute = s.compute ∧ (State.dmaOut
    a0 a1 a2 a3 s).rng = s.rng ∧ (State.dmaOut a0 a1 a2 a3 s).mem = s.mem ∧ (State.dmaOut a0 a1 a2 a3 s).boot = s.boot
    ∧ (State.dmaOut a0 a1 a2 a3 s).antler = s.antler ∧ (State.dmaOut a0 a1 a2 a3 s).tamper = s.tamper ∧ (State.dmaOut
    a0 a1 a2 a3 s).calendar = s.calendar ∧ (State.dmaOut a0 a1 a2 a3 s).owl = s.owl ∧ (State.dmaOut a0 a1 a2 a3
    s).status = s.status ∧ (State.dmaOut a0 a1 a2 a3 s).check = s.check ∧ (State.dmaOut a0 a1 a2 a3 s).pair = s.pair ∧
    (State.dmaOut a0 a1 a2 a3 s).power = s.power ∧ (State.dmaOut a0 a1 a2 a3 s).pins = s.pins ∧ (State.dmaOut a0 a1 a2
    a3 s).freeNext = s.freeNext ∧ (State.dmaOut a0 a1 a2 a3 s).pending = s.pending := by
  intros; simp [State.dmaOut]
@[simp] theorem State_dmaResult_keeps : ∀ a0 a1 a2 s, (State.dmaResult a0 a1 a2 s).now = s.now ∧ (State.dmaResult a0
    a1 a2 s).lodge = s.lodge ∧ (State.dmaResult a0 a1 a2 s).host = s.host ∧ (State.dmaResult a0 a1 a2 s).sett = s.sett
    ∧ (State.dmaResult a0 a1 a2 s).quill = s.quill ∧ (State.dmaResult a0 a1 a2 s).compute = s.compute ∧
    (State.dmaResult a0 a1 a2 s).rng = s.rng ∧ (State.dmaResult a0 a1 a2 s).mem = s.mem ∧ (State.dmaResult a0 a1 a2
    s).boot = s.boot ∧ (State.dmaResult a0 a1 a2 s).antler = s.antler ∧ (State.dmaResult a0 a1 a2 s).tamper = s.tamper
    ∧ (State.dmaResult a0 a1 a2 s).calendar = s.calendar ∧ (State.dmaResult a0 a1 a2 s).owl = s.owl ∧ (State.dmaResult
    a0 a1 a2 s).status = s.status ∧ (State.dmaResult a0 a1 a2 s).check = s.check ∧ (State.dmaResult a0 a1 a2 s).pair =
    s.pair ∧ (State.dmaResult a0 a1 a2 s).power = s.power ∧ (State.dmaResult a0 a1 a2 s).pins = s.pins ∧
    (State.dmaResult a0 a1 a2 s).freeNext = s.freeNext ∧ (State.dmaResult a0 a1 a2 s).pending = s.pending := by
  intros; simp [State.dmaResult]
@[simp] theorem State_dmaWrite_keeps : ∀ a0 a1 a2 s, (State.dmaWrite a0 a1 a2 s).now = s.now ∧ (State.dmaWrite a0 a1
    a2 s).lodge = s.lodge ∧ (State.dmaWrite a0 a1 a2 s).host = s.host ∧ (State.dmaWrite a0 a1 a2 s).sett = s.sett ∧
    (State.dmaWrite a0 a1 a2 s).quill = s.quill ∧ (State.dmaWrite a0 a1 a2 s).compute = s.compute ∧ (State.dmaWrite a0
    a1 a2 s).rng = s.rng ∧ (State.dmaWrite a0 a1 a2 s).mem = s.mem ∧ (State.dmaWrite a0 a1 a2 s).boot = s.boot ∧
    (State.dmaWrite a0 a1 a2 s).antler = s.antler ∧ (State.dmaWrite a0 a1 a2 s).tamper = s.tamper ∧ (State.dmaWrite a0
    a1 a2 s).calendar = s.calendar ∧ (State.dmaWrite a0 a1 a2 s).owl = s.owl ∧ (State.dmaWrite a0 a1 a2 s).status =
    s.status ∧ (State.dmaWrite a0 a1 a2 s).check = s.check ∧ (State.dmaWrite a0 a1 a2 s).pair = s.pair ∧
    (State.dmaWrite a0 a1 a2 s).power = s.power ∧ (State.dmaWrite a0 a1 a2 s).pins = s.pins ∧ (State.dmaWrite a0 a1 a2
    s).freeNext = s.freeNext ∧ (State.dmaWrite a0 a1 a2 s).pending = s.pending := by
  intros; simp [State.dmaWrite]
@[simp] theorem State_undelivered_keeps : ∀ a0 a1 a2 s, (State.undelivered a0 a1 a2 s).now = s.now ∧
    (State.undelivered a0 a1 a2 s).lodge = s.lodge ∧ (State.undelivered a0 a1 a2 s).host = s.host ∧ (State.undelivered
    a0 a1 a2 s).sett = s.sett ∧ (State.undelivered a0 a1 a2 s).quill = s.quill ∧ (State.undelivered a0 a1 a2
    s).compute = s.compute ∧ (State.undelivered a0 a1 a2 s).rng = s.rng ∧ (State.undelivered a0 a1 a2 s).mem = s.mem ∧
    (State.undelivered a0 a1 a2 s).boot = s.boot ∧ (State.undelivered a0 a1 a2 s).antler = s.antler ∧
    (State.undelivered a0 a1 a2 s).tamper = s.tamper ∧ (State.undelivered a0 a1 a2 s).calendar = s.calendar ∧
    (State.undelivered a0 a1 a2 s).check = s.check ∧ (State.undelivered a0 a1 a2 s).pair = s.pair ∧ (State.undelivered
    a0 a1 a2 s).power = s.power ∧ (State.undelivered a0 a1 a2 s).pins = s.pins ∧ (State.undelivered a0 a1 a2
    s).outputs = s.outputs ∧ (State.undelivered a0 a1 a2 s).freeNext = s.freeNext ∧ (State.undelivered a0 a1 a2
    s).pending = s.pending := by
  intros; simp [State.undelivered]
@[simp] theorem State_dropCompletion_keeps : ∀ a0 s, (State.dropCompletion a0 s).now = s.now ∧ (State.dropCompletion
    a0 s).sett = s.sett ∧ (State.dropCompletion a0 s).quill = s.quill ∧ (State.dropCompletion a0 s).compute =
    s.compute ∧ (State.dropCompletion a0 s).rng = s.rng ∧ (State.dropCompletion a0 s).mem = s.mem ∧
    (State.dropCompletion a0 s).boot = s.boot ∧ (State.dropCompletion a0 s).antler = s.antler ∧ (State.dropCompletion
    a0 s).tamper = s.tamper ∧ (State.dropCompletion a0 s).calendar = s.calendar ∧ (State.dropCompletion a0 s).check =
    s.check ∧ (State.dropCompletion a0 s).power = s.power ∧ (State.dropCompletion a0 s).pins = s.pins ∧
    (State.dropCompletion a0 s).outputs = s.outputs ∧ (State.dropCompletion a0 s).freeNext = s.freeNext ∧
    (State.dropCompletion a0 s).pending = s.pending := by
  intros; unfold State.dropCompletion ; (repeat' split) <;> simp
@[simp] theorem State_takeMirror_keeps : ∀ a0 a1 a2 s, (State.takeMirror a0 a1 a2 s).2.now = s.now ∧ (State.takeMirror
    a0 a1 a2 s).2.lodge = s.lodge ∧ (State.takeMirror a0 a1 a2 s).2.host = s.host ∧ (State.takeMirror a0 a1 a2
    s).2.cub = s.cub ∧ (State.takeMirror a0 a1 a2 s).2.sett = s.sett ∧ (State.takeMirror a0 a1 a2 s).2.quill = s.quill
    ∧ (State.takeMirror a0 a1 a2 s).2.compute = s.compute ∧ (State.takeMirror a0 a1 a2 s).2.rng = s.rng ∧
    (State.takeMirror a0 a1 a2 s).2.mem = s.mem ∧ (State.takeMirror a0 a1 a2 s).2.boot = s.boot ∧ (State.takeMirror a0
    a1 a2 s).2.antler = s.antler ∧ (State.takeMirror a0 a1 a2 s).2.tamper = s.tamper ∧ (State.takeMirror a0 a1 a2
    s).2.calendar = s.calendar ∧ (State.takeMirror a0 a1 a2 s).2.owl = s.owl ∧ (State.takeMirror a0 a1 a2 s).2.status
    = s.status ∧ (State.takeMirror a0 a1 a2 s).2.check = s.check ∧ (State.takeMirror a0 a1 a2 s).2.power = s.power ∧
    (State.takeMirror a0 a1 a2 s).2.pins = s.pins ∧ (State.takeMirror a0 a1 a2 s).2.outputs = s.outputs ∧
    (State.takeMirror a0 a1 a2 s).2.freeNext = s.freeNext ∧ (State.takeMirror a0 a1 a2 s).2.pending = s.pending := by
  intros; simp [State.takeMirror]
@[simp] theorem State_drawRefused_keeps : ∀ s, (State.drawRefused s).now = s.now ∧ (State.drawRefused s).lodge =
    s.lodge ∧ (State.drawRefused s).host = s.host ∧ (State.drawRefused s).cub = s.cub ∧ (State.drawRefused s).sett =
    s.sett ∧ (State.drawRefused s).quill = s.quill ∧ (State.drawRefused s).compute = s.compute ∧ (State.drawRefused
    s).mem = s.mem ∧ (State.drawRefused s).boot = s.boot ∧ (State.drawRefused s).antler = s.antler ∧
    (State.drawRefused s).tamper = s.tamper ∧ (State.drawRefused s).calendar = s.calendar ∧ (State.drawRefused
    s).check = s.check ∧ (State.drawRefused s).pair = s.pair ∧ (State.drawRefused s).power = s.power ∧
    (State.drawRefused s).pins = s.pins ∧ (State.drawRefused s).outputs = s.outputs ∧ (State.drawRefused s).freeNext =
    s.freeNext ∧ (State.drawRefused s).pending = s.pending := by
  intros; simp [State.drawRefused]
@[simp] theorem State_mirrorDraw_keeps : ∀ a0 a1 s, (State.mirrorDraw a0 a1 s).now = s.now ∧ (State.mirrorDraw a0 a1
    s).lodge = s.lodge ∧ (State.mirrorDraw a0 a1 s).host = s.host ∧ (State.mirrorDraw a0 a1 s).cub = s.cub ∧
    (State.mirrorDraw a0 a1 s).sett = s.sett ∧ (State.mirrorDraw a0 a1 s).quill = s.quill ∧ (State.mirrorDraw a0 a1
    s).compute = s.compute ∧ (State.mirrorDraw a0 a1 s).rng = s.rng ∧ (State.mirrorDraw a0 a1 s).mem = s.mem ∧
    (State.mirrorDraw a0 a1 s).boot = s.boot ∧ (State.mirrorDraw a0 a1 s).antler = s.antler ∧ (State.mirrorDraw a0 a1
    s).tamper = s.tamper ∧ (State.mirrorDraw a0 a1 s).calendar = s.calendar ∧ (State.mirrorDraw a0 a1 s).owl = s.owl ∧
    (State.mirrorDraw a0 a1 s).status = s.status ∧ (State.mirrorDraw a0 a1 s).check = s.check ∧ (State.mirrorDraw a0
    a1 s).power = s.power ∧ (State.mirrorDraw a0 a1 s).pins = s.pins ∧ (State.mirrorDraw a0 a1 s).freeNext =
    s.freeNext ∧ (State.mirrorDraw a0 a1 s).pending = s.pending := by
  intros; unfold State.mirrorDraw ; (repeat' split) <;> simp
@[simp] theorem State_ownDrawFor_keeps : ∀ a0 a1 a2 s, (State.ownDrawFor a0 a1 a2 s).2.now = s.now ∧ (State.ownDrawFor
    a0 a1 a2 s).2.lodge = s.lodge ∧ (State.ownDrawFor a0 a1 a2 s).2.host = s.host ∧ (State.ownDrawFor a0 a1 a2
    s).2.cub = s.cub ∧ (State.ownDrawFor a0 a1 a2 s).2.sett = s.sett ∧ (State.ownDrawFor a0 a1 a2 s).2.quill = s.quill
    ∧ (State.ownDrawFor a0 a1 a2 s).2.compute = s.compute ∧ (State.ownDrawFor a0 a1 a2 s).2.mem = s.mem ∧
    (State.ownDrawFor a0 a1 a2 s).2.boot = s.boot ∧ (State.ownDrawFor a0 a1 a2 s).2.antler = s.antler ∧
    (State.ownDrawFor a0 a1 a2 s).2.tamper = s.tamper ∧ (State.ownDrawFor a0 a1 a2 s).2.calendar = s.calendar ∧
    (State.ownDrawFor a0 a1 a2 s).2.check = s.check ∧ (State.ownDrawFor a0 a1 a2 s).2.power = s.power ∧
    (State.ownDrawFor a0 a1 a2 s).2.pins = s.pins ∧ (State.ownDrawFor a0 a1 a2 s).2.freeNext = s.freeNext ∧
    (State.ownDrawFor a0 a1 a2 s).2.pending = s.pending := by
  intros; unfold State.ownDrawFor; (repeat' split) <;> simp
@[simp] theorem State_draw_keeps : ∀ a0 a1 s, (State.draw a0 a1 s).2.now = s.now ∧ (State.draw a0 a1 s).2.lodge =
    s.lodge ∧ (State.draw a0 a1 s).2.cub = s.cub ∧ (State.draw a0 a1 s).2.sett = s.sett ∧ (State.draw a0 a1 s).2.quill
    = s.quill ∧ (State.draw a0 a1 s).2.compute = s.compute ∧ (State.draw a0 a1 s).2.mem = s.mem ∧ (State.draw a0 a1
    s).2.boot = s.boot ∧ (State.draw a0 a1 s).2.antler = s.antler ∧ (State.draw a0 a1 s).2.tamper = s.tamper ∧
    (State.draw a0 a1 s).2.calendar = s.calendar ∧ (State.draw a0 a1 s).2.check = s.check ∧ (State.draw a0 a1
    s).2.power = s.power ∧ (State.draw a0 a1 s).2.pins = s.pins ∧ (State.draw a0 a1 s).2.freeNext = s.freeNext ∧
    (State.draw a0 a1 s).2.pending = s.pending := by
  intros; unfold State.draw; (repeat' split) <;> simp
@[simp] theorem State_modRequest_keeps : ∀ a0 a1 s, (State.modRequest a0 a1 s).now = s.now ∧ (State.modRequest a0 a1
    s).lodge = s.lodge ∧ (State.modRequest a0 a1 s).host = s.host ∧ (State.modRequest a0 a1 s).cub = s.cub ∧
    (State.modRequest a0 a1 s).sett = s.sett ∧ (State.modRequest a0 a1 s).compute = s.compute ∧ (State.modRequest a0
    a1 s).rng = s.rng ∧ (State.modRequest a0 a1 s).mem = s.mem ∧ (State.modRequest a0 a1 s).boot = s.boot ∧
    (State.modRequest a0 a1 s).antler = s.antler ∧ (State.modRequest a0 a1 s).tamper = s.tamper ∧ (State.modRequest a0
    a1 s).calendar = s.calendar ∧ (State.modRequest a0 a1 s).owl = s.owl ∧ (State.modRequest a0 a1 s).status =
    s.status ∧ (State.modRequest a0 a1 s).check = s.check ∧ (State.modRequest a0 a1 s).pair = s.pair ∧
    (State.modRequest a0 a1 s).power = s.power ∧ (State.modRequest a0 a1 s).pins = s.pins ∧ (State.modRequest a0 a1
    s).outputs = s.outputs ∧ (State.modRequest a0 a1 s).freeNext = s.freeNext ∧ (State.modRequest a0 a1 s).pending =
    s.pending := by
  intros; simp [State.modRequest]
@[simp] theorem State_sendPiece_keeps : ∀ a0 s, (State.sendPiece a0 s).now = s.now ∧ (State.sendPiece a0 s).lodge =
    s.lodge ∧ (State.sendPiece a0 s).host = s.host ∧ (State.sendPiece a0 s).cub = s.cub ∧ (State.sendPiece a0 s).sett
    = s.sett ∧ (State.sendPiece a0 s).compute = s.compute ∧ (State.sendPiece a0 s).rng = s.rng ∧ (State.sendPiece a0
    s).mem = s.mem ∧ (State.sendPiece a0 s).boot = s.boot ∧ (State.sendPiece a0 s).antler = s.antler ∧
    (State.sendPiece a0 s).tamper = s.tamper ∧ (State.sendPiece a0 s).calendar = s.calendar ∧ (State.sendPiece a0
    s).owl = s.owl ∧ (State.sendPiece a0 s).status = s.status ∧ (State.sendPiece a0 s).check = s.check ∧
    (State.sendPiece a0 s).pair = s.pair ∧ (State.sendPiece a0 s).power = s.power ∧ (State.sendPiece a0 s).pins =
    s.pins ∧ (State.sendPiece a0 s).freeNext = s.freeNext ∧ (State.sendPiece a0 s).pending = s.pending := by
  intros; unfold State.sendPiece; dsimp only; (repeat' split) <;> simp
@[simp] theorem State_sendQuill_keeps : ∀ a0 a1 a2 s, (State.sendQuill a0 a1 a2 s).now = s.now ∧ (State.sendQuill a0
    a1 a2 s).lodge = s.lodge ∧ (State.sendQuill a0 a1 a2 s).host = s.host ∧ (State.sendQuill a0 a1 a2 s).cub = s.cub ∧
    (State.sendQuill a0 a1 a2 s).sett = s.sett ∧ (State.sendQuill a0 a1 a2 s).compute = s.compute ∧ (State.sendQuill
    a0 a1 a2 s).rng = s.rng ∧ (State.sendQuill a0 a1 a2 s).mem = s.mem ∧ (State.sendQuill a0 a1 a2 s).boot = s.boot ∧
    (State.sendQuill a0 a1 a2 s).antler = s.antler ∧ (State.sendQuill a0 a1 a2 s).tamper = s.tamper ∧ (State.sendQuill
    a0 a1 a2 s).calendar = s.calendar ∧ (State.sendQuill a0 a1 a2 s).owl = s.owl ∧ (State.sendQuill a0 a1 a2 s).status
    = s.status ∧ (State.sendQuill a0 a1 a2 s).check = s.check ∧ (State.sendQuill a0 a1 a2 s).pair = s.pair ∧
    (State.sendQuill a0 a1 a2 s).power = s.power ∧ (State.sendQuill a0 a1 a2 s).pins = s.pins ∧ (State.sendQuill a0 a1
    a2 s).freeNext = s.freeNext ∧ (State.sendQuill a0 a1 a2 s).pending = s.pending := by
  intros; simp [State.sendQuill]
@[simp] theorem State_dropSlots_keeps : ∀ s, (State.dropSlots s).now = s.now ∧ (State.dropSlots s).lodge = s.lodge ∧
    (State.dropSlots s).cub = s.cub ∧ (State.dropSlots s).sett = s.sett ∧ (State.dropSlots s).quill = s.quill ∧
    (State.dropSlots s).mem = s.mem ∧ (State.dropSlots s).boot = s.boot ∧ (State.dropSlots s).antler = s.antler ∧
    (State.dropSlots s).tamper = s.tamper ∧ (State.dropSlots s).calendar = s.calendar ∧ (State.dropSlots s).owl =
    s.owl ∧ (State.dropSlots s).status = s.status ∧ (State.dropSlots s).check = s.check ∧ (State.dropSlots s).power =
    s.power ∧ (State.dropSlots s).pins = s.pins ∧ (State.dropSlots s).outputs = s.outputs ∧ (State.dropSlots
    s).freeNext = s.freeNext ∧ (State.dropSlots s).pending = s.pending := by
  intros; simp [State.dropSlots]
@[simp] theorem State_setSite_keeps : ∀ a0 a1 s, (State.setSite a0 a1 s).now = s.now ∧ (State.setSite a0 a1 s).lodge =
    s.lodge ∧ (State.setSite a0 a1 s).host = s.host ∧ (State.setSite a0 a1 s).cub = s.cub ∧ (State.setSite a0 a1
    s).sett = s.sett ∧ (State.setSite a0 a1 s).quill = s.quill ∧ (State.setSite a0 a1 s).compute = s.compute ∧
    (State.setSite a0 a1 s).rng = s.rng ∧ (State.setSite a0 a1 s).mem = s.mem ∧ (State.setSite a0 a1 s).boot = s.boot
    ∧ (State.setSite a0 a1 s).antler = s.antler ∧ (State.setSite a0 a1 s).calendar = s.calendar ∧ (State.setSite a0 a1
    s).owl = s.owl ∧ (State.setSite a0 a1 s).status = s.status ∧ (State.setSite a0 a1 s).check = s.check ∧
    (State.setSite a0 a1 s).pair = s.pair ∧ (State.setSite a0 a1 s).power = s.power ∧ (State.setSite a0 a1 s).pins =
    s.pins ∧ (State.setSite a0 a1 s).outputs = s.outputs ∧ (State.setSite a0 a1 s).freeNext = s.freeNext ∧
    (State.setSite a0 a1 s).pending = s.pending := by
  intros; simp [State.setSite]
@[simp] theorem State_unsave_keeps : ∀ a0 s, (State.unsave a0 s).now = s.now ∧ (State.unsave a0 s).lodge = s.lodge ∧
    (State.unsave a0 s).host = s.host ∧ (State.unsave a0 s).sett = s.sett ∧ (State.unsave a0 s).quill = s.quill ∧
    (State.unsave a0 s).compute = s.compute ∧ (State.unsave a0 s).rng = s.rng ∧ (State.unsave a0 s).mem = s.mem ∧
    (State.unsave a0 s).boot = s.boot ∧ (State.unsave a0 s).antler = s.antler ∧ (State.unsave a0 s).tamper = s.tamper
    ∧ (State.unsave a0 s).calendar = s.calendar ∧ (State.unsave a0 s).owl = s.owl ∧ (State.unsave a0 s).status =
    s.status ∧ (State.unsave a0 s).check = s.check ∧ (State.unsave a0 s).pair = s.pair ∧ (State.unsave a0 s).power =
    s.power ∧ (State.unsave a0 s).pins = s.pins ∧ (State.unsave a0 s).outputs = s.outputs ∧ (State.unsave a0
    s).freeNext = s.freeNext ∧ (State.unsave a0 s).pending = s.pending := by
  intros; simp [State.unsave]
@[simp] theorem State_endMigration_keeps : ∀ a0 s, (State.endMigration a0 s).now = s.now ∧ (State.endMigration a0
    s).lodge = s.lodge ∧ (State.endMigration a0 s).host = s.host ∧ (State.endMigration a0 s).sett = s.sett ∧
    (State.endMigration a0 s).quill = s.quill ∧ (State.endMigration a0 s).compute = s.compute ∧ (State.endMigration a0
    s).rng = s.rng ∧ (State.endMigration a0 s).mem = s.mem ∧ (State.endMigration a0 s).boot = s.boot ∧
    (State.endMigration a0 s).antler = s.antler ∧ (State.endMigration a0 s).tamper = s.tamper ∧ (State.endMigration a0
    s).calendar = s.calendar ∧ (State.endMigration a0 s).owl = s.owl ∧ (State.endMigration a0 s).status = s.status ∧
    (State.endMigration a0 s).check = s.check ∧ (State.endMigration a0 s).pair = s.pair ∧ (State.endMigration a0
    s).power = s.power ∧ (State.endMigration a0 s).pins = s.pins ∧ (State.endMigration a0 s).outputs = s.outputs ∧
    (State.endMigration a0 s).freeNext = s.freeNext ∧ (State.endMigration a0 s).pending = s.pending := by
  intros; simp [State.endMigration]
@[simp] theorem State_endOnJob_keeps : ∀ a0 a1 a2 s, (State.endOnJob a0 a1 a2 s).now = s.now ∧ (State.endOnJob a0 a1
    a2 s).lodge = s.lodge ∧ (State.endOnJob a0 a1 a2 s).cub = s.cub ∧ (State.endOnJob a0 a1 a2 s).quill = s.quill ∧
    (State.endOnJob a0 a1 a2 s).boot = s.boot ∧ (State.endOnJob a0 a1 a2 s).antler = s.antler ∧ (State.endOnJob a0 a1
    a2 s).tamper = s.tamper ∧ (State.endOnJob a0 a1 a2 s).calendar = s.calendar ∧ (State.endOnJob a0 a1 a2 s).check =
    s.check ∧ (State.endOnJob a0 a1 a2 s).pins = s.pins ∧ (State.endOnJob a0 a1 a2 s).freeNext = s.freeNext ∧
    (State.endOnJob a0 a1 a2 s).pending = s.pending := by
  intros; simp [State.endOnJob]
@[simp] theorem State_endOnVerdict_keeps : ∀ a0 a1 s, (State.endOnVerdict a0 a1 s).now = s.now ∧ (State.endOnVerdict
    a0 a1 s).lodge = s.lodge ∧ (State.endOnVerdict a0 a1 s).cub = s.cub ∧ (State.endOnVerdict a0 a1 s).quill = s.quill
    ∧ (State.endOnVerdict a0 a1 s).boot = s.boot ∧ (State.endOnVerdict a0 a1 s).antler = s.antler ∧
    (State.endOnVerdict a0 a1 s).tamper = s.tamper ∧ (State.endOnVerdict a0 a1 s).calendar = s.calendar ∧
    (State.endOnVerdict a0 a1 s).check = s.check ∧ (State.endOnVerdict a0 a1 s).pins = s.pins ∧ (State.endOnVerdict a0
    a1 s).freeNext = s.freeNext ∧ (State.endOnVerdict a0 a1 s).pending = s.pending := by
  intros; simp [State.endOnVerdict]
@[simp] theorem State_gateAll_keeps : ∀ s, (State.gateAll s).now = s.now ∧ (State.gateAll s).lodge = s.lodge ∧
    (State.gateAll s).host = s.host ∧ (State.gateAll s).cub = s.cub ∧ (State.gateAll s).sett = s.sett ∧ (State.gateAll
    s).quill = s.quill ∧ (State.gateAll s).rng = s.rng ∧ (State.gateAll s).mem = s.mem ∧ (State.gateAll s).boot =
    s.boot ∧ (State.gateAll s).antler = s.antler ∧ (State.gateAll s).tamper = s.tamper ∧ (State.gateAll s).calendar =
    s.calendar ∧ (State.gateAll s).owl = s.owl ∧ (State.gateAll s).status = s.status ∧ (State.gateAll s).check =
    s.check ∧ (State.gateAll s).pair = s.pair ∧ (State.gateAll s).pins = s.pins ∧ (State.gateAll s).outputs =
    s.outputs ∧ (State.gateAll s).freeNext = s.freeNext ∧ (State.gateAll s).pending = s.pending := by
  intros; simp [State.gateAll]
@[simp] theorem State_enqueueJob_keeps : ∀ a0 a1 a2 a3 s, (State.enqueueJob a0 a1 a2 a3 s).now = s.now ∧
    (State.enqueueJob a0 a1 a2 a3 s).lodge = s.lodge ∧ (State.enqueueJob a0 a1 a2 a3 s).host = s.host ∧
    (State.enqueueJob a0 a1 a2 a3 s).cub = s.cub ∧ (State.enqueueJob a0 a1 a2 a3 s).sett = s.sett ∧ (State.enqueueJob
    a0 a1 a2 a3 s).quill = s.quill ∧ (State.enqueueJob a0 a1 a2 a3 s).rng = s.rng ∧ (State.enqueueJob a0 a1 a2 a3
    s).boot = s.boot ∧ (State.enqueueJob a0 a1 a2 a3 s).antler = s.antler ∧ (State.enqueueJob a0 a1 a2 a3 s).tamper =
    s.tamper ∧ (State.enqueueJob a0 a1 a2 a3 s).calendar = s.calendar ∧ (State.enqueueJob a0 a1 a2 a3 s).check =
    s.check ∧ (State.enqueueJob a0 a1 a2 a3 s).pair = s.pair ∧ (State.enqueueJob a0 a1 a2 a3 s).pins = s.pins ∧
    (State.enqueueJob a0 a1 a2 a3 s).outputs = s.outputs ∧ (State.enqueueJob a0 a1 a2 a3 s).freeNext = s.freeNext ∧
    (State.enqueueJob a0 a1 a2 a3 s).pending = s.pending := by
  intros; simp [State.enqueueJob]
@[simp] theorem State_settleDue_keeps : ∀ s, (State.settleDue s).now = s.now ∧ (State.settleDue s).host = s.host ∧
    (State.settleDue s).cub = s.cub ∧ (State.settleDue s).sett = s.sett ∧ (State.settleDue s).quill = s.quill ∧
    (State.settleDue s).compute = s.compute ∧ (State.settleDue s).rng = s.rng ∧ (State.settleDue s).tamper = s.tamper
    ∧ (State.settleDue s).calendar = s.calendar ∧ (State.settleDue s).check = s.check ∧ (State.settleDue s).pair =
    s.pair ∧ (State.settleDue s).power = s.power ∧ (State.settleDue s).pins = s.pins ∧ (State.settleDue s).outputs =
    s.outputs ∧ (State.settleDue s).freeNext = s.freeNext ∧ (State.settleDue s).pending = s.pending := by
  intros; unfold State.settleDue ; dsimp only; (repeat' split) <;> simp
@[simp] theorem State_enterSolo_keeps : ∀ s, (State.enterSolo s).now = s.now ∧ (State.enterSolo s).lodge = s.lodge ∧
    (State.enterSolo s).cub = s.cub ∧ (State.enterSolo s).sett = s.sett ∧ (State.enterSolo s).quill = s.quill ∧
    (State.enterSolo s).compute = s.compute ∧ (State.enterSolo s).rng = s.rng ∧ (State.enterSolo s).mem = s.mem ∧
    (State.enterSolo s).boot = s.boot ∧ (State.enterSolo s).antler = s.antler ∧ (State.enterSolo s).tamper = s.tamper
    ∧ (State.enterSolo s).calendar = s.calendar ∧ (State.enterSolo s).owl = s.owl ∧ (State.enterSolo s).status =
    s.status ∧ (State.enterSolo s).check = s.check ∧ (State.enterSolo s).power = s.power ∧ (State.enterSolo s).pins =
    s.pins ∧ (State.enterSolo s).outputs = s.outputs ∧ (State.enterSolo s).freeNext = s.freeNext ∧ (State.enterSolo
    s).pending = s.pending := by
  intros; simp [State.enterSolo]
@[simp] theorem State_evrEnd_keeps : ∀ a0 a1 s, (State.evrEnd a0 a1 s).now = s.now ∧ (State.evrEnd a0 a1 s).lodge =
    s.lodge ∧ (State.evrEnd a0 a1 s).host = s.host ∧ (State.evrEnd a0 a1 s).cub = s.cub ∧ (State.evrEnd a0 a1 s).sett
    = s.sett ∧ (State.evrEnd a0 a1 s).quill = s.quill ∧ (State.evrEnd a0 a1 s).compute = s.compute ∧ (State.evrEnd a0
    a1 s).rng = s.rng ∧ (State.evrEnd a0 a1 s).mem = s.mem ∧ (State.evrEnd a0 a1 s).boot = s.boot ∧ (State.evrEnd a0
    a1 s).antler = s.antler ∧ (State.evrEnd a0 a1 s).tamper = s.tamper ∧ (State.evrEnd a0 a1 s).calendar = s.calendar
    ∧ (State.evrEnd a0 a1 s).status = s.status ∧ (State.evrEnd a0 a1 s).check = s.check ∧ (State.evrEnd a0 a1 s).pair
    = s.pair ∧ (State.evrEnd a0 a1 s).power = s.power ∧ (State.evrEnd a0 a1 s).pins = s.pins ∧ (State.evrEnd a0 a1
    s).outputs = s.outputs ∧ (State.evrEnd a0 a1 s).freeNext = s.freeNext ∧ (State.evrEnd a0 a1 s).pending = s.pending
    := by
  intros; simp [State.evrEnd]
@[simp] theorem State_evrGo_keeps : ∀ a0 a1 s, (State.evrGo a0 a1 s).now = s.now ∧ (State.evrGo a0 a1 s).lodge =
    s.lodge ∧ (State.evrGo a0 a1 s).host = s.host ∧ (State.evrGo a0 a1 s).cub = s.cub ∧ (State.evrGo a0 a1 s).sett =
    s.sett ∧ (State.evrGo a0 a1 s).quill = s.quill ∧ (State.evrGo a0 a1 s).compute = s.compute ∧ (State.evrGo a0 a1
    s).rng = s.rng ∧ (State.evrGo a0 a1 s).mem = s.mem ∧ (State.evrGo a0 a1 s).boot = s.boot ∧ (State.evrGo a0 a1
    s).antler = s.antler ∧ (State.evrGo a0 a1 s).tamper = s.tamper ∧ (State.evrGo a0 a1 s).calendar = s.calendar ∧
    (State.evrGo a0 a1 s).status = s.status ∧ (State.evrGo a0 a1 s).check = s.check ∧ (State.evrGo a0 a1 s).pair =
    s.pair ∧ (State.evrGo a0 a1 s).power = s.power ∧ (State.evrGo a0 a1 s).pins = s.pins ∧ (State.evrGo a0 a1
    s).outputs = s.outputs ∧ (State.evrGo a0 a1 s).freeNext = s.freeNext ∧ (State.evrGo a0 a1 s).pending = s.pending
    := by
  intros; simp [State.evrGo]
@[simp] theorem State_failJob_keeps : ∀ a0 a1 a2 a3 s, (State.failJob a0 a1 a2 a3 s).now = s.now ∧ (State.failJob a0
    a1 a2 a3 s).lodge = s.lodge ∧ (State.failJob a0 a1 a2 a3 s).cub = s.cub ∧ (State.failJob a0 a1 a2 a3 s).sett =
    s.sett ∧ (State.failJob a0 a1 a2 a3 s).quill = s.quill ∧ (State.failJob a0 a1 a2 a3 s).compute = s.compute ∧
    (State.failJob a0 a1 a2 a3 s).rng = s.rng ∧ (State.failJob a0 a1 a2 a3 s).mem = s.mem ∧ (State.failJob a0 a1 a2 a3
    s).boot = s.boot ∧ (State.failJob a0 a1 a2 a3 s).antler = s.antler ∧ (State.failJob a0 a1 a2 a3 s).tamper =
    s.tamper ∧ (State.failJob a0 a1 a2 a3 s).calendar = s.calendar ∧ (State.failJob a0 a1 a2 a3 s).owl = s.owl ∧
    (State.failJob a0 a1 a2 a3 s).status = s.status ∧ (State.failJob a0 a1 a2 a3 s).check = s.check ∧ (State.failJob
    a0 a1 a2 a3 s).pair = s.pair ∧ (State.failJob a0 a1 a2 a3 s).power = s.power ∧ (State.failJob a0 a1 a2 a3 s).pins
    = s.pins ∧ (State.failJob a0 a1 a2 a3 s).outputs = s.outputs ∧ (State.failJob a0 a1 a2 a3 s).freeNext = s.freeNext
    ∧ (State.failJob a0 a1 a2 a3 s).pending = s.pending := by
  intros; simp [State.failJob]
@[simp] theorem State_sendJob_keeps : ∀ a0 a1 a2 a3 s, (State.sendJob a0 a1 a2 a3 s).now = s.now ∧ (State.sendJob a0
    a1 a2 a3 s).lodge = s.lodge ∧ (State.sendJob a0 a1 a2 a3 s).cub = s.cub ∧ (State.sendJob a0 a1 a2 a3 s).sett =
    s.sett ∧ (State.sendJob a0 a1 a2 a3 s).quill = s.quill ∧ (State.sendJob a0 a1 a2 a3 s).rng = s.rng ∧
    (State.sendJob a0 a1 a2 a3 s).boot = s.boot ∧ (State.sendJob a0 a1 a2 a3 s).antler = s.antler ∧ (State.sendJob a0
    a1 a2 a3 s).tamper = s.tamper ∧ (State.sendJob a0 a1 a2 a3 s).calendar = s.calendar ∧ (State.sendJob a0 a1 a2 a3
    s).check = s.check ∧ (State.sendJob a0 a1 a2 a3 s).pair = s.pair ∧ (State.sendJob a0 a1 a2 a3 s).pins = s.pins ∧
    (State.sendJob a0 a1 a2 a3 s).outputs = s.outputs ∧ (State.sendJob a0 a1 a2 a3 s).freeNext = s.freeNext ∧
    (State.sendJob a0 a1 a2 a3 s).pending = s.pending := by
  intros; simp [State.sendJob]
@[simp] theorem State_lodgeEvent_keeps : ∀ a0 a1 a2 a3 s, (State.lodgeEvent a0 a1 a2 a3 s).now = s.now ∧
    (State.lodgeEvent a0 a1 a2 a3 s).lodge = s.lodge ∧ (State.lodgeEvent a0 a1 a2 a3 s).host = s.host ∧
    (State.lodgeEvent a0 a1 a2 a3 s).cub = s.cub ∧ (State.lodgeEvent a0 a1 a2 a3 s).sett = s.sett ∧ (State.lodgeEvent
    a0 a1 a2 a3 s).quill = s.quill ∧ (State.lodgeEvent a0 a1 a2 a3 s).compute = s.compute ∧ (State.lodgeEvent a0 a1 a2
    a3 s).rng = s.rng ∧ (State.lodgeEvent a0 a1 a2 a3 s).mem = s.mem ∧ (State.lodgeEvent a0 a1 a2 a3 s).boot = s.boot
    ∧ (State.lodgeEvent a0 a1 a2 a3 s).antler = s.antler ∧ (State.lodgeEvent a0 a1 a2 a3 s).tamper = s.tamper ∧
    (State.lodgeEvent a0 a1 a2 a3 s).calendar = s.calendar ∧ (State.lodgeEvent a0 a1 a2 a3 s).status = s.status ∧
    (State.lodgeEvent a0 a1 a2 a3 s).check = s.check ∧ (State.lodgeEvent a0 a1 a2 a3 s).pair = s.pair ∧
    (State.lodgeEvent a0 a1 a2 a3 s).power = s.power ∧ (State.lodgeEvent a0 a1 a2 a3 s).pins = s.pins ∧
    (State.lodgeEvent a0 a1 a2 a3 s).outputs = s.outputs ∧ (State.lodgeEvent a0 a1 a2 a3 s).freeNext = s.freeNext ∧
    (State.lodgeEvent a0 a1 a2 a3 s).pending = s.pending := by
  intros; simp [State.lodgeEvent]
@[simp] theorem State_rejectLodge_keeps : ∀ a0 a1 a2 s, (State.rejectLodge a0 a1 a2 s).now = s.now ∧
    (State.rejectLodge a0 a1 a2 s).host = s.host ∧ (State.rejectLodge a0 a1 a2 s).cub = s.cub ∧ (State.rejectLodge a0
    a1 a2 s).sett = s.sett ∧ (State.rejectLodge a0 a1 a2 s).quill = s.quill ∧ (State.rejectLodge a0 a1 a2 s).compute =
    s.compute ∧ (State.rejectLodge a0 a1 a2 s).rng = s.rng ∧ (State.rejectLodge a0 a1 a2 s).mem = s.mem ∧
    (State.rejectLodge a0 a1 a2 s).boot = s.boot ∧ (State.rejectLodge a0 a1 a2 s).antler = s.antler ∧
    (State.rejectLodge a0 a1 a2 s).tamper = s.tamper ∧ (State.rejectLodge a0 a1 a2 s).calendar = s.calendar ∧
    (State.rejectLodge a0 a1 a2 s).status = s.status ∧ (State.rejectLodge a0 a1 a2 s).check = s.check ∧
    (State.rejectLodge a0 a1 a2 s).pair = s.pair ∧ (State.rejectLodge a0 a1 a2 s).power = s.power ∧ (State.rejectLodge
    a0 a1 a2 s).pins = s.pins ∧ (State.rejectLodge a0 a1 a2 s).outputs = s.outputs ∧ (State.rejectLodge a0 a1 a2
    s).freeNext = s.freeNext ∧ (State.rejectLodge a0 a1 a2 s).pending = s.pending := by
  intros; simp [State.rejectLodge]
@[simp] theorem State_startLodge_keeps : ∀ a0 a1 s, (State.startLodge a0 a1 s).now = s.now ∧ (State.startLodge a0 a1
    s).host = s.host ∧ (State.startLodge a0 a1 s).cub = s.cub ∧ (State.startLodge a0 a1 s).sett = s.sett ∧
    (State.startLodge a0 a1 s).quill = s.quill ∧ (State.startLodge a0 a1 s).compute = s.compute ∧ (State.startLodge a0
    a1 s).rng = s.rng ∧ (State.startLodge a0 a1 s).mem = s.mem ∧ (State.startLodge a0 a1 s).boot = s.boot ∧
    (State.startLodge a0 a1 s).antler = s.antler ∧ (State.startLodge a0 a1 s).tamper = s.tamper ∧ (State.startLodge a0
    a1 s).calendar = s.calendar ∧ (State.startLodge a0 a1 s).owl = s.owl ∧ (State.startLodge a0 a1 s).status =
    s.status ∧ (State.startLodge a0 a1 s).check = s.check ∧ (State.startLodge a0 a1 s).pair = s.pair ∧
    (State.startLodge a0 a1 s).power = s.power ∧ (State.startLodge a0 a1 s).pins = s.pins ∧ (State.startLodge a0 a1
    s).outputs = s.outputs ∧ (State.startLodge a0 a1 s).freeNext = s.freeNext ∧ (State.startLodge a0 a1 s).pending =
    s.pending := by
  intros; simp [State.startLodge]
@[simp] theorem State_reloadRing_keeps : ∀ a0 s, (State.reloadRing a0 s).now = s.now ∧ (State.reloadRing a0 s).lodge =
    s.lodge ∧ (State.reloadRing a0 s).cub = s.cub ∧ (State.reloadRing a0 s).sett = s.sett ∧ (State.reloadRing a0
    s).quill = s.quill ∧ (State.reloadRing a0 s).compute = s.compute ∧ (State.reloadRing a0 s).rng = s.rng ∧
    (State.reloadRing a0 s).mem = s.mem ∧ (State.reloadRing a0 s).boot = s.boot ∧ (State.reloadRing a0 s).antler =
    s.antler ∧ (State.reloadRing a0 s).tamper = s.tamper ∧ (State.reloadRing a0 s).calendar = s.calendar ∧
    (State.reloadRing a0 s).owl = s.owl ∧ (State.reloadRing a0 s).status = s.status ∧ (State.reloadRing a0 s).check =
    s.check ∧ (State.reloadRing a0 s).pair = s.pair ∧ (State.reloadRing a0 s).power = s.power ∧ (State.reloadRing a0
    s).pins = s.pins ∧ (State.reloadRing a0 s).outputs = s.outputs ∧ (State.reloadRing a0 s).freeNext = s.freeNext ∧
    (State.reloadRing a0 s).pending = s.pending := by
  intros; simp [State.reloadRing]
@[simp] theorem State_setDrbg_keeps : ∀ a0 a1 s, (State.setDrbg a0 a1 s).now = s.now ∧ (State.setDrbg a0 a1 s).lodge =
    s.lodge ∧ (State.setDrbg a0 a1 s).host = s.host ∧ (State.setDrbg a0 a1 s).cub = s.cub ∧ (State.setDrbg a0 a1
    s).sett = s.sett ∧ (State.setDrbg a0 a1 s).quill = s.quill ∧ (State.setDrbg a0 a1 s).compute = s.compute ∧
    (State.setDrbg a0 a1 s).mem = s.mem ∧ (State.setDrbg a0 a1 s).boot = s.boot ∧ (State.setDrbg a0 a1 s).antler =
    s.antler ∧ (State.setDrbg a0 a1 s).tamper = s.tamper ∧ (State.setDrbg a0 a1 s).calendar = s.calendar ∧
    (State.setDrbg a0 a1 s).owl = s.owl ∧ (State.setDrbg a0 a1 s).status = s.status ∧ (State.setDrbg a0 a1 s).check =
    s.check ∧ (State.setDrbg a0 a1 s).pair = s.pair ∧ (State.setDrbg a0 a1 s).power = s.power ∧ (State.setDrbg a0 a1
    s).pins = s.pins ∧ (State.setDrbg a0 a1 s).outputs = s.outputs ∧ (State.setDrbg a0 a1 s).freeNext = s.freeNext ∧
    (State.setDrbg a0 a1 s).pending = s.pending := by
  intros; simp [State.setDrbg]
@[simp] theorem State_handOver_keeps : ∀ a0 a1 s, (State.handOver a0 a1 s).now = s.now ∧ (State.handOver a0 a1
    s).lodge = s.lodge ∧ (State.handOver a0 a1 s).cub = s.cub ∧ (State.handOver a0 a1 s).sett = s.sett ∧
    (State.handOver a0 a1 s).quill = s.quill ∧ (State.handOver a0 a1 s).compute = s.compute ∧ (State.handOver a0 a1
    s).rng = s.rng ∧ (State.handOver a0 a1 s).mem = s.mem ∧ (State.handOver a0 a1 s).boot = s.boot ∧ (State.handOver
    a0 a1 s).antler = s.antler ∧ (State.handOver a0 a1 s).tamper = s.tamper ∧ (State.handOver a0 a1 s).calendar =
    s.calendar ∧ (State.handOver a0 a1 s).owl = s.owl ∧ (State.handOver a0 a1 s).status = s.status ∧ (State.handOver
    a0 a1 s).check = s.check ∧ (State.handOver a0 a1 s).pair = s.pair ∧ (State.handOver a0 a1 s).power = s.power ∧
    (State.handOver a0 a1 s).pins = s.pins ∧ (State.handOver a0 a1 s).outputs = s.outputs ∧ (State.handOver a0 a1
    s).freeNext = s.freeNext ∧ (State.handOver a0 a1 s).pending = s.pending := by
  intros; simp [State.handOver]
@[simp] theorem State_sendDirect_keeps : ∀ a0 a1 a2 a3 a4 a5 s, (State.sendDirect a0 a1 a2 a3 a4 a5 s).now = s.now ∧
    (State.sendDirect a0 a1 a2 a3 a4 a5 s).lodge = s.lodge ∧ (State.sendDirect a0 a1 a2 a3 a4 a5 s).cub = s.cub ∧
    (State.sendDirect a0 a1 a2 a3 a4 a5 s).sett = s.sett ∧ (State.sendDirect a0 a1 a2 a3 a4 a5 s).quill = s.quill ∧
    (State.sendDirect a0 a1 a2 a3 a4 a5 s).rng = s.rng ∧ (State.sendDirect a0 a1 a2 a3 a4 a5 s).boot = s.boot ∧
    (State.sendDirect a0 a1 a2 a3 a4 a5 s).antler = s.antler ∧ (State.sendDirect a0 a1 a2 a3 a4 a5 s).tamper =
    s.tamper ∧ (State.sendDirect a0 a1 a2 a3 a4 a5 s).calendar = s.calendar ∧ (State.sendDirect a0 a1 a2 a3 a4 a5
    s).check = s.check ∧ (State.sendDirect a0 a1 a2 a3 a4 a5 s).pair = s.pair ∧ (State.sendDirect a0 a1 a2 a3 a4 a5
    s).pins = s.pins ∧ (State.sendDirect a0 a1 a2 a3 a4 a5 s).outputs = s.outputs ∧ (State.sendDirect a0 a1 a2 a3 a4
    a5 s).freeNext = s.freeNext ∧ (State.sendDirect a0 a1 a2 a3 a4 a5 s).pending = s.pending := by
  intros; unfold State.sendDirect; (repeat' split) <;> simp
@[simp] theorem State_lcGo_keeps : ∀ a0 s, (State.lcGo a0 s).now = s.now ∧ (State.lcGo a0 s).lodge = s.lodge ∧
    (State.lcGo a0 s).host = s.host ∧ (State.lcGo a0 s).cub = s.cub ∧ (State.lcGo a0 s).sett = s.sett ∧ (State.lcGo a0
    s).quill = s.quill ∧ (State.lcGo a0 s).compute = s.compute ∧ (State.lcGo a0 s).rng = s.rng ∧ (State.lcGo a0 s).mem
    = s.mem ∧ (State.lcGo a0 s).boot = s.boot ∧ (State.lcGo a0 s).tamper = s.tamper ∧ (State.lcGo a0 s).calendar =
    s.calendar ∧ (State.lcGo a0 s).owl = s.owl ∧ (State.lcGo a0 s).status = s.status ∧ (State.lcGo a0 s).check =
    s.check ∧ (State.lcGo a0 s).pair = s.pair ∧ (State.lcGo a0 s).power = s.power ∧ (State.lcGo a0 s).pins = s.pins ∧
    (State.lcGo a0 s).outputs = s.outputs ∧ (State.lcGo a0 s).freeNext = s.freeNext ∧ (State.lcGo a0 s).pending =
    s.pending := by
  intros; simp [State.lcGo]
@[simp] theorem State_monEvent_keeps : ∀ a0 a1 s, (State.monEvent a0 a1 s).now = s.now ∧ (State.monEvent a0 a1
    s).calendar = s.calendar ∧ (State.monEvent a0 a1 s).check = s.check ∧ (State.monEvent a0 a1 s).freeNext =
    s.freeNext ∧ (State.monEvent a0 a1 s).pending = s.pending := by
  intros; simp [State.monEvent]
@[simp] theorem State_monReading_keeps : ∀ a0 a1 a2 s, (State.monReading a0 a1 a2 s).now = s.now ∧ (State.monReading
    a0 a1 a2 s).calendar = s.calendar ∧ (State.monReading a0 a1 a2 s).check = s.check ∧ (State.monReading a0 a1 a2
    s).freeNext = s.freeNext ∧ (State.monReading a0 a1 a2 s).pending = s.pending := by
  intros; simp [State.monReading]
@[simp] theorem State_owlLost_keeps : ∀ a0 s, (State.owlLost a0 s).now = s.now ∧ (State.owlLost a0 s).lodge = s.lodge
    ∧ (State.owlLost a0 s).host = s.host ∧ (State.owlLost a0 s).cub = s.cub ∧ (State.owlLost a0 s).sett = s.sett ∧
    (State.owlLost a0 s).quill = s.quill ∧ (State.owlLost a0 s).compute = s.compute ∧ (State.owlLost a0 s).rng = s.rng
    ∧ (State.owlLost a0 s).mem = s.mem ∧ (State.owlLost a0 s).boot = s.boot ∧ (State.owlLost a0 s).antler = s.antler ∧
    (State.owlLost a0 s).tamper = s.tamper ∧ (State.owlLost a0 s).calendar = s.calendar ∧ (State.owlLost a0 s).check =
    s.check ∧ (State.owlLost a0 s).pair = s.pair ∧ (State.owlLost a0 s).power = s.power ∧ (State.owlLost a0 s).pins =
    s.pins ∧ (State.owlLost a0 s).outputs = s.outputs ∧ (State.owlLost a0 s).freeNext = s.freeNext ∧ (State.owlLost a0
    s).pending = s.pending := by
  intros; simp [State.owlLost]
@[simp] theorem State_owlPut_keeps : ∀ a0 a1 a2 a3 a4 a5 s, (State.owlPut a0 a1 a2 a3 a4 a5 s).now = s.now ∧
    (State.owlPut a0 a1 a2 a3 a4 a5 s).lodge = s.lodge ∧ (State.owlPut a0 a1 a2 a3 a4 a5 s).host = s.host ∧
    (State.owlPut a0 a1 a2 a3 a4 a5 s).cub = s.cub ∧ (State.owlPut a0 a1 a2 a3 a4 a5 s).sett = s.sett ∧ (State.owlPut
    a0 a1 a2 a3 a4 a5 s).quill = s.quill ∧ (State.owlPut a0 a1 a2 a3 a4 a5 s).compute = s.compute ∧ (State.owlPut a0
    a1 a2 a3 a4 a5 s).rng = s.rng ∧ (State.owlPut a0 a1 a2 a3 a4 a5 s).mem = s.mem ∧ (State.owlPut a0 a1 a2 a3 a4 a5
    s).boot = s.boot ∧ (State.owlPut a0 a1 a2 a3 a4 a5 s).antler = s.antler ∧ (State.owlPut a0 a1 a2 a3 a4 a5
    s).tamper = s.tamper ∧ (State.owlPut a0 a1 a2 a3 a4 a5 s).calendar = s.calendar ∧ (State.owlPut a0 a1 a2 a3 a4 a5
    s).check = s.check ∧ (State.owlPut a0 a1 a2 a3 a4 a5 s).pair = s.pair ∧ (State.owlPut a0 a1 a2 a3 a4 a5 s).power =
    s.power ∧ (State.owlPut a0 a1 a2 a3 a4 a5 s).pins = s.pins ∧ (State.owlPut a0 a1 a2 a3 a4 a5 s).outputs =
    s.outputs ∧ (State.owlPut a0 a1 a2 a3 a4 a5 s).freeNext = s.freeNext ∧ (State.owlPut a0 a1 a2 a3 a4 a5 s).pending
    = s.pending := by
  intros; simp [State.owlPut]
@[simp] theorem State_owlPad_keeps : ∀ a0 a1 s, (State.owlPad a0 a1 s).now = s.now ∧ (State.owlPad a0 a1 s).lodge =
    s.lodge ∧ (State.owlPad a0 a1 s).host = s.host ∧ (State.owlPad a0 a1 s).cub = s.cub ∧ (State.owlPad a0 a1 s).sett
    = s.sett ∧ (State.owlPad a0 a1 s).quill = s.quill ∧ (State.owlPad a0 a1 s).compute = s.compute ∧ (State.owlPad a0
    a1 s).rng = s.rng ∧ (State.owlPad a0 a1 s).mem = s.mem ∧ (State.owlPad a0 a1 s).boot = s.boot ∧ (State.owlPad a0
    a1 s).antler = s.antler ∧ (State.owlPad a0 a1 s).tamper = s.tamper ∧ (State.owlPad a0 a1 s).calendar = s.calendar
    ∧ (State.owlPad a0 a1 s).check = s.check ∧ (State.owlPad a0 a1 s).pair = s.pair ∧ (State.owlPad a0 a1 s).power =
    s.power ∧ (State.owlPad a0 a1 s).pins = s.pins ∧ (State.owlPad a0 a1 s).outputs = s.outputs ∧ (State.owlPad a0 a1
    s).freeNext = s.freeNext ∧ (State.owlPad a0 a1 s).pending = s.pending := by
  intros; simp [State.owlPad]
@[simp] theorem State_owlCheckpoint_keeps : ∀ a0 a1 s, (State.owlCheckpoint a0 a1 s).now = s.now ∧
    (State.owlCheckpoint a0 a1 s).lodge = s.lodge ∧ (State.owlCheckpoint a0 a1 s).host = s.host ∧ (State.owlCheckpoint
    a0 a1 s).cub = s.cub ∧ (State.owlCheckpoint a0 a1 s).sett = s.sett ∧ (State.owlCheckpoint a0 a1 s).quill = s.quill
    ∧ (State.owlCheckpoint a0 a1 s).compute = s.compute ∧ (State.owlCheckpoint a0 a1 s).rng = s.rng ∧
    (State.owlCheckpoint a0 a1 s).mem = s.mem ∧ (State.owlCheckpoint a0 a1 s).boot = s.boot ∧ (State.owlCheckpoint a0
    a1 s).antler = s.antler ∧ (State.owlCheckpoint a0 a1 s).tamper = s.tamper ∧ (State.owlCheckpoint a0 a1 s).calendar
    = s.calendar ∧ (State.owlCheckpoint a0 a1 s).check = s.check ∧ (State.owlCheckpoint a0 a1 s).pair = s.pair ∧
    (State.owlCheckpoint a0 a1 s).power = s.power ∧ (State.owlCheckpoint a0 a1 s).pins = s.pins ∧ (State.owlCheckpoint
    a0 a1 s).outputs = s.outputs ∧ (State.owlCheckpoint a0 a1 s).freeNext = s.freeNext ∧ (State.owlCheckpoint a0 a1
    s).pending = s.pending := by
  intros; simp [State.owlCheckpoint]
@[simp] theorem State_owlAppend_keeps : ∀ a0 a1 a2 a3 a4 a5 s, (State.owlAppend a0 a1 a2 a3 a4 a5 s).now = s.now ∧
    (State.owlAppend a0 a1 a2 a3 a4 a5 s).lodge = s.lodge ∧ (State.owlAppend a0 a1 a2 a3 a4 a5 s).host = s.host ∧
    (State.owlAppend a0 a1 a2 a3 a4 a5 s).cub = s.cub ∧ (State.owlAppend a0 a1 a2 a3 a4 a5 s).sett = s.sett ∧
    (State.owlAppend a0 a1 a2 a3 a4 a5 s).quill = s.quill ∧ (State.owlAppend a0 a1 a2 a3 a4 a5 s).compute = s.compute
    ∧ (State.owlAppend a0 a1 a2 a3 a4 a5 s).rng = s.rng ∧ (State.owlAppend a0 a1 a2 a3 a4 a5 s).mem = s.mem ∧
    (State.owlAppend a0 a1 a2 a3 a4 a5 s).boot = s.boot ∧ (State.owlAppend a0 a1 a2 a3 a4 a5 s).antler = s.antler ∧
    (State.owlAppend a0 a1 a2 a3 a4 a5 s).tamper = s.tamper ∧ (State.owlAppend a0 a1 a2 a3 a4 a5 s).calendar =
    s.calendar ∧ (State.owlAppend a0 a1 a2 a3 a4 a5 s).check = s.check ∧ (State.owlAppend a0 a1 a2 a3 a4 a5 s).pair =
    s.pair ∧ (State.owlAppend a0 a1 a2 a3 a4 a5 s).power = s.power ∧ (State.owlAppend a0 a1 a2 a3 a4 a5 s).pins =
    s.pins ∧ (State.owlAppend a0 a1 a2 a3 a4 a5 s).outputs = s.outputs ∧ (State.owlAppend a0 a1 a2 a3 a4 a5
    s).freeNext = s.freeNext ∧ (State.owlAppend a0 a1 a2 a3 a4 a5 s).pending = s.pending := by
  intros; simp [State.owlAppend]
@[simp] theorem State_owlAgain_keeps : ∀ s a1, (State.owlAgain s a1).now = s.now ∧ (State.owlAgain s a1).lodge =
    s.lodge ∧ (State.owlAgain s a1).host = s.host ∧ (State.owlAgain s a1).cub = s.cub ∧ (State.owlAgain s a1).sett =
    s.sett ∧ (State.owlAgain s a1).quill = s.quill ∧ (State.owlAgain s a1).compute = s.compute ∧ (State.owlAgain s
    a1).rng = s.rng ∧ (State.owlAgain s a1).mem = s.mem ∧ (State.owlAgain s a1).boot = s.boot ∧ (State.owlAgain s
    a1).antler = s.antler ∧ (State.owlAgain s a1).tamper = s.tamper ∧ (State.owlAgain s a1).calendar = s.calendar ∧
    (State.owlAgain s a1).check = s.check ∧ (State.owlAgain s a1).pair = s.pair ∧ (State.owlAgain s a1).power =
    s.power ∧ (State.owlAgain s a1).pins = s.pins ∧ (State.owlAgain s a1).outputs = s.outputs ∧ (State.owlAgain s
    a1).freeNext = s.freeNext ∧ (State.owlAgain s a1).pending = s.pending := by
  intros; simp [State.owlAgain]
@[simp] theorem State_owlDurable_keeps : ∀ s a1, (State.owlDurable s a1).now = s.now ∧ (State.owlDurable s a1).lodge =
    s.lodge ∧ (State.owlDurable s a1).host = s.host ∧ (State.owlDurable s a1).cub = s.cub ∧ (State.owlDurable s
    a1).sett = s.sett ∧ (State.owlDurable s a1).quill = s.quill ∧ (State.owlDurable s a1).compute = s.compute ∧
    (State.owlDurable s a1).rng = s.rng ∧ (State.owlDurable s a1).boot = s.boot ∧ (State.owlDurable s a1).antler =
    s.antler ∧ (State.owlDurable s a1).tamper = s.tamper ∧ (State.owlDurable s a1).check = s.check ∧ (State.owlDurable
    s a1).pair = s.pair ∧ (State.owlDurable s a1).power = s.power ∧ (State.owlDurable s a1).pins = s.pins ∧
    (State.owlDurable s a1).outputs = s.outputs ∧ (State.owlDurable s a1).freeNext = s.freeNext ∧ (State.owlDurable s
    a1).pending = s.pending := by
  intros; simp [State.owlDurable]
@[simp] theorem State_owlCommitWhere_keeps : ∀ a0 s, (State.owlCommitWhere a0 s).now = s.now ∧ (State.owlCommitWhere
    a0 s).lodge = s.lodge ∧ (State.owlCommitWhere a0 s).host = s.host ∧ (State.owlCommitWhere a0 s).cub = s.cub ∧
    (State.owlCommitWhere a0 s).sett = s.sett ∧ (State.owlCommitWhere a0 s).quill = s.quill ∧ (State.owlCommitWhere a0
    s).compute = s.compute ∧ (State.owlCommitWhere a0 s).rng = s.rng ∧ (State.owlCommitWhere a0 s).boot = s.boot ∧
    (State.owlCommitWhere a0 s).antler = s.antler ∧ (State.owlCommitWhere a0 s).tamper = s.tamper ∧
    (State.owlCommitWhere a0 s).check = s.check ∧ (State.owlCommitWhere a0 s).pair = s.pair ∧ (State.owlCommitWhere a0
    s).power = s.power ∧ (State.owlCommitWhere a0 s).pins = s.pins ∧ (State.owlCommitWhere a0 s).outputs = s.outputs ∧
    (State.owlCommitWhere a0 s).freeNext = s.freeNext ∧ (State.owlCommitWhere a0 s).pending = s.pending := by
  intros; simp [State.owlCommitWhere]
@[simp] theorem State_owlCommitAll_keeps : ∀ s, (State.owlCommitAll s).now = s.now ∧ (State.owlCommitAll s).lodge =
    s.lodge ∧ (State.owlCommitAll s).host = s.host ∧ (State.owlCommitAll s).cub = s.cub ∧ (State.owlCommitAll s).sett
    = s.sett ∧ (State.owlCommitAll s).quill = s.quill ∧ (State.owlCommitAll s).compute = s.compute ∧
    (State.owlCommitAll s).rng = s.rng ∧ (State.owlCommitAll s).boot = s.boot ∧ (State.owlCommitAll s).antler =
    s.antler ∧ (State.owlCommitAll s).tamper = s.tamper ∧ (State.owlCommitAll s).check = s.check ∧ (State.owlCommitAll
    s).pair = s.pair ∧ (State.owlCommitAll s).power = s.power ∧ (State.owlCommitAll s).pins = s.pins ∧
    (State.owlCommitAll s).outputs = s.outputs ∧ (State.owlCommitAll s).freeNext = s.freeNext ∧ (State.owlCommitAll
    s).pending = s.pending := by
  intros; simp [State.owlCommitAll]
@[simp] theorem State_owlUnstage_keeps : ∀ s, (State.owlUnstage s).now = s.now ∧ (State.owlUnstage s).lodge = s.lodge
    ∧ (State.owlUnstage s).host = s.host ∧ (State.owlUnstage s).cub = s.cub ∧ (State.owlUnstage s).sett = s.sett ∧
    (State.owlUnstage s).quill = s.quill ∧ (State.owlUnstage s).compute = s.compute ∧ (State.owlUnstage s).rng = s.rng
    ∧ (State.owlUnstage s).mem = s.mem ∧ (State.owlUnstage s).boot = s.boot ∧ (State.owlUnstage s).antler = s.antler ∧
    (State.owlUnstage s).tamper = s.tamper ∧ (State.owlUnstage s).calendar = s.calendar ∧ (State.owlUnstage s).status
    = s.status ∧ (State.owlUnstage s).check = s.check ∧ (State.owlUnstage s).pair = s.pair ∧ (State.owlUnstage
    s).power = s.power ∧ (State.owlUnstage s).pins = s.pins ∧ (State.owlUnstage s).outputs = s.outputs ∧
    (State.owlUnstage s).freeNext = s.freeNext ∧ (State.owlUnstage s).pending = s.pending := by
  intros; unfold State.owlUnstage ; dsimp only; (repeat' split) <;> simp
@[simp] theorem State_owlFlush_keeps : ∀ a0 a1 s, (State.owlFlush a0 a1 s).now = s.now ∧ (State.owlFlush a0 a1
    s).lodge = s.lodge ∧ (State.owlFlush a0 a1 s).host = s.host ∧ (State.owlFlush a0 a1 s).cub = s.cub ∧
    (State.owlFlush a0 a1 s).sett = s.sett ∧ (State.owlFlush a0 a1 s).quill = s.quill ∧ (State.owlFlush a0 a1
    s).compute = s.compute ∧ (State.owlFlush a0 a1 s).rng = s.rng ∧ (State.owlFlush a0 a1 s).mem = s.mem ∧
    (State.owlFlush a0 a1 s).boot = s.boot ∧ (State.owlFlush a0 a1 s).antler = s.antler ∧ (State.owlFlush a0 a1
    s).tamper = s.tamper ∧ (State.owlFlush a0 a1 s).calendar = s.calendar ∧ (State.owlFlush a0 a1 s).check = s.check ∧
    (State.owlFlush a0 a1 s).pair = s.pair ∧ (State.owlFlush a0 a1 s).power = s.power ∧ (State.owlFlush a0 a1 s).pins
    = s.pins ∧ (State.owlFlush a0 a1 s).outputs = s.outputs ∧ (State.owlFlush a0 a1 s).freeNext = s.freeNext ∧
    (State.owlFlush a0 a1 s).pending = s.pending := by
  intros; simp [State.owlFlush]
@[simp] theorem State_owlFlushAll_keeps : ∀ s, (State.owlFlushAll s).now = s.now ∧ (State.owlFlushAll s).lodge =
    s.lodge ∧ (State.owlFlushAll s).host = s.host ∧ (State.owlFlushAll s).cub = s.cub ∧ (State.owlFlushAll s).sett =
    s.sett ∧ (State.owlFlushAll s).quill = s.quill ∧ (State.owlFlushAll s).compute = s.compute ∧ (State.owlFlushAll
    s).rng = s.rng ∧ (State.owlFlushAll s).mem = s.mem ∧ (State.owlFlushAll s).boot = s.boot ∧ (State.owlFlushAll
    s).antler = s.antler ∧ (State.owlFlushAll s).tamper = s.tamper ∧ (State.owlFlushAll s).calendar = s.calendar ∧
    (State.owlFlushAll s).check = s.check ∧ (State.owlFlushAll s).pair = s.pair ∧ (State.owlFlushAll s).power =
    s.power ∧ (State.owlFlushAll s).pins = s.pins ∧ (State.owlFlushAll s).outputs = s.outputs ∧ (State.owlFlushAll
    s).freeNext = s.freeNext ∧ (State.owlFlushAll s).pending = s.pending := by
  intros; simp [State.owlFlushAll]
@[simp] theorem State_owlFresh_keeps : ∀ a0 s, (State.owlFresh a0 s).now = s.now ∧ (State.owlFresh a0 s).lodge =
    s.lodge ∧ (State.owlFresh a0 s).host = s.host ∧ (State.owlFresh a0 s).cub = s.cub ∧ (State.owlFresh a0 s).sett =
    s.sett ∧ (State.owlFresh a0 s).quill = s.quill ∧ (State.owlFresh a0 s).compute = s.compute ∧ (State.owlFresh a0
    s).rng = s.rng ∧ (State.owlFresh a0 s).mem = s.mem ∧ (State.owlFresh a0 s).boot = s.boot ∧ (State.owlFresh a0
    s).antler = s.antler ∧ (State.owlFresh a0 s).tamper = s.tamper ∧ (State.owlFresh a0 s).calendar = s.calendar ∧
    (State.owlFresh a0 s).check = s.check ∧ (State.owlFresh a0 s).pair = s.pair ∧ (State.owlFresh a0 s).power =
    s.power ∧ (State.owlFresh a0 s).pins = s.pins ∧ (State.owlFresh a0 s).outputs = s.outputs ∧ (State.owlFresh a0
    s).freeNext = s.freeNext ∧ (State.owlFresh a0 s).pending = s.pending := by
  intros; simp [State.owlFresh]
@[simp] theorem State_owlPrivileged_keeps : ∀ a0 s, (State.owlPrivileged a0 s).now = s.now ∧ (State.owlPrivileged a0
    s).lodge = s.lodge ∧ (State.owlPrivileged a0 s).host = s.host ∧ (State.owlPrivileged a0 s).cub = s.cub ∧
    (State.owlPrivileged a0 s).sett = s.sett ∧ (State.owlPrivileged a0 s).quill = s.quill ∧ (State.owlPrivileged a0
    s).compute = s.compute ∧ (State.owlPrivileged a0 s).rng = s.rng ∧ (State.owlPrivileged a0 s).mem = s.mem ∧
    (State.owlPrivileged a0 s).boot = s.boot ∧ (State.owlPrivileged a0 s).antler = s.antler ∧ (State.owlPrivileged a0
    s).tamper = s.tamper ∧ (State.owlPrivileged a0 s).calendar = s.calendar ∧ (State.owlPrivileged a0 s).check =
    s.check ∧ (State.owlPrivileged a0 s).pair = s.pair ∧ (State.owlPrivileged a0 s).power = s.power ∧
    (State.owlPrivileged a0 s).pins = s.pins ∧ (State.owlPrivileged a0 s).outputs = s.outputs ∧ (State.owlPrivileged
    a0 s).freeNext = s.freeNext ∧ (State.owlPrivileged a0 s).pending = s.pending := by
  intros; unfold State.owlPrivileged ; (repeat' split) <;> simp
@[simp] theorem State_owlTamper_keeps : ∀ a0 s, (State.owlTamper a0 s).now = s.now ∧ (State.owlTamper a0 s).lodge =
    s.lodge ∧ (State.owlTamper a0 s).host = s.host ∧ (State.owlTamper a0 s).cub = s.cub ∧ (State.owlTamper a0 s).sett
    = s.sett ∧ (State.owlTamper a0 s).quill = s.quill ∧ (State.owlTamper a0 s).compute = s.compute ∧ (State.owlTamper
    a0 s).rng = s.rng ∧ (State.owlTamper a0 s).mem = s.mem ∧ (State.owlTamper a0 s).boot = s.boot ∧ (State.owlTamper
    a0 s).antler = s.antler ∧ (State.owlTamper a0 s).tamper = s.tamper ∧ (State.owlTamper a0 s).calendar = s.calendar
    ∧ (State.owlTamper a0 s).check = s.check ∧ (State.owlTamper a0 s).pair = s.pair ∧ (State.owlTamper a0 s).power =
    s.power ∧ (State.owlTamper a0 s).pins = s.pins ∧ (State.owlTamper a0 s).outputs = s.outputs ∧ (State.owlTamper a0
    s).freeNext = s.freeNext ∧ (State.owlTamper a0 s).pending = s.pending := by
  intros; simp [State.owlTamper]
@[simp] theorem State_owlOrdinary_keeps : ∀ a0 s, (State.owlOrdinary a0 s).now = s.now ∧ (State.owlOrdinary a0
    s).lodge = s.lodge ∧ (State.owlOrdinary a0 s).host = s.host ∧ (State.owlOrdinary a0 s).cub = s.cub ∧
    (State.owlOrdinary a0 s).sett = s.sett ∧ (State.owlOrdinary a0 s).quill = s.quill ∧ (State.owlOrdinary a0
    s).compute = s.compute ∧ (State.owlOrdinary a0 s).rng = s.rng ∧ (State.owlOrdinary a0 s).mem = s.mem ∧
    (State.owlOrdinary a0 s).boot = s.boot ∧ (State.owlOrdinary a0 s).antler = s.antler ∧ (State.owlOrdinary a0
    s).tamper = s.tamper ∧ (State.owlOrdinary a0 s).calendar = s.calendar ∧ (State.owlOrdinary a0 s).check = s.check ∧
    (State.owlOrdinary a0 s).pair = s.pair ∧ (State.owlOrdinary a0 s).power = s.power ∧ (State.owlOrdinary a0 s).pins
    = s.pins ∧ (State.owlOrdinary a0 s).outputs = s.outputs ∧ (State.owlOrdinary a0 s).freeNext = s.freeNext ∧
    (State.owlOrdinary a0 s).pending = s.pending := by
  intros; simp [State.owlOrdinary]
@[simp] theorem State_owlTake_keeps : ∀ s a1, (State.owlTake s a1).now = s.now ∧ (State.owlTake s a1).lodge = s.lodge
    ∧ (State.owlTake s a1).host = s.host ∧ (State.owlTake s a1).cub = s.cub ∧ (State.owlTake s a1).sett = s.sett ∧
    (State.owlTake s a1).quill = s.quill ∧ (State.owlTake s a1).compute = s.compute ∧ (State.owlTake s a1).rng = s.rng
    ∧ (State.owlTake s a1).mem = s.mem ∧ (State.owlTake s a1).boot = s.boot ∧ (State.owlTake s a1).antler = s.antler ∧
    (State.owlTake s a1).tamper = s.tamper ∧ (State.owlTake s a1).calendar = s.calendar ∧ (State.owlTake s a1).check =
    s.check ∧ (State.owlTake s a1).pair = s.pair ∧ (State.owlTake s a1).power = s.power ∧ (State.owlTake s a1).pins =
    s.pins ∧ (State.owlTake s a1).outputs = s.outputs ∧ (State.owlTake s a1).freeNext = s.freeNext ∧ (State.owlTake s
    a1).pending = s.pending := by
  intros; unfold State.owlTake ; (repeat' split) <;> simp
@[simp] theorem State_owlDrain_keeps : ∀ s, (State.owlDrain s).now = s.now ∧ (State.owlDrain s).lodge = s.lodge ∧
    (State.owlDrain s).host = s.host ∧ (State.owlDrain s).cub = s.cub ∧ (State.owlDrain s).sett = s.sett ∧
    (State.owlDrain s).quill = s.quill ∧ (State.owlDrain s).compute = s.compute ∧ (State.owlDrain s).rng = s.rng ∧
    (State.owlDrain s).mem = s.mem ∧ (State.owlDrain s).boot = s.boot ∧ (State.owlDrain s).antler = s.antler ∧
    (State.owlDrain s).tamper = s.tamper ∧ (State.owlDrain s).calendar = s.calendar ∧ (State.owlDrain s).check =
    s.check ∧ (State.owlDrain s).pair = s.pair ∧ (State.owlDrain s).power = s.power ∧ (State.owlDrain s).pins = s.pins
    ∧ (State.owlDrain s).outputs = s.outputs ∧ (State.owlDrain s).freeNext = s.freeNext ∧ (State.owlDrain s).pending =
    s.pending := by
  intros; simp [State.owlDrain]
@[simp] theorem State_owlSettle_keeps : ∀ s, (State.owlSettle s).now = s.now ∧ (State.owlSettle s).lodge = s.lodge ∧
    (State.owlSettle s).host = s.host ∧ (State.owlSettle s).cub = s.cub ∧ (State.owlSettle s).sett = s.sett ∧
    (State.owlSettle s).quill = s.quill ∧ (State.owlSettle s).compute = s.compute ∧ (State.owlSettle s).rng = s.rng ∧
    (State.owlSettle s).boot = s.boot ∧ (State.owlSettle s).antler = s.antler ∧ (State.owlSettle s).tamper = s.tamper
    ∧ (State.owlSettle s).check = s.check ∧ (State.owlSettle s).pair = s.pair ∧ (State.owlSettle s).power = s.power ∧
    (State.owlSettle s).pins = s.pins ∧ (State.owlSettle s).outputs = s.outputs ∧ (State.owlSettle s).freeNext =
    s.freeNext ∧ (State.owlSettle s).pending = s.pending := by
  intros; simp [State.owlSettle]
@[simp] theorem State_sendOffer_keeps : ∀ a0 s, (State.sendOffer a0 s).now = s.now ∧ (State.sendOffer a0 s).lodge =
    s.lodge ∧ (State.sendOffer a0 s).host = s.host ∧ (State.sendOffer a0 s).cub = s.cub ∧ (State.sendOffer a0 s).sett
    = s.sett ∧ (State.sendOffer a0 s).quill = s.quill ∧ (State.sendOffer a0 s).compute = s.compute ∧ (State.sendOffer
    a0 s).rng = s.rng ∧ (State.sendOffer a0 s).mem = s.mem ∧ (State.sendOffer a0 s).boot = s.boot ∧ (State.sendOffer
    a0 s).antler = s.antler ∧ (State.sendOffer a0 s).tamper = s.tamper ∧ (State.sendOffer a0 s).calendar = s.calendar
    ∧ (State.sendOffer a0 s).owl = s.owl ∧ (State.sendOffer a0 s).status = s.status ∧ (State.sendOffer a0 s).check =
    s.check ∧ (State.sendOffer a0 s).pair = s.pair ∧ (State.sendOffer a0 s).power = s.power ∧ (State.sendOffer a0
    s).pins = s.pins ∧ (State.sendOffer a0 s).freeNext = s.freeNext ∧ (State.sendOffer a0 s).pending = s.pending := by
  intros; simp [State.sendOffer]
@[simp] theorem State_settleLog_keeps : ∀ a0 s, (State.settleLog a0 s).1.now = s.now ∧ (State.settleLog a0 s).1.lodge
    = s.lodge ∧ (State.settleLog a0 s).1.host = s.host ∧ (State.settleLog a0 s).1.cub = s.cub ∧ (State.settleLog a0
    s).1.sett = s.sett ∧ (State.settleLog a0 s).1.quill = s.quill ∧ (State.settleLog a0 s).1.compute = s.compute ∧
    (State.settleLog a0 s).1.rng = s.rng ∧ (State.settleLog a0 s).1.boot = s.boot ∧ (State.settleLog a0 s).1.antler =
    s.antler ∧ (State.settleLog a0 s).1.tamper = s.tamper ∧ (State.settleLog a0 s).1.check = s.check ∧
    (State.settleLog a0 s).1.pair = s.pair ∧ (State.settleLog a0 s).1.power = s.power ∧ (State.settleLog a0 s).1.pins
    = s.pins ∧ (State.settleLog a0 s).1.outputs = s.outputs ∧ (State.settleLog a0 s).1.freeNext = s.freeNext ∧
    (State.settleLog a0 s).1.pending = s.pending := by
  intros; unfold State.settleLog ; (repeat' split) <;> simp
@[simp] theorem State_finishWaiting_keeps : ∀ s, (State.finishWaiting s).now = s.now ∧ (State.finishWaiting s).lodge =
    s.lodge ∧ (State.finishWaiting s).host = s.host ∧ (State.finishWaiting s).cub = s.cub ∧ (State.finishWaiting
    s).sett = s.sett ∧ (State.finishWaiting s).quill = s.quill ∧ (State.finishWaiting s).compute = s.compute ∧
    (State.finishWaiting s).rng = s.rng ∧ (State.finishWaiting s).boot = s.boot ∧ (State.finishWaiting s).antler =
    s.antler ∧ (State.finishWaiting s).tamper = s.tamper ∧ (State.finishWaiting s).calendar = s.calendar ∧
    (State.finishWaiting s).owl = s.owl ∧ (State.finishWaiting s).status = s.status ∧ (State.finishWaiting s).check =
    s.check ∧ (State.finishWaiting s).pair = s.pair ∧ (State.finishWaiting s).power = s.power ∧ (State.finishWaiting
    s).pins = s.pins ∧ (State.finishWaiting s).outputs = s.outputs ∧ (State.finishWaiting s).freeNext = s.freeNext ∧
    (State.finishWaiting s).pending = s.pending := by
  intros; simp [State.finishWaiting]
@[simp] theorem State_restart_keeps : ∀ a0 a1 a2 s, (State.restart a0 a1 a2 s).now = s.now ∧ (State.restart a0 a1 a2
    s).outputs = s.outputs ∧ (State.restart a0 a1 a2 s).freeNext = s.freeNext ∧ (State.restart a0 a1 a2 s).pending =
    s.pending := by
  intros; simp [State.restart]
@[simp] theorem State_writeCount_keeps : ∀ a0 s, (State.writeCount a0 s).now = s.now ∧ (State.writeCount a0 s).lodge =
    s.lodge ∧ (State.writeCount a0 s).host = s.host ∧ (State.writeCount a0 s).cub = s.cub ∧ (State.writeCount a0
    s).quill = s.quill ∧ (State.writeCount a0 s).compute = s.compute ∧ (State.writeCount a0 s).rng = s.rng ∧
    (State.writeCount a0 s).boot = s.boot ∧ (State.writeCount a0 s).antler = s.antler ∧ (State.writeCount a0 s).tamper
    = s.tamper ∧ (State.writeCount a0 s).calendar = s.calendar ∧ (State.writeCount a0 s).check = s.check ∧
    (State.writeCount a0 s).pair = s.pair ∧ (State.writeCount a0 s).power = s.power ∧ (State.writeCount a0 s).pins =
    s.pins ∧ (State.writeCount a0 s).outputs = s.outputs ∧ (State.writeCount a0 s).freeNext = s.freeNext ∧
    (State.writeCount a0 s).pending = s.pending := by
  intros; simp [State.writeCount]
@[simp] theorem State_powerFail_keeps : ∀ a0 s, (State.powerFail a0 s).now = s.now ∧ (State.powerFail a0 s).lodge =
    s.lodge ∧ (State.powerFail a0 s).cub = s.cub ∧ (State.powerFail a0 s).quill = s.quill ∧ (State.powerFail a0
    s).boot = s.boot ∧ (State.powerFail a0 s).antler = s.antler ∧ (State.powerFail a0 s).tamper = s.tamper ∧
    (State.powerFail a0 s).check = s.check ∧ (State.powerFail a0 s).pins = s.pins ∧ (State.powerFail a0 s).outputs =
    s.outputs ∧ (State.powerFail a0 s).freeNext = s.freeNext ∧ (State.powerFail a0 s).pending = s.pending := by
  intros; simp [State.powerFail]
@[simp] theorem State_setCell_keeps : ∀ a0 a1 s, (State.setCell a0 a1 s).now = s.now ∧ (State.setCell a0 a1 s).lodge =
    s.lodge ∧ (State.setCell a0 a1 s).host = s.host ∧ (State.setCell a0 a1 s).cub = s.cub ∧ (State.setCell a0 a1
    s).sett = s.sett ∧ (State.setCell a0 a1 s).quill = s.quill ∧ (State.setCell a0 a1 s).compute = s.compute ∧
    (State.setCell a0 a1 s).rng = s.rng ∧ (State.setCell a0 a1 s).mem = s.mem ∧ (State.setCell a0 a1 s).boot = s.boot
    ∧ (State.setCell a0 a1 s).antler = s.antler ∧ (State.setCell a0 a1 s).calendar = s.calendar ∧ (State.setCell a0 a1
    s).owl = s.owl ∧ (State.setCell a0 a1 s).status = s.status ∧ (State.setCell a0 a1 s).check = s.check ∧
    (State.setCell a0 a1 s).pair = s.pair ∧ (State.setCell a0 a1 s).power = s.power ∧ (State.setCell a0 a1 s).pins =
    s.pins ∧ (State.setCell a0 a1 s).outputs = s.outputs ∧ (State.setCell a0 a1 s).freeNext = s.freeNext ∧
    (State.setCell a0 a1 s).pending = s.pending := by
  intros; simp [State.setCell]
@[simp] theorem State_putMaster_keeps : ∀ a0 a1 a2 s, (State.putMaster a0 a1 a2 s).now = s.now ∧ (State.putMaster a0
    a1 a2 s).lodge = s.lodge ∧ (State.putMaster a0 a1 a2 s).host = s.host ∧ (State.putMaster a0 a1 a2 s).cub = s.cub ∧
    (State.putMaster a0 a1 a2 s).quill = s.quill ∧ (State.putMaster a0 a1 a2 s).compute = s.compute ∧ (State.putMaster
    a0 a1 a2 s).rng = s.rng ∧ (State.putMaster a0 a1 a2 s).boot = s.boot ∧ (State.putMaster a0 a1 a2 s).antler =
    s.antler ∧ (State.putMaster a0 a1 a2 s).tamper = s.tamper ∧ (State.putMaster a0 a1 a2 s).calendar = s.calendar ∧
    (State.putMaster a0 a1 a2 s).check = s.check ∧ (State.putMaster a0 a1 a2 s).power = s.power ∧ (State.putMaster a0
    a1 a2 s).pins = s.pins ∧ (State.putMaster a0 a1 a2 s).freeNext = s.freeNext ∧ (State.putMaster a0 a1 a2 s).pending
    = s.pending := by
  intros; simp [State.putMaster]
@[simp] theorem State_refuseFw_keeps : ∀ a0 s, (State.refuseFw a0 s).now = s.now ∧ (State.refuseFw a0 s).lodge =
    s.lodge ∧ (State.refuseFw a0 s).host = s.host ∧ (State.refuseFw a0 s).cub = s.cub ∧ (State.refuseFw a0 s).sett =
    s.sett ∧ (State.refuseFw a0 s).quill = s.quill ∧ (State.refuseFw a0 s).compute = s.compute ∧ (State.refuseFw a0
    s).rng = s.rng ∧ (State.refuseFw a0 s).mem = s.mem ∧ (State.refuseFw a0 s).antler = s.antler ∧ (State.refuseFw a0
    s).tamper = s.tamper ∧ (State.refuseFw a0 s).calendar = s.calendar ∧ (State.refuseFw a0 s).owl = s.owl ∧
    (State.refuseFw a0 s).status = s.status ∧ (State.refuseFw a0 s).check = s.check ∧ (State.refuseFw a0 s).pair =
    s.pair ∧ (State.refuseFw a0 s).power = s.power ∧ (State.refuseFw a0 s).pins = s.pins ∧ (State.refuseFw a0
    s).outputs = s.outputs ∧ (State.refuseFw a0 s).freeNext = s.freeNext ∧ (State.refuseFw a0 s).pending = s.pending
    := by
  intros; simp [State.refuseFw]
@[simp] theorem State_refuseGo_keeps : ∀ a0 s, (State.refuseGo a0 s).now = s.now ∧ (State.refuseGo a0 s).host = s.host
    ∧ (State.refuseGo a0 s).cub = s.cub ∧ (State.refuseGo a0 s).sett = s.sett ∧ (State.refuseGo a0 s).quill = s.quill
    ∧ (State.refuseGo a0 s).compute = s.compute ∧ (State.refuseGo a0 s).rng = s.rng ∧ (State.refuseGo a0 s).mem =
    s.mem ∧ (State.refuseGo a0 s).boot = s.boot ∧ (State.refuseGo a0 s).antler = s.antler ∧ (State.refuseGo a0
    s).tamper = s.tamper ∧ (State.refuseGo a0 s).calendar = s.calendar ∧ (State.refuseGo a0 s).owl = s.owl ∧
    (State.refuseGo a0 s).status = s.status ∧ (State.refuseGo a0 s).check = s.check ∧ (State.refuseGo a0 s).pair =
    s.pair ∧ (State.refuseGo a0 s).power = s.power ∧ (State.refuseGo a0 s).pins = s.pins ∧ (State.refuseGo a0
    s).outputs = s.outputs ∧ (State.refuseGo a0 s).freeNext = s.freeNext ∧ (State.refuseGo a0 s).pending = s.pending
    := by
  intros; simp [State.refuseGo]
@[simp] theorem State_startReset_keeps : ∀ a0 a1 a2 a3 s, (State.startReset a0 a1 a2 a3 s).now = s.now ∧
    (State.startReset a0 a1 a2 a3 s).lodge = s.lodge ∧ (State.startReset a0 a1 a2 a3 s).sett = s.sett ∧
    (State.startReset a0 a1 a2 a3 s).quill = s.quill ∧ (State.startReset a0 a1 a2 a3 s).compute = s.compute ∧
    (State.startReset a0 a1 a2 a3 s).rng = s.rng ∧ (State.startReset a0 a1 a2 a3 s).mem = s.mem ∧ (State.startReset a0
    a1 a2 a3 s).boot = s.boot ∧ (State.startReset a0 a1 a2 a3 s).antler = s.antler ∧ (State.startReset a0 a1 a2 a3
    s).tamper = s.tamper ∧ (State.startReset a0 a1 a2 a3 s).calendar = s.calendar ∧ (State.startReset a0 a1 a2 a3
    s).owl = s.owl ∧ (State.startReset a0 a1 a2 a3 s).status = s.status ∧ (State.startReset a0 a1 a2 a3 s).check =
    s.check ∧ (State.startReset a0 a1 a2 a3 s).pair = s.pair ∧ (State.startReset a0 a1 a2 a3 s).power = s.power ∧
    (State.startReset a0 a1 a2 a3 s).pins = s.pins ∧ (State.startReset a0 a1 a2 a3 s).outputs = s.outputs ∧
    (State.startReset a0 a1 a2 a3 s).freeNext = s.freeNext ∧ (State.startReset a0 a1 a2 a3 s).pending = s.pending :=
    by
  intros; simp [State.startReset]
@[simp] theorem State_resetFor_keeps : ∀ a0 a1 a2 a3 s, (State.resetFor a0 a1 a2 a3 s).now = s.now ∧ (State.resetFor
    a0 a1 a2 a3 s).lodge = s.lodge ∧ (State.resetFor a0 a1 a2 a3 s).sett = s.sett ∧ (State.resetFor a0 a1 a2 a3
    s).quill = s.quill ∧ (State.resetFor a0 a1 a2 a3 s).compute = s.compute ∧ (State.resetFor a0 a1 a2 a3 s).rng =
    s.rng ∧ (State.resetFor a0 a1 a2 a3 s).mem = s.mem ∧ (State.resetFor a0 a1 a2 a3 s).boot = s.boot ∧
    (State.resetFor a0 a1 a2 a3 s).antler = s.antler ∧ (State.resetFor a0 a1 a2 a3 s).tamper = s.tamper ∧
    (State.resetFor a0 a1 a2 a3 s).calendar = s.calendar ∧ (State.resetFor a0 a1 a2 a3 s).owl = s.owl ∧
    (State.resetFor a0 a1 a2 a3 s).status = s.status ∧ (State.resetFor a0 a1 a2 a3 s).check = s.check ∧
    (State.resetFor a0 a1 a2 a3 s).pair = s.pair ∧ (State.resetFor a0 a1 a2 a3 s).power = s.power ∧ (State.resetFor a0
    a1 a2 a3 s).pins = s.pins ∧ (State.resetFor a0 a1 a2 a3 s).outputs = s.outputs ∧ (State.resetFor a0 a1 a2 a3
    s).freeNext = s.freeNext ∧ (State.resetFor a0 a1 a2 a3 s).pending = s.pending := by
  intros; simp [State.resetFor]
@[simp] theorem State_resumeOn_keeps : ∀ a0 a1 s, (State.resumeOn a0 a1 s).now = s.now ∧ (State.resumeOn a0 a1
    s).lodge = s.lodge ∧ (State.resumeOn a0 a1 s).cub = s.cub ∧ (State.resumeOn a0 a1 s).sett = s.sett ∧
    (State.resumeOn a0 a1 s).quill = s.quill ∧ (State.resumeOn a0 a1 s).rng = s.rng ∧ (State.resumeOn a0 a1 s).mem =
    s.mem ∧ (State.resumeOn a0 a1 s).boot = s.boot ∧ (State.resumeOn a0 a1 s).antler = s.antler ∧ (State.resumeOn a0
    a1 s).tamper = s.tamper ∧ (State.resumeOn a0 a1 s).calendar = s.calendar ∧ (State.resumeOn a0 a1 s).owl = s.owl ∧
    (State.resumeOn a0 a1 s).status = s.status ∧ (State.resumeOn a0 a1 s).check = s.check ∧ (State.resumeOn a0 a1
    s).pair = s.pair ∧ (State.resumeOn a0 a1 s).power = s.power ∧ (State.resumeOn a0 a1 s).pins = s.pins ∧
    (State.resumeOn a0 a1 s).outputs = s.outputs ∧ (State.resumeOn a0 a1 s).freeNext = s.freeNext ∧ (State.resumeOn a0
    a1 s).pending = s.pending := by
  intros; unfold State.resumeOn ; (repeat' split) <;> simp
@[simp] theorem State_settleService_keeps : ∀ s, (State.settleService s).now = s.now ∧ (State.settleService s).lodge =
    s.lodge ∧ (State.settleService s).host = s.host ∧ (State.settleService s).cub = s.cub ∧ (State.settleService
    s).sett = s.sett ∧ (State.settleService s).quill = s.quill ∧ (State.settleService s).compute = s.compute ∧
    (State.settleService s).rng = s.rng ∧ (State.settleService s).mem = s.mem ∧ (State.settleService s).boot = s.boot
    ∧ (State.settleService s).antler = s.antler ∧ (State.settleService s).calendar = s.calendar ∧ (State.settleService
    s).owl = s.owl ∧ (State.settleService s).status = s.status ∧ (State.settleService s).check = s.check ∧
    (State.settleService s).pair = s.pair ∧ (State.settleService s).power = s.power ∧ (State.settleService s).pins =
    s.pins ∧ (State.settleService s).outputs = s.outputs ∧ (State.settleService s).freeNext = s.freeNext ∧
    (State.settleService s).pending = s.pending := by
  intros; unfold State.settleService ; (repeat' split) <;> simp
@[simp] theorem State_soloByWitness_keeps : ∀ s, (State.soloByWitness s).now = s.now ∧ (State.soloByWitness s).lodge =
    s.lodge ∧ (State.soloByWitness s).cub = s.cub ∧ (State.soloByWitness s).sett = s.sett ∧ (State.soloByWitness
    s).quill = s.quill ∧ (State.soloByWitness s).compute = s.compute ∧ (State.soloByWitness s).rng = s.rng ∧
    (State.soloByWitness s).mem = s.mem ∧ (State.soloByWitness s).boot = s.boot ∧ (State.soloByWitness s).antler =
    s.antler ∧ (State.soloByWitness s).tamper = s.tamper ∧ (State.soloByWitness s).calendar = s.calendar ∧
    (State.soloByWitness s).owl = s.owl ∧ (State.soloByWitness s).status = s.status ∧ (State.soloByWitness s).check =
    s.check ∧ (State.soloByWitness s).power = s.power ∧ (State.soloByWitness s).pins = s.pins ∧ (State.soloByWitness
    s).outputs = s.outputs ∧ (State.soloByWitness s).freeNext = s.freeNext ∧ (State.soloByWitness s).pending =
    s.pending := by
  intros; simp [State.soloByWitness]
@[simp] theorem State_startFw_keeps : ∀ a0 s, (State.startFw a0 s).now = s.now ∧ (State.startFw a0 s).lodge = s.lodge
    ∧ (State.startFw a0 s).host = s.host ∧ (State.startFw a0 s).cub = s.cub ∧ (State.startFw a0 s).sett = s.sett ∧
    (State.startFw a0 s).quill = s.quill ∧ (State.startFw a0 s).compute = s.compute ∧ (State.startFw a0 s).rng = s.rng
    ∧ (State.startFw a0 s).mem = s.mem ∧ (State.startFw a0 s).antler = s.antler ∧ (State.startFw a0 s).tamper =
    s.tamper ∧ (State.startFw a0 s).calendar = s.calendar ∧ (State.startFw a0 s).owl = s.owl ∧ (State.startFw a0
    s).status = s.status ∧ (State.startFw a0 s).check = s.check ∧ (State.startFw a0 s).pair = s.pair ∧ (State.startFw
    a0 s).power = s.power ∧ (State.startFw a0 s).pins = s.pins ∧ (State.startFw a0 s).outputs = s.outputs ∧
    (State.startFw a0 s).freeNext = s.freeNext ∧ (State.startFw a0 s).pending = s.pending := by
  intros; simp [State.startFw]
@[simp] theorem State_takeAck_keeps : ∀ a0 a1 s, (State.takeAck a0 a1 s).now = s.now ∧ (State.takeAck a0 a1 s).lodge =
    s.lodge ∧ (State.takeAck a0 a1 s).host = s.host ∧ (State.takeAck a0 a1 s).cub = s.cub ∧ (State.takeAck a0 a1
    s).sett = s.sett ∧ (State.takeAck a0 a1 s).quill = s.quill ∧ (State.takeAck a0 a1 s).compute = s.compute ∧
    (State.takeAck a0 a1 s).rng = s.rng ∧ (State.takeAck a0 a1 s).mem = s.mem ∧ (State.takeAck a0 a1 s).boot = s.boot
    ∧ (State.takeAck a0 a1 s).antler = s.antler ∧ (State.takeAck a0 a1 s).tamper = s.tamper ∧ (State.takeAck a0 a1
    s).calendar = s.calendar ∧ (State.takeAck a0 a1 s).owl = s.owl ∧ (State.takeAck a0 a1 s).status = s.status ∧
    (State.takeAck a0 a1 s).check = s.check ∧ (State.takeAck a0 a1 s).power = s.power ∧ (State.takeAck a0 a1 s).pins =
    s.pins ∧ (State.takeAck a0 a1 s).outputs = s.outputs ∧ (State.takeAck a0 a1 s).freeNext = s.freeNext ∧
    (State.takeAck a0 a1 s).pending = s.pending := by
  intros; simp [State.takeAck]
@[simp] theorem State_correct_keeps : ∀ a0 a1 a2 s, (State.correct a0 a1 a2 s).now = s.now ∧ (State.correct a0 a1 a2
    s).lodge = s.lodge ∧ (State.correct a0 a1 a2 s).host = s.host ∧ (State.correct a0 a1 a2 s).cub = s.cub ∧
    (State.correct a0 a1 a2 s).sett = s.sett ∧ (State.correct a0 a1 a2 s).quill = s.quill ∧ (State.correct a0 a1 a2
    s).compute = s.compute ∧ (State.correct a0 a1 a2 s).rng = s.rng ∧ (State.correct a0 a1 a2 s).boot = s.boot ∧
    (State.correct a0 a1 a2 s).antler = s.antler ∧ (State.correct a0 a1 a2 s).tamper = s.tamper ∧ (State.correct a0 a1
    a2 s).calendar = s.calendar ∧ (State.correct a0 a1 a2 s).check = s.check ∧ (State.correct a0 a1 a2 s).pair =
    s.pair ∧ (State.correct a0 a1 a2 s).power = s.power ∧ (State.correct a0 a1 a2 s).pins = s.pins ∧ (State.correct a0
    a1 a2 s).outputs = s.outputs ∧ (State.correct a0 a1 a2 s).freeNext = s.freeNext ∧ (State.correct a0 a1 a2
    s).pending = s.pending := by
  intros; simp [State.correct]
@[simp] theorem State_readSpans_keeps : ∀ a0 a1 a2 s, (State.readSpans a0 a1 a2 s).now = s.now ∧ (State.readSpans a0
    a1 a2 s).lodge = s.lodge ∧ (State.readSpans a0 a1 a2 s).host = s.host ∧ (State.readSpans a0 a1 a2 s).cub = s.cub ∧
    (State.readSpans a0 a1 a2 s).sett = s.sett ∧ (State.readSpans a0 a1 a2 s).quill = s.quill ∧ (State.readSpans a0 a1
    a2 s).compute = s.compute ∧ (State.readSpans a0 a1 a2 s).rng = s.rng ∧ (State.readSpans a0 a1 a2 s).boot = s.boot
    ∧ (State.readSpans a0 a1 a2 s).antler = s.antler ∧ (State.readSpans a0 a1 a2 s).tamper = s.tamper ∧
    (State.readSpans a0 a1 a2 s).calendar = s.calendar ∧ (State.readSpans a0 a1 a2 s).check = s.check ∧
    (State.readSpans a0 a1 a2 s).pair = s.pair ∧ (State.readSpans a0 a1 a2 s).power = s.power ∧ (State.readSpans a0 a1
    a2 s).pins = s.pins ∧ (State.readSpans a0 a1 a2 s).outputs = s.outputs ∧ (State.readSpans a0 a1 a2 s).freeNext =
    s.freeNext ∧ (State.readSpans a0 a1 a2 s).pending = s.pending := by
  intros; simp [State.readSpans]
@[simp] theorem State_faultJob_keeps : ∀ a0 a1 s, (State.faultJob a0 a1 s).now = s.now ∧ (State.faultJob a0 a1
    s).lodge = s.lodge ∧ (State.faultJob a0 a1 s).cub = s.cub ∧ (State.faultJob a0 a1 s).quill = s.quill ∧
    (State.faultJob a0 a1 s).rng = s.rng ∧ (State.faultJob a0 a1 s).mem = s.mem ∧ (State.faultJob a0 a1 s).boot =
    s.boot ∧ (State.faultJob a0 a1 s).antler = s.antler ∧ (State.faultJob a0 a1 s).tamper = s.tamper ∧ (State.faultJob
    a0 a1 s).calendar = s.calendar ∧ (State.faultJob a0 a1 s).check = s.check ∧ (State.faultJob a0 a1 s).pair = s.pair
    ∧ (State.faultJob a0 a1 s).power = s.power ∧ (State.faultJob a0 a1 s).pins = s.pins ∧ (State.faultJob a0 a1
    s).outputs = s.outputs ∧ (State.faultJob a0 a1 s).freeNext = s.freeNext ∧ (State.faultJob a0 a1 s).pending =
    s.pending := by
  intros; unfold State.faultJob; dsimp only; (repeat' split) <;> simp
@[simp] theorem State_takeJob_keeps : ∀ a0 a1 a2 a3 s, (State.takeJob a0 a1 a2 a3 s).now = s.now ∧ (State.takeJob a0
    a1 a2 a3 s).lodge = s.lodge ∧ (State.takeJob a0 a1 a2 a3 s).cub = s.cub ∧ (State.takeJob a0 a1 a2 a3 s).quill =
    s.quill ∧ (State.takeJob a0 a1 a2 a3 s).boot = s.boot ∧ (State.takeJob a0 a1 a2 a3 s).antler = s.antler ∧
    (State.takeJob a0 a1 a2 a3 s).tamper = s.tamper ∧ (State.takeJob a0 a1 a2 a3 s).calendar = s.calendar ∧
    (State.takeJob a0 a1 a2 a3 s).check = s.check ∧ (State.takeJob a0 a1 a2 a3 s).pins = s.pins ∧ (State.takeJob a0 a1
    a2 a3 s).freeNext = s.freeNext ∧ (State.takeJob a0 a1 a2 a3 s).pending = s.pending := by
  intros; unfold State.takeJob; dsimp only; (repeat' split) <;> simp
@[simp] theorem State_warmReset_keeps : ∀ a0 s, (State.warmReset a0 s).now = s.now ∧ (State.warmReset a0 s).outputs =
    s.outputs ∧ (State.warmReset a0 s).freeNext = s.freeNext ∧ (State.warmReset a0 s).pending = s.pending := by
  intros; simp [State.warmReset]




end Sys2Proof.Machine
end

