-- ==== Sys2Proof/Laws/Compute.lean ====
section
/-! SUPPORT. Laws of the engines: what is left when the engine of a waiting job takes it, and what the gates admit. -/

namespace Sys2Proof.Machine

theorem setJob_of_some {k n : Nat} {j : Job} {sl : Slot} {s : State} (h : s.slot? k = some sl) :
    s.setJob k n j = s.setSlot k { sl with jobs := tset sl.jobs n j } := by simp [State.setJob, modSlot_of_some h]

theorem job?_setJob_self {k n : Nat} {j : Job} {sl : Slot} {s : State} (h : s.slot? k = some sl) :
    (s.setJob k n j).job? k n = some j := by simp [setJob_of_some h, State.job?]

/-- Loading a job's operands fills in its operands and its attributes only. -/
theorem loadOperands_same (s : State) (k : Nat) (sl : Slot) (j : Job) :
    (s.loadOperands k sl j).key = j.key ∧ (s.loadOperands k sl j).length = j.length ∧
      (s.loadOperands k sl j).param = j.param ∧ (s.loadOperands k sl j).random = j.random ∧
      (s.loadOperands k sl j).direct = j.direct := by
  unfold State.loadOperands; split <;> simp

/-- Counting an error of memory changes neither bytes nor marks. -/
theorem countError_mem (g off : Nat) (c : Bool) (s : State) :
    (s.countError g off c).mem.mem = s.mem.mem ∧ (s.countError g off c).mem.poisoned = s.mem.poisoned := by
  unfold State.countError
  constructor <;> (repeat' split) <;> simp

/-- A fold of steps that keep the bytes and the uncorrectable words keeps them. -/
theorem foldl_bytes {α : Type} (g : State → α → State)
    (h : ∀ s x, (g s x).mem.mem = s.mem.mem ∧ (g s x).mem.poisoned = s.mem.poisoned) (l : List α) :
    ∀ s, (l.foldl g s).mem.mem = s.mem.mem ∧ (l.foldl g s).mem.poisoned = s.mem.poisoned := by
  induction l with
  | nil => intro s; exact ⟨rfl, rfl⟩
  | cons x l ih => intro s; exact ⟨(ih _).1.trans (h s x).1, (ih _).2.trans (h s x).2⟩

/-- Reading a job's spans changes neither bytes nor uncorrectable words. -/
theorem readSpans_mem (k : Nat) (sl : Slot) (j : Job) (s : State) :
    (s.readSpans k sl j).mem.mem = s.mem.mem ∧ (s.readSpans k sl j).mem.poisoned = s.mem.poisoned := by
  unfold State.readSpans
  refine foldl_bytes _ (fun s p => ?_) _ _
  unfold State.correct
  exact foldl_bytes _ (fun s _ => countError_mem ..) _ _

/-- The engine of the head job of an awake group takes it: the job runs on the engine, computed, with the outcome of its
operation; the bytes of memory, Squirrel and the outputs stand. -/
theorem takeJob_waits {k n op e : Nat} {sl : Slot} {j : Job} {s : State} (f : Job → KeyRec → JobOut)
    (h : s.JobWaits k n op sl j e) :
    ∃ i, (s.takeJob k n op f).job? k n = some i ∧ ((s.takeJob k n op f).engine j.hedgehog e).running = some (k, n) ∧
      i.state = .running ∧ i.engine = e ∧ i.computed = true ∧
      (let o := f (s.loadOperands k sl j) (((s.loadOperands k sl j).key.map (·.record)).getD {})
       i.code = o.code ∧ i.output = o.out ∧ i.iterations = o.iterations ∧ i.secret = o.secret ∧ i.newKey = o.newKey ∧
        i.publicKey = o.publicKey) ∧
      (s.takeJob k n op f).mem.mem = s.mem.mem ∧ (s.takeJob k n op f).rng = s.rng ∧
      (s.takeJob k n op f).outputs = s.outputs := by
  obtain ⟨h1, h2, h3, h4, g, h5, h6, h7, h8, h9, h10⟩ := h
  unfold State.takeJob
  simp only [h1, h2, h5, h3, h4, h6, h7, h8, h9, ne_eq, not_true_eq_false, false_or, reduceCtorEq, if_false,
    Bool.false_eq_true]
  generalize hq : (s.setQueue j.hedgehog g (s.queue j.hedgehog g).tail) = s1
  have e2 : s1.mem = s.mem ∧ s1.rng = s.rng ∧ s1.outputs = s.outputs ∧ s1.host = s.host := by subst hq; simp
  generalize hs2 : s1.setEngine j.hedgehog e _ = s2
  have e3 : s2.mem = s.mem ∧ s2.rng = s.rng ∧ s2.outputs = s.outputs ∧ s2.host = s.host := by subst hs2; simp [e2]
  have e4 : (s2.engine j.hedgehog e).running = some (k, n) := by subst hs2; simp
  generalize hs3 : s2.readSpans k sl j = s3
  have e5 : s3.mem.mem = s.mem.mem ∧ s3.mem.poisoned = s.mem.poisoned := by
    subst hs3; rw [(readSpans_mem ..).1, (readSpans_mem ..).2, e3.1]; exact ⟨rfl, rfl⟩
  have e6 : s3.rng = s.rng ∧ s3.outputs = s.outputs ∧ s3.host = s.host ∧ s3.compute = s2.compute := by
    subst hs3; simp [e3]
  have hb : s3.badSpan? k sl j = none := by
    simpa only [State.badSpan?, State.poisonedAt, e5.2] using h10
  rw [hb]
  have hl : s3.loadOperands k sl j = s.loadOperands k sl j := by
    simp only [State.loadOperands, State.jobBytes, e5.1]
  simp only []
  rw [hl]
  let s4 : State := (match (s.loadOperands k sl j).key with | some kr => s3.commitUse kr | none => s3)
  let s5 : State := s4.setEngine j.hedgehog e { s4.engine j.hedgehog e with
    memory := (s.loadOperands k sl j).load (if (s1.engine j.hedgehog e).owner = some (s1.ownerOf sl) then
      (s1.engine j.hedgehog e).memory else []) }
  change ∃ i, (State.setJob k n _ s5).job? k n = some i ∧ ((State.setJob k n _ s5).engine _ _).running = _ ∧ _ ∧ _ ∧
    _ ∧ _ ∧ (State.setJob k n _ s5).mem.mem = _ ∧ (State.setJob k n _ s5).rng = _ ∧ (State.setJob k n _ s5).outputs = _
  have e7 : s4.mem.mem = s.mem.mem ∧ s4.rng = s.rng ∧ s4.outputs = s.outputs ∧ s4.host = s.host ∧
      s4.compute = s2.compute := by
    simp only [s4]; split <;> simp [e5, e6]
  have e8 : s5.mem.mem = s.mem.mem ∧ s5.rng = s.rng ∧ s5.outputs = s.outputs ∧ s5.host = s.host := by
    simp [s5, e7]
  have e9 : (s5.engine j.hedgehog e).running = some (k, n) := by
    simp only [s5, engine_setEngine_self]
    simp only [State.engine, State.engines, e7.2.2.2.2]; exact e4
  have hsl : s5.slot? k = some sl := by rw [State.slot?, e8.2.2.2]; exact h1
  refine ⟨_, job?_setJob_self hsl, ?_, rfl, rfl, rfl, ⟨rfl, rfl, rfl, rfl, rfl, rfl⟩, ?_⟩
  · rw [setJob_of_some hsl]
    simp only [State.engine, State.engines, State.setSlot]; exact e9
  · rw [setJob_of_some hsl]; simp [e8]

/-- A command that has an engine take a waiting job takes it with the outcome of its operation. -/
theorem takes_of {k n op e : Nat} {sl : Slot} {j : Job} {s : State} {c : Instr} (f : Job → KeyRec → JobOut) {o : JobOut}
    (h : s.JobWaits k n op sl j e) (hc : exec c s = .next (s.takeJob k n op f))
    (ho : f (s.loadOperands k sl j) (((s.loadOperands k sl j).key.map (·.record)).getD {}) = o) :
    Takes c s k n e j o := by
  obtain ⟨i, a1, a2, a3, a4, a5, a6, a7⟩ := takeJob_waits f h
  rw [ho] at a6
  exact ⟨_, i, hc, a2, a1, a3, a4, a5, a6.1, a6.2.1, a6.2.2.1, a6.2.2.2.1, a6.2.2.2.2.1, a6.2.2.2.2.2, a7⟩

/-- Table 1-4 admits an engine at every place that R359 lets a job name, and a gate decides a sealed access by it alone: no
gate refuses a piece of an engine's transfers. -/
theorem engine_admitted (s : State) (m k a kind : Nat) (sl : Slot) (h0 : 0x70 ≤ m) (h1 : m < 0xA0) (hk : k < 4096)
    (hq : sl.skulk.getD 0 < 24)
    (ha : (0x1000000 ≤ a ∧ a < 0x1080000) ∨ (0x2010000 ≤ a ∧ a < 0x2020000 ∧ kind ≠ accWrite)) :
    s.gateRefusal? m true (sl.jobCell k a).1 (sl.jobCell k a).2 kind = none := by
  have hr : ∀ t, s.rights m true t = rightEngine t := fun t => by
    have h2 : ¬ (16 ≤ m ∧ m < 112) := by omega
    simp [State.rights, h0, h1, h2, show m ≠ 0 by omega, show m ≠ 2 by omega, show m ≠ 3 by omega, show m ≠ 5 by omega,
      show m ≠ 6 by omega]
  rcases ha with ⟨a0, a1⟩ | ⟨a0, a1, a2⟩
  · have hg : sl.skulk.getD 0 / 4 < 6 := by omega
    simp only [State.gateRefusal?, hr, Slot.jobCell, show ¬ 0x2010000 ≤ a by omega, if_false]
    generalize sl.skulk.getD 0 / 4 = g at hg
    have ht : ∀ off, (rightEngine (targetOf (8 + g) off)).admits kind = true := fun off => by
      have : g = 0 ∨ g = 1 ∨ g = 2 ∨ g = 3 ∨ g = 4 ∨ g = 5 := by omega
      rcases this with rfl | rfl | rfl | rfl | rfl | rfl <;> simp only [targetOf] <;> (repeat' split) <;>
        simp_all [rightEngine, Right.admits, Right.rw]
    simp [ht]
  · simp only [State.gateRefusal?, hr, Slot.jobCell, a0, if_true, targetOf]
    have h : k * 0x20000 + (a - 0x2010000) < 0x20000000 := by omega
    simp only [h, if_true]
    simp [rightEngine, Right.admits, a2, Right.ro]

end Sys2Proof.Machine
end

