-- ==== Sys2Proof/WellFormed.lean ====
section
/-! DEFINITION. Which commands are well-formed: every number that names a unit, a register, a slot or a place names one
that the device has, and every field of fixed length has it. -/

namespace Sys2Proof

/-- A function: the den function or a cub (R34, R37). -/
def fnOk (f : Nat) : Bool := decide (f < Config.functions)
/-- An offset within the larger BAR0, of 32 MiB (R34). -/
def offOk (off : Nat) : Bool := decide (off < 0x2000000)
/-- An access of 1 to 4,096 bytes: the largest PCI Express request. -/
def sizeOk (n : Nat) : Bool := decide (1 ≤ n) && decide (n ≤ 4096)
/-- A device-wide slot (R21). -/
def slotOk (k : Nat) : Bool := decide (k < Config.slots)
/-- A transaction core. -/
def coreOk (c : Nat) : Bool := decide (c < Config.cores)
/-- A context frame of a skulk (R202). -/
def frameOk (f : Nat) : Bool := decide (f < 32)
/-- A Bear or Hedgehog engine. -/
def engineOk (hedgehog : Bool) (e : Nat) : Bool := decide (e < if hedgehog then Config.hedgehogs else Config.bears)
/-- A fault of an engine: 0 operand memory, 1 program store (R350). -/
def engineFaultOk (k : Nat) : Bool := decide (k < 2)
/-- A Quill port. -/
def portOk (p : Nat) : Bool := decide (p < Config.quillPorts)
/-- A Woodpecker unit. -/
def unitOk (n : Nat) : Bool := decide (n < 8)
/-- CRC_POLY_n, CRC_INIT_n or CRC_XOROUT_n. -/
def crcRegOk (r : Nat) : Bool := decide (r < 3)
/-- A burrow queue (Table 17-5). -/
def queueOk (q : Nat) : Bool := decide (q < 16)
/-- What a producer does at a burrow queue. -/
def burrowKindOk (k : Nat) : Bool := decide (k < 3)
/-- A pack link. -/
def linkOk (l : Nat) : Bool := decide (l < Config.packLinks)
/-- A lane of a pack link. -/
def laneOk (l : Nat) : Bool := decide (l < 2)
/-- A sequence number of a pack link, of 48 bits (Table 18-6). -/
def linkSeqOk (n : Nat) : Bool := decide (n < 2 ^ 48)
/-- An admission, epoch or lease request number, of 64 bits. -/
def seqOk (n : Nat) : Bool := decide (n < 2 ^ 64)
/-- An index of a ring of at most 4,096 entries. -/
def indexOk (i : Nat) : Bool := decide (i < 4096)
/-- The 64 bytes of a submission entry (Table 5-1). -/
def entryOk (b : Bytes) : Bool := b.length == 64
/-- The bytes of a result hash (R621). -/
def hashOk (b : Bytes) : Bool := b.length == 16
/-- The bytes of an epoch digest (R624). -/
def digestOk (b : Bytes) : Bool := b.length == 32
/-- A noise source. -/
def sourceOk (n : Nat) : Bool := decide (n < 2)
/-- The samples of a noise block (Table 10-1). -/
def samplesOk (b : Bytes) : Bool := b.length == 512
/-- A key of the Sett: a resident slot, or a persistent slot (Table 7-3). -/
def keyOk (k : Nat) : Bool := decide (k < 2 * Config.residentSlots)
/-- A light site. -/
def siteOk (n : Nat) : Bool := decide (n < 256)
/-- A temperature sensor. -/
def sensorOk (n : Nat) : Bool := decide (n < 8)
/-- A MONITOR number, of 10 bits (Table 15-9). -/
def monitorOk (m : Nat) : Bool := decide (m < 0x3FF)
/-- A lid input. -/
def lidOk (l : Nat) : Bool := decide (l < 4)
/-- A cell of the Torpor cartridge. -/
def cellOk (c : Nat) : Bool := decide (c < 2)
/-- The bytes of a cell's identity (R558). -/
def cellRawOk (b : Bytes) : Bool := b.length == 16
/-- A larder: of a skulk, or the sealed larder. -/
def larderOk (n : Nat) : Bool := decide (n < 25)
/-- What March C- finds in a region (Table 12-1). -/
def larderFaultOk (n : Nat) : Bool := decide (n < 3)
/-- A Badger gate. -/
def gateOk (g : Nat) : Bool := decide (g < 16)
/-- A master identity of the fabric. -/
def masterOk (m : Nat) : Bool := decide (m < 256)
/-- A read, a write or a fetch (Table 12-18). -/
def accessKindOk (k : Nat) : Bool := decide (k < 3)
/-- A piece of a fabric access: within one block of 64 bytes (R475). -/
def beatOk (n : Nat) : Bool := decide (1 ≤ n) && decide (n ≤ 64)
/-- A page of the persistent store: 32 MiB in pages of 256 bytes. -/
def pageOk (p : Nat) : Bool := decide (p < 131072)
/-- Who asks for a page commit (R464). -/
def commitSourceOk (n : Nat) : Bool := decide (n < 4)
/-- DOMAIN of PWR_REQUEST, of 6 bits (Table 19-7). -/
def domainOk (d : Nat) : Bool := decide (d < 64)
/-- An instruction of the IEEE 1149.1 port. -/
def jtagOk (c : Nat) : Bool := decide (c < 7)
/-- A link speed of Table 4-19. -/
def speedOk (v : Nat) : Bool := decide (1 ≤ v) && decide (v ≤ 5)
/-- A link width of Table 4-19. -/
def widthOk (w : Nat) : Bool := [1, 2, 4, 8, 16].contains w

/-- Whether a command is well-formed. -/
def wellFormed : Instr → Bool
  | .registerWrite fn off size _ | .regAccess fn off size _ | .rcRead fn off size =>
    fnOk fn && offOk off && sizeOk size
  | .lowHalfRead fn off | .lowHalfWrite fn off _ | .highHalfWrite fn off _ => fnOk fn && offOk off
  | .stageFullImage | .applyDelta | .discardStagedImage | .lodgeFetchDone _ _ | .lodgeFlashWriteDone _
  | .deltaCommit _ _ | .deltaQuiesceTimeout | .deltaPeerVerdict _ | .slotGrant | .d3hotEntry | .d0Entry
  | .ceremonyTimeout | .pfFlr | .vfEnableClear | .migTicketExpiry | .exerciseIntervalExpiry _ _ _ _ | .drbgGenerate
  | .randomDrawServed | .rngReseedAll | .pageCommitRetired | .pstoreFenceClose | .powerOn _ | .perstAssert
  | .pcieHotReset | .pcieLinkDown | .devReset _ | .lockstepMismatch | .boot _ _ _ _ _ | .holdupArmed | .fwStage _
  | .fwFlashWriteDone _ | .fwCommit | .fwExchange | .provision _ | .transition _ _ | .transitionComplete _
  | .testUnlock _ _ | .debugChallenge | .debugChallengeExpiry | .debugOpen _ | .debugQuiesced _
  | .debugQuiesceTimeout | .ownerRotate _ | .meshSample _ _ | .tamperResponseDone | .healthPeriodEnd
  | .calibrationSlot _ | .torporPowerOn | .torporChangeover _ | .owlEvent | .owlPageCommit | .owlFoldFlush
  | .evrRead _ _ | .checkpointExport _ _ | .auditKeys _ _ | .setTime | .pairingRetry | .syncQuiesced
  | .syncHoldTimeout | .gpio _ | .delta _ | .syncItem _ _ _ | .release _ _ _ _ _ | .epochBoundary | .resultTimeout
  | .leaseRenewal | .leaseExpiry | .leaseLapseTakeover _ _ | .packSwitch | .packSolo _ | .packWitnessChange _
  | .witnessHoldExpiry | .isolatedLinkFrame _ _ _ _ | .isolatedLinkLost | .lineUndervoltage _ | .lineOvervoltage _
  | .converterFault | .lineReturn | .pwrModeWrite _ | .pwrAlwaysOnWrite _ | .devGpioDirWrite _ | .devGpioOutWrite _
  | .powerRampDone | .syncItemsSent => true
  | .ringEnable fn | .ringDisable fn | .ringDrainDone fn | .sqTailWrite fn _ | .cqHeadWrite fn _
  | .fetchErrorClear fn | .pwForce fn | .progressWordWrite fn _ | .vfFlr fn | .drainSquash fn | .drainUndelivered fn
  | .resetComplete fn | .migFreezeTimeout fn | .configurationRequest fn _ _ => fnOk fn
  | .entryFetchDone slot data => slotOk slot && entryOk data
  | .entryFetchError slot | .commandInputRead slot _ _ _ _ | .completionWrite slot _ _ | .nop slot
  | .personalityQuery slot | .pinTranslate slot | .pinVerifyCompare slot | .pinVerifyOffset slot
  | .pinTranslateDukpt slot | .dukptMacVerify slot | .dukptDecrypt slot | .dukptInitialKey slot
  | .keyblockImport slot | .keyblockExport slot | .keyGenerate slot | .keyDelete slot | .keyCheckValue slot
  | .keyBindLegacy slot | .arqcVerify slot | .arpcGenerate slot | .emvSmMac slot | .emvSmEncrypt slot
  | .cvvGenerate slot | .cvvVerify slot | .macGenerate slot | .macVerify slot | .encrypt slot | .decrypt slot
  | .hash slot | .rsaSign slot | .rsaVerify slot | .rsaDecrypt slot | .ecdsaSign slot | .ecdsaVerify slot
  | .eddsaSign slot | .eddsaVerify slot | .ecdhDerive slot | .mldsaSign slot | .mldsaVerify slot | .mlkemEncaps slot
  | .mlkemDecaps slot | .slhdsaSign slot | .slhdsaVerify slot | .hybridSign slot | .hybridVerify slot
  | .hybridKem slot | .randomGet slot | .tsm3300Frame slot | .domainStatus slot | .domainWipe slot
  | .masterKeyLoad slot | .masterKeyGenerate slot | .masterKeyDelete slot | .masterKeyQuery slot
  | .keyEnterClear slot | .settStatus slot | .ceremonyOpen slot | .ceremonyPresent slot | .ceremonyStatus slot
  | .ceremonyClose slot | .custodianEnrol slot | .custodianRevoke slot | .custodianQuery slot | .cubReset slot
  | .cubFlush slot | .migIdentity slot | .migTicket slot | .migFreeze slot | .migSave slot | .migRestore slot
  | .migConclude slot | .migThaw slot | .migResume slot | .dirtyLogStart slot | .dirtyLogHarvest slot
  | .dirtyLogStop slot | .pairExercise slot _ _ _ _ | .missPenTimeout slot | .jobModmul slot _ | .jobModexp slot _
  | .jobModexpPub slot _ | .jobModinv slot _ | .jobRsaSign slot _ _ | .jobRsaDecrypt slot _ _ | .jobRsaVerify slot _
  | .jobRsaKeygen slot _ | .jobEcdsaSign slot _ | .jobEcdsaVerify slot _ | .jobEcdh slot _ | .jobEcKeygen slot _
  | .jobEddsaSign slot _ | .jobEddsaVerify slot _ | .jobMlkemKeygen slot _ | .jobMlkemEncaps slot _
  | .jobMlkemDecaps slot _ | .jobMldsaKeygen slot _ | .jobMldsaSign slot _ | .jobMldsaVerify slot _ => slotOk slot
  | .commandStart slot core frame | .extensionCommand slot core frame => slotOk slot && coreOk core && frameOk frame
  | .quillPresenceChange port _ | .quillAtr port _ | .quillBlockError port _ | .quillResponse port _
  | .ceremonyWaitExpiry port => portOk port
  | .ill core _ | .add core _ | .sub core _ | .and core _ | .or core _ | .xor core _ | .shl core _ | .shr core _
  | .sar core _ | .mul core _ | .mulhu core _ | .slt core _ | .sltu core _ | .cmpeq core _ | .csel core _
  | .ror core _ | .addi core _ | .andi core _ | .ori core _ | .xori core _ | .shli core _ | .shri core _
  | .sari core _ | .slti core _ | .sltiu core _ | .lui core _ | .insh core _ | .ld core _ | .lw core _ | .lh core _
  | .lb core _ | .st core _ | .sw core _ | .sh core _ | .sb core _ | .beq core _ | .bne core _ | .blt core _
  | .bge core _ | .bltu core _ | .bgeu core _ | .jal core _ | .jalr core _ | .extr core _ | .csrr core _
  | .csrw core _ | .fence core _ | .trap core _ | .eret core _ | .done core _ | .yield core _ | .ctpad core _
  | .ctpadRelease core | .hld core _ | .hmov core _ | .cblkMov core _ | .cblkXor core _ | .cblkAnd core _
  | .cblkZero core _ | .cblkLoad core _ | .cblkStore core _ | .cblkGetl core _ | .cblkGeth core _ | .cblkPutl core _
  | .cblkPuth core _ | .cblkRand core _ | .cblkEq core _ | .cblkMark core _ | .ciphEncrypt core _
  | .ciphDecrypt core _ | .pipeInit core _ | .pipeAbsorb core _ | .pipeFinal core _ | .pipeReset core _
  | .kres core _ | .hchk core _ | .kopRelease core _ | .kopInstall core _ | .kopDelete core _ | .engqSubmit core _
  | .engqPoll core _ | .engqAbort core _ | .owlev core _ | .decd core _ | .bswap core _
  | .unlistedFunctionCode core _ => coreOk core
  | .yieldResume slot core | .engqSubmitRetry slot core => slotOk slot && coreOk core
  | .keyRecordArrival key _ | .persistentCountWrite key => keyOk key
  | .engineJobDone hedgehog engine | .engineAbortCleared hedgehog engine => engineOk hedgehog engine
  | .engineFault hedgehog engine kind => engineOk hedgehog engine && engineFaultOk kind
  | .bearSwapRequest engine | .bearStoreExchange engine | .bearActiveWrite engine _ _ | .bearShadowWrite engine _ _ =>
    engineOk false engine
  | .noiseBlockTested source samples => sourceOk source && samplesOk samples
  | .larderTestSlot larder fault _ => larderOk larder && larderFaultOk fault
  | .fabricAccess master _ gate _ kind size _ _ _ =>
    masterOk master && gateOk gate && accessKindOk kind && beatOk size
  | .pageCommit page _ source => pageOk page && commitSourceOk source
  | .lightSample site _ | .canaryScan site _ => siteOk site
  | .temperatureSample sensor _ => sensorOk sensor
  | .voltageExcursion monitor _ | .clockExcursion monitor _ _ => monitorOk monitor
  | .lidSample lid _ _ => lidOk lid
  | .cellRemoved cell | .cellLow cell _ => cellOk cell
  | .cellInserted cell raw _ => cellOk cell && cellRawOk raw
  | .crcStart unit | .crcAliveRestart unit | .crcConfigWrite unit _ | .crcDataB unit _ | .crcDataH unit _
  | .crcDataW unit _ | .crcAlive unit _ => unitOk unit
  | .crcParameterWrite unit reg _ => unitOk unit && crcRegOk reg
  | .burrowWrite queue kind _ => queueOk queue && burrowKindOk kind
  | .burrowRead queue | .burrowFlush queue | .burrowPointerMismatch queue _ => queueOk queue
  | .pairingFrame link _ _ _ _ _ _ _ _ _ => linkOk link
  | .frameHeader link lane _ => linkOk link && laneOk lane
  | .dataFrame link seq ack _ _ | .retransmissionRequest link seq ack _ =>
    linkOk link && linkSeqOk seq && linkSeqOk ack
  | .idleFrame link ack _ => linkOk link && linkSeqOk ack
  | .admitRecord admission fn position _ _ => seqOk admission && fnOk fn && indexOk position
  | .draw admission _ | .state admission _ _ => seqOk admission
  | .doorbell fn tail head => fnOk fn && indexOk tail && indexOk head
  | .epoch epoch _ _ => seqOk epoch
  | .result admission hash => seqOk admission && hashOk hash
  | .digest epoch digest => seqOk epoch && digestOk digest
  | .leaseReq link request => linkOk link && seqOk request
  | .grant request => seqOk request
  | .idleGateExpiry domain | .gateComplete domain _ | .domainWakeDone domain _ | .pwrWake domain | .pwrGate domain
  | .pwrCancel domain | .deferredGate domain | .gateRequestTimeout domain => domainOk domain
  | .jtagInstruction code => jtagOk code
  | .pcieLinkUp speed width => speedOk speed && widthOk width

end Sys2Proof
end

