-- ==== Sys2Proof/Tests/Slice0.lean ====
section
/-! SUPPORT. Tests of the model: an ill-formed command for each check of WellFormed, worked examples of the specification,
and for every statement states and operands that meet the hypotheses of each of its clauses. -/

set_option linter.unusedVariables false
set_option maxRecDepth 20000
set_option Elab.async false

namespace Sys2Proof.Machine.Tests

/-! ## States -/

/-- A lodge with one pool of two skulks and one group of each engine, den, a cub of domain 5 and two personalities. -/
def lodge : Lodge :=
  { serial := 1, lcBinding := 0xFF,
    units := { skulkEnable := 0xFFFFFF, bearEnable := 0xFF, hedgehogEnable := 3, quillEnable := 15, packEnable := 3 },
    pools := [{ poolId := 0, slotCap := 512, skulkMask := 3, bearMask := 1, hedgehogMask := 1 }],
    functions := [{ fn := 0, poolId := 0xFF, domain := 0xFFFF, weight := 1, creditLimit := 64, persMask := 1 },
      { fn := 1, poolId := 0, flags := 3, domain := 5, weight := 100, creditLimit := 32, persMask := 7 }],
    domains := [{ domain := 5, flags := 0xFFFF, masterKeySlots := 8, quota := 100000, ceremonyM := 2, ceremonyN := 3 }],
    personalities := [{ persId := 0, kind := 1, programSet := 0xFFFF }, { persId := 1, kind := 2, programSet := 0xFFFF },
      { persId := 2, kind := 3, programSet := 9 }],
    programs := [{ setId := 9, entries := [{ opcode := 0x8000, codeEntry := 0 }], code := zeros 0x100 }],
    migration := some { nativeMig := true, freezeTimeoutMs := 1000 } }

/-- A ready device on which the lodge is in force. -/
def ready : State :=
  { State.reset with
    now := 192000000000,
    lodge.inForce := some lodge,
    host.linkUp := true,
    cub.numVfs := 8, cub.vfEnable := true,
    cub.fns := [(0, { busMaster := true, relaxed := false }), (1, { busMaster := true, relaxed := false })],
    sett.masterKey := some (zeros 32), sett.tableKey := some (zeros 32),
    rng.units := 4000, rng.started := true,
    rng.source0 := { state := .healthy, fresh := [List.replicate 512 7] },
    rng.source1 := { state := .healthy, fresh := [List.replicate 512 9] },
    rng.drbgs := (List.range 16).map fun i => (i, { state := DrbgState.running, requests := 1 }),
    boot.phase := .ready, boot.runningSvn := 3, boot.antiRollback := 2,
    antler.state := .production,
    tamper.productionRoot := some (zeros 32), tamper.auditRoot := some (zeros 32), tamper.torporPowered := true,
    power.powerGood := true, power.holdupArmed := true,
    power.domains := (List.range 36).map fun d => (d, { awake := true }) }

/-- An entry of an opcode, with PARAM bytes, IN_LENGTH and two handles, of keys 1 and 2. -/
def entry (op : Nat) (param : Bytes := []) (inLength : Nat := 0) : Entry :=
  { opcode := op, tag := 7, flags := 0x20, handles := [handleOf 1 1, handleOf 2 1, 0, 0], inLength := inLength,
    outLength := 0x1000, param := fit 16 param }

/-- A key record of domain 5 with a type and a usage, which may be exported wrapped. -/
def key (type : Nat) (usage : BitVec 16) (len : Nat := 32) : KeyRec :=
  { domain := 5, type := type, usage := usage, attrs := 2, material := zeros len }

/-- The command that a slot holds. -/
def slotOf (s : State) : Slot := (s.slot? 0).getD {}

/-- The ready device with a command in slot 0, keys 1 and 2 resident and cached, and the command's input. -/
def withCommand (sl : Slot) (a b : KeyRec := {}) (input : Bytes := []) : State :=
  { ready with
    host.slots := [(0, sl)],
    compute.cores := [(0, { slot := some 0 })],
    sett.keys := [(1, { record := some a }), (2, { record := some b })],
    sett.hot := [{ key := 1 }, { key := 2 }],
    mem.mem := memPutBytes [] (stagingAddr 0 0) input }

/-- A command of function 1 that runs on core 0, under a personality of a kind. -/
def native (e : Entry) (a b : KeyRec := {}) (input : Bytes := []) (kind : Nat := 1) : State :=
  withCommand { fn := 1, phase := .running, entry := e, pool := some 0, skulk := some 0, core := some 0, started := true,
                persKind := kind } a b input

/-- The state in which HANDLE0 has been resolved. -/
def one (s : State) : State := (s.resolveFrom 0 (s.domOf (slotOf s)) (slotOf s).entry [0]).2
/-- The state in which HANDLE0 and HANDLE1 have been resolved. -/
def both (s : State) : State := (s.resolveFrom 0 (s.domOf (slotOf s)) (slotOf s).entry [0, 1]).2
/-- The key register that the command in slot 0 holds for a handle. -/
def keyOf (s : State) (i : Nat) : KeyReg := ((s.slot? 0).bind fun x => x.keyAt? i).getD {}

/-- The same state with engine jobs of the command in slot 0. -/
def withJobs (l : Tbl Job) (s : State) : State := { s with host.slots := [(0, { slotOf s with jobs := l })] }

/-- A job that has ended well. -/
def jobDone : Job := { state := .done, group := some 0, direct := true, output := [1] }

/-- A den command that the sealed controller runs. -/
def den (op : Nat) (param : Bytes := []) (inLength : Nat := 0) (input : Bytes := []) : State :=
  withCommand { fn := 0, phase := .ready, entry := entry op param inLength } {} {} input

/-- Registers of a command program with values in general registers. -/
def regs (l : List (Nat × Word)) : Ctx := l.foldl (fun x p => x.setG p.1 p.2) {}

/-- An instruction word from its opcode and its fields in bits 25:21, 20:16 and 15:0. -/
def insn (op : Nat) (d a low : Nat := 0) : BitVec 32 := BitVec.ofNat 32 (op * 2 ^ 26 + d * 2 ^ 21 + a * 2 ^ 16 + low)

/-- A command of function 1 whose program, of one word, runs on core 0 in the program world or the host world. -/
def program (w : BitVec 32) (x : Ctx) (world : Bool := true) (a b : KeyRec := {}) : State :=
  { withCommand { fn := 1, phase := .running, entry := entry 0x8000, pool := some 0, skulk := some 0, core := some 0,
                  frame := some 0, setId := some 9, persKind := 3, started := true, programWorld := world, ctx := x } a b with
    lodge.inForce := some { lodge with
      programs := [{ setId := 9, sealedWorld := world, entries := [{ opcode := 0x8000 }], code := natLe 4 w.toNat }] } }

/-! ## Witnesses of the hypotheses of the statements -/

theorem witness_StepRunsTheFrontCommand :
    (∃ (c : Instr) (rest : List Instr) (s : State), s.pending = c :: rest) ∧
    (∃ (s : State), s.pending = []) :=
  ⟨⟨Instr.boot true true 0 none [], [], { ready with pending := [Instr.boot true true 0 none []] },
    by decide +kernel⟩,
   ⟨ready, by decide +kernel⟩⟩

theorem witness_EveryStepKeepsMemoryCanonical :
    (∃ (s : State) (t : State), s.MemWf ∧ step s = Host.Outcome.next t) :=
  ⟨ready, _, rfl, rfl⟩

theorem witness_CommandsLeaveTheQueueAndTimeAlone :
    (∃ (c : Instr) (s : State) (t : State), exec c s = Host.Outcome.next t) :=
  ⟨Instr.syncQuiesced, ready, _, rfl⟩

theorem witness_OnlyATransitionChangesTheLifeCycleState :
    (∃ (c : Instr) (s : State) (t : State), (∀ (w : Nat), c ≠ Instr.transitionComplete w) ∧ (∀ (f : Option (Bool ×
      Bytes)) (w : Nat), c ≠ Instr.testUnlock f w) ∧ (∀ (a b : Bool) (d : BitVec 3) (e : Option Nat) (f : List (Nat
      × Bytes)), c ≠ Instr.boot a b d e f) ∧ s.antler.phase ≠ LcPhase.copies ∧ exec c s = Host.Outcome.next t) :=
  ⟨Instr.syncQuiesced, ready, _, nofun, nofun, nofun, by decide +kernel, rfl⟩

theorem witness_RegisterReads :
    (∃ (f : Nat) (off : Nat) (size : Nat) (s : State), s.answers f off size = true ∧ rightSize f off size = false) ∧
    (∃ (f : Nat) (off : Nat) (s : State), s.answers f off 4 = true ∧ off % 4 = 0 ∧ wideAt f off = true ∧ s.readable
      f off = true) ∧
    (∃ (f : Nat) (off : Nat) (h : Reg) (s : State), s.answers f (off + 4) 4 = true ∧ off % 8 = 0 ∧ wideAt f off =
      true ∧ wideAt f (off + 4) = false ∧ s.readable f (off + 4) = true ∧ tget? s.host.hiLatch (regKey f off) = some
      h) ∧
    (∃ (f : Nat) (off : Nat) (s : State), s.answers f (off + 4) 4 = true ∧ off % 8 = 0 ∧ wideAt f off = true ∧
      wideAt f (off + 4) = false ∧ s.readable f (off + 4) = true ∧ tget? s.host.hiLatch (regKey f off) = none) ∧
    (∃ (i : Nat) (s : State), i < 4 ∧ s.answers 0 (10485792 + 4 * i) 4 = true ∧ s.readable 0 (10485792 + 4 * i) =
      true) :=
  ⟨⟨0, 0x400000, 4096, ready, by decide +kernel⟩,
   ⟨0, 0x400008, ready, by decide +kernel⟩,
   ⟨0, 0x400008, 77, { ready with host.hiLatch := [(regKey 0 0x400008, 77)] }, by decide +kernel⟩,
   ⟨0, 0x400008, ready, by decide +kernel⟩,
   ⟨3, ready, by decide +kernel⟩⟩

theorem witness_RegisterWrites :
    (∃ (f : Nat) (off : Nat) (lo : Reg) (s : State), off % 8 = 0 ∧ wideAt f off = true ∧ s.answers f off 8 = true ∧
      s.writable f off = true ∧ s.takesWide f off = true) ∧
    (∃ (f : Nat) (off : Nat) (lo : Reg) (hi : Reg) (s : State) (t : State), off % 8 = 0 ∧ wideAt f off = true ∧
      wideAt f (off + 4) = false ∧ s.answers f off 8 = true ∧ s.writable f off = true ∧ s.writable f (off + 4) =
      true ∧ exec (Instr.lowHalfWrite f off lo) s = Host.Outcome.next t) ∧
    (∃ (v : Word) (s : State), s.answers 0 4194312 8 = true ∧ s.writable 0 4194312 = true) ∧
    (∃ (hi : Reg) (s : State), s.answers 0 4194316 4 = true ∧ s.writable 0 4194316 = true ∧ tget? s.host.loBuffer
      (regKey 0 4194312) = none) ∧
    (∃ (v : Word) (s : State), s.answers 0 4194324 4 = true ∧ s.writable 0 4194324 = true) :=
  ⟨⟨0, 0x400008, 5, ready, by decide +kernel⟩,
   ⟨0, 0x400008, 5, 6, ready, _, by decide +kernel, by decide +kernel, by decide +kernel, by decide +kernel,
    by decide +kernel, by decide +kernel, rfl⟩,
   ⟨0x123456789, ready, by decide +kernel⟩,
   ⟨9, ready, by decide +kernel⟩,
   ⟨3, ready, by decide +kernel⟩⟩

theorem witness_RegistersThatDiscardWrites :
    (∃ (off : Nat) (size : Nat) (v : Word) (s : State), 7340032 ≤ off ∧ off < 8388608 ∧ rightSize 0 off size = true)
      ∧
    (∃ (f : Nat) (off : Nat) (size : Nat) (v : Word) (s : State), off ∈ [256, 260, 264, 272, 276, 280] ∧ rightSize f
      (ringOff f off) size = true ∧ (s.ring f).enabled = true) ∧
    (∃ (f : Nat) (off : Nat) (size : Nat) (v : Word) (s : State), off ∈ [8192, 8196] ∧ rightSize f (ringOff f off)
      size = true ∧ (s.ring f).pwEnable = true) :=
  ⟨⟨0x7FFFFC, 4, 1, ready, by decide +kernel⟩,
   ⟨1, 0x100, 8, 0x1000, { ready with host.rings := [(1, { enable := true, enabled := true })] }, by decide +kernel⟩,
   ⟨1, 0x2000, 4, 0x1000, { ready with host.rings := [(1, { pwEnable := true })] }, by decide +kernel⟩⟩

/-- The ready device with a ring pair of function 1. -/
def ringed (r : Ring) : State := { ready with host.rings := [(1, r)] }
/-- An enabled ring pair with one entry posted. -/
def posted : Ring := { enable := true, enabled := true, sqTail := 1 }

theorem witness_RingControlAndProgressWords :
    (∃ (f : Nat) (s : State), s.ringShown f = true ∧ (s.ring f).enabled = false) ∧
    (∃ (f : Nat) (s : State), s.ringShown f = true ∧ (s.ring f).enabled = true) ∧
    (∃ (f : Nat) (s : State), (s.ring f).enabled = true ∧ (s.ring f).enable = false ∧ s.slotsOf f = [] ∧
      ∀ d ∈ s.host.due, d.fn ≠ f) ∧
    (∃ (f : Nat) (s : State), s.slotsOf f ≠ []) ∧
    (∃ (f : Nat) (s : State), s.slotsOf f = [] ∧ ∃ d ∈ s.host.due, d.fn = f) ∧
    (∃ (f : Nat) (s : State), s.pwDue f = true ∧ (s.fnSt f).busMaster = true ∧ (s.fnSt f).dirty = none) ∧
    (∃ (f : Nat) (ok : Bool) (s : State), s.pwDue f = true ∧ ok = true ∧ (s.fnSt f).busMaster = false) ∧
    (∃ (f : Nat) (ok : Bool) (s : State), (s.ring f).pwEnable = false) :=
  ⟨⟨1, ready, by decide +kernel⟩, ⟨1, ringed posted, by decide +kernel⟩,
   ⟨1, ringed { enabled := true }, by decide +kernel⟩,
   ⟨1, { ready with host.slots := [(0, { fn := 1 })] }, by decide +kernel⟩,
   ⟨1, { ready with host.due := [{ fn := 1 }] }, by decide +kernel⟩,
   ⟨1, ringed { pwEnable := true, pwForce := true }, by decide +kernel⟩,
   ⟨1, true, { ringed { pwEnable := true, pwForce := true } with cub.fns := [] }, by decide +kernel⟩,
   ⟨1, true, ready, by decide +kernel⟩⟩

theorem witness_DoorbellsAreChecked :
    (∃ (f : Nat) (v : Reg) (s : State), s.ringShown f = true ∧ s.leads = false ∧ (s.ring f).enabled = true ∧
      v.toNat % 4096 < (s.ring f).sqSize) ∧
    (∃ (f : Nat) (v : Reg) (s : State), s.ringShown f = true ∧ (s.ring f).enabled = true ∧
      (s.ring f).sqSize ≤ v.toNat % 4096) ∧
    (∃ (f : Nat) (v : Reg) (s : State), s.ringShown f = true ∧ (s.ring f).enabled = false) ∧
    (∃ (f : Nat) (v : Reg) (s : State), s.ringShown f = true ∧ s.leads = false ∧ s.host.due = [] ∧
      s.lodge.ctl.phase ≠ .commit ∧ v.toNat % 4096 < (s.ring f).cqSize ∧
      ((v.toNat % 4096 : Nat) - ((s.ring f).cqHead : Int)) % (s.ring f).cqSize
        ≤ (((s.ring f).cqWrite : Int) - (s.ring f).cqHead) % (s.ring f).cqSize) ∧
    (∃ (f : Nat) (v : Reg) (s : State), s.ringShown f = true ∧ s.leads = false ∧ v.toNat % 4096 < (s.ring f).cqSize ∧
      ¬ ((v.toNat % 4096 : Nat) - ((s.ring f).cqHead : Int)) % (s.ring f).cqSize
        ≤ (((s.ring f).cqWrite : Int) - (s.ring f).cqHead) % (s.ring f).cqSize) :=
  ⟨⟨1, 15, ringed posted, by decide +kernel⟩, ⟨1, 16, ringed posted, by decide +kernel⟩,
   ⟨1, 0, ready, by decide +kernel⟩,
   ⟨1, 15, ringed { cqHead := 15, cqWrite := 15 }, by decide +kernel⟩,
   ⟨1, 5, ringed { cqHead := 100, cqWrite := 100 }, by decide +kernel⟩⟩

/-- A ring pair that stands as after reset makes its function not eligible. -/
theorem eligible_of_reset_ring {s : State} {f : Nat} (h : s.ring f = {}) : s.eligible f = false := by
  unfold State.eligible
  rw [h]
  cases s.fnRec? f <;> simp

/-- Where one ring pair alone is in use, what is noted of the eligible cubs is noted of that one. -/
theorem noted_of_one_ring {s : State} {a : Nat} {r : Ring} (h : s.host.rings = [(a, r)])
    (ha : a = 0 ∨ r.wasEligible = s.eligible a) : ∀ f, f ≠ 0 → (s.ring f).wasEligible = s.eligible f := by
  intro f hf
  by_cases e : a = f
  · subst e
    rcases ha with rfl | ha
    · exact absurd rfl hf
    · rw [← ha]; simp [State.ring, h, tget, tget?]
  · have hr : s.ring f = {} := by simp [State.ring, h, tget, tget?, e]
    rw [eligible_of_reset_ring hr, hr]

theorem tget?_of_mem {α : Type} (v : α) (j : Nat) :
    ∀ l : List Nat, j ∈ l → tget? (l.map fun i => (i, v)) j ≠ none
  | i :: l, h => by
    by_cases e : i = j
    · simp [tget?, e]
    · simpa [tget?, e] using tget?_of_mem v j l (by simpa [Ne.symm e] using h)

/-- Function 1 eligible, and noted to be so; and the same on a device whose 4,096 slots are held. -/
def oneEligible : State := ringed { posted with wasEligible := true }
def allHeld : State := { ready with
  host.rings := [(0, posted)], host.slots := (List.range 4096).map fun i => (i, { fn := 2 }) }

theorem witness_SlotGrantFollowsStrideArbitration :
    (∃ (k : Nat) (s : State), (∀ f, f ≠ 0 → (s.ring f).wasEligible = s.eligible f) ∧ s.LowestFree k ∧
      s.eligible 0 = true) ∧
    (∃ (k f : Nat) (fr : FunctionRec) (s : State), (∀ f, f ≠ 0 → (s.ring f).wasEligible = s.eligible f) ∧
      s.LowestFree k ∧ s.eligible 0 = false ∧ s.cubs.Pairwise (· < ·) ∧ f ∈ s.cubs ∧ s.eligible f = true ∧
      (∀ g ∈ s.cubs, s.eligible g = true → (g < f → ((s.ring f).vt - (s.ring g).vt).msb = true) ∧
        (f < g → ((s.ring g).vt - (s.ring f).vt).msb = false)) ∧ s.fnRec? f = some fr) ∧
    (∃ (s : State), (∀ f, f ≠ 0 → (s.ring f).wasEligible = s.eligible f) ∧ s.eligible 0 = true ∧
      ∀ j, j < 4096 → s.slot? j ≠ none) ∧
    (∃ (s : State), (∀ f, f ≠ 0 → (s.ring f).wasEligible = s.eligible f) ∧ s.eligible 0 = false ∧
      ∀ f ∈ s.cubs, s.eligible f = false) :=
  ⟨⟨0, { ready with host.rings := [(0, posted)] }, noted_of_one_ring rfl (.inl rfl),
     ⟨by decide, rfl, nofun⟩, by decide +kernel⟩,
   ⟨0, 1, _, oneEligible, noted_of_one_ring rfl (.inr (by decide +kernel)), ⟨by decide, rfl, nofun⟩,
    by decide +kernel, by decide +kernel, by decide +kernel, by decide +kernel, by decide +kernel, rfl⟩,
   ⟨allHeld, noted_of_one_ring rfl (.inl rfl), by decide +kernel,
    fun j hj => tget?_of_mem _ j _ (List.mem_range.mpr hj)⟩,
   ⟨ringed {}, noted_of_one_ring rfl (.inr (by decide +kernel)), by decide +kernel⟩⟩

/-- A submission entry of NOP with input and output lengths, and the device whose slot 0 fetches it for a function. -/
def nopEntry (tag inLength : Nat) : Bytes :=
  natLe 2 1 ++ natLe 1 tag ++ zeros 29 ++ natLe 4 inLength ++ natLe 4 64 ++ zeros 24
def fetching (f : Nat) (l : Tbl Slot := []) : State :=
  { ready with host.slots := (0, { fn := f, pool := some 0 }) :: l }

theorem witness_FetchedEntriesAreAdmitted :
    (∃ (k f i g : Nat) (p : Option Nat) (data : Bytes) (s : State),
      s.slot? k = some { fn := f, ringIndex := i, grant := g, pool := p } ∧ s.oldestFetch? f = some k ∧
      s.admitting = true ∧ s.fnHeld f = false ∧ s.leads = false ∧
      ∃ x ∈ s.slotsOf f, x.1 ≠ k ∧ x.2.phase ≠ .fetching ∧ x.2.entry.tag = (parseEntry data).tag) ∧
    (∃ (st : Status) (data : Bytes) (s : State), s = fetching 1 ∧ s.oldestFetch? 1 = some 0 ∧ s.admitting = true ∧
      s.fnHeld 1 = false ∧ s.leads = false ∧ s.slotsOf 1 = [(0, { fn := 1, pool := some 0 })] ∧
      s.entryChecks 1 (parseEntry data) = .inl st) ∧
    (∃ (sel : Selected) (data : Bytes) (s : State), s = fetching 0 ∧ s.oldestFetch? 0 = some 0 ∧ s.admitting = true ∧
      s.fnHeld 0 = false ∧ s.leads = false ∧ s.slotsOf 0 = [(0, { fn := 0, pool := some 0 })] ∧
      s.entryChecks 0 (parseEntry data) = .inr sel ∧ (s.fnRec? 0).map (·.poolId) = some 0xFF ∧
      65536 < (parseEntry data).inLength) ∧
    (∃ (sel : Selected) (data : Bytes) (s : State), s = fetching 0 ∧ s.entryChecks 0 (parseEntry data) = .inr sel ∧
      (parseEntry data).inLength ≤ 65536 ∧ (parseEntry data).outLength ≤ 65536 ∧ nativeLength (parseEntry data) = true ∧
      (parseEntry data).noInput = true) ∧
    (∃ (sel : Selected) (fr : FunctionRec) (q : Nat) (data : Bytes) (s : State), s = fetching 1 ∧
      s.entryChecks 1 (parseEntry data) = .inr sel ∧ isAdmin (parseEntry data).opcode = false ∧
      s.fnRec? 1 = some fr ∧ fr.poolId ≠ 0xFF ∧ q ∈ s.poolSkulks fr.poolId ∧ s.awake q = true ∧
      s.gatePending q = false ∧ s.routed q < 32 ∧
      (∀ x ∈ s.poolSkulks fr.poolId, s.awake x = true → s.gatePending x = false →
         (x < q → s.routed q < s.routed x) ∧ s.routed q ≤ s.routed x) ∧
      (parseEntry data).inLength ≤ 65536 ∧ (parseEntry data).outLength ≤ 65536 ∧
      nativeLength (parseEntry data) = true) ∧
    (∃ (k : Nat) (sl : Slot) (s : State), s.slot? k = some sl ∧ sl.phase = .fetching ∧ sl.cancelled = true) ∧
    (∃ (k : Nat) (sl : Slot) (s : State), s.slot? k = some sl ∧ sl.phase = .fetching ∧ sl.cancelled = false ∧
      s.oldestFetch? sl.fn = some k ∧ s.admitting = false) ∧
    (∃ (k : Nat) (sl : Slot) (s : State), s.slot? k = some sl ∧ sl.phase = .fetching ∧ sl.cancelled = false ∧
      s.oldestFetch? sl.fn = some k ∧ s.fnHeld sl.fn = true) ∧
    (∃ (k j : Nat) (sl x : Slot) (s : State), s.slot? k = some sl ∧ sl.phase = .fetching ∧ sl.cancelled = false ∧
      s.oldestFetch? sl.fn = some k ∧ j ≠ k ∧ s.slot? j = some x ∧ x.fn = sl.fn ∧ x.phase = .fetching) :=
  ⟨⟨0, 1, 0, 0, some 0, nopEntry 7 0, fetching 1 [(1, { fn := 1, phase := .ready, entry := { tag := 7 } })], rfl,
    by decide +kernel⟩,
   ⟨0x0102, natLe 2 0x7777 ++ zeros 62, _, rfl, by decide +kernel⟩,
   ⟨{ flags := nativeFlags 1 }, nopEntry 7 65537, _, rfl, by decide +kernel⟩,
   ⟨{ flags := nativeFlags 1 }, nopEntry 7 0, _, rfl, by decide +kernel⟩,
   ⟨{ flags := nativeFlags 1 }, _, 0, nopEntry 7 0, _, rfl, by decide +kernel, by decide +kernel, rfl,
    by decide +kernel⟩,
   ⟨0, _, { ready with host.slots := [(0, { fn := 1, cancelled := true })] }, rfl, rfl, rfl⟩,
   ⟨0, _, { fetching 1 with antler.phase := .quiescing }, rfl, by decide +kernel⟩,
   ⟨0, _, { fetching 1 with cub.fns := [(1, { mig := .frozen })] }, rfl, by decide +kernel⟩,
   ⟨0, 1, _, _, fetching 1 [(1, { fn := 1, grant := 1 })], rfl, rfl, rfl, by decide +kernel, by decide, rfl, rfl, rfl⟩⟩

/-- Function 1 with an admitted command, and with one that has ended on an enabled ring pair. -/
def admittedSlot (e : Entry) : State := { ready with host.slots := [(0, { fn := 1, phase := .admitted, entry := e })] }
def endedSlot (e : Entry) (r : Ring := { enabled := true }) : State :=
  { ready with host.slots := [(0, { fn := 1, phase := .ended, entry := e, result := [1, 2], outList := [(0x1000, 64)] })],
               host.rings := [(1, r)] }

theorem witness_InputAndCompletion :
    (∃ (k : Nat) (a : Bytes) (sl : Slot) (s : State), s.slot? k = some sl ∧ sl.phase = .admitted ∧
      s.pair.phase ≠ .standby ∧ s.leads = false ∧ sl.entry.inSgl = true ∧
      scatterList? sl.entry.inAddr sl.entry.inLength a = none) ∧
    (∃ (k : Nat) (b : Bytes) (l : List (Nat × Nat)) (sl : Slot) (s : State), s.slot? k = some sl ∧
      sl.phase = .admitted ∧ s.pair.phase ≠ .standby ∧ s.leads = false ∧ sl.entry.inSgl = false ∧
      sl.entry.outSgl = true ∧ scatterList? sl.entry.outAddr sl.entry.outLength b = some l) ∧
    (∃ (k : Nat) (l : List (Nat × Nat)) (sl : Slot) (s : State), s.slot? k = some sl ∧ sl.phase = .admitted ∧
      s.pair.phase ≠ .standby ∧ s.leads = false ∧ sl.entry.inSgl = false ∧ sl.entry.inLength = 0x10000 ∧
      (if sl.entry.outSgl then scatterList? sl.entry.outAddr sl.entry.outLength [] else some []) = some l) ∧
    (∃ (k : Nat) (b : Bytes) (s : State), s.stagingWalls = false ∧ b.length = 3) ∧
    (∃ (k : Nat) (sl : Slot) (s : State), s.slot? k = some sl ∧ s.completable k sl = true ∧ s.leads = false ∧
      s.stagingWalls = false ∧ (s.fnSt sl.fn).busMaster = true ∧ sl.entry.outSgl = false ∧
      sl.entry.outLength ≠ 0 ∧ sl.result ≠ []) ∧
    (∃ (k : Nat) (sl : Slot) (s : State), s.slot? k = some sl ∧ s.completable k sl = true ∧ s.leads = false ∧
      s.stagingWalls = false ∧ (s.fnSt sl.fn).busMaster = true ∧ sl.entry.outSgl = true) ∧
    (∃ (k : Nat) (sl : Slot) (s : State), s.slot? k = some sl ∧ s.completable k sl = true ∧ s.leads = false ∧
      s.stagingWalls = false ∧ (s.fnSt sl.fn).busMaster = false) ∧
    (∃ (k : Nat) (sl : Slot) (s : State), s.slot? k = some sl ∧ ((s.ring sl.fn).cqWrite + 1) %
      (s.ring sl.fn).cqSize = (s.ring sl.fn).cqHead) :=
  ⟨⟨0, [], _, admittedSlot { flags := 1, inLength := 16 }, rfl, by decide +kernel⟩,
   ⟨0, natLe 8 0x5000 ++ natLe 4 64 ++ zeros 4, [(0x5000, 64)], _, admittedSlot { flags := 2, outLength := 64 }, rfl,
    by decide +kernel⟩,
   ⟨0, [], _, admittedSlot { inLength := 0x10000 }, rfl, by decide +kernel⟩,
   ⟨4095, [1, 2, 3], ready, by decide +kernel⟩,
   ⟨0, _, endedSlot { outLength := 8 }, rfl, by decide +kernel⟩,
   ⟨0, _, endedSlot { outLength := 8, flags := 2 }, rfl, by decide +kernel⟩,
   ⟨0, _, { endedSlot { outLength := 8 } with cub.fns := [] }, rfl, by decide +kernel⟩,
   ⟨0, _, endedSlot {} { cqHead := 0, cqWrite := 15 }, rfl, by decide +kernel⟩⟩

/-- A command ready for a core of skulk 0, which the program set 9 serves or a built-in set; and a part of a stream. -/
def readySlot (sl : Slot) (streams : List StreamCtx := []) : State :=
  { ready with host.slots := [(0, { sl with fn := 1, phase := .ready, skulk := some 0 })], host.streams := streams }
def partOf (part : Nat) : Slot :=
  { entry := { opcode := 0x5005, flags := BitVec.ofNat 16 (part * 4), param := 0x20 :: zeros 15 } }

theorem witness_CommandStartsOnACore :
    (∃ (k c f : Nat) (sl : Slot) (s : State), s.slot? k = some sl ∧ sl.skulk = some (c / 4) ∧ sl.phase = .ready ∧
      s.coreFree c = true ∧ s.frameFree (c / 4) f = true ∧ s.resumeWaits (c / 4) = false ∧
      sl.entry.streamPart = 0 ∧ sl.persKind = 3 ∧ sl.setId.isSome = true) ∧
    (∃ (p : ProgramSet) (e : ProgramEntry) (sl : Slot) (s : State), s.slot? 0 = some sl ∧
      sl.setId.bind s.program? = some p ∧ p.entries.find? (·.opcode == sl.entry.opcode) = some e) ∧
    (∃ (k c f : Nat) (sl : Slot) (s : State), s.slot? k = some sl ∧ sl.skulk = some (c / 4) ∧ sl.phase = .ready ∧
      s.coreFree c = true ∧ s.frameFree (c / 4) f = true ∧ s.resumeWaits (c / 4) = false ∧ sl.entry.streamPart = 1 ∧
      s.streamable sl = true ∧ sl.streamClash = false ∧ s.stream? sl = none ∧ s.openStreams sl.fn < 64) ∧
    (∃ (k c f : Nat) (sl : Slot) (y : StreamCtx) (s : State), s.slot? k = some sl ∧ sl.skulk = some (c / 4) ∧
      sl.phase = .ready ∧ s.coreFree c = true ∧ s.frameFree (c / 4) f = true ∧ s.resumeWaits (c / 4) = false ∧
      2 ≤ sl.entry.streamPart ∧ s.streamable sl = true ∧ sl.streamClash = false ∧ s.stream? sl = some y ∧
      y.alg = sl.entry.p 0 ∧ y.handle = sl.entry.handle 0 ∧ y.handleCount = 0) ∧
    (∃ (k c f : Nat) (sl : Slot) (s : State), s.slot? k = some sl ∧ sl.skulk = some (c / 4) ∧ sl.phase = .ready ∧
      s.coreFree c = true ∧ s.frameFree (c / 4) f = true ∧ s.resumeWaits (c / 4) = false ∧ sl.jobs = [] ∧
      sl.started = false ∧ sl.storeRefused = false ∧ sl.legacy = none ∧ sl.persKind ≠ 2 ∧ s.leads = false ∧
      s.pair.phase ≠ .standby ∧ sl.entry.streamPart = 1 ∧ s.streamable sl = true ∧ sl.streamClash = false ∧
      s.stream? sl = none ∧ 64 ≤ s.openStreams sl.fn) ∧
    (∃ (k c f : Nat) (sl : Slot) (s : State), s.slot? k = some sl ∧ sl.skulk = some (c / 4) ∧ sl.phase = .ready ∧
      s.coreFree c = true ∧ s.frameFree (c / 4) f = true ∧ s.resumeWaits (c / 4) = false ∧ sl.jobs = [] ∧
      sl.started = false ∧ sl.storeRefused = false ∧ sl.legacy = none ∧ sl.persKind ≠ 2 ∧ s.leads = false ∧
      s.pair.phase ≠ .standby ∧ sl.entry.streamPart ≠ 0 ∧ s.streamable sl = false) ∧
    (∃ (k c : Nat) (sl : Slot) (s : State), s.slot? k = some sl ∧ sl.skulk = some (c / 4) ∧ sl.phase = .resume ∧
      sl.started = true ∧ s.awake (domSkulk (c / 4)) = true ∧ (s.core c).stopped = false ∧ (s.core c).slot = none) :=
  ⟨⟨0, 0, 0, _, readySlot { persKind := 3, setId := some 9 }, rfl, by decide +kernel⟩,
   ⟨_, _, _, readySlot { setId := some 9, entry := { opcode := 0x8000 } }, rfl, rfl, rfl⟩,
   ⟨0, 3, 31, _, readySlot (partOf 1), rfl, by decide +kernel⟩,
   ⟨0, 0, 0, _, { fn := 1, alg := 0x20 }, readySlot (partOf 3) [{ fn := 1, alg := 0x20 }], rfl, by decide +kernel⟩,
   ⟨0, 0, 0, _, readySlot (partOf 1) ((List.range 64).map fun i => { fn := 1, streamId := 1#32 + BitVec.ofNat 32 i }), rfl,
    by decide +kernel⟩,
   ⟨0, 0, 0, _, readySlot { entry := { opcode := 1, flags := 4 } }, rfl, by decide +kernel⟩,
   ⟨0, 3, _, { ready with host.slots := [(0, { fn := 1, phase := .resume, skulk := some 0, started := true })] }, rfl,
    by decide +kernel⟩⟩

theorem witness_CommandEndsWithItsOutcome :
    (∃ (k : Nat) (sl : Slot) (st : Status) (s : State), s.slot? k = some sl ∧ sl.phase ≠ .ended ∧
      (∀ e ∈ sl.jobs, e.2.state.terminal = true) ∧ sl.storeRefused = false ∧ sl.legacy = none ∧ sl.persKind ≠ 2 ∧
      s.leads = false ∧ s.pair.phase ≠ .standby ∧ sl.core = some 0 ∧ sl.skulk = some 0 ∧ sl.frame = some 31 ∧
      st ≠ 0 ∧ st.toNat / 256 = 2) ∧
    (∃ (k : Nat) (sl : Slot) (s : State), s.slot? k = some sl ∧ sl.phase ≠ .ended ∧ sl.frame = none ∧
      resultFits sl.entry.outLength 16 = true ∧ resultFits sl.entry.outLength 17 = false) :=
  ⟨⟨0, _, 0x0203, { ready with host.slots := [(0, { fn := 1, phase := .running, core := some 0, skulk := some 0,
                                                    frame := some 31, jobs := [(4, jobDone)] })] }, rfl, by decide +kernel⟩,
   ⟨0, _, { ready with host.slots := [(0, { fn := 1, phase := .running })] }, rfl, by decide +kernel⟩⟩

/-- A command that runs a built-in program in a state, of which P holds; and one whose first, or first two, handles
resolve besides, with P of the key registers. -/
def Serves (s : State) (op : Nat) (P : Slot → Prop) : Prop := ∃ k sl, s.RunsNative k op sl ∧ P sl
def OneKey (s : State) (op : Nat) (P : Slot → KeyReg → Prop) : Prop :=
  ∃ k sl a t, s.RunsNative k op sl ∧ s.Resolves k sl a t ∧ P sl a
def TwoKeys (s : State) (op : Nat) (P : Slot → KeyReg → KeyReg → Prop) : Prop :=
  ∃ k sl a b t, s.RunsNative k op sl ∧ s.ResolvesBoth k sl a b t ∧ P sl a b

theorem runs_native {s : State} {op : Nat} (h : s.slot? 0 = some (slotOf s) ∧ (slotOf s).runsNative 1 op = true ∧
    nativeLength (slotOf s).entry = true ∧ (slotOf s).legacy = none ∧ (slotOf s).pool.isNone = false ∧
    s.mem.poisoned = [] ∧ s.mem.flipped = []) : s.RunsNative 0 op (slotOf s) := by
  obtain ⟨h1, h2, h3, h4, h5, h6, h7⟩ := h
  refine ⟨h1, h2, h3, h4, fun e => ?_, fun _ => ?_⟩
  · rw [e] at h5; cases h5
  · simp [State.Sound, h6, h7]

theorem serves {s : State} {op : Nat} {P : Slot → Prop} (h : s.RunsNative 0 op (slotOf s)) (p : P (slotOf s)) :
    Serves s op P := ⟨0, _, h, p⟩

theorem one_key {s : State} {op : Nat} {P : Slot → KeyReg → Prop} (h : s.RunsNative 0 op (slotOf s))
    (r : (s.resolveFrom 0 (s.domOf (slotOf s)) (slotOf s).entry [0]).1 = true ∧
      (((one s).slot? 0).bind fun x => x.keyAt? 0) = some (keyOf (one s) 0))
    (p : P (slotOf s) (keyOf (one s) 0)) : OneKey s op P :=
  ⟨0, _, _, one s, h, ⟨Prod.ext r.1 rfl, r.2⟩, p⟩

theorem two_keys {s : State} {op : Nat} {P : Slot → KeyReg → KeyReg → Prop} (h : s.RunsNative 0 op (slotOf s))
    (r : (s.resolveFrom 0 (s.domOf (slotOf s)) (slotOf s).entry [0, 1]).1 = true ∧
      (((both s).slot? 0).bind fun x => x.keyAt? 0) = some (keyOf (both s) 0) ∧
      (((both s).slot? 0).bind fun x => x.keyAt? 1) = some (keyOf (both s) 1))
    (p : P (slotOf s) (keyOf (both s) 0) (keyOf (both s) 1)) : TwoKeys s op P :=
  ⟨0, _, _, _, both s, h, ⟨Prod.ext r.1 rfl, r.2.1, r.2.2⟩, p⟩

/-- The same device under a lodge whose domain 5 permits neither TDES nor export. -/
def strict (s : State) : State :=
  { s with lodge.inForce := some { lodge with domains := [{ domain := 5, flags := 0xFFFC, quota := 100000 }] } }

def sNop : State := native (entry 1)
def sPersonality : State := native (entry 2 [15])
def sHash : State := native (entry 0x5005 [0x20])
def sRandom : State := native (entry 0x7001 [1])
/-- Every instance has stopped, and the output queue is empty. -/
def sStopped : State := { sRandom with
  rng.units := 0, rng.drbgs := (List.range 16).map fun i => (i, { state := DrbgState.stopped }) }
/-- A legacy frame of a command code, with its CRC (R193). -/
def frame (code : Nat) (len : Nat := 0) : Bytes :=
  let f := natBe 2 0x33A5 ++ natBe 2 code ++ zeros 3 ++ natLe 1 len ++ zeros 118
  f ++ natBe 2 (crc16 f)
def sLegacy (input : Bytes) : State := native (entry 0x3300 [] 128) {} {} input 2
/-- The frame of a command whose native form has read a key. -/
def sAnswered : State :=
  let s := native (entry 0x3300 [] 128) (key 5 1) {} (frame 0x30) 2
  { s with host.slots := [(0, { slotOf s with
      legacy := some { frame := frame 0x30, entry := { entry 0x3005 [8] with flags := 0x10 } } })] }

/-- A TSM-3300 frame in slot 0 that has just come, of a code and a number of data bytes. -/
def Framed (s : State) (P : Slot → Nat → Prop) : Prop :=
  ∃ k sl, s.slot? k = some sl ∧ sl.runsNative 2 0x3300 = true ∧ sl.jobs = [] ∧ sl.storeRefused = false ∧
    s.leads = false ∧ s.pair.phase ≠ .standby ∧ sl.legacy = none ∧ sl.entry.inLength = 128 ∧
    paramZero sl.entry [] = true ∧ 128 ≤ sl.entry.outLength ∧ s.Sound 3 (k * 0x20000) 128 ∧
    P sl (beNat (slice (s.inputOf k sl) 2 2))

theorem framed {s : State} {P : Slot → Nat → Prop} (h : s.slot? 0 = some (slotOf s) ∧
    (slotOf s).runsNative 2 0x3300 = true ∧ (slotOf s).jobs = [] ∧ (slotOf s).storeRefused = false ∧
    s.leads = false ∧ s.pair.phase ≠ .standby ∧ (slotOf s).legacy = none ∧ (slotOf s).entry.inLength = 128 ∧
    paramZero (slotOf s).entry [] = true ∧ 128 ≤ (slotOf s).entry.outLength)
    (e : s.mem.poisoned = [] ∧ s.mem.flipped = [])
    (p : P (slotOf s) (beNat (slice (s.inputOf 0 (slotOf s)) 2 2))) : Framed s P := by
  obtain ⟨a, b, c, d, f, g, i, j, l, m⟩ := h
  exact ⟨0, _, a, b, c, d, f, g, i, j, l, m, by simp [State.Sound, e.1, e.2], p⟩

theorem witness_KeylessAndLegacyCommands :
    (Serves sNop 1 fun sl => paramZero sl.entry [] = true) ∧
    (∃ (r : PersonalityRec) (f : FunctionRec) (s : State), Serves s 2 fun sl => paramZero sl.entry [0] = true ∧
      sl.entry.p 0 ≤ 15 ∧ s.persRec? (sl.entry.p 0) = some r ∧ s.fnRec? sl.fn = some f) ∧
    (Serves sHash 0x5005 fun sl => sl.entry.streamPart = 0 ∧ paramZero sl.entry [0, 12, 13, 14, 15] = true ∧
      algHash (sl.entry.p 0) = true) ∧
    (∃ b t, Serves sRandom 0x7001 fun sl => paramZero sl.entry [0, 1] = true ∧ 1 ≤ leField sl.entry.param 0 2 ∧
      leField sl.entry.param 0 2 ≤ 4096 ∧ sRandom.draw 0 (leField sl.entry.param 0 2) = (.served b, t)) ∧
    (∃ t, Serves sStopped 0x7001 fun sl => sStopped.draw 0 (leField sl.entry.param 0 2) = (.refused, t)) ∧
    (Framed (sLegacy []) fun sl _ => frameIntact ((sLegacy []).inputOf 0 sl) = false) ∧
    (Framed (sLegacy (frame 0x10 119)) fun sl _ => frameIntact ((sLegacy (frame 0x10 119)).inputOf 0 sl) = true ∧
      118 < leField ((sLegacy (frame 0x10 119)).inputOf 0 sl) 7 1) ∧
    (∀ code ∈ [0x14, 0x28, 0x60, 0xF0, 0x0F, 0x70, 0x100, 0x10, 0x5F], Framed (sLegacy (frame code 118)) fun sl n =>
      frameIntact ((sLegacy (frame code 118)).inputOf 0 sl) = true ∧
      leField ((sLegacy (frame code 118)).inputOf 0 sl) 7 1 ≤ 118 ∧ n = code) ∧
    (Framed (strict (sLegacy (frame 0x10))) fun sl n => n = 0x10 ∧
      (strict (sLegacy (frame 0x10))).tdesPermitted ((strict (sLegacy (frame 0x10))).domOf sl) = false) ∧
    (Framed (sLegacy (frame 0x20)) fun sl n => n = 0x20 ∧
      (sLegacy (frame 0x20)).tdesPermitted ((sLegacy (frame 0x20)).domOf sl) = true ∧
      tget (sLegacy (frame 0x20)).sett.legacy ((sLegacy (frame 0x20)).domOf sl) [] = []) ∧
    (∃ (k : Nat) (sl : Slot) (c : LegacyCall) (key : KeyId) (r : KeyRec) (s : State), s.slot? k = some sl ∧
      sl.runsNative 2 0x3300 = true ∧ sl.jobs = [] ∧ sl.storeRefused = false ∧ s.leads = false ∧
      s.pair.phase ≠ .standby ∧ sl.legacy = some c ∧ c.entry.opcode = 0x3005 ∧ c.entry.inLength = 0 ∧
      c.entry.streamPart = 0 ∧ paramZero c.entry [0] = true ∧ 3 ≤ c.entry.p 0 ∧ c.entry.p 0 ≤ 8 ∧
      128 ≤ sl.entry.outLength ∧
      s.resolve (s.domOf sl) { window := false, usage := false } (c.entry.handle 0) = .ok key r) :=
  ⟨serves (runs_native (by decide +kernel)) (by decide +kernel),
   ⟨{ persId := 15 }, _, { sPersonality with lodge.inForce := some { lodge with personalities := [{ persId := 15 }] } },
    serves (runs_native (by decide +kernel)) ⟨by decide +kernel, by decide +kernel, rfl, rfl⟩⟩,
   serves (runs_native (by decide +kernel)) (by decide +kernel),
   ⟨_, _, serves (runs_native (by decide +kernel)) ⟨by decide +kernel, by decide +kernel, by decide +kernel, rfl⟩⟩,
   ⟨_, serves (runs_native (by decide +kernel)) rfl⟩,
   framed (by decide +kernel) ⟨rfl, rfl⟩ (by decide +kernel),
   framed (by decide +kernel) ⟨rfl, rfl⟩ (by decide +kernel),
   by
     intro code h
     simp only [List.mem_cons, List.not_mem_nil, or_false] at h
     rcases h with rfl | rfl | rfl | rfl | rfl | rfl | rfl | rfl | rfl <;>
       exact framed (by decide +kernel) ⟨rfl, rfl⟩ (by decide +kernel),
   framed (by decide +kernel) ⟨rfl, rfl⟩ (by decide +kernel),
   framed (by decide +kernel) ⟨rfl, rfl⟩ (by decide +kernel),
   ⟨0, slotOf sAnswered, _, 1, key 5 1, sAnswered, rfl, by decide +kernel, rfl, rfl, rfl, by decide +kernel, rfl,
    by decide +kernel⟩⟩

/-- PIN parameters: formats in and out, 12 PAN digits, and the KSN length. -/
def pinParam (fin fout : Byte) (ksn : Byte := 0) : Bytes :=
  [fin, fout, 12, ksn, 0x12, 0x34, 0x56, 0x78, 0x90, 0x12, 0xFF, 0xFF, 0xFF, 0xFF]
def sTranslate (fin fout : Byte) (type : Nat) : State :=
  native (entry 0x1001 (pinParam fin fout) (if fin = 4 then 16 else 8)) (key type 0xFFFF) (key (if fout = 4 then 5 else 1) 0xFFFF)
def sVerify : State := native (entry 0x1002 (pinParam 4 0) 32) (key 5 0xFFFF) (key 5 0xFFFF)
def sOffset : State := native (entry 0x1003 (pinParam 0 0) 9) (key 1 0xFFFF) (key 5 0xFFFF)
def sPinDukpt : State :=
  native (entry 0x1004 ([4, 4, 12, 12]) 26) (key 5 0xFFFF) (key 5 0xFFFF)
    (zeros 16 ++ [0x12, 0x34, 0x56, 0x78, 0x90, 0x12, 0xFF, 0xFF, 0xFF, 0xFF])
def sNoPan : State := native (entry 0x1001 [0, 0, 11] 8)

theorem witness_PinCommands :
    (Serves sNoPan 0x1001 fun sl => paramZero sl.entry pinNamed = true ∧ pinFormat (sl.entry.p 0) = true ∧
      pinFormat (sl.entry.p 1) = true ∧ panOk (pinBinds (sl.entry.p 0) || pinBinds (sl.entry.p 1)) (sl.entry.p 2)
        (slice sl.entry.param 4 10) = false) ∧
    (Serves (strict (sTranslate 0 4 1)) 0x1001 fun sl => paramZero sl.entry pinNamed = true ∧
      pinFormat (sl.entry.p 0) = true ∧ pinFormat (sl.entry.p 1) = true ∧ ¬ (sl.entry.p 0 = 4 ∧ sl.entry.p 1 = 4) ∧
      panOk (pinBinds (sl.entry.p 0) || pinBinds (sl.entry.p 1)) (sl.entry.p 2) (slice sl.entry.param 4 10) = true ∧
      (strict (sTranslate 0 4 1)).tdesPermitted ((strict (sTranslate 0 4 1)).domOf sl) = false) ∧
    (Serves (sTranslate 0 1 1) 0x1001 fun sl => paramZero sl.entry pinNamed = true ∧
      pinFormat (sl.entry.p 0) = true ∧ sl.entry.p 1 = 1 ∧ sl.entry.p 0 ≠ 1 ∧
      panOk (pinBinds (sl.entry.p 0) || pinBinds (sl.entry.p 1)) (sl.entry.p 2) (slice sl.entry.param 4 10) = true ∧
      (sTranslate 0 1 1).tdesPermitted ((sTranslate 0 1 1).domOf sl) = true) ∧
    (∀ f ∈ [((0 : Byte), (0 : Byte), 1), (0, 3, 1), (4, 4, 5)],
      TwoKeys (sTranslate f.1 f.2.1 f.2.2) 0x1001 fun sl a b => paramZero sl.entry pinNamed = true ∧
        pinFormat (sl.entry.p 0) = true ∧ pinFormat (sl.entry.p 1) = true ∧
        panOk (pinBinds (sl.entry.p 0) || pinBinds (sl.entry.p 1)) (sl.entry.p 2) (slice sl.entry.param 4 10) = true ∧
        (sTranslate f.1 f.2.1 f.2.2).tdesPermitted ((sTranslate f.1 f.2.1 f.2.2).domOf sl) = true ∧
        ¬ (sl.entry.p 1 = 1 ∧ sl.entry.p 0 ≠ 1) ∧ pinKey (sl.entry.p 0) usePinDecrypt a.record = true ∧
        pinKey (sl.entry.p 1) usePinEncrypt b.record = true) ∧
    (TwoKeys sVerify 0x1002 fun sl a b => pinFormat (sl.entry.p 0) = true ∧ sl.entry.p 1 = 0 ∧
      paramZero sl.entry pinNamed = true ∧ panOk (pinBinds (sl.entry.p 0)) (sl.entry.p 2) (slice sl.entry.param 4 10) = true ∧
      (sl.entry.p 0 ≠ 4 → sVerify.tdesPermitted (sVerify.domOf sl) = true) ∧
      pinKey (sl.entry.p 0) usePinDecrypt a.record = true ∧ pinKey (sl.entry.p 0) usePinVerify b.record = true) ∧
    (TwoKeys sOffset 0x1003 fun sl a b => pinFormat (sl.entry.p 0) = true ∧ sl.entry.p 1 = 0 ∧
      paramZero sl.entry pinNamed = true ∧ panOk (pinBinds (sl.entry.p 0)) (sl.entry.p 2) (slice sl.entry.param 4 10) = true ∧
      sOffset.tdesPermitted (sOffset.domOf sl) = true ∧ pinKey (sl.entry.p 0) usePinDecrypt a.record = true ∧
      typeSym b.record.type = true ∧ b.record.permits usePinVerify = true) ∧
    (TwoKeys sPinDukpt 0x1004 fun sl a b => pinFormat (sl.entry.p 0) = true ∧ pinFormat (sl.entry.p 1) = true ∧
      ksnOk sl.entry = true ∧ panOk (pinBinds (sl.entry.p 0) || pinBinds (sl.entry.p 1)) (sl.entry.p 2)
        ((sPinDukpt.inputOf 0 sl).drop (pinBlockLen (sl.entry.p 0))) = true ∧
      (sl.entry.p 0 = 4 ∧ sl.entry.p 1 = 4 ∧ sl.entry.p 3 = 12) ∧ baseKey sl.entry [useDerive] a.record = true ∧
      typeAes a.record.type = true ∧ pinKey (sl.entry.p 1) usePinEncrypt b.record = true) :=
  ⟨serves (runs_native (by decide +kernel)) (by decide +kernel),
   serves (runs_native (by decide +kernel)) (by decide +kernel),
   serves (runs_native (by decide +kernel)) (by decide +kernel),
   by
     intro f h
     simp only [List.mem_cons, List.not_mem_nil, or_false] at h
     rcases h with rfl | rfl | rfl <;>
       exact two_keys (runs_native (by decide +kernel)) (by decide +kernel) (by decide +kernel),
   two_keys (runs_native (by decide +kernel)) (by decide +kernel) (by decide +kernel),
   two_keys (runs_native (by decide +kernel)) (by decide +kernel) (by decide +kernel),
   two_keys (runs_native (by decide +kernel)) (by decide +kernel) (by decide +kernel)⟩

def sDukptMac : State := native (entry 0x2001 [0, 0, 0, 10]) (key 1 0xFFFF)
def sDukptData : State := native (entry 0x2002 [0, 0, 0, 12]) (key 5 0xFFFF)
/-- An EMV or card command of a METHOD under a key of a type. -/
def sEmv (op : Nat) (method : Byte) (type : Nat) (digits : Byte := 0) : State :=
  native (entry op [method, digits]) (key type 0xFFFF)
def sSlhSign : State := native (entry 0x6024) (key 0x40 0x400 64)
def sSlhVerify : State := native (entry 0x6025) (key 0x44 0x800)

theorem witness_SingleKeyCommands :
    (OneKey sDukptMac 0x2001 fun sl a => sDukptMac.tdesPermitted (sDukptMac.domOf sl) = true ∧
      paramZero sl.entry dukptNamed = true ∧ ksnOk sl.entry = true ∧
      baseKey sl.entry [useDerive, useMacVerify] a.record = true) ∧
    (OneKey sDukptData 0x2002 fun sl a => sl.entry.p 3 = 12 ∧ paramZero sl.entry dukptNamed = true ∧
      ksnOk sl.entry = true ∧ baseKey sl.entry [useDerive, useDecrypt] a.record = true) ∧
    (OneKey (sEmv 0x4001 1 1) 0x4001 fun sl a => (sEmv 0x4001 1 1).tdesPermitted ((sEmv 0x4001 1 1).domOf sl) = true ∧
      methodOk sl.entry = true ∧ methodKey (sl.entry.p 0) a.record = true ∧ a.record.permits useEmv = true) ∧
    (OneKey (sEmv 0x4003 2 5) 0x4003 fun sl a => sl.entry.p 0 ≠ 1 ∧ methodOk sl.entry = true ∧
      methodKey (sl.entry.p 0) a.record = true ∧ a.record.permits useEmv = true) ∧
    (OneKey (sEmv 0x4004 2 5) 0x4004 fun sl a => sl.entry.p 0 ≠ 1 ∧ methodOk sl.entry = true ∧
      methodKey (sl.entry.p 0) a.record = true ∧ a.record.permits useEncrypt = true) ∧
    (OneKey (sEmv 0x4005 1 1 3) 0x4005 fun sl a => cvvOk sl.entry = true ∧ methodKey (sl.entry.p 0) a.record = true ∧
      (sEmv 0x4005 1 1 3).tdesPermitted ((sEmv 0x4005 1 1 3).domOf sl) = true ∧ a.record.permits useCard = true) ∧
    (OneKey (sEmv 0x4006 1 1 5) 0x4006 fun sl a => cvvOk sl.entry = true ∧ methodKey (sl.entry.p 0) a.record = true ∧
      (sEmv 0x4006 1 1 5).tdesPermitted ((sEmv 0x4006 1 1 5).domOf sl) = true ∧ a.record.permits useCard = true) ∧
    (Serves (strict (sEmv 0x4001 1 1)) 0x4001 fun sl => methodOk sl.entry = true ∧ sl.entry.p 0 = 1 ∧
      (strict (sEmv 0x4001 1 1)).tdesPermitted ((strict (sEmv 0x4001 1 1)).domOf sl) = false) ∧
    (Serves (strict sDukptMac) 0x2001 fun sl => paramZero sl.entry dukptNamed = true ∧ ksnOk sl.entry = true ∧
      sl.entry.p 3 = 10 ∧ (strict sDukptMac).tdesPermitted ((strict sDukptMac).domOf sl) = false) ∧
    (OneKey (sEmv 0x4002 2 5) 0x4002 fun sl a => methodOk sl.entry = true ∧ typeSym a.record.type = true ∧
      a.record.permits useEmv = true) ∧
    (OneKey sSlhSign 0x6024 fun sl a => paramZero sl.entry [] = true ∧ typeSlh a.record.type = true ∧
      a.record.permits useSign = true) ∧
    (OneKey sSlhVerify 0x6025 fun sl a => paramZero sl.entry [] = true ∧ a.record.type ∈ [0x44, 0x45, 0x46] ∧
      a.record.permits useVerify = true) :=
  ⟨one_key (runs_native (by decide +kernel)) (by decide +kernel) (by decide +kernel),
   one_key (runs_native (by decide +kernel)) (by decide +kernel) (by decide +kernel),
   one_key (runs_native (by decide +kernel)) (by decide +kernel) (by decide +kernel),
   one_key (runs_native (by decide +kernel)) (by decide +kernel) (by decide +kernel),
   one_key (runs_native (by decide +kernel)) (by decide +kernel) (by decide +kernel),
   one_key (runs_native (by decide +kernel)) (by decide +kernel) (by decide +kernel),
   one_key (runs_native (by decide +kernel)) (by decide +kernel) (by decide +kernel),
   serves (runs_native (by decide +kernel)) (by decide +kernel),
   serves (runs_native (by decide +kernel)) (by decide +kernel),
   one_key (runs_native (by decide +kernel)) (by decide +kernel) (by decide +kernel),
   one_key (runs_native (by decide +kernel)) (by decide +kernel) (by decide +kernel),
   one_key (runs_native (by decide +kernel)) (by decide +kernel) (by decide +kernel)⟩

def sEncrypt : State := native (entry 0x5003 [0x33] 8) (key 1 1)
def sDecrypt : State := native (entry 0x5004 [0x30] 16) (key 5 2)
def sMac (alg : Byte) : State := native (entry 0x5001 [alg, 16] 5) (key 3 4)
def sMacVerify (alg : Byte) : State := native (entry 0x5002 [alg, 4] 9) (key 3 8)
def sTdesCipher (op : Nat) : State := strict (native (entry op [0x33] 8))
def sTdesMac : State := strict (native (entry 0x5001 [2, 8] 5))
def sTdesMacVerify : State := strict (native (entry 0x5002 [3, 4] 9))

theorem witness_CipherAndMacCommands :
    (OneKey sEncrypt 0x5003 fun sl a => sl.entry.streamPart = 0 ∧ cryptOk sl.entry = true ∧ sl.entry.p 0 = 0x33 ∧
      sEncrypt.tdesPermitted (sEncrypt.domOf sl) = true ∧ typeTdes a.record.type = true ∧
      a.record.permits useEncrypt = true) ∧
    (OneKey sDecrypt 0x5004 fun sl a => sl.entry.streamPart = 0 ∧ cryptOk sl.entry = true ∧ sl.entry.p 0 = 0x30 ∧
      typeAes a.record.type = true ∧ a.record.permits useDecrypt = true) ∧
    (OneKey (sMac 1) 0x5001 fun sl a => sl.entry.streamPart = 0 ∧ sl.entry.p 0 = 1 ∧ macOk sl.entry = true ∧
      macKey (sl.entry.p 0) useMacGen a.record = true) ∧
    (OneKey (sMacVerify 1) 0x5002 fun sl a => sl.entry.streamPart = 0 ∧ sl.entry.p 0 = 1 ∧ macOk sl.entry = true ∧
      macKey (sl.entry.p 0) useMacVerify a.record = true) ∧
    (Serves (sTdesCipher 0x5003) 0x5003 fun sl => sl.entry.streamPart = 0 ∧ cryptOk sl.entry = true ∧
      sl.entry.p 0 = 0x33 ∧ (sTdesCipher 0x5003).tdesPermitted ((sTdesCipher 0x5003).domOf sl) = false) ∧
    (Serves (sTdesCipher 0x5004) 0x5004 fun sl => sl.entry.streamPart = 0 ∧ cryptOk sl.entry = true ∧
      sl.entry.p 0 = 0x33 ∧ (sTdesCipher 0x5004).tdesPermitted ((sTdesCipher 0x5004).domOf sl) = false) ∧
    (Serves sTdesMac 0x5001 fun sl => sl.entry.streamPart = 0 ∧ macOk sl.entry = true ∧ sl.entry.p 0 = 2 ∧
      sTdesMac.tdesPermitted (sTdesMac.domOf sl) = false) ∧
    (Serves sTdesMacVerify 0x5002 fun sl => sl.entry.streamPart = 0 ∧ macOk sl.entry = true ∧ sl.entry.p 0 = 3 ∧
      sTdesMacVerify.tdesPermitted (sTdesMacVerify.domOf sl) = false) :=
  ⟨one_key (runs_native (by decide +kernel)) (by decide +kernel) (by decide +kernel),
   one_key (runs_native (by decide +kernel)) (by decide +kernel) (by decide +kernel),
   one_key (runs_native (by decide +kernel)) (by decide +kernel) (by decide +kernel),
   one_key (runs_native (by decide +kernel)) (by decide +kernel) (by decide +kernel),
   serves (runs_native (by decide +kernel)) (by decide +kernel),
   serves (runs_native (by decide +kernel)) (by decide +kernel),
   serves (runs_native (by decide +kernel)) (by decide +kernel),
   serves (runs_native (by decide +kernel)) (by decide +kernel)⟩

/-- The attributes of a key to generate: TYPE, EXPORT, USAGE, the window and the modulus. -/
def attrs (type : Byte) (usage : Nat) : Bytes := [type, 2] ++ natLe 2 usage ++ zeros 5 ++ List.replicate 5 0xFF
/-- A version D key block of an AES encryption key, with an encrypted field and MAC of zero digits. -/
def keyBlock : Bytes := ascii "D0112P0AE00E0000" ++ List.replicate 96 0x30
def sGenerate (type : Byte) (usage : Nat) : State := native (entry 0x3003 (attrs type usage))
def sDebug : State := { sGenerate 5 0x63FF with antler.debug := true }
def sDelete : State := native (entry 0x3004) (key 5 1)
def sDeleteMaster : State := native { entry 0x3004 with handles := [handleOf (masterKeyId 5 7) 1] }
def sCheck : State := native (entry 0x3005 [8]) (key 5 1)
def sBind : State := native (entry 0x3006 [3]) (key 5 1)
def sImport : State := native (entry 0x3001 [] 112) (key 5 0x20) {} keyBlock
def sExport (type len : Nat) : State := native (entry 0x3002) (key 5 1) (key type 0x10 len)
def sInitial (type len : Nat) : State := native (entry 0x2003 [0, 0, 0, 12]) (key 5 0x200) (key type 0x10 len)

theorem created {s : State} {r : KeyRec} (h : s.unitsOf r.domain + r.units ≤ s.quotaOf r.domain) :
    ∃ x u, s.createKey r = (.inr x, u) := by
  unfold State.createKey
  rw [if_neg (by omega)]
  exact ⟨_, _, rfl⟩

theorem fit_length (n : Nat) (b : Bytes) : (fit n b).length = n := by
  simp [fit, zeros]; omega

theorem witness_KeyManagementCommands :
    (∃ (r : KeyRec) (s : State), s.quotaOf r.domain < s.unitsOf r.domain + r.units) ∧
    (∃ (r : KeyRec) (s : State), 0 < r.units ∧ s.unitsOf r.domain + r.units ≤ s.quotaOf r.domain) ∧
    (Serves sDebug 0x3003 fun sl => generateOk sl.entry = true ∧ sDebug.antler.debug = true) ∧
    (∃ b r h t u, Serves (sGenerate 5 0x63FF) 0x3003 fun sl => generateOk sl.entry = true ∧
      (sGenerate 5 0x63FF).antler.debug = false ∧ typeTdes (sl.entry.p 0) = false ∧ generateJob? sl.entry = none ∧
      drawnLength (sl.entry.p 0) ≠ 0 ∧ typeSlh (sl.entry.p 0) = false ∧
      (sGenerate 5 0x63FF).draw 0 (drawnLength (sl.entry.p 0)) = (.served b, t) ∧
      attrRecord? (t.domOf sl) 1 0 sl.entry.param b = some r ∧ t.createKey r = (.inr h, u)) ∧
    (∃ b r t, Serves (sGenerate 0x40 0x400) 0x3003 fun sl => generateOk sl.entry = true ∧
      (sGenerate 0x40 0x400).antler.debug = false ∧ typeTdes (sl.entry.p 0) = false ∧ generateJob? sl.entry = none ∧
      drawnLength (sl.entry.p 0) ≠ 0 ∧ typeSlh (sl.entry.p 0) = true ∧
      (sGenerate 0x40 0x400).draw 0 (drawnLength (sl.entry.p 0)) = (.served b, t) ∧
      attrRecord? (t.domOf sl) 1 0 sl.entry.param
        (fit ((typeLength? (sl.entry.p 0)).getD 0) (Config.slhKeygen (sl.entry.p 0) b)) = some r ∧
      ∃ h u, t.createKey { r with paramSet := Config.slhParamSet (sl.entry.p 0) % 12 } = (.inr h, u)) ∧
    (Serves sDeleteMaster 0x3004 fun sl => paramZero sl.entry [] = true ∧ (sl.entry.handle 0).getLsbD 31 = true) ∧
    (∃ key, Serves sDelete 0x3004 fun sl => paramZero sl.entry [] = true ∧ (sl.entry.handle 0).getLsbD 31 = false ∧
      sDelete.deletable (sDelete.domOf sl) (sl.entry.handle 0) = .inr key) ∧
    (∃ key r, Serves sCheck 0x3005 fun sl => paramZero sl.entry [0] = true ∧ 3 ≤ sl.entry.p 0 ∧ sl.entry.p 0 ≤ 8 ∧
      sCheck.resolve (sCheck.domOf sl) { window := false, usage := false } (sl.entry.handle 0) = .ok key r) ∧
    (OneKey sBind 0x3006 fun sl _ => paramZero sl.entry [0, 1] = true) ∧
    (∃ kb, OneKey sImport 0x3001 fun sl a => paramZero sl.entry [] = true ∧
      (byteAt (sImport.inputOf 0 sl) 0).toNat = 0x44 ∧ parseKeyBlock? (sImport.inputOf 0 sl) = some kb ∧
      keyblockKey 0x44 a.record = true ∧ a.record.permits useUnwrap = true) ∧
    (Serves (strict (sExport 5 32)) 0x3002 fun sl => paramZero sl.entry [] = true ∧
      (strict (sExport 5 32)).exportPermitted ((strict (sExport 5 32)).domOf sl) = false) ∧
    (TwoKeys (sExport 3 16) 0x3002 fun sl a b => paramZero sl.entry [] = true ∧
      (sExport 3 16).exportPermitted ((sExport 3 16).domOf sl) = true ∧ a.record.export = 2 ∧
      typeSym b.record.type = true ∧ b.record.permits useWrap = true ∧ b.record.strength < a.record.strength) ∧
    (TwoKeys (sExport 5 32) 0x3002 fun sl a b => paramZero sl.entry [] = true ∧
      (sExport 5 32).exportPermitted ((sExport 5 32).domOf sl) = true ∧ a.record.export = 2 ∧
      typeSym b.record.type = true ∧ b.record.permits useWrap = true ∧ a.record.strength = b.record.strength) ∧
    (TwoKeys (sInitial 3 16) 0x2003 fun sl a b => paramZero sl.entry dukptNamed = true ∧ ksnOk sl.entry = true ∧
      sl.entry.p 3 = 12 ∧ baseKey sl.entry [useDerive] a.record = true ∧ typeSym b.record.type = true ∧
      b.record.permits useWrap = true ∧
      b.record.strength < typeStrength a.record.type ((typeLength? a.record.type).getD 0)) ∧
    (TwoKeys (sInitial 5 32) 0x2003 fun sl a b => paramZero sl.entry dukptNamed = true ∧ ksnOk sl.entry = true ∧
      sl.entry.p 3 = 12 ∧ baseKey sl.entry [useDerive] a.record = true ∧ typeSym b.record.type = true ∧
      b.record.permits useWrap = true ∧
      typeStrength a.record.type ((typeLength? a.record.type).getD 0) = b.record.strength) :=
  ⟨⟨{ domain := 6 }, ready, by decide +kernel⟩, ⟨{ domain := 5 }, ready, by decide +kernel⟩,
   serves (runs_native (by decide +kernel)) (by decide +kernel),
   ⟨_, _, _, _, _, serves (runs_native (by decide +kernel)) ⟨by decide +kernel, by decide +kernel, by decide +kernel,
     (by decide +kernel), by decide +kernel, by decide +kernel, rfl, rfl, rfl⟩⟩,
   ⟨_, _, _, serves (runs_native (by decide +kernel)) ⟨by decide +kernel, by decide +kernel, by decide +kernel,
     (by decide +kernel), by decide +kernel, by decide +kernel, rfl, rfl, created (by
       have h : ∀ x : Bytes, ¬ 64 < (fit 64 x).length := fun x => by rw [fit_length]; decide
       show (sGenerate 0x40 0x400).unitsOf 5 + (1 + ((if decide (64 < (fit 64 _).length) then _ else []).length + 1023) / 1024) ≤ _
       rw [decide_eq_false (h _)]
       decide +kernel)⟩⟩,
   serves (runs_native (by decide +kernel)) (by decide +kernel),
   ⟨1, serves (runs_native (by decide +kernel)) (by decide +kernel)⟩,
   ⟨1, key 5 1, serves (runs_native (by decide +kernel)) (by decide +kernel)⟩,
   one_key (runs_native (by decide +kernel)) (by decide +kernel) (by decide +kernel),
   ⟨_, one_key (runs_native (by decide +kernel)) (by decide +kernel)
     ⟨by decide +kernel, by decide +kernel, rfl, by decide +kernel⟩⟩,
   serves (runs_native (by decide +kernel)) (by decide +kernel),
   two_keys (runs_native (by decide +kernel)) (by decide +kernel) (by decide +kernel),
   two_keys (runs_native (by decide +kernel)) (by decide +kernel) (by decide +kernel),
   two_keys (runs_native (by decide +kernel)) (by decide +kernel) (by decide +kernel),
   two_keys (runs_native (by decide +kernel)) (by decide +kernel) (by decide +kernel)⟩

/-- A command whose engine job 1 has ended, or jobs 1 and 2 have. -/
def ended (op : Nat) (param : Bytes := []) (inLength : Nat := 0) : State :=
  withJobs [(1, jobDone)] (native (entry op param inLength))
def twoEnded (op : Nat) (param : Bytes := []) (inLength : Nat := 0) : State :=
  withJobs [(1, jobDone), (2, jobDone)] (native (entry op param inLength))
def Ended (s : State) (op : Nat) (P : Slot → Prop) : Prop :=
  Serves s op fun sl => (∃ j, tget? sl.jobs 1 = some j ∧ j.state.terminal = true ∧ j.code = 0) ∧ P sl
def BothEnded (s : State) (op : Nat) (P : Slot → Prop) : Prop :=
  Ended s op fun sl => (∃ j, tget? sl.jobs 2 = some j ∧ j.state.terminal = true ∧ j.code = 0) ∧ P sl

theorem ended_of {s : State} {op : Nat} {P : Slot → Prop} (h : s.RunsNative 0 op (slotOf s))
    (j : tget? (slotOf s).jobs 1 = some jobDone) (p : P (slotOf s)) : Ended s op P :=
  serves h ⟨⟨_, j, rfl, rfl⟩, p⟩
theorem both_ended {s : State} {op : Nat} {P : Slot → Prop} (h : s.RunsNative 0 op (slotOf s))
    (j : tget? (slotOf s).jobs 1 = some jobDone) (i : tget? (slotOf s).jobs 2 = some jobDone) (p : P (slotOf s)) :
    BothEnded s op P := ended_of h j ⟨⟨_, i, rfl, rfl⟩, p⟩

def sEcdsaVerify : State := native (entry 0x6011 [0, 0x20]) (key 0x28 0x800 65)
def sMldsaVerify : State := native (entry 0x6021) (key 0x34 0x800 1312)

theorem witness_EngineCommands :
    (Ended (ended 0x6001 [0x40, 0x20]) 0x6001 fun sl => rsaOk sl.entry = true) ∧
    (Ended (ended 0x6002 [0x41, 0x20, 1]) 0x6002 fun sl => rsaOk sl.entry = true) ∧
    (Ended (ended 0x6003 [0x42, 0x20, 1]) 0x6003 fun sl => paramZero sl.entry [0, 1, 2] = true ∧ sl.entry.p 0 = 0x42 ∧
      sl.entry.p 2 ≤ 1 ∧ (hashLen? (sl.entry.p 1)).isSome = true) ∧
    (Ended (ended 0x6010 [0, 0x20]) 0x6010 fun sl => ecdsaOk sl.entry = true) ∧
    (Ended (ended 0x6011 [0, 0x20]) 0x6011 fun sl => ecdsaOk sl.entry = true) ∧
    (Ended (ended 0x6012 [0, 0x20]) 0x6012 fun sl => eddsaOk sl.entry = true) ∧
    (Ended (ended 0x6013 [0, 0x20]) 0x6013 fun sl => eddsaOk sl.entry = true) ∧
    (∀ x ∈ [(0x6014, 65), (0x6020, 0), (0x6021, 0), (0x6022, 0), (0x6023, 768)],
      Ended (ended x.1 [] x.2) x.1 fun sl => paramZero sl.entry [] = true) ∧
    (Ended (ended 0x3003 (attrs 0x20 0x400)) 0x3003 fun sl => generateOk sl.entry = true ∧
      (ended 0x3003 (attrs 0x20 0x400)).antler.debug = false ∧ (generateJob? sl.entry).isSome = true) ∧
    (∃ g, OneKey sEcdsaVerify 0x6011 fun sl a => tget? sl.jobs 1 = none ∧ ecdsaOk sl.entry = true ∧
      opPermits opEcdsaVerify a.record = true ∧ (one sEcdsaVerify).groupFor? sl false = some g ∧
      ((one sEcdsaVerify).queue false g).length < 128) ∧
    (∃ g, OneKey sMldsaVerify 0x6021 fun sl a => tget? sl.jobs 1 = none ∧ paramZero sl.entry [] = true ∧
      opPermits opMldsaVerify a.record = true ∧ (one sMldsaVerify).groupFor? sl true = some g ∧
      ((one sMldsaVerify).queue true g).length < 128) ∧
    (BothEnded (twoEnded 0x6030 [1]) 0x6030 fun sl => hybridOk sl.entry = true) ∧
    (BothEnded (twoEnded 0x6031 [2]) 0x6031 fun sl => hybridOk sl.entry = true) ∧
    (BothEnded (twoEnded 0x6032 [] 1153) 0x6032 fun sl => paramZero sl.entry [] = true) :=
  ⟨ended_of (runs_native (by decide +kernel)) rfl (by decide +kernel),
   ended_of (runs_native (by decide +kernel)) rfl (by decide +kernel),
   ended_of (runs_native (by decide +kernel)) rfl (by decide +kernel),
   ended_of (runs_native (by decide +kernel)) rfl (by decide +kernel),
   ended_of (runs_native (by decide +kernel)) rfl (by decide +kernel),
   ended_of (runs_native (by decide +kernel)) rfl (by decide +kernel),
   ended_of (runs_native (by decide +kernel)) rfl (by decide +kernel),
   by
     intro x h
     simp only [List.mem_cons, List.not_mem_nil, or_false] at h
     rcases h with rfl | rfl | rfl | rfl | rfl <;>
       exact ended_of (runs_native (by decide +kernel)) rfl (by decide +kernel),
   ended_of (runs_native (by decide +kernel)) rfl (by decide +kernel),
   ⟨0, one_key (runs_native (by decide +kernel)) (by decide +kernel) (by decide +kernel)⟩,
   ⟨0, one_key (runs_native (by decide +kernel)) (by decide +kernel) (by decide +kernel)⟩,
   both_ended (runs_native (by decide +kernel)) rfl rfl (by decide +kernel),
   both_ended (runs_native (by decide +kernel)) rfl rfl (by decide +kernel),
   both_ended (runs_native (by decide +kernel)) rfl rfl (by decide +kernel)⟩

/-- A den command that the sealed controller runs in a state, of which P holds. -/
def Admin (s : State) (op : Nat) (P : Slot → Prop) : Prop := ∃ k sl, s.RunsAdmin k op sl ∧ P sl

theorem admin_of {s : State} {op : Nat} {P : Slot → Prop} (h : s.slot? 0 = some (slotOf s) ∧
    (slotOf s).phase = .ready ∧ (slotOf s).fn = 0 ∧ (slotOf s).entry.persId = 0 ∧ (slotOf s).setId = none ∧
    (slotOf s).entry.opcode = op ∧ s.pair.phase ≠ .standby ∧ (slotOf s).entry.streamPart = 0) (p : P (slotOf s)) :
    Admin s op P := ⟨0, _, h, p⟩

/-- A den device with the master key of index 7 of domain 5. -/
def withMaster (s : State) : State := { s with sett.keys := [(masterKeyId 5 7, { record := some (key 5 1) })] }
/-- Two custodians of domain 5 are enrolled. -/
def withEnrolled (s : State) : State :=
  { s with quill.enrolments := [{ domain := 5, custodian := 0 }, { domain := 5, custodian := 2 }] }
/-- A quorate ceremony of domain 5. -/
def withQuorum (s : State) : State :=
  { s with quill.ceremony := { phase := .quorate, domain := 5, m := 2, openedAt := s.now, timeoutS := 300,
                               counted := [0, 2],
                               components := [{ custodian := 0, index := 7, value := List.replicate 32 1 },
                                 { custodian := 2, index := 7, value := List.replicate 32 2 }] } }
/-- The fence has closed on the store; and no shadow page is free. -/
def refusing (s : State) : State := { s with mem.fenced := true, mem.fenceClosed := true }
def crowded (s : State) : State := { s with mem.commits := List.replicate 16 {} }

def dDomain : State := den 0x200 [5]
def dMaster : State := withMaster (den 0x205 [5, 0, 7])
def dLegacy : State := den 0x207 [5]
def dCeremony : State := den 0x302 [5]
def dEnrolment : State := withEnrolled (den 0x306 [5, 0, 0, 2])
def dIdentity : State := { den 0x510 with cub.identity := some {} }

theorem witness_AdministrativeQueries :
    (Admin dDomain 0x200 fun sl => sl.entry.inLength = 0 ∧ paramZero sl.entry [0, 1] = true ∧ sl.entry.dom < 4096) ∧
    (∃ r, Admin dMaster 0x205 fun sl => sl.entry.inLength = 0 ∧ paramZero sl.entry [0, 1, 2] = true ∧
      sl.entry.dom < 4096 ∧ dMaster.indexOk sl.entry = true ∧ (dMaster.keySlot sl.entry.master).record = some r) ∧
    (Admin dLegacy 0x207 fun sl => sl.entry.inLength = 0 ∧ paramZero sl.entry [0, 1] = true) ∧
    (Admin dCeremony 0x302 fun sl => sl.entry.inLength = 0 ∧ paramZero sl.entry [0, 1] = true ∧
      dCeremony.ceremonyDom sl.entry = true) ∧
    (∃ en, Admin dEnrolment 0x306 fun sl => sl.entry.inLength = 0 ∧ paramZero sl.entry [0, 1, 3] = true ∧
      dEnrolment.ceremonyDom sl.entry = true ∧ sl.entry.p 3 < dEnrolment.ceremonyN sl.entry.dom ∧
      dEnrolment.enrolled? sl.entry.dom (sl.entry.p 3) = some en) ∧
    (∃ i, Admin dIdentity 0x510 fun sl => sl.entry.inLength = 0 ∧ paramZero sl.entry [] = true ∧
      dIdentity.cub.identity = some i) :=
  ⟨admin_of (by decide +kernel) (by decide +kernel),
   ⟨key 5 1, admin_of (by decide +kernel) (by decide +kernel)⟩,
   admin_of (by decide +kernel) (by decide +kernel),
   admin_of (by decide +kernel) (by decide +kernel),
   ⟨_, admin_of (by decide +kernel) ⟨by decide +kernel, by decide +kernel, by decide +kernel, by decide +kernel, rfl⟩⟩,
   ⟨{}, admin_of (by decide +kernel) (by decide +kernel)⟩⟩

def dErase : State := den 0x201 [5]
def dLoad : State := den 0x202 [5, 0, 7, 5, 0xFF, 0x63]
def dMake : State := den 0x203 [5, 0, 7, 5, 0xFF, 0x63, 2]
def dForget : State := den 0x204 [5, 0, 7]
def dMakeTwo : State :=
  withQuorum { dMake with host.slots := [(0, { slotOf dMake with drawn := some (List.replicate 64 3) })] }
/-- KEY_ENTER_CLEAR of a 32-byte AES key for a master-key slot or, with 0xFF, a resident one. -/
def dEnter (index : Byte) (state : LifeCycle) : State :=
  { den 0x206 [5, 0, index, 5, 0xFF, 0x63] 32 with antler.state := state }

/-- What every statement on the keys of a domain asks of the command: a domain of the lodge that stays, and no check
passed before. -/
abbrev Names (s : State) (sl : Slot) : Prop :=
  s.domRec? sl.entry.dom ≠ none ∧ s.departing sl.entry.dom = false ∧ sl.entry.dom < 4096 ∧ sl.approved = none
/-- The command's parameters make a master key that the lodge permits. -/
abbrev Makes (s : State) (sl : Slot) : Prop :=
  Names s sl ∧ sl.entry.inLength = 0 ∧ s.makeParamOk sl.entry = true ∧ s.antler.debug = false ∧
    s.tdesPermitted sl.entry.dom = true
/-- The components of the command's INDEX. -/
abbrev parts (s : State) (sl : Slot) : List Bytes :=
  (s.quill.ceremony.components.filter fun c => c.index == sl.entry.p 2).map (·.value)

theorem witness_DomainKeyCommands :
    (Admin dErase 0x201 fun sl => Names dErase sl ∧ sl.entry.inLength = 0 ∧ paramZero sl.entry [0, 1] = true ∧
      dErase.quorate sl.entry.dom = false) ∧
    (Admin dLoad 0x202 fun sl => Makes dLoad sl ∧ dLoad.quorate sl.entry.dom = false) ∧
    (Admin dMake 0x203 fun sl => Makes dMake sl ∧ dMake.quorate sl.entry.dom = false) ∧
    (Admin dForget 0x204 fun sl => Names dForget sl ∧ sl.entry.inLength = 0 ∧ paramZero sl.entry [0, 1, 2] = true ∧
      dForget.indexOk sl.entry = true ∧ dForget.quorate sl.entry.dom = false) ∧
    (Admin (withQuorum dErase) 0x201 fun sl => Names (withQuorum dErase) sl ∧ sl.entry.inLength = 0 ∧
      paramZero sl.entry [0, 1] = true ∧ (withQuorum dErase).quorate sl.entry.dom = true ∧
      (withQuorum dErase).storeAccepts .sett = true ∧ (withQuorum dErase).storeFree = true) ∧
    (Admin (withQuorum (withMaster dLoad)) 0x202 fun sl => Makes (withQuorum (withMaster dLoad)) sl ∧
      (withQuorum (withMaster dLoad)).quorate sl.entry.dom = true ∧
      ((withQuorum (withMaster dLoad)).keySlot sl.entry.master).record ≠ none) ∧
    (Admin { withQuorum dLoad with quill.ceremony.components := [] } 0x202 fun sl =>
      Makes { withQuorum dLoad with quill.ceremony.components := [] } sl ∧
      (withQuorum dLoad).quorate sl.entry.dom = true ∧ ((withQuorum dLoad).keySlot sl.entry.master).record = none ∧
      combine? (parts { withQuorum dLoad with quill.ceremony.components := [] } sl) = none) ∧
    (∃ v, Admin (withQuorum dLoad) 0x202 fun sl => Makes (withQuorum dLoad) sl ∧
      (withQuorum dLoad).quorate sl.entry.dom = true ∧ ((withQuorum dLoad).keySlot sl.entry.master).record = none ∧
      combine? (parts (withQuorum dLoad) sl) = some v ∧ masterOk (sl.entry.masterRecord 2 false v) = true ∧
      (withQuorum dLoad).storeAccepts .sett = true ∧ (withQuorum dLoad).storeFree = true) ∧
    (Admin (withQuorum (withMaster dMake)) 0x203 fun sl => Makes (withQuorum (withMaster dMake)) sl ∧
      (withQuorum (withMaster dMake)).quorate sl.entry.dom = true ∧
      ((withQuorum (withMaster dMake)).keySlot sl.entry.master).record ≠ none) ∧
    (∃ b t, Admin dMakeTwo 0x203 fun sl => Makes dMakeTwo sl ∧ dMakeTwo.quorate sl.entry.dom = true ∧
      (dMakeTwo.keySlot sl.entry.master).record = none ∧ dMakeTwo.quill.ceremony.counted ≠ [] ∧
      masterOk (sl.entry.masterRecord 1 false (zeros (drawnLength (sl.entry.p 3)))) = true ∧
      drawnLength (sl.entry.p 3) ≠ 0 ∧ dMakeTwo.storeAccepts .sett = true ∧ dMakeTwo.storeFree = true ∧
      b.length = 16 * drawUnits (drawnLength (sl.entry.p 3)) * dMakeTwo.quill.ceremony.counted.length ∧
      (dMakeTwo.approve 0).draw 0 (16 * drawUnits (drawnLength (sl.entry.p 3)) * dMakeTwo.quill.ceremony.counted.length)
        = (.served b, t)) ∧
    (Admin (withQuorum dForget) 0x204 fun sl => Names (withQuorum dForget) sl ∧ paramZero sl.entry [0, 1, 2] = true ∧
      (withQuorum dForget).indexOk sl.entry = true ∧ (withQuorum dForget).quorate sl.entry.dom = true ∧
      ((withQuorum dForget).keySlot sl.entry.master).record = none) ∧
    (∀ f ∈ [id, crowded, refusing], Admin (f (withMaster (withQuorum dForget))) 0x204 fun sl =>
      let s := f (withMaster (withQuorum dForget))
      Names s sl ∧ sl.entry.inLength = 0 ∧ paramZero sl.entry [0, 1, 2] = true ∧ s.indexOk sl.entry = true ∧
      s.quorate sl.entry.dom = true ∧ (s.keySlot sl.entry.master).record ≠ none) ∧
    (let s := withMaster (withQuorum dForget)
     s.storeAccepts .sett = true ∧ s.storeFree = true ∧ (crowded s).storeAccepts .sett = true ∧
      (crowded s).storeFree = false ∧ (refusing s).storeAccepts .sett = false) ∧
    (Admin (dEnter 255 .production) 0x206 fun sl => Names (dEnter 255 .production) sl ∧ 1 ≤ sl.entry.inLength ∧
      paramZero sl.entry [0, 1, 2, 3, 4, 5, 6] = true ∧ sl.entry.keyParamOk = true ∧ sl.entry.p 2 = 0xFF ∧
      (dEnter 255 .production).antler.state ≠ .makerTest) ∧
    (∃ (r : KeyRec) (h : BitVec 32) (t : State), Admin (dEnter 255 .makerTest) 0x206 fun sl =>
      Names (dEnter 255 .makerTest) sl ∧ 1 ≤ sl.entry.inLength ∧
      paramZero sl.entry [0, 1, 2, 3, 4, 5, 6] = true ∧ sl.entry.keyParamOk = true ∧ sl.entry.p 2 = 0xFF ∧
      (dEnter 255 .makerTest).antler.state = .makerTest ∧ (dEnter 255 .makerTest).antler.debug = false ∧
      typeTdes (sl.entry.p 3) = false ∧ typeTakes (sl.entry.p 3) ((dEnter 255 .makerTest).inputOf 0 sl) = true ∧
      usageOk (sl.entry.p 3) (BitVec.ofNat 16 (leField sl.entry.param 4 2)) = true ∧ r.domain = sl.entry.dom ∧
      (dEnter 255 .makerTest).createKey r = (.inr h, t)) ∧
    (Admin (dEnter 7 .makerTest) 0x206 fun sl => Names (dEnter 7 .makerTest) sl ∧ 1 ≤ sl.entry.inLength ∧
      paramZero sl.entry [0, 1, 2, 3, 4, 5, 6] = true ∧ sl.entry.keyParamOk = true ∧ sl.entry.p 2 ≠ 0xFF ∧
      (dEnter 7 .makerTest).indexOk sl.entry = true ∧ (dEnter 7 .makerTest).antler.debug = false ∧
      typeTakes (sl.entry.p 3) ((dEnter 7 .makerTest).inputOf 0 sl) = true ∧
      usageOk (sl.entry.p 3) (BitVec.ofNat 16 (leField sl.entry.param 4 2)) = true ∧
      ((dEnter 7 .makerTest).inputOf 0 sl).length ≤ 64 ∧ ((dEnter 7 .makerTest).keySlot sl.entry.master).record = none ∧
      (dEnter 7 .makerTest).storeAccepts .sett = true ∧ (dEnter 7 .makerTest).storeFree = true) :=
  ⟨admin_of (by decide +kernel) (by decide +kernel), admin_of (by decide +kernel) (by decide +kernel),
   admin_of (by decide +kernel) (by decide +kernel), admin_of (by decide +kernel) (by decide +kernel),
   admin_of (by decide +kernel) (by decide +kernel), admin_of (by decide +kernel) (by decide +kernel),
   admin_of (by decide +kernel) (by decide +kernel),
   ⟨List.replicate 32 3, admin_of (by decide +kernel) (by decide +kernel)⟩,
   admin_of (by decide +kernel) (by decide +kernel),
   ⟨List.replicate 64 3, _, admin_of (by decide +kernel) ⟨by decide +kernel, by decide +kernel, by decide +kernel,
     (by decide +kernel), by decide +kernel, by decide +kernel, by decide +kernel, (by decide +kernel), by decide +kernel,
     rfl⟩⟩,
   admin_of (by decide +kernel) (by decide +kernel),
   by
     intro f h
     simp only [List.mem_cons, List.not_mem_nil, or_false] at h
     rcases h with rfl | rfl | rfl <;> exact admin_of (by decide +kernel) (by decide +kernel),
   by decide +kernel,
   admin_of (by decide +kernel) (by decide +kernel),
   ⟨key 5 0x63FF, _, _, admin_of (by decide +kernel) ⟨by decide +kernel, by decide +kernel, by decide +kernel,
     (by decide +kernel), by decide +kernel, by decide +kernel, by decide +kernel, (by decide +kernel), by decide +kernel,
     by decide +kernel, by decide +kernel, rfl⟩⟩,
   admin_of (by decide +kernel) (by decide +kernel)⟩

/-- A card lies in port 3, not powered; or powered and idle. -/
def withCard (s : State) (powered : Bool := false) (r : Option QuillRequest := none) : State :=
  { s with quill.ports := [(3, { present := true, powered := powered, state := if powered then 2 else 0, request := r })] }
/-- The same device under a lodge that enables no Quill port. -/
def withoutPorts (s : State) : State :=
  { s with lodge.inForce := some { lodge with units := { lodge.units with quillEnable := 0 } } }
def cOpen (t : Nat) : State := den 0x300 ([5, 0, 0, 0] ++ natLe 2 t)
def cClose : State := den 0x303 [5]
def cPresent : State := den 0x301 [5, 0, 3, 255, 120]
def cEnrol : State := den 0x304 [5, 0, 3, 2, 0, 0, 0, 0, 0, 1]
def cRevoke : State := withQuorum (den 0x305 [5, 0, 0, 2])

/-- A ceremony command on a domain of the lodge. -/
abbrev Attends (s : State) (sl : Slot) : Prop :=
  s.ceremonyDom sl.entry = true ∧ sl.entry.inLength = 0 ∧ sl.approved = none
/-- A CEREMONY_PRESENT, and a CUSTODIAN_ENROL, with parameters in range. -/
abbrev Presents (s : State) (sl : Slot) : Prop :=
  Attends s sl ∧ paramZero sl.entry [0, 1, 2, 3, 4, 5] = true ∧ sl.entry.p 2 = 3 ∧ sl.entry.p 3 = 0xFF ∧
    1 ≤ sl.entry.p 4 ∧ sl.entry.p 4 ≤ 120 ∧ sl.entry.p 5 ≤ 1
abbrev Enrols (s : State) (sl : Slot) : Prop :=
  Attends s sl ∧ paramZero sl.entry [0, 1, 2, 3, 4, 5, 6, 7, 8, 9, 10, 11] = true ∧ sl.entry.p 2 = 3 ∧
    sl.entry.p 3 < s.ceremonyN sl.entry.dom ∧ 1 ≤ leField sl.entry.param 9 3 ∧
    leField sl.entry.param 9 3 ≤ 1000000 ∧ s.departing sl.entry.dom = false
abbrev Revokes (s : State) (sl : Slot) : Prop :=
  Attends s sl ∧ paramZero sl.entry [0, 1, 3] = true ∧ sl.entry.p 3 < s.ceremonyN sl.entry.dom ∧
    s.departing sl.entry.dom = false

theorem witness_CeremonyCommands :
    (∀ t ∈ [0, 30, 3600], Admin (withEnrolled (cOpen t)) 0x300 fun sl => Attends (withEnrolled (cOpen t)) sl ∧
      paramZero sl.entry [0, 1, 4, 5] = true ∧ leField sl.entry.param 4 2 = t ∧
      (withEnrolled (cOpen t)).quill.ceremony.phase = .idle ∧
      (withEnrolled (cOpen t)).ceremonyM sl.entry.dom ≤ ((withEnrolled (cOpen t)).enrolledIn sl.entry.dom).length) ∧
    (Admin (withQuorum (cOpen 0)) 0x300 fun sl => Attends (withQuorum (cOpen 0)) sl ∧
      paramZero sl.entry [0, 1, 4, 5] = true ∧ (withQuorum (cOpen 0)).quill.ceremony.phase ≠ .idle) ∧
    (Admin (cOpen 0) 0x300 fun sl => Attends (cOpen 0) sl ∧ paramZero sl.entry [0, 1, 4, 5] = true ∧
      (cOpen 0).quill.ceremony.phase = .idle ∧ ((cOpen 0).enrolledIn sl.entry.dom).length < (cOpen 0).ceremonyM sl.entry.dom) ∧
    (Admin cClose 0x303 fun sl => Attends cClose sl ∧ paramZero sl.entry [0, 1] = true ∧
      cClose.ceremonyTakes sl.entry.dom = false) ∧
    (Admin (withQuorum cClose) 0x303 fun sl => Attends (withQuorum cClose) sl ∧ paramZero sl.entry [0, 1] = true ∧
      (withQuorum cClose).ceremonyTakes sl.entry.dom = true) ∧
    (Admin cPresent 0x301 fun sl => Presents cPresent sl ∧ cPresent.ceremonyTakes sl.entry.dom = false) ∧
    (Admin (withoutPorts (withQuorum cPresent)) 0x301 fun sl =>
      let s := withoutPorts (withQuorum cPresent)
      Presents s sl ∧ s.ceremonyTakes sl.entry.dom = true ∧ s.tables.units.quillEnable.getLsbD 3 = false) ∧
    (∀ r ∈ [none, some {}], Admin (withCard (withQuorum cPresent) false r) 0x301 fun sl =>
      let s := withCard (withQuorum cPresent) false r
      Presents s sl ∧ s.ceremonyTakes sl.entry.dom = true ∧ s.tables.units.quillEnable.getLsbD 3 = true ∧
      (s.port 3).request = r ∧ (s.port 3).present = true ∧ (s.port 3).powered = false) ∧
    (Admin (withQuorum cPresent) 0x301 fun sl => Presents (withQuorum cPresent) sl ∧
      (withQuorum cPresent).ceremonyTakes sl.entry.dom = true ∧
      (withQuorum cPresent).tables.units.quillEnable.getLsbD 3 = true ∧
      ((withQuorum cPresent).port 3).request = none ∧ ((withQuorum cPresent).port 3).present = false) ∧
    (Admin (withCard (withQuorum cPresent) true) 0x301 fun sl =>
      let s := withCard (withQuorum cPresent) true
      Presents s sl ∧ s.ceremonyTakes sl.entry.dom = true ∧ s.tables.units.quillEnable.getLsbD 3 = true ∧
      (s.port 3).request = none ∧ (s.port 3).present = true ∧ (s.port 3).powered = true ∧ (s.port 3).state ≠ 1 ∧
      8 ≤ (s.port 3).ifsc) ∧
    (Admin (withEnrolled cEnrol) 0x304 fun sl => Enrols (withEnrolled cEnrol) sl ∧
      (withEnrolled cEnrol).quorate sl.entry.dom = false ∧ (withEnrolled cEnrol).firstEnrolment sl.entry.dom = false) ∧
    (Admin (withoutPorts (withQuorum cEnrol)) 0x304 fun sl =>
      let s := withoutPorts (withQuorum cEnrol)
      Enrols s sl ∧ s.quorate sl.entry.dom = true ∧ (s.port 3).request = none ∧
      s.tables.units.quillEnable.getLsbD 3 = false) ∧
    (∃ r : QuillRequest, r.slot ≠ 0 ∧ Admin (withCard (withQuorum cEnrol) false (some r)) 0x304 fun sl =>
      let s := withCard (withQuorum cEnrol) false (some r)
      Enrols s sl ∧ s.quorate sl.entry.dom = true ∧ (s.port 3).request = some r ∧
      s.tables.units.quillEnable.getLsbD 3 = true) ∧
    (Admin (withQuorum cEnrol) 0x304 fun sl => Enrols (withQuorum cEnrol) sl ∧
      (withQuorum cEnrol).quorate sl.entry.dom = true ∧
      (withQuorum cEnrol).tables.units.quillEnable.getLsbD 3 = true ∧ ((withQuorum cEnrol).port 3).request = none ∧
      ((withQuorum cEnrol).port 3).present = false ∧ ((withQuorum cEnrol).port 3).powered = false) ∧
    (Admin (withCard cEnrol) 0x304 fun sl => Enrols (withCard cEnrol) sl ∧
      (withCard cEnrol).firstEnrolment sl.entry.dom = true ∧
      (withCard cEnrol).tables.units.quillEnable.getLsbD 3 = true ∧ ((withCard cEnrol).port 3).request = none ∧
      ((withCard cEnrol).port 3).present = true ∧ ((withCard cEnrol).port 3).powered = false) ∧
    (Admin (den 0x305 [5, 0, 0, 2]) 0x305 fun sl => Revokes (den 0x305 [5, 0, 0, 2]) sl ∧
      (den 0x305 [5, 0, 0, 2]).quorate sl.entry.dom = false) ∧
    (Admin cRevoke 0x305 fun sl => Revokes cRevoke sl ∧ cRevoke.quorate sl.entry.dom = true ∧
      cRevoke.enrolled? sl.entry.dom (sl.entry.p 3) = none) ∧
    (∀ f ∈ [id, crowded, refusing], ∃ en, Admin (f (withEnrolled cRevoke)) 0x305 fun sl =>
      let s := f (withEnrolled cRevoke)
      Revokes s sl ∧ s.quorate sl.entry.dom = true ∧ s.enrolled? sl.entry.dom (sl.entry.p 3) = some en) ∧
    (let s := withEnrolled cRevoke
     s.storeAccepts .controller = true ∧ s.storeFree = true ∧ (crowded s).storeAccepts .controller = true ∧
      (crowded s).storeFree = false ∧ (refusing s).storeAccepts .controller = false) :=
  ⟨by
     intro t h
     simp only [List.mem_cons, List.not_mem_nil, or_false] at h
     rcases h with rfl | rfl | rfl <;> exact admin_of (by decide +kernel) (by decide +kernel),
   admin_of (by decide +kernel) (by decide +kernel), admin_of (by decide +kernel) (by decide +kernel),
   admin_of (by decide +kernel) (by decide +kernel), admin_of (by decide +kernel) (by decide +kernel),
   admin_of (by decide +kernel) (by decide +kernel), admin_of (by decide +kernel) (by decide +kernel),
   by
     intro r h
     simp only [List.mem_cons, List.not_mem_nil, or_false] at h
     rcases h with rfl | rfl <;> exact admin_of (by decide +kernel) (by decide +kernel),
   admin_of (by decide +kernel) (by decide +kernel), admin_of (by decide +kernel) (by decide +kernel),
   admin_of (by decide +kernel) (by decide +kernel), admin_of (by decide +kernel) (by decide +kernel),
   ⟨{ slot := 1 }, by decide, admin_of (by decide +kernel) (by decide +kernel)⟩,
   admin_of (by decide +kernel) (by decide +kernel), admin_of (by decide +kernel) (by decide +kernel),
   admin_of (by decide +kernel) (by decide +kernel), admin_of (by decide +kernel) (by decide +kernel),
   by
     intro f h
     simp only [List.mem_cons, List.not_mem_nil, or_false] at h
     rcases h with rfl | rfl | rfl <;>
       exact ⟨{ domain := 5, custodian := 2 }, admin_of (by decide +kernel) (by decide +kernel)⟩,
   by decide +kernel⟩

/-- Port 3 in a state; and the port serving a request whose token is powered in class B. -/
def withPort (v : QuillPort) : State := { ready with quill.ports := [(3, v)] }
def serving (r : QuillRequest) (v : QuillPort := {}) : State :=
  withPort { v with present := true, powered := true, cls := if v.cls = 0 then 2 else v.cls, request := some r }

/-- The port of a state serves a request of a stage, with nothing held back, on a half whose ports are in use. -/
def Asks (s : State) (P : QuillPort → QuillRequest → Prop) : Prop :=
  ∃ p r, (s.port p).request = some r ∧ s.portsLive p = true ∧ r.held = [] ∧ P (s.port p) r

theorem asks {s : State} {r : QuillRequest} {P : QuillPort → QuillRequest → Prop} (h : (s.port 3).request = some r)
    (l : s.portsLive 3 = true ∧ r.held = []) (p : P (s.port 3) r) : Asks s P := ⟨3, r, h, l.1, l.2, p⟩

/-- An enrolled custodian of domain 5 presents a token in an open ceremony. -/
def counting : State :=
  { serving { stage := .authenticate, domain := 5, custodian := 2 } with
    quill.enrolments := [{ domain := 5, custodian := 2 }],
    quill.ceremony := { phase := .gathering, domain := 5, m := 2, openedAt := 192000000000, timeoutS := 30 } }

theorem witness_QuillEvents :
    (∃ (p : Nat) (b : Bool) (s : State), p < 4 ∧ (s.port p).present = b) ∧
    (∃ (p : Nat) (r : QuillRequest) (s : State), (s.port p).request = some r ∧ r.stage = .waitCard ∧ r.waitUntil ≤ s.now) ∧
    (∃ (p : Nat) (r : QuillRequest) (s : State), (s.port p).request = some r ∧ r.stage = .waitCard ∧
      s.now < r.waitUntil) ∧
    (Asks (withPort { request := some {} }) fun v r => r.stage = .waitCard ∧ v.present = false ∧ v.powered = false) ∧
    (Asks (serving { stage := .identify }) fun v r => r.stage ≠ .waitCard ∧ v.present = true) ∧
    (Asks (serving { stage := .activating }) fun v r => r.stage = .activating ∧
      (∃ b, (parseAtr b).ok = true ∧ (parseAtr b).classes = 0 ∧ (parseAtr b).protocols.contains 1 = true ∧
        (parseAtr b).factors = 0x11) ∧
      (∃ b, (parseAtr b).ok = true ∧ (parseAtr b).classes = 0 ∧ (parseAtr b).protocols.contains 1 = true ∧
        (parseAtr b).factors ≠ 0x11) ∧
      (∃ b, (parseAtr b).ok = true ∧ (parseAtr b).classes = 1 ∧ v.cls = 2) ∧
      (∃ b, (parseAtr b).ok = true ∧ (parseAtr b).classes = 4) ∧
      (∃ b, (parseAtr b).ok = true ∧ (parseAtr b).classes = 0 ∧ (parseAtr b).protocols.contains 1 = false) ∧
      (∃ b, (parseAtr b).ok = false ∧ (parseAtr b).badCheck = true ∧ v.warmReset = false) ∧
      (∃ b, (parseAtr b).ok = false ∧ (parseAtr b).badCheck = false ∧ v.cls = 2)) ∧
    (Asks (serving { stage := .activating } { cls := 1, warmReset := true }) fun v r => r.stage = .activating ∧
      (∃ b, (parseAtr b).ok = false ∧ v.warmReset = true ∧ v.cls ≠ 2)) ∧
    (Asks (serving { stage := .pps } { factors := 0x96 }) fun v r => r.stage = .pps ∧ v.factors ≠ 0x11) ∧
    (Asks (serving { stage := .challenge }) fun _ r => r.listens = false) ∧
    (Asks (serving { stage := .identify, retries := 2 }) fun v r => r.listens = true ∧ r.stage ≠ .pps ∧
      v.linkErrors.count < 0xFFFE ∧ r.retries < 3 ∧ t1Parse? v.crc [] = none) ∧
    (Asks (serving { stage := .identify, retries := 3 }) fun v r => r.listens = true ∧ v.linkErrors.count < 0xFFFE ∧
      3 ≤ r.retries ∧ r.resynched = false) ∧
    (Asks (serving { stage := .identify, retries := 3, resynched := true }) fun v r => r.listens = true ∧
      v.linkErrors.count < 0xFFFE ∧ 3 ≤ r.retries ∧ r.resynched = true) ∧
    (Asks (serving { stage := .ifs }) fun v r => r.stage = .ifs ∧ r.resyncDue = false ∧ 8 ≤ v.ifsc) ∧
    (Asks (serving { stage := .component }) fun v r => r.stage = .component ∧ r.resyncDue = false ∧ v.tx.length ≤ 1 ∧
      v.rx = [] ∧ ∃ m : Bytes, m.length = 7) ∧
    (Asks (serving { stage := .identify, seq := 65535 }) fun v r => r.stage = .identify ∧ r.resyncDue = false ∧
      v.tx.length ≤ 1 ∧ v.rx = [] ∧ r.seq < 65536 ∧ r.enrol = false ∧
      (∃ m body : Bytes, m.length ≤ 254 ∧ m.drop 8 = body ∧
        m = [0x51, 0x4C, 0x01, 0x81, 0, 90] ++ natBe 2 r.seq ++ body ∧ body.length = 90) ∧
      ∀ x ∈ (serving { stage := .identify, seq := 65535 }).quill.enrolments, ¬ x.domain = r.domain) ∧
    (Asks counting fun v r => r.stage = .authenticate ∧ r.resyncDue = false ∧ v.tx.length ≤ 1 ∧ v.rx = [] ∧
      r.seq < 65536 ∧ r.enrol = false ∧ (∃ m body : Bytes, m.length ≤ 254 ∧ m.drop 8 = body ∧
        m = [0x51, 0x4C, 0x01, 0x82, 0, 64] ++ natBe 2 r.seq ++ body ∧ body.length = 64) ∧
      (∃ en, counting.enrolled? r.domain r.custodian = some en) ∧ counting.storeAccepts .controller = true ∧
      counting.storeFree = true ∧ v.powered = true ∧ r.index = 0xFF ∧ counting.rival 3 r (fun _ => true) = false ∧
      ¬ r.custodian ∈ counting.quill.ceremony.counted ∧ counting.ceremonyOpen r.domain = true) ∧
    (∃ (s : State), s.quill.ceremony.phase ≠ .idle ∧ s.ceremonyBusy = false ∧
      s.quill.ceremony.openedAt + s.quill.ceremony.timeoutS * unitsPerSecond = s.now) ∧
    (∃ (s : State), s.ceremonyBusy = true ∧
      s.quill.ceremony.openedAt + s.quill.ceremony.timeoutS * unitsPerSecond ≤ s.now) ∧
    (∃ (s : State), s.now < s.quill.ceremony.openedAt + s.quill.ceremony.timeoutS * unitsPerSecond) :=
  ⟨⟨3, false, ready, by decide +kernel⟩,
   ⟨3, _, withPort { request := some { waitUntil := 192000000000 } }, rfl, by decide +kernel⟩,
   ⟨3, _, withPort { request := some { waitUntil := 192000000001 } }, rfl, by decide +kernel⟩,
   asks rfl (by decide +kernel) (by decide +kernel), asks rfl (by decide +kernel) (by decide +kernel),
   asks rfl (by decide +kernel) ⟨rfl, ⟨[0x3B, 0x80, 0x01, 0x81], by decide +kernel⟩,
     ⟨[0x3B, 0x90, 0x96, 0x01, 0x07], by decide +kernel⟩, ⟨[0x3B, 0x80, 0x81, 0x1F, 0x01, 0x1F], by decide +kernel⟩,
     ⟨[0x3B, 0x80, 0x81, 0x1F, 0x04, 0x1A], by decide +kernel⟩, ⟨[0x3B, 0x00], by decide +kernel⟩,
     ⟨[0x3B, 0x80, 0x01, 0x80], by decide +kernel⟩, ⟨[], by decide +kernel⟩⟩,
   asks rfl (by decide +kernel) ⟨rfl, [], by decide +kernel⟩,
   asks rfl (by decide +kernel) (by decide +kernel), asks rfl (by decide +kernel) (by decide +kernel),
   asks rfl (by decide +kernel) (by decide +kernel), asks rfl (by decide +kernel) (by decide +kernel),
   asks rfl (by decide +kernel) (by decide +kernel), asks rfl (by decide +kernel) (by decide +kernel),
   asks rfl (by decide +kernel) ⟨rfl, rfl, by decide +kernel, rfl, zeros 7, rfl⟩,
   asks rfl (by decide +kernel) ⟨rfl, rfl, by decide +kernel, rfl, by decide +kernel, rfl,
     ⟨_, zeros 90, by decide +kernel, by decide +kernel, rfl, rfl⟩, nofun⟩,
   asks rfl (by decide +kernel) ⟨rfl, rfl, by decide +kernel, rfl, by decide +kernel, rfl,
     ⟨_, zeros 64, by decide +kernel, by decide +kernel, rfl, rfl⟩, ⟨_, rfl⟩, by decide +kernel⟩,
   ⟨{ ready with quill.ceremony := { phase := .gathering, domain := 5, timeoutS := 1 } }, by decide +kernel⟩,
   ⟨{ serving { domain := 5 } with quill.ceremony := { phase := .gathering, domain := 5 } }, by decide +kernel⟩,
   ⟨{ ready with quill.ceremony := { phase := .gathering, domain := 5, openedAt := 192000000000, timeoutS := 30 } },
    by decide +kernel⟩⟩

/-- A device on which function 1 is in a reset. -/
def inReset (o : ResetOp) (slots : Tbl Slot := []) (v : FnState := { busMaster := true }) : State :=
  { ready with cub.fns := [(1, { v with resets := [o] })], host.slots := slots }
/-- The den command in slot 0 that waits for the end of a reset. -/
def waitingDen : Tbl Slot := [(0, { fn := 0, phase := .waiting })]
def dReset : State := den 0x500 [1]
/-- CUB_FLUSH of functions 1 and 2, with or without DISCARD; and of function 0. -/
def dFlush (discard : Byte) : State := den 0x501 [0, 0, discard] 4 [1, 0, 2, 0]
def dFlushDen : State := den 0x501 [] 2 [0, 0]

theorem witness_FunctionResets :
    (Admin dReset 0x500 fun sl => sl.entry.inLength = 0 ∧ paramZero sl.entry [0, 1] = true ∧
      isCub (leField sl.entry.param 0 2) = true) ∧
    (Admin dFlushDen 0x501 fun sl => listLength 256 sl.entry.inLength = true ∧ paramZero sl.entry [2] = true ∧
      sl.entry.p 2 ≤ 1 ∧ ∃ f ∈ functionList 256 (dFlushDen.inputOf 0 sl), isCub f = false) ∧
    (∀ n ∈ [(0 : Byte), 1], Admin (dFlush n) 0x501 fun sl => listLength 256 sl.entry.inLength = true ∧
      paramZero sl.entry [2] = true ∧ sl.entry.p 2 = n.toNat ∧
      (∀ f ∈ functionList 256 ((dFlush n).inputOf 0 sl), isCub f = true ∧
        (∀ x ∈ ((dFlush n).fnSt f).resets, x.slot ≠ some 0) ∧ (dFlush n).fetches f = []) ∧
      functionList 256 ((dFlush n).inputOf 0 sl) = [1, 2]) ∧
    (∃ (f : Nat) (s : State), isCub f = true ∧ s.linked.contains f = true) ∧
    (∃ (f : Nat) (s : State), isCub f = true ∧ s.linked.contains f = false) ∧
    (∃ (s : State), s.cub.vfEnable = true ∧ 1 ∈ s.linked ∧ isCub 1 = true) ∧ (∃ (s : State), s.cub.vfEnable = false) ∧
    (∃ (f : Nat) (s : State), (s.fnSt f).resets ≠ [] ∧
      ∀ o ∈ (s.fnSt f).resets, o.squashDone = true ∨ s.now < o.start + unitsPerMilli) ∧
    (∃ (f : Nat) (o : ResetOp) (s : State), (s.fnSt f).resets = [o] ∧ o.squashDone = false ∧
      o.start + unitsPerMilli = s.now ∧
      (∃ x, s.slot? 0 = some x ∧ x.fn = f ∧ x.phase = .fetching) ∧
      (∃ x, s.slot? 1 = some x ∧ x.fn = f ∧ x.phase = .ready ∧ x.legacy = none ∧ x.storeRefused = false) ∧
      (∃ x, s.slot? 2 = some x ∧ x.fn = f ∧ x.phase = .ended ∧ outcomeStands x.status = true) ∧
      (∃ x, s.slot? 3 = some x ∧ x.fn = f ∧ x.phase = .ended ∧ outcomeStands x.status = false)) ∧
    (∃ (f : Nat) (s : State), (s.fnSt f).resets ≠ [] ∧
      ∀ o ∈ (s.fnSt f).resets, o.squashDone = false ∨ s.now < o.start + 2 * unitsPerMilli) ∧
    (∃ (f k : Nat) (o : ResetOp) (sl : Slot) (s : State), (s.fnSt f).resets = [o] ∧ o.squashDone = true ∧
      o.start + 2 * unitsPerMilli ≤ s.now ∧ s.slotsOf f = [(k, sl)] ∧ s.slot? k = some sl ∧ sl.phase = .ended ∧
      (s.ring f).enabled = false) ∧
    (∃ (f k : Nat) (o : ResetOp) (sl : Slot) (s : State), (s.fnSt f).resets = [o] ∧ o.squashDone = true ∧
      o.start + 2 * unitsPerMilli ≤ s.now ∧ s.slotsOf f = [(k, sl)] ∧ s.slot? k = some sl ∧ sl.phase = .ended ∧
      (s.ring f).enabled = true ∧ (s.fnSt f).busMaster = true ∧ s.host.due = [] ∧
      1 = (s.ring f).cqSize - 1 - ringDiff (s.ring f).cqWrite (s.ring f).cqHead (s.ring f).cqSize) ∧
    (∃ (f : Nat) (o : ResetOp) (s : State), (s.fnSt f).resets = [o] ∧ (∀ d ∈ s.host.due, d.fn ≠ f) ∧
      o.kind = .vfFlr ∧ o.slot = none ∧ s.slotsOf f = [] ∧ (s.fnSt f).mig = .none) ∧
    (∃ (f : Nat) (o : ResetOp) (s : State), (s.fnSt f).resets = [o] ∧ (∀ d ∈ s.host.due, d.fn ≠ f) ∧
      o.kind = .vfFlr ∧ s.slotsOf f ≠ []) ∧
    (∀ n ∈ [ResetKind.cubReset, .flush, .freeze], ∃ (f k : Nat) (o : ResetOp) (sl : Slot) (s : State),
      (s.fnSt f).resets = [o] ∧ (∀ d ∈ s.host.due, d.fn ≠ f) ∧ o.slot = some k ∧ s.slot? k = some sl ∧
      sl.phase = .waiting ∧ sl.grant = o.grant ∧ sl.fn = 0 ∧ s.resetScope f o = [f] ∧ s.slotsOf f = [] ∧ o.kind = n ∧
      (s.fnSt f).mig = if n = .freeze then .freezing else .none) ∧
    (∃ (f : Nat) (o : ResetOp) (s : State), (s.fnSt f).resets = [o] ∧ (∀ d ∈ s.host.due, d.fn ≠ f) ∧
      o.kind = .pfFlr ∧ o.slot = none ∧ s.resetScope f o = [1] ∧
      ∀ g ∈ s.resetScope f o, s.slotsOf g = [] ∧ ∀ d ∈ s.host.due, d.fn ≠ g) :=
  ⟨admin_of (by decide +kernel) (by decide +kernel), admin_of (by decide +kernel) (by decide +kernel),
   by
     intro n h
     simp only [List.mem_cons, List.not_mem_nil, or_false] at h
     rcases h with rfl | rfl <;> exact admin_of (by decide +kernel) (by decide +kernel),
   ⟨7, ready, by decide +kernel⟩, ⟨8, ready, by decide +kernel⟩, ⟨ready, by decide +kernel⟩,
   ⟨{ ready with cub.vfEnable := false }, rfl⟩,
   ⟨1, inReset { start := 191808000001 }, by decide +kernel⟩,
   ⟨1, _, inReset { start := 191808000000 } [(0, { fn := 1 }), (1, { fn := 1, phase := .ready }),
      (2, { fn := 1, phase := .ended, status := 0x0F02 }), (3, { fn := 1, phase := .ended })], rfl, by decide +kernel,
    by decide +kernel, ⟨_, rfl, by decide +kernel⟩, ⟨_, rfl, by decide +kernel⟩, ⟨_, rfl, by decide +kernel⟩,
    ⟨_, rfl, by decide +kernel⟩⟩,
   ⟨1, inReset { start := 191616000001, squashDone := true }, by decide +kernel⟩,
   ⟨1, 0, _, _, inReset { squashDone := true } [(0, { fn := 1, phase := .ended })], rfl, by decide +kernel,
    by decide +kernel, rfl, by decide +kernel⟩,
   ⟨1, 0, _, _, { inReset { squashDone := true } [(0, { fn := 1, phase := .ended })] with
      host.rings := [(1, { enabled := true, cqWrite := 14 })] }, rfl, by decide +kernel, by decide +kernel, rfl,
    by decide +kernel⟩,
   ⟨1, _, inReset { kind := .vfFlr }, rfl, by decide +kernel⟩,
   ⟨1, _, inReset { kind := .vfFlr } [(0, { fn := 1 })], rfl, by decide +kernel⟩,
   by
     intro n h
     simp only [List.mem_cons, List.not_mem_nil, or_false] at h
     rcases h with rfl | rfl | rfl
     · exact ⟨1, 0, _, _, inReset { kind := .cubReset, slot := some 0 } waitingDen, rfl, by decide +kernel, rfl, rfl,
         by decide +kernel⟩
     · exact ⟨1, 0, _, _, inReset { kind := .flush, slot := some 0 } waitingDen, rfl, by decide +kernel, rfl, rfl,
         by decide +kernel⟩
     · exact ⟨1, 0, _, _, inReset { kind := .freeze, slot := some 0 } waitingDen { mig := .freezing }, rfl,
         by decide +kernel, rfl, rfl, by decide +kernel⟩,
   ⟨1, _, inReset { kind := .pfFlr }, rfl, by decide +kernel⟩⟩

/-- DIRTY_LOG_START for function 1 or 2, of which the lodge lets the first log; DIRTY_LOG_HARVEST from an offset, of a
log of 1,024 pages; DIRTY_LOG_STOP. -/
def dLogStart (f : Byte) : State := den 0x520 ([f, 0, 0, 0] ++ natLe 8 0x7000 ++ natLe 4 16777216)
def logged (areas : List Nat) (s : State) : State :=
  { s with cub.fns := areas.map fun a => (a + 1, { dirty := some { pages := 1024, area := a } }) }
def dHarvest (off : Byte) : State := den 0x521 [1, 0, 0, 0, off]
def dLogStop (f : Byte) : State := den 0x522 [f]

/-- A DIRTY_LOG_START with parameters in range. -/
abbrev Starts (sl : Slot) : Prop :=
  sl.entry.inLength = 0 ∧ sl.entry.function < 2048 ∧
    paramZero sl.entry [0, 1, 4, 5, 6, 7, 8, 9, 10, 11, 12, 13, 14, 15] = true ∧ leField sl.entry.param 4 8 % 4096 = 0 ∧
    1 ≤ leField sl.entry.param 12 4 ∧ leField sl.entry.param 12 4 = 16777216
abbrev Harvests (sl : Slot) : Prop :=
  sl.entry.inLength = 0 ∧ sl.entry.function < 2048 ∧ paramZero sl.entry [0, 1, 4, 5, 6, 7] = true ∧
    leField sl.entry.param 4 4 % 64 = 0

theorem witness_DirtyPageLogs :
    (∃ l, Admin (logged [0] (dLogStart 1)) 0x520 fun sl => Starts sl ∧
      (logged [0] (dLogStart 1)).mayLog sl.entry.function = true ∧
      ((logged [0] (dLogStart 1)).fnSt sl.entry.function).dirty = some l) ∧
    (∃ (s : State) (a : Nat), Admin s 0x520 fun sl => Starts sl ∧ s.mayLog sl.entry.function = true ∧ (s.fnSt sl.entry.function).dirty = none ∧ s.logs < 16 ∧ a < 16 ∧
      s.logAt? a = none ∧ a = 1 ∧ s.logAt? 0 ≠ none) ∧
    (Admin (dLogStart 2) 0x520 fun sl => Starts sl ∧ (dLogStart 2).mayLog sl.entry.function = false) ∧
    (Admin (logged ((List.range 17).drop 1) (dLogStart 1)) 0x520 fun sl =>
      let s := logged ((List.range 17).drop 1) (dLogStart 1)
      Starts sl ∧ s.mayLog sl.entry.function = true ∧ (s.fnSt sl.entry.function).dirty = none ∧ s.logs = 16) ∧
    (Admin (dHarvest 64) 0x521 fun sl => Harvests sl ∧ ((dHarvest 64).fnSt sl.entry.function).dirty = none) ∧
    (∃ l, Admin (logged [0] (dHarvest 128)) 0x521 fun sl => Harvests sl ∧
      ((logged [0] (dHarvest 128)).fnSt sl.entry.function).dirty = some l ∧ l.length = leField sl.entry.param 4 4) ∧
    (∃ l, Admin (logged [0] (dHarvest 64)) 0x521 fun sl => Harvests sl ∧
      ((logged [0] (dHarvest 64)).fnSt sl.entry.function).dirty = some l ∧ leField sl.entry.param 4 4 < l.length) ∧
    (∀ n ∈ [((1 : Byte), true), (2, false)], Admin (dLogStop n.1) 0x522 fun sl => sl.entry.inLength = 0 ∧
      sl.entry.function < 2048 ∧ paramZero sl.entry [0, 1] = true ∧ (dLogStop n.1).mayLog sl.entry.function = n.2) :=
  ⟨⟨_, admin_of (by decide +kernel) ⟨by decide +kernel, by decide +kernel, rfl⟩⟩,
   ⟨{ dLogStart 1 with cub.fns := [(2, { dirty := some { pages := 1 } })] }, 1,
    admin_of (by decide +kernel) (by decide +kernel)⟩,
   admin_of (by decide +kernel) (by decide +kernel), admin_of (by decide +kernel) (by decide +kernel),
   admin_of (by decide +kernel) (by decide +kernel),
   ⟨{ pages := 1024 }, admin_of (by decide +kernel) (by decide +kernel)⟩,
   ⟨{ pages := 1024 }, admin_of (by decide +kernel) (by decide +kernel)⟩,
   by
     intro n h
     simp only [List.mem_cons, List.not_mem_nil, or_false] at h
     rcases h with rfl | rfl <;> exact admin_of (by decide +kernel) (by decide +kernel)⟩

/-- Function 1 in a migration state. -/
def migrating (m : MigState) (s : State) (scope : Nat := 1) : State :=
  { s with cub.fns := [(1, { mig := m, migScope := scope })] }
/-- The same device under a lodge without a MIGRATION section; and one that knows the peer, whose identifier is zero. -/
def unmoved (s : State) : State := { s with lodge.inForce := some { lodge with migration := none } }
/-- The public keys of the peer device. -/
def peerKeys : Bytes := zeros 1665
def withPeer (s : State) : State :=
  { s with lodge.inForce := some { lodge with
      migration := some { nativeMig := true, freezeTimeoutMs := 1000, peers := [⟨zeros 16, identityDigest peerKeys⟩] } } }
/-- The device accepts a public identity whose digest its lodge names. -/
theorem peer_ok {s : State} {m : MigrationSec} {device publics : Bytes} (h : s.tables.migration = some m)
    (hp : m.peers = [⟨device, identityDigest publics⟩]) {d p : Bytes} (hd : d = device) (hk : p = publics) :
    s.peerOk d p = true := by
  subst hd hk; simp [State.peerOk, h, hp]
/-- Squirrel with an empty output queue, which still works; and one whose instances have stopped. -/
def drained (s : State) : State := { s with rng.units := 0 }
def halted (s : State) : State :=
  { s with rng.units := 0, rng.drbgs := (List.range 16).map fun i => (i, { state := DrbgState.stopped }) }
/-- A package of one cub for domain 5, with the public keys of its source and its list of one cub. -/
def package (f : Byte) : Bytes :=
  fit 3569 (fit 0xC4 (migMagic ++ natLe 2 0x0100 ++ [1, 1] ++ natLe 2 5) ++ natLe 4 64) ++ [f, 0]
def dTicket : State := den 0x511 [5] 16
/-- A command with a list of one function. -/
def dList (op : Nat) (f : Byte) : State := den op [] 2 [f, 0]
def dSave : State := withPeer (migrating .frozen (den 0x513 [1, 0, 5] 1731 (zeros 1729 ++ [1])))
def dRestore (f : Byte) : State := den 0x514 [] 3571 (package f)
def dTicketed : State :=
  { withPeer (dRestore 1) with
    cub.tickets := [{ id := zeros 16, domain := 5, source := zeros 16, expires := 192000000001 }] }
theorem dRestore_input (f : Byte) : (dRestore f).inputOf 0 (slotOf (dRestore f)) = package f :=
  memBytes_memPutBytes _ _ _
/-- MIG_CONCLUDE of the saved package of a ticket 0, of a scope, with a receipt; function 1 is saved. -/
def dConclude (scope : Nat) (r : Bytes) : State :=
  { den 0x515 [] 32 (zeros 16 ++ r) with
    cub.saved := [{ ticketId := zeros 16, scope := scope, domain := 5, cubs := [1] }], cub.departing := [5],
    cub.fns := [(1, { mig := .saved, migScope := scope })] }

theorem receipt_length (key digest : Bytes) (v : Byte) : (receipt key digest v).length = 16 := by
  simp [receipt, natLe]
theorem receipt_last (key digest : Bytes) (v : Byte) : (receipt key digest v).getLast? = some v := by
  simp [receipt]
theorem dConclude_input {scope : Nat} {r : Bytes} (h : r.length = 16) :
    (dConclude scope r).inputOf 0 (slotOf (dConclude scope r)) = zeros 16 ++ r := by
  have e : (zeros 16 ++ r).length = 32 := by simp [zeros, h]
  have := memBytes_memPutBytes [] (stagingAddr 0 0) (zeros 16 ++ r)
  rw [e] at this
  have hs : slotOf (dConclude scope r) = { fn := 0, phase := .ready, entry := entry 0x515 [] 32 } := rfl
  have hm : (dConclude scope r).mem.mem = memPutBytes [] (stagingAddr 0 0) (zeros 16 ++ r) := by
    simp only [dConclude, den, withCommand]
  rw [hs]
  show memBytes (dConclude scope r).mem.mem (stagingAddr 0 0) 32 = zeros 16 ++ r
  rw [hm]
  exact this
theorem concluded {scope : Nat} {r : Bytes} (h : r.length = 16) :
    slice ((dConclude scope r).inputOf 0 (slotOf (dConclude scope r))) 16 16 = r ∧
      slice ((dConclude scope r).inputOf 0 (slotOf (dConclude scope r))) 0 16 = zeros 16 := by
  rw [dConclude_input h]
  refine ⟨?_, ?_⟩
  · show fit 16 r = r
    simp [fit, h, zeros]
  · show fit 16 (zeros 16 ++ r) = zeros 16
    simp [fit, zeros, h]

/-- A MIG_CONCLUDE that finds its saved package, whose receipt has the verdicts given. -/
def Concludes (s : State) (scope : Nat) (accepted refused : Prop) : Prop :=
  Admin s 0x515 fun sl => s.migRefusal? = none ∧ sl.entry.inLength = 32 ∧ paramZero sl.entry [] = true ∧
    ∃ p, (s.cub.saved.find? fun p => p.ticketId == slice (s.inputOf 0 sl) 0 16) = some p ∧ p.scope = scope ∧
      (slice (s.inputOf 0 sl) 16 16 = receipt p.receiptKey p.digest 0 ↔ accepted) ∧
      (slice (s.inputOf 0 sl) 16 16 = receipt p.receiptKey p.digest 0x0A ↔ refused)

theorem concludes {scope : Nat} {r : Bytes} {v : Byte} (h : r.length = 16) (e : r.getLast? = some v)
    (g : v = 0 ∨ v = 0x0A → r = receipt [] [] v) (f : State → State)
    (hf : f (dConclude scope r) = { dConclude scope r with mem := (f (dConclude scope r)).mem } ∧
      (f (dConclude scope r)).mem.mem = (dConclude scope r).mem.mem) :
    Concludes (f (dConclude scope r)) scope (v = 0) (v = 0x0A) := by
  have hi : (f (dConclude scope r)).inputOf 0 (slotOf (dConclude scope r))
      = (dConclude scope r).inputOf 0 (slotOf (dConclude scope r)) := by
    show memBytes (f (dConclude scope r)).mem.mem _ _ = memBytes (dConclude scope r).mem.mem _ _
    rw [hf.2]
  have hc := concluded (scope := scope) h
  refine ⟨0, slotOf (dConclude scope r), ?_, ?_, rfl, (by decide : paramZero (entry 0x515 [] 32) [] = true), ?_⟩
  · rw [hf.1]; exact ⟨rfl, rfl, rfl, (by decide : (entry 0x515 [] 32).persId = 0), rfl, rfl,
      (by decide : PairPhase.none ≠ .standby),
      (by decide : (entry 0x515 [] 32).streamPart = 0)⟩
  · rw [hf.1]; rfl
  · refine ⟨{ ticketId := zeros 16, scope := scope, domain := 5, cubs := [1] }, ?_, rfl, ?_, ?_⟩
    · rw [hi, hc.2, hf.1]; simp [dConclude]
    all_goals
      rw [hi, hc.1]
      refine ⟨fun x => ?_, fun x => by subst x; exact g (by simp)⟩
      have := e.symm.trans (x ▸ receipt_last _ _ _)
      simpa using this

theorem witness_MigrationCommands :
    (∃ o, (Admin (unmoved dTicket) 0x511 fun sl => (unmoved dTicket).migRefusal? = some o ∧ sl.entry.inLength = 16 ∧
      paramZero sl.entry [0, 1] = true ∧ sl.entry.dom < 4096)) ∧
    (∃ o, (Admin (unmoved (dConclude 1 [])) 0x515 fun sl => (unmoved (dConclude 1 [])).migRefusal? = some o ∧
      sl.entry.inLength = 32 ∧ paramZero sl.entry [] = true)) ∧
    (∀ op ∈ [0x512, 0x516, 0x517], (∃ o, Admin (unmoved (dList op 1)) op fun sl =>
      let s := unmoved (dList op 1)
      s.migRefusal? = some o ∧ listLength 16 sl.entry.inLength = true ∧ paramZero sl.entry [] = true ∧
      ∀ f ∈ functionList 16 (s.inputOf 0 sl), isCub f = true) ∧
      Admin (dList op 0) op fun sl => listLength 16 sl.entry.inLength = true ∧ paramZero sl.entry [] = true ∧
        ∃ f ∈ functionList 16 ((dList op 0).inputOf 0 sl), isCub f = false) ∧
    (Admin { dTicket with cub.tickets := List.replicate 16 { expires := 192000000001 } } 0x511 fun sl =>
      let s : State := { dTicket with cub.tickets := List.replicate 16 { expires := 192000000001 } }
      s.migRefusal? = none ∧ sl.entry.inLength = 16 ∧ paramZero sl.entry [0, 1] = true ∧ 16 = s.openTickets.length) ∧
    (∃ t, Admin (halted dTicket) 0x511 fun sl => (halted dTicket).migRefusal? = none ∧ sl.entry.inLength = 16 ∧
      paramZero sl.entry [0, 1] = true ∧ sl.entry.dom < 4096 ∧ (halted dTicket).openTickets.length < 16 ∧
      (halted dTicket).draw 0 48 = (.refused, t)) ∧
    (∃ r t, Admin dTicket 0x511 fun sl => dTicket.migRefusal? = none ∧ sl.entry.inLength = 16 ∧
      paramZero sl.entry [0, 1] = true ∧ sl.entry.dom < 4096 ∧ dTicket.openTickets.length < 16 ∧
      dTicket.draw 0 48 = (.served r, t)) ∧
    (Admin (migrating .saved (dList 0x512 1)) 0x512 fun sl =>
      let s := migrating .saved (dList 0x512 1)
      s.migRefusal? = none ∧ functionList 16 (s.inputOf 0 sl) = [1] ∧ isCub 1 = true ∧ (s.fnSt 1).mig ≠ .none) ∧
    (Admin (dList 0x512 1) 0x512 fun sl => (dList 0x512 1).migRefusal? = none ∧
      functionList 16 ((dList 0x512 1).inputOf 0 sl) = [1] ∧ isCub 1 = true ∧ ((dList 0x512 1).fnSt 1).mig = .none ∧
      ((dList 0x512 1).fnRec? 1).any (fun r => r.flags.getLsbD 0) = true) ∧
    (Admin (dList 0x516 1) 0x516 fun sl => (dList 0x516 1).migRefusal? = none ∧
      functionList 16 ((dList 0x516 1).inputOf 0 sl) = [1] ∧ (dList 0x516 1).mayThaw 1 = false) ∧
    (Admin (refusing (migrating .frozen { dList 0x516 1 with cub.departing := [5] } 2)) 0x516 fun sl =>
      let s := refusing (migrating .frozen { dList 0x516 1 with cub.departing := [5] } 2)
      s.migRefusal? = none ∧ functionList 16 (s.inputOf 0 sl) = [1] ∧ s.mayThaw 1 = true ∧ s.departingFn 1 = true ∧
      s.storeAccepts .controller = false) ∧
    (Admin (migrating .frozen (dList 0x516 1)) 0x516 fun sl =>
      let s := migrating .frozen (dList 0x516 1)
      s.migRefusal? = none ∧ functionList 16 (s.inputOf 0 sl) = [1] ∧ s.mayThaw 1 = true ∧ s.departingFn 1 = false) ∧
    (Admin (dList 0x517 1) 0x517 fun sl => (dList 0x517 1).migRefusal? = none ∧
      functionList 16 ((dList 0x517 1).inputOf 0 sl) = [1] ∧ ((dList 0x517 1).fnSt 1).mig ≠ .incoming) ∧
    (Admin (migrating .incoming (dList 0x517 1)) 0x517 fun sl =>
      let s := migrating .incoming (dList 0x517 1)
      s.migRefusal? = none ∧ functionList 16 (s.inputOf 0 sl) = [1] ∧ (s.fnSt 1).mig = .incoming) ∧
    (Admin (den 0x515 [] 32) 0x515 fun sl => (den 0x515 [] 32).migRefusal? = none ∧ sl.entry.inLength = 32 ∧
      paramZero sl.entry [] = true ∧
      ∀ p ∈ (den 0x515 [] 32).cub.saved, p.ticketId ≠ slice ((den 0x515 [] 32).inputOf 0 sl) 0 16) ∧
    (∃ s, Concludes s 1 False False) ∧
    (∃ s, Concludes s 1 True False ∧ (s.fnSt 1).mig = .saved) ∧ (∃ s, Concludes s 1 False True) ∧
    (∃ s, Concludes s 2 True False ∧ s.storeAccepts .sett = false) ∧
    (∃ s, Concludes s 2 True False ∧ s.storeAccepts .sett = true ∧ s.storeAccepts .controller = true) ∧
    (∀ f ∈ [id, drained, halted], Admin (f dSave) 0x513 fun sl =>
      (f dSave).migRefusal? = none ∧ listLength 16 (sl.entry.inLength - 1729) = true ∧
      paramZero sl.entry [0, 2, 3] = true ∧ sl.entry.p 0 = 1 ∧ leField sl.entry.param 2 2 = 5 ∧
      functionList 16 (((f dSave).inputOf 0 sl).drop 1729) = [1] ∧ isCub 1 = true ∧
      (f dSave).peerOk (slice ((f dSave).inputOf 0 sl) 0 16) (slice ((f dSave).inputOf 0 sl) 64 1665) = true ∧
      ((f dSave).fnSt 1).mig = .frozen ∧ (f dSave).migratable 1 5 = true) ∧
    (∃ r t u v, dSave.drawOwn 0 96 = (.served r, t) ∧ (drained dSave).drawOwn 0 96 = (.waits, u) ∧
      (halted dSave).drawOwn 0 96 = (.refused, v)) ∧
    (Admin (den 0x514 [] 3571) 0x514 fun sl => (den 0x514 [] 3571).migRefusal? = none ∧ 3571 = sl.entry.inLength ∧
      paramZero sl.entry [] = true ∧ packageOk ((den 0x514 [] 3571).inputOf 0 sl) = false) ∧
    (Admin (dRestore 0) 0x514 fun sl => (dRestore 0).migRefusal? = none ∧ 3571 = sl.entry.inLength ∧
      paramZero sl.entry [] = true ∧ packageOk ((dRestore 0).inputOf 0 sl) = true ∧
      ∃ f ∈ packageCubs ((dRestore 0).inputOf 0 sl), isCub f = false) ∧
    (Admin (dRestore 1) 0x514 fun sl => (dRestore 1).migRefusal? = none ∧ 3571 = sl.entry.inLength ∧
      paramZero sl.entry [] = true ∧ packageOk ((dRestore 1).inputOf 0 sl) = true ∧
      packageCubs ((dRestore 1).inputOf 0 sl) = [1] ∧ isCub 1 = true ∧ (dRestore 1).tables.migration.all (·.peers == [])) ∧
    (Admin (withPeer (dRestore 1)) 0x514 fun sl => (withPeer (dRestore 1)).migRefusal? = none ∧
      3571 = sl.entry.inLength ∧ paramZero sl.entry [] = true ∧ (withPeer (dRestore 1)).inputOf 0 sl = package 1) ∧
    (Admin dTicketed 0x514 fun sl => dTicketed.migRefusal? = none ∧ 3571 = sl.entry.inLength ∧
      paramZero sl.entry [] = true ∧ dTicketed.inputOf 0 sl = package 1) ∧
    (packageOk (package 1) = true ∧ packageCubs (package 1) = [1] ∧
      ((package 1).take (0x730 + leField (package 1) 0xC4 4)).length = 1904) ∧
    (withPeer (dRestore 1)).peerOk (slice (package 1) 0x10 16) (slice (package 1) 1904 1665) = true ∧
    dTicketed.peerOk (slice (package 1) 0x10 16) (slice (package 1) 1904 1665) = true ∧
    ((withPeer (dRestore 1)).openTickets = [] ∧
      ∃ tk, (dTicketed.openTickets.find? fun t => t.id == slice (package 1) 0x30 16 && t.domain == leField (package 1) 0xC 2
        && t.source == slice (package 1) 0x10 16) = some tk) ∧
    (leField (package 1) 0xA 1 = 1 ∧ dTicketed.migratable 1 5 = true ∧ (dTicketed.fnSt 1).mig = .none ∧
      (dTicketed.ring 1).enabled = false ∧ dTicketed.slotsOf 1 = [] ∧ (withPeer (dRestore 1)).migratable 2 5 = false) ∧
    (∃ (f : Nat) (s : State), (s.fnSt f).mig = .frozen ∧ (s.fnSt f).frozenAt + s.freezeTimeout ≤ s.now) ∧
    (∃ (f : Nat) (s : State), (s.fnSt f).mig = .frozen ∧ s.now < (s.fnSt f).frozenAt + s.freezeTimeout) :=
  ⟨⟨0x10, admin_of (by decide +kernel) (by decide +kernel)⟩, ⟨0x10, admin_of (by decide +kernel) (by decide +kernel)⟩,
   by
     intro op h
     simp only [List.mem_cons, List.not_mem_nil, or_false] at h
     rcases h with rfl | rfl | rfl <;>
       exact ⟨⟨0x10, admin_of (by decide +kernel) (by decide +kernel)⟩, admin_of (by decide +kernel) (by decide +kernel)⟩,
   admin_of (by decide +kernel) (by decide +kernel),
   ⟨_, admin_of (by decide +kernel) ⟨by decide +kernel, by decide +kernel, by decide +kernel, (by decide +kernel),
     by decide +kernel, rfl⟩⟩,
   ⟨_, _, admin_of (by decide +kernel) ⟨by decide +kernel, by decide +kernel, by decide +kernel, (by decide +kernel),
     by decide +kernel, rfl⟩⟩,
   admin_of (by decide +kernel) (by decide +kernel), admin_of (by decide +kernel) (by decide +kernel),
   admin_of (by decide +kernel) (by decide +kernel), admin_of (by decide +kernel) (by decide +kernel),
   admin_of (by decide +kernel) (by decide +kernel), admin_of (by decide +kernel) (by decide +kernel),
   admin_of (by decide +kernel) (by decide +kernel), admin_of (by decide +kernel) (by decide +kernel),
   ⟨dConclude 1 (zeros 15 ++ [5]), by simpa using concludes (v := 5) rfl rfl (by decide) id ⟨rfl, rfl⟩⟩,
   ⟨dConclude 1 (receipt [] [] 0),
    by simpa using concludes (v := 0) (receipt_length _ _ _) (receipt_last _ _ _) (fun _ => rfl) id ⟨rfl, rfl⟩, rfl⟩,
   ⟨dConclude 1 (receipt [] [] 0x0A),
    by simpa using concludes (v := 0x0A) (receipt_length _ _ _) (receipt_last _ _ _) (fun _ => rfl) id ⟨rfl, rfl⟩⟩,
   ⟨refusing (dConclude 2 (receipt [] [] 0)),
    by simpa using concludes (v := 0) (receipt_length _ _ _) (receipt_last _ _ _) (fun _ => rfl) refusing ⟨rfl, rfl⟩, rfl⟩,
   ⟨dConclude 2 (receipt [] [] 0),
    by simpa using concludes (v := 0) (receipt_length _ _ _) (receipt_last _ _ _) (fun _ => rfl) id ⟨rfl, rfl⟩, rfl, rfl⟩,
   by
     intro f h
     simp only [List.mem_cons, List.not_mem_nil, or_false] at h
     rcases h with rfl | rfl | rfl <;>
       exact admin_of (by decide +kernel) ⟨by decide +kernel, by decide +kernel, by decide +kernel, (by decide +kernel),
         by decide +kernel, by decide +kernel, by decide +kernel,
         peer_ok rfl rfl (by decide +kernel) (by decide +kernel), by decide +kernel⟩,
   ⟨_, _, _, _, rfl, rfl, rfl⟩,
   admin_of (by decide +kernel) (by decide +kernel), admin_of (by decide +kernel) (by decide +kernel),
   admin_of (by decide +kernel) (by decide +kernel),
   admin_of (by decide +kernel) ⟨by decide +kernel, by decide +kernel, by decide +kernel, dRestore_input 1⟩,
   admin_of (by decide +kernel) ⟨by decide +kernel, by decide +kernel, by decide +kernel, dRestore_input 1⟩,
   by decide +kernel,
   peer_ok (m := { nativeMig := true, freezeTimeoutMs := 1000, peers := [⟨zeros 16, identityDigest peerKeys⟩] })
     rfl rfl (by decide +kernel) (by decide +kernel),
   peer_ok (m := { nativeMig := true, freezeTimeoutMs := 1000, peers := [⟨zeros 16, identityDigest peerKeys⟩] })
     rfl rfl (by decide +kernel) (by decide +kernel),
   ⟨rfl, { id := zeros 16, domain := 5, source := zeros 16, expires := 192000000001 }, by decide +kernel⟩,
   by decide +kernel,
   ⟨1, migrating .frozen ready, by decide +kernel⟩,
   ⟨1, { ready with cub.fns := [(1, { mig := .frozen, frozenAt := 192000000000 })] }, by decide +kernel⟩⟩


theorem witness_RegisterZeroReadsZero : ∃ i : Nat, 0 < i ∧ i < 32 := ⟨31, by decide⟩

/-- Core 0 issues an instruction word in slot 0, and the command there meets a condition. -/
def Issued (s : State) (w : BitVec 32) (op : Nat) (zero : BitVec 32) (p : Slot → Bool) : Bool :=
  let sl := slotOf s
  s.running? 0 == some (0, sl) && decide (sl.ctx.pc.toNat < 0x100000) && sl.ctx.pc.toNat % 4 == 0 &&
    s.codeWord sl sl.ctx.pc.toNat == w && Insn.op w == op && w &&& zero == 0 && p sl
theorem issued {s : State} {w zero : BitVec 32} {op : Nat} {p : Slot → Bool} (h : Issued s w op zero p = true) :
    s.Issues 0 0 (slotOf s) w op zero ∧ p (slotOf s) = true := by
  simpa [Issued, State.Issues, and_assoc] using h

/-- Operands of the arithmetic instructions: all ones, and 5. -/
def operands : Ctx := regs [(1, 0xFFFFFFFFFFFFFFFF), (2, 5)]

theorem witness_ArithmeticInstructions :
    (∀ op ∈ [0x01, 0x02, 0x03, 0x04, 0x05, 0x06, 0x07, 0x08, 0x09, 0x0A, 0x0B, 0x0C, 0x0D, 0x0F, 0x3E],
      Issued (program (insn op 3 1 0xF800) operands) (insn op 3 1 0xF800) op 0x7FF fun _ => true) ∧
    Issued (program (insn 0x0E 3 1 0xFFC0) operands) (insn 0x0E 3 1 0xFFC0) 0x0E 0x3F (fun _ => true) ∧
    Issued (program (insn 0x3F 31 31) operands) (insn 0x3F 31 31) 0x3F 0xFFFF (fun _ => true) ∧
    (∀ op ∈ [0x10, 0x11, 0x12, 0x13, 0x17, 0x18],
      Issued (program (insn op 3 1 0xFFFF) operands) (insn op 3 1 0xFFFF) op 0 fun _ => true) ∧
    (∀ op ∈ [0x14, 0x15, 0x16],
      Issued (program (insn op 3 1 63) operands) (insn op 3 1 63) op 0xFFC0 fun _ => true) ∧
    Issued (program (insn 0x19 3 0 0xFFFF) operands) (insn 0x19 3 0 0xFFFF) 0x19 0x1F0000 (fun _ => true) ∧
    Issued (program (insn 0x1A 3 3 0xFFFF) operands) (insn 0x1A 3 3 0xFFFF) 0x1A 0x1C0000 (fun _ => true) ∧
    (∀ low ∈ [0, 63, 0xFC0, 0x7FF], Issued (program (insn 0x2B 3 1 low) operands) (insn 0x2B 3 1 low) 0x2B 0xF000
      fun _ => low / 64 % 64 + low % 64 < 64 ∨ 64 ≤ low / 64 % 64 + low % 64) ∧
    63 / 64 % 64 + 63 % 64 < 64 ∧ 64 ≤ 0x7FF / 64 % 64 + 0x7FF % 64 := by
  decide +kernel

/-- General register 1 holds an address of the sealed part of the core's larder. -/
def base : Ctx := regs [(1, 0x01000010), (2, 0x0123456789ABCDEF)]
/-- It holds an address that no core reaches. -/
def nowhere : Ctx := regs [(1, 0x00F00000), (2, 7)]
/-- The address that a load or store word accesses. -/
def addrOf (w : BitVec 32) (sl : Slot) : Nat := (sl.ctx.rg (fA w) + (w.extractLsb' 0 16).signExtend 64).toNat
/-- An access that is made, and one that is refused. -/
def made {α : Type} : Acc α → Bool | .done _ => true | _ => false
def turned {α : Type} : Acc α → Bool | .refused _ => true | _ => false

/-- A load of n bytes, and a store of g2, that is aligned and ends as given; and one that is not aligned. -/
def Loads (x : Ctx) (op n imm : Nat) (ends : Acc (Bytes × State) → Bool) : Bool :=
  let s := program (insn op 3 1 imm) x
  Issued s (insn op 3 1 imm) op 0 fun sl => let a := addrOf (insn op 3 1 imm) sl
    a % n == 0 && ends (s.coreRead 0 0 sl a n)
def Stores (x : Ctx) (op n imm : Nat) (ends : Acc State → Bool) : Bool :=
  let s := program (insn op 2 1 imm) x
  Issued s (insn op 2 1 imm) op 0 fun sl => let a := addrOf (insn op 2 1 imm) sl
    a % n == 0 && ends (s.coreWrite 0 0 sl a (natLe n (sl.ctx.rg 2).toNat))

theorem witness_aligned_accesses :
    (∀ p ∈ [(0x1B, 8, 0xFFF8), (0x1C, 4, 4), (0x1D, 2, 2), (0x1E, 1, 1)],
      Loads base p.1 p.2.1 p.2.2 made ∧ Loads nowhere p.1 p.2.1 p.2.2 turned) ∧
    (∀ p ∈ [(0x1F, 8, 8), (0x20, 4, 4), (0x21, 2, 2), (0x22, 1, 1)],
      Stores base p.1 p.2.1 p.2.2 made ∧ Stores nowhere p.1 p.2.1 p.2.2 turned) := by
  decide +kernel

theorem witness_skewed_accesses :
    ∀ p ∈ [(0x1B, 8, 4), (0x1C, 4, 2), (0x1D, 2, 1), (0x1F, 8, 7), (0x20, 4, 3), (0x21, 2, 1)],
      Issued (program (insn p.1 3 1 p.2.2) base) (insn p.1 3 1 p.2.2) p.1 0 fun sl =>
        addrOf (insn p.1 3 1 p.2.2) sl % p.2.1 ≠ 0 := by
  decide +kernel

/-- The core's command with an uncorrectable word in its larder. -/
def spoilt : State := { program 0 base with mem.poisoned := [larderAddr 0 0x10] }

theorem witness_core_accesses :
    (∃ a : Nat, a < 0x100000) ∧
    (slotOf (program 0 base)).programWorld = true ∧
    ((slotOf (program 0 base false)).programWorld = false ∧
      (program 0 base false).slotInPool ((program 0 base false).skulkPool? 0) 0 = true ∧
      ∀ r ∈ (program 0 base false).tables.gates, r.gate = 3 → ¬ (r.masterLo ≤ 0x10 ∧ 0x10 ≤ r.masterHi)) ∧
    (∃ g o, (program 0 base).coreAccess 0 0 (slotOf (program 0 base)) 0x01000010 false = .done (.cell g o) ∧
      (program 0 base).poisonedAt (gateAddr g o) 8 = false) ∧
    (∃ g o, spoilt.coreAccess 0 0 (slotOf spoilt) 0x01000010 false = .done (.cell g o) ∧
      spoilt.poisonedAt (gateAddr g o) 8 = true) ∧
    (∃ g o, (program 0 base).MemWf ∧ (program 0 base).coreAccess 0 0 (slotOf (program 0 base)) 0x01000010 true
      = .done (.cell g o) ∧ ¬ (g = 0 ∧ (program 0 base).mem.fenced = true)) :=
  ⟨⟨0xFFFFF, by decide⟩, by decide +kernel, by decide +kernel, ⟨_, _, rfl, by decide +kernel⟩,
   ⟨_, _, rfl, by decide +kernel⟩, ⟨_, _, rfl, rfl, by decide +kernel⟩⟩

theorem witness_BranchesAndJumps :
    (∀ op ∈ [0x23, 0x24, 0x25, 0x26, 0x27, 0x28, 0x29],
      Issued (program (insn op 1 2 0x8000) base) (insn op 1 2 0x8000) op 0 fun _ => true) ∧
    Issued (program (insn 0x2A 0 1 0xFFFC) base) (insn 0x2A 0 1 0xFFFC) 0x2A 0
      (fun sl => addrOf (insn 0x2A 0 1 0xFFFC) sl % 4 = 0) ∧
    Issued (program (insn 0x2A 0 1 2) base) (insn 0x2A 0 1 2) 0x2A 0 (fun sl => addrOf (insn 0x2A 0 1 2) sl % 4 ≠ 0) := by
  decide +kernel

/-- A context whose exception handler and stack are set up; one whose program runs in that handler; one with a double-fault
handler alone; and one in a double fault. -/
def handler : Ctx := { regs [(1, 8), (30, 0x01041000)] with evec := 0x100, stackLo := 0x01040000, stackHi := 0x01042000 }
def inHandler : Ctx := { regs [(30, 0x01040FC0)] with evec := 0x100, stackLo := 0x01040000, stackHi := 0x01042000, excDepth := 1 }
def unhandled : Ctx := { base with dfvec := 0x200 }
def cramped : Ctx := { handler with stackLo := 0x01040FC8, dfvec := 0x200 }
def doubled : Ctx := { handler with dfActive := true }

/-- A state in which the command of core 0 may raise an exception, of any cause but a key's. -/
def Raises (s : State) (P : Ctx → Prop) : Prop :=
  s.MemWf ∧ s.slot? 0 = some (slotOf s) ∧ P (slotOf s).ctx
/-- Beside that, its core runs it, and it has neither ended nor another outcome due. -/
def Stops (s : State) (P : Ctx → Prop) : Prop :=
  Raises s P ∧ (s.core 0).slot = some 0 ∧ (slotOf s).phase ≠ .ended ∧ (slotOf s).legacy = none ∧
    (slotOf s).storeRefused = false

theorem witness_exceptions :
    Raises (program 0 handler) (fun x => x.dfActive = false ∧ x.evec ≠ 0 ∧ x.stackOk = true ∧
      0x1000000 ≤ x.stackLo.toNat) ∧
    Raises (program 0 unhandled) (fun x => x.dfActive = false ∧ x.evec = 0 ∧ x.dfvec ≠ 0) ∧
    Raises (program 0 cramped) (fun x => x.dfActive = false ∧ x.evec ≠ 0 ∧ x.stackOk = false ∧ x.dfvec ≠ 0) ∧
    Stops (program 0 doubled) (fun x => x.dfActive = true) ∧
    Stops (program 0 base) (fun x => x.dfActive = false ∧ x.evec = 0 ∧ x.dfvec = 0) ∧
    Stops (program 0 { cramped with dfvec := 0 }) (fun x => x.dfActive = false ∧ x.evec ≠ 0 ∧ x.stackOk = false ∧
      x.dfvec = 0) := by
  unfold Stops Raises State.MemWf; beta_reduce; decide +kernel

theorem witness_Exceptions :
    Issued (program (insn 0) handler) (insn 0) 0x00 0 (fun _ => true) ∧
    Issued (program (insn 0x37 2) handler) (insn 0x37 2) 0x37 0 (fun _ => fnListed 0x37 2 = false) ∧
    Issued (program (insn 0x2F 0 0 0xFFFF) handler) (insn 0x2F 0 0 0xFFFF) 0x2F 0x3FF0000 (fun _ => true) ∧
    Issued (program (insn 0x30) inHandler) (insn 0x30) 0x30 0x3FFFFFF (fun sl => sl.ctx.hasFrame = true) ∧
    Issued (program (insn 0x30) handler) (insn 0x30) 0x30 0x3FFFFFF (fun sl => sl.ctx.hasFrame = false) ∧
    (∀ n ∈ [0, 1, 2, 3, 4, 5, 6], Issued (program (insn 0x2C 3 0 n) base) (insn 0x2C 3 0 n) 0x2C 0x1FF000 fun sl =>
      ((program (insn 0x2C 3 0 n) base).csr? 0 sl n).isSome = true) ∧
    (∀ n ∈ [7, 0xFFF], Issued (program (insn 0x2C 3 0 n) base) (insn 0x2C 3 0 n) 0x2C 0x1FF000 fun _ => 7 ≤ n) ∧
    Issued (program (insn 0x2D 0 2 2) {}) (insn 0x2D 0 2 2) 0x2D 0x3E0F000 (fun sl => sl.ctx.rg 2 = 0) ∧
    Issued (program (insn 0x2D 0 2 3) {}) (insn 0x2D 0 2 3) 0x2D 0x3E0F000 (fun _ => 3 ≠ 2) ∧
    (∀ v ∈ [2, 4], let s := program (insn 0x2D 0 2 2) (regs [(2, BitVec.ofNat 64 v)])
      Issued s (insn 0x2D 0 2 2) 0x2D 0x3E0F000 fun sl =>
        sl.ctx.rg 2 ≠ 0 ∧ ((sl.ctx.rg 2).toNat % 4 ≠ 0 ∨ (s.code sl).length ≤ (sl.ctx.rg 2).toNat)) := by
  decide +kernel

/-- A program of two words with a nonzero handler address in g2. -/
def roomy : State :=
  let s := program (insn 0x2D 0 2 2) (regs [(2, 4)])
  { s with lodge.inForce := some { lodge with
      programs := [{ setId := 9, sealedWorld := true, entries := [{ opcode := 0x8000 }],
                     code := natLe 4 (insn 0x2D 0 2 2).toNat ++ zeros 4 }] } }
theorem witness_handler_set : Issued roomy (insn 0x2D 0 2 2) 0x2D 0x3E0F000 fun sl =>
    (sl.ctx.rg 2).toNat % 4 = 0 ∧ (sl.ctx.rg 2).toNat < (roomy.code sl).length := by
  decide +kernel

/-- A command whose program runs DONE with a status in g1 and a result of the length in g2, with flags in its entry. -/
def ending (st len : Nat) (flags : BitVec 16 := 0x20) (fault : Option (Status × Nat) := none) : State :=
  let s := program (insn 0x31 0 1 0x1000) { regs [(1, BitVec.ofNat 64 st), (2, BitVec.ofNat 64 len)] with keyFault := fault }
  let sl := slotOf s
  { s with host.slots := [(0, { sl with entry := { sl.entry with flags := flags } })] }
/-- DONE is issued there with that status, which R249 accepts or not. -/
def Ends (s : State) (st : Nat) (accepted : Bool) (p : Slot → Bool := fun _ => true) : Bool :=
  Issued s (insn 0x31 0 1 0x1000) 0x31 0x3E007FF fun sl =>
    ((sl.ctx.rg 1).setWidth 16 : Status) == BitVec.ofNat 16 st && doneStatus st == accepted && p sl

theorem witness_DONE :
    Ends (ending 0 0x1001) 0 true (fun sl => !resultFits sl.entry.outLength 0x1001) ∧
    (∀ n ∈ [0, 0x1000], Ends (ending 0 n) 0 true fun sl => resultFits sl.entry.outLength n && sl.entry.streamPart == 0) ∧
    Ends (ending 0 0x1000 0x2C) 0 true (fun sl => resultFits sl.entry.outLength 0x1000 && sl.entry.streamPart == 3) ∧
    Ends (ending 0 0x1000 0x24) 0 true (fun sl => resultFits sl.entry.outLength 0x1000 && sl.entry.streamPart == 1 &&
      (ending 0 0x1000 0x24).streamKept sl) ∧
    Ends (ending 0 0x1000 0x28) 0 true (fun sl => resultFits sl.entry.outLength 0x1000 && sl.entry.streamPart == 2 &&
      !(ending 0 0x1000 0x28).streamKept sl) ∧
    Ends (ending 0x106 0) 0x106 true ∧ Ends (ending 0x109 0) 0x109 false ∧ Ends (ending 0xFFFF 0) 0xFFFF false ∧
    (∀ i ∈ [0, 3], Ends (ending 0x204 0 0x20 (some (0x204, i))) 0x204 true fun sl =>
      sl.ctx.keyFault == some (0x204, i)) ∧
    Ends (ending 0x204 0) 0x204 true (fun sl => sl.ctx.keyFault == none) ∧
    Ends (ending 0x204 0 0x20 (some (0x203, 0))) 0x204 true (fun sl => sl.ctx.keyFault == some (0x203, 0)) := by
  decide +kernel

/-- A command that calls YIELD with a job in a state, or with none. -/
def yielding (l : Tbl Job) : State := withJobs l (program (insn 0x32) base)
/-- A command that has left the miss pen and waits for a core; and one whose core is stopped, or is taken. -/
def resumed : State :=
  { ready with host.slots := [(0, { fn := 1, phase := .resume, setId := some 9, skulk := some 0, started := true })] }
def resumeOn (core : CoreState) : State := { resumed with compute.cores := [(0, core)] }
/-- A command that CTPAD holds until a cycle count. -/
def padded (t : Word) : State := program (insn 0x33) { base with padUntil := some t }

theorem witness_ProgramEndAndParking :
    Issued (program (insn 0x2E) base) (insn 0x2E) 0x2E 0x3FFFFFF (fun _ => true) ∧
    Issued (yielding [(1, { jobDone with state := .running })]) (insn 0x32) 0x32 0x3FFFFFF (fun sl =>
      sl.jobs != [] && sl.jobs.all (fun e => !e.2.state.terminal) && sl.core == some 0) ∧
    Issued (yielding []) (insn 0x32) 0x32 0x3FFFFFF (fun sl => sl.jobs == []) ∧
    Issued (yielding [(1, { jobDone with state := .running }), (4, jobDone)]) (insn 0x32) 0x32 0x3FFFFFF (fun sl =>
      sl.jobs.any fun e => e.2.state.terminal) ∧
    (resumed.slot? 0 = some (slotOf resumed) ∧ (slotOf resumed).miss = none ∧ (slotOf resumed).phase = .resume ∧
      (slotOf resumed).skulk = some (0 / 4) ∧ resumed.awake (domSkulk (0 / 4)) = true ∧
      (resumed.core 0).stopped = false ∧ (resumed.core 0).slot = none) ∧
    ((slotOf (program 0 base)).miss = none ∧ (slotOf (program 0 base)).phase ≠ .resume) ∧
    ((resumeOn { stopped := true }).core 0).stopped = true ∧ ((resumeOn { slot := some 9 }).core 0).slot ≠ none ∧
    Issued (program (insn 0x33 0 1) (regs [(1, 0xFFFFFFFFFFFFFFFF)])) (insn 0x33 0 1) 0x33 0x3E0FFFF (fun sl =>
      decide ((program 0 {}).cycles sl.ctx < (sl.ctx.rg 1).toNat)) ∧
    Issued (program (insn 0x33 0 1) (regs [(1, 5)])) (insn 0x33 0 1) 0x33 0x3E0FFFF (fun sl =>
      decide ((sl.ctx.rg 1).toNat ≤ (program 0 {}).cycles sl.ctx)) ∧
    (∀ t : Nat, t = 7 ∨ t = 0xFFFFFFFFFFFF → ((padded (BitVec.ofNat 64 t)).core 0).slot = some 0 ∧
      (slotOf (padded (BitVec.ofNat 64 t))).ctx.padUntil = some (BitVec.ofNat 64 t)) ∧
    7 ≤ (padded 7).cycles (slotOf (padded 7)).ctx ∧
    (padded 0xFFFFFFFFFFFF).cycles (slotOf (padded 0xFFFFFFFFFFFF)).ctx < 0xFFFFFFFFFFFF := by
  refine ⟨by decide +kernel, by decide +kernel, by decide +kernel, (by decide +kernel), by decide +kernel, by decide +kernel,
    by decide +kernel, (by decide +kernel), by decide +kernel, by decide +kernel, ?_, by decide +kernel, by decide +kernel⟩
  rintro t (rfl | rfl) <;> decide +kernel

/-- Block register 15 holds a sensitive value; general registers hold an address of the sealed larder and one of the host larder. -/
def blocks : Ctx :=
  { regs [(1, 0x01000010), (2, 0x01040010), (3, 0x01000018)] with
    cb := (Vector.replicate 16 {}).setIfInBounds 15 { val := 3, sensitive := true } }
/-- A function of CBLK is issued, sealed or open, with the fields given. -/
def Cblk (fn a low : Nat) (zero : BitVec 32) (world : Bool := true) (p : State → Slot → Bool := fun _ _ => true) : Bool :=
  let w := insn 0x36 fn a low
  let s := program w blocks world
  Issued s w 0x36 zero fun sl => fD w == fn && sl.programWorld == world && p s sl
def drawEnds : Draw → Nat | .served _ => 0 | .refused => 1 | .waits => 2
/-- CBLK RAND under a Squirrel whose queue is full, is empty, or will never be served. -/
def rand : State := program (insn 0x36 10 0 0xF000) blocks
def randWaits : State := { rand with rng.units := 0 }
def randStopped : State :=
  { rand with rng.units := 0, rng.drbgs := (List.range 16).map fun i => (i, { state := DrbgState.stopped }) }

theorem witness_HandleAndBlockRegisters :
    Issued (program (insn 0x34 0 2 0x0E) base) (insn 0x34 0 2 0x0E) 0x34 0x3E0FFF1 (fun _ => true) ∧
    Issued (program (insn 0x35 0 3 0x0E) base) (insn 0x35 0 3 0x0E) 0x35 0x3E0FFF1 (fun _ => true) ∧
    Cblk 0 0 0x1F00 0x1F00FF ∧ Cblk 1 0 0x12F0 0x1F000F ∧ Cblk 2 0 0xF230 0x1F000F ∧ Cblk 3 0 0xF000 0x1F0FFF ∧
    Cblk 4 1 0xF000 0x0FFF true (fun s sl => (sl.ctx.rg 1).toNat % 16 == 0 &&
      made (s.coreRead 0 0 sl (sl.ctx.rg 1).toNat 16)) ∧
    Cblk 4 3 0xF000 0x0FFF true (fun _ sl => (sl.ctx.rg 3).toNat % 16 != 0) ∧
    Cblk 5 3 0x0F00 0xF0FF true (fun _ sl => (sl.ctx.rg 3).toNat % 16 != 0) ∧
    Cblk 5 1 0x0F00 0xF0FF true (fun s sl => (sl.ctx.rg 1).toNat % 16 == 0 && secureAddr (sl.ctx.rg 1).toNat &&
      (sl.ctx.rcb 15).sensitive && made (s.coreWrite 0 0 sl (sl.ctx.rg 1).toNat (natLe 16 (sl.ctx.rcb 15).val.toNat))) ∧
    Cblk 5 2 0x0E00 0xF0FF true (fun s sl => (sl.ctx.rg 2).toNat % 16 == 0 && !(sl.ctx.rcb 14).sensitive &&
      made (s.coreWrite 0 0 sl (sl.ctx.rg 2).toNat (natLe 16 (sl.ctx.rcb 14).val.toNat))) ∧
    Cblk 5 2 0x0F00 0xF0FF true (fun _ sl => (sl.ctx.rg 2).toNat % 16 == 0 && (sl.ctx.rcb 15).sensitive &&
      !secureAddr (sl.ctx.rg 2).toNat) ∧
    (∀ fn ∈ [6, 7], Cblk fn 3 0x0F00 0xF0FF ∧ Cblk fn 3 0x0E00 0xF0FF false (fun _ sl => !(sl.ctx.rcb 14).sensitive) ∧
      Cblk fn 3 0x0F00 0xF0FF false (fun _ sl => (sl.ctx.rcb 15).sensitive)) ∧
    Cblk 8 2 0xF000 0x0FFF ∧ Cblk 9 2 0xF000 0x0FFF ∧
    (∀ p ∈ [(rand, 0), (randStopped, 1), (randWaits, 2)], Issued p.1 (insn 0x36 10 0 0xF000) 0x36 0x1F0FFF fun _ =>
      drawEnds (p.1.draw 0 16).1 == p.2) ∧ ((rand.draw 0 16).2.slot? 0).isSome = true ∧
    Cblk 11 2 0x0FF0 0xF00F ∧ Cblk 12 0 0xF000 0x1F0FFF ∧ Cblk 12 0 0xF000 0x1F0FFF false := by
  decide +kernel

/-- Key register 3 holds a resolved key. -/
def keyed (l : List (Nat × Word)) (r : KeyRec) : Ctx :=
  { regs l with ck := (Vector.replicate 8 none).setIfInBounds 3 (some { key := 1, record := r }) }
/-- A SHA-256 pipe has been started. -/
def piped (l : List (Nat × Word)) : Ctx :=
  { regs l with pipes := (Vector.replicate 4 none).setIfInBounds 0 (some { alg := 0x20 }) }
/-- CIPH is issued under key register 3, and PIPE INIT under it for the algorithm in g1. -/
def Ciph (fn : Nat) (x : Ctx) (p : Slot → Bool) : Bool :=
  Issued (program (insn 0x37 fn 0 0x1206) x) (insn 0x37 fn 0 0x1206) 0x37 0x1F00F1 fun sl =>
    fD (insn 0x37 fn 0 0x1206) == fn && p sl
def Init (x : Ctx) (p : Slot → Nat → Bool) : Bool :=
  Issued (program (insn 0x38 0 1 6) x) (insn 0x38 0 1 6) 0x38 0xFFF1 fun sl =>
    fD (insn 0x38 0 1 6) == 0 && p sl ((sl.ctx.rg 1).toNat % 256)
/-- The key register names a key of which a use may be committed. -/
def kept (s : State) : Bool := (slotOf s).ctx.rck 3 |>.any fun kr => ((s.commitUse kr).slot? 0).isSome

theorem witness_CiphersAndPipes :
    (∀ fn ∈ [0, 1], Ciph fn (keyed [] (key 5 3)) (fun sl => (sl.ctx.rck 3).any fun kr =>
        cipherPermitted (fn == 1) kr.record) ∧ kept (program (insn 0x37 fn 0 0x1206) (keyed [] (key 5 3))) ∧
      Ciph fn (keyed [] (key 5 4)) (fun sl => (sl.ctx.rck 3).any fun kr => !cipherPermitted (fn == 1) kr.record) ∧
      Ciph fn base (fun sl => sl.ctx.rck 3 == none)) ∧
    (∀ alg ∈ [0x20, 0x24], Init (regs [(1, BitVec.ofNat 64 alg)]) fun _ n => n == alg && algHash n) ∧
    (∀ alg ∈ [0, 0x25, 0xFF], Init (regs [(1, BitVec.ofNat 64 alg)]) fun _ n => n == alg && !algHash n && !algKeyed n) ∧
    Init (regs [(1, 1)]) (fun sl n => algKeyed n && sl.ctx.rck 3 == none) ∧
    Init (keyed [(1, 1)] (key 3 4 16)) (fun sl n => algKeyed n && (sl.ctx.rck 3).any fun kr =>
      algType n kr.record.type && kr.record.permits useMacGen) ∧
    kept (program (insn 0x38 0 1 6) (keyed [(1, 1)] (key 3 4 16))) ∧
    Init (keyed [(1, 2)] (key 3 4 16)) (fun sl n => algKeyed n && (sl.ctx.rck 3).any fun kr =>
      !algType n kr.record.type && kr.record.permits useMacGen) ∧
    Init (keyed [(1, 1)] (key 3 1 16)) (fun sl n => algKeyed n && (sl.ctx.rck 3).any fun kr =>
      algType n kr.record.type && !kr.record.permits useMacGen) ∧
    (let s := program (insn 0x38 1 1 0) (piped [(1, 0x0000000101000000)])
     Issued s (insn 0x38 1 1 0) 0x38 0xFFCF fun sl =>
        let r := s.coreReadRange 0 0 sl 0x01000000 (absorbCount 0x0000000101000000)
        fD (insn 0x38 1 1 0) == 1 && ((sl.ctx.rg 1).setWidth 32).toNat == 0x01000000 && r.1 == 0 && made r.2) ∧
    Issued (program (insn 0x38 2 0 0xF000) (piped [])) (insn 0x38 2 0 0xF000) 0x38 0x1F0FCF (fun sl =>
      (sl.ctx.rpipe 0).isSome) ∧
    Issued (program (insn 0x38 2 0 0xF010) (piped [])) (insn 0x38 2 0 0xF010) 0x38 0x1F0FCF (fun sl =>
      (sl.ctx.rpipe 1).isNone) ∧
    Issued (program (insn 0x38 3) (piped [])) (insn 0x38 3) 0x38 0x1FFFCF (fun _ => true) := by
  decide +kernel

/-- Handle register 0 names key 1; general register 1 holds an address of the sealed larder, register 2 one of no word. -/
def handled : Ctx := { regs [(1, 0x01000000), (2, 0x01000004)] with k := (Vector.replicate 8 0).setIfInBounds 0 (handleOf 1 1) }
/-- Where a handle register leads: to a record, to a miss, or to a status. -/
def leads (s : State) (sl : Slot) : Nat :=
  match s.resolve (s.cmdDomain sl.fn) {} (sl.ctx.rk 0) with | .ok _ _ => 0 | .missed _ => 1 | .failed _ => 2
/-- A program of one word under key 1; the same with key 1 outside the hot cache; and with no handle. -/
def keyProgram (w : BitVec 32) (r : KeyRec := key 5 1) : State := program w handled true r
def cold (s : State) : State := { s with sett.hot := [] }
def unheld (w : BitVec 32) : State := program w base
/-- KOP under key register 3. -/
def kop (fn a low : Nat) (x : Ctx) (world : Bool := true) : State := program (insn 0x3A fn a low) x world (key 5 1)
def Kop (s : State) (fn a low : Nat) (zero : BitVec 32) (p : Slot → Bool) : Bool :=
  Issued s (insn 0x3A fn a low) 0x3A zero fun sl => fD (insn 0x3A fn a low) == fn && p sl
def holding (committed : Bool) : Ctx :=
  { base with ck := (Vector.replicate 8 none).setIfInBounds 3 (some { key := 1, record := key 5 3, committed := committed }) }
/-- A key template with a USAGE lies in the larder, on a device as given. -/
def install (usage : Nat) : State :=
  let s := kop 1 1 0 handled
  { s with mem.mem := memPutBytes [] (larderAddr 0 0) ([5, 2] ++ natLe 2 usage ++ zeros 5 ++ List.replicate 5 0xFF) }
def installDebug : State := { install 0x63FF with antler.debug := true }
def installFull : State :=
  { install 0x63FF with lodge.inForce := some { lodge with
      domains := [{ domain := 5, quota := 0 }],
      programs := [{ setId := 9, sealedWorld := true, entries := [{ opcode := 0x8000 }],
                     code := natLe 4 (insn 0x3A 1 1 0).toNat }] } }
/-- The record that INSTALL would make there: whether there is one, and whether it finds room. -/
def installs (s : State) : Option Bool :=
  match s.coreRead 0 0 (slotOf s) 0x01000000 32 with
  | .done (b, u) => (installRecord? (s.cmdDomain 1) b (zeros 32)).map fun r =>
      match u.createKey r with | (.inr _, _) => true | _ => false
  | _ => none

theorem witness_key_instructions :
    (let w := insn 0x39 0 0 0x1000
     Issued (keyProgram w) w 0x39 0x3FF8FF1 (fun sl => leads (keyProgram w) sl == 0 && sl.miss == none &&
       sl.ctx.rck 1 == none) ∧
     Issued (cold (keyProgram w)) w 0x39 0x3FF8FF1 (fun sl => leads (cold (keyProgram w)) sl == 1) ∧
     Issued (unheld w) w 0x39 0x3FF8FF1 (fun sl => leads (unheld w) sl == 2)) ∧
    (let w := insn 0x3D 0 3 0
     Issued (keyProgram w) w 0x3D 0x3E0FFF1 (fun sl => leads (keyProgram w) sl == 0 && sl.miss == none) ∧
     Issued (cold (keyProgram w)) w 0x3D 0x3E0FFF1 (fun sl => leads (cold (keyProgram w)) sl == 1) ∧
     Issued (unheld w) w 0x3D 0x3E0FFF1 (fun sl => leads (unheld w) sl == 2)) ∧
    (∀ b ∈ [true, false], Kop (kop 0 0 6 (holding b)) 0 0 6 0x1FFFF1 fun sl =>
      (sl.ctx.rck 3).any fun kr => kr.committed == b) ∧
    Kop (kop 1 1 0 handled false) 1 1 0 0xF001 (fun sl => !sl.programWorld) ∧
    Kop (kop 1 2 0 handled) 1 2 0 0xF001 (fun sl => sl.programWorld && (sl.ctx.rg 2).toNat % 8 != 0) ∧
    (∀ s ∈ [installDebug, install 0x63FF, install 0, installFull], Kop s 1 1 0 0xF001 fun sl =>
      sl.programWorld && sl.ctx.rg 1 == 0x01000000 && made (s.coreRead 0 0 sl 0x01000000 32)) ∧
    (installDebug.antler.debug = true ∧ (install 0).antler.debug = false ∧ installFull.antler.debug = false) ∧
    installs (install 0) = none ∧ installs installFull = some false ∧ installs (install 0x63FF) = some true ∧
    Kop (kop 2 0 0 handled false) 2 0 0 0x1FFFF1 (fun sl => !sl.programWorld) ∧
    Kop (kop 2 0 0 base) 2 0 0 0x1FFFF1 (fun sl => sl.programWorld &&
      (kop 2 0 0 base).deletable 5 (sl.ctx.rk 0) == .inl 0x0201) ∧
    Kop (kop 2 0 0 handled) 2 0 0 0x1FFFF1 (fun sl => sl.programWorld &&
      (kop 2 0 0 handled).deletable 5 (sl.ctx.rk 0) == .inr 1) := by
  decide +kernel

/-- A descriptor of Table 9-1 whose operands and output lie in the sealed larder. -/
def descriptor (op param len aLen out : Nat) (mode := 0) (attr := 0) : Bytes :=
  natLe 2 op ++ natLe 2 mode ++ natLe 2 len ++ natLe 2 param ++ natLe 4 0x01000100 ++ natLe 4 0x01001000 ++
    natLe 4 0x01002000 ++ natLe 4 aLen ++ natLe 4 0x01003000 ++ natLe 4 out ++ natLe 4 attr ++ zeros 28
def modmul : Bytes := descriptor opModmul 0 4 0 32
/-- A program whose one word submits a descriptor, with a key of its own or without one. -/
def submit (keyed : Bool) (b : Bytes) (r : KeyRec := key 5 1) : State :=
  let s := program (insn 0x3B 0 1 (if keyed then 0x100 else 0)) handled true r
  { s with mem.mem := memPutBytes [] (larderAddr 0 0) b }
/-- The submission, with the job that the descriptor gives and its outcome on the group and the random bytes. -/
def Submits (s : State) (keyed : Bool) (p : Slot → Job → Bytes → Bool) : Bool :=
  let w := insn 0x3B 0 1 (if keyed then 0x100 else 0)
  Issued s w 0x3B (if keyed then 0xFEE1 else 0xFEEF) fun sl =>
    fD w == 0 && (fY w % 2 == 1) == keyed && sl.ctx.rg 1 == 0x01000000 && jobRange sl.programWorld false 0x01000000 64 &&
      (let cell := sl.jobCell 0 0x01000000
       !s.larderWaits cell.1 cell.2) && s.mem.poisoned == [] && s.mem.flipped == [] &&
      (let b := s.jobBytes 0 sl 0x01000000 64
       p sl (parseDescriptor (fZ w % 2 == 1) b) b)
theorem sound {s : State} (p : s.mem.poisoned = []) (f : s.mem.flipped = []) (g o n : Nat) : s.Sound g o n := by
  simp [State.Sound, p, f]
/-- The queue of group 0 is full; the pool has no group; the command has four jobs. -/
def crowd (s : State) : State := { s with compute.bearGroups := [(0, { queue := List.replicate 128 (9, 1) })] }
def groupless (keyed : Bool) : State :=
  { submit keyed modmul with lodge.inForce := some { lodge with
      pools := [{ poolId := 0, slotCap := 512, skulkMask := 3 }],
      programs := [{ setId := 9, sealedWorld := true, entries := [{ opcode := 0x8000 }],
                     code := natLe 4 (insn 0x3B 0 1 (if keyed then 0x100 else 0)).toNat }] } }
def fourJobs (s : State) : State := withJobs ([1, 2, 3, 4].map fun n => (n, jobDone)) s
/-- The random bytes of a job are none, or are served. -/
def drawsFor (s : State) (j : Job) (keyType : Nat) (none : Bool) : Bool :=
  let d := opRandom j.operation j.length j.param keyType
  if none then d == 0 else d != 0 && drawEnds (s.draw 0 d).1 == 0
def room (s : State) (j : Job) (g : Nat) : Bool := decide ((s.queue j.hedgehog g).length < 128)
def ecKeygen : Bytes := descriptor opEcKeygen 0x23 0 0 64 1 0x01000200
def ecdsaSign : Bytes := descriptor opEcdsaSign 0 0 32 64
def ecdh : Bytes := descriptor opEcdh 0 0 64 64 1

theorem witness_SUBMIT :
    (∀ b ∈ [true, false], Submits (fourJobs (submit b modmul)) b fun sl _ _ => sl.freeJob? == none) ∧
    Submits (groupless false) false (fun sl j _ => sl.freeJob? == some 1 && (groupless false).groupFor? sl j.hedgehog == none) ∧
    Submits (submit false (modmul.take 32 ++ [1])) false (fun sl j b => sl.freeJob? == some 1 &&
      (submit false []).groupFor? sl j.hedgehog == some 0 && !j.descriptorOk b sl.programWorld none) ∧
    Submits (crowd (submit false modmul)) false (fun sl j b => sl.freeJob? == some 1 &&
      (crowd (submit false modmul)).groupFor? sl j.hedgehog == some 0 && j.descriptorOk b sl.programWorld none &&
      !room (crowd (submit false modmul)) j 0) ∧
    (∀ d ∈ [(modmul, true), (ecKeygen, false)], Submits (submit false d.1) false fun sl j b => sl.freeJob? == some 1 &&
      (submit false []).groupFor? sl j.hedgehog == some 0 && j.descriptorOk b sl.programWorld none &&
      room (submit false []) j 0 && drawsFor (submit false []) j 0 d.2) := by
  decide +kernel

theorem witness_keyed_SUBMIT :
    Submits (cold (submit true ecdh)) true (fun sl _ _ => sl.freeJob? == some 1 && leads (cold (submit true ecdh)) sl == 1) ∧
    (let s : State := { submit true ecdh with sett.keys := [] }
     Submits s true fun sl _ _ => sl.freeJob? == some 1 && leads s sl == 2) ∧
    Submits (submit true ecdh (key 0x20 0x400)) true (fun sl j _ => sl.freeJob? == some 1 &&
      leads (submit true ecdh (key 0x20 0x400)) sl == 0 && !opPermits j.operation (key 0x20 0x400)) ∧
    (∀ d ∈ [(ecdh, 0x1000, true), (ecdsaSign, 0x400, false)],
      let r := key 0x20 (BitVec.ofNat 16 d.2.1)
      Submits (submit true d.1 r) true fun sl j b => sl.freeJob? == some 1 && leads (submit true d.1 r) sl == 0 &&
        opPermits j.operation r && (submit true d.1 r).groupFor? sl j.hedgehog == some 0 &&
        j.descriptorOk b sl.programWorld (some r) && room (submit true d.1 r) j 0 &&
        drawsFor (submit true d.1 r) j r.type d.2.2) := by
  decide +kernel

/-- A command whose SUBMIT waits for room in its queue. -/
def again : State :=
  { withCommand { slotOf (submit false modmul) with phase := .parked, core := none, retry := some (insn 0x3B 0 1 0) } with
    compute.cores := [] }
/-- A program that polls or aborts job 4, which is in a state if it has a job. -/
def poll (fn : Nat) (l : Tbl Job) : State := withJobs l (program (insn 0x3B fn 1 0) (regs [(1, 4)]))
def Polls (fn : Nat) (l : Tbl Job) (p : Slot → Bool) : Bool :=
  Issued (poll fn l) (insn 0x3B fn 1 0) 0x3B 0xFFFF fun sl => fD (insn 0x3B fn 1 0) == fn && sl.ctx.rg 1 == 4 && p sl

theorem witness_KeyAndQueueInstructions :
    (∀ s ∈ [again, crowd again], s.slot? 0 = some (slotOf s) ∧ (slotOf s).retry = some (insn 0x3B 0 1 0) ∧
      (slotOf s).phase = .parked ∧ (slotOf s).skulk = some (0 / 4) ∧ (slotOf s).setId.isSome = true ∧
      (slotOf s).ctx.padUntil = none ∧ s.groupFor? (slotOf s) false = some 0) ∧
    128 ≤ ((crowd again).queue false 0).length ∧
    (again.awake (domSkulk (0 / 4)) = true ∧ again.core 0 = {} ∧ (again.queue false 0).length < 128) ∧
    Polls 1 [(4, jobDone)] (fun sl => (tget? sl.jobs 4).any fun j => j.state.terminal) ∧
    Polls 1 [(4, { jobDone with state := .running })] (fun sl => (tget? sl.jobs 4).any fun j => !j.state.terminal) ∧
    Polls 1 [] (fun sl => tget? sl.jobs 4 == none) ∧ Polls 2 [(4, { jobDone with state := .running })] (fun _ => true) ∧
    (∀ n ∈ [0, 0x11F, 0x120, 0x13F, 0x140, 0x1FF], Issued (program (insn 0x3C 0 1 n) base) (insn 0x3C 0 1 n) 0x3C 0x3E0FE00
      fun sl => sl.programWorld && (insn 0x3C 0 1 n).toNat % 512 == n) ∧
    Issued (program (insn 0x3C 0 1 0x120) base false) (insn 0x3C 0 1 0x120) 0x3C 0x3E0FE00 (fun sl => !sl.programWorld) := by
  decide +kernel

/-- A direct job of one word, of an operation under a key: A = 7, B = 8, C = 13. -/
def jobOf (op : Nat) (k : KeyRec := {}) : Job :=
  { hedgehog := decide (0x200 ≤ op), operation := op, group := some 0, direct := true, length := 1, operandA := natLe 8 7,
    operandB := natLe 8 8, operandC := natLe 8 13, key := some { key := 1, record := k } }
/-- A job that makes a key of a TYPE and a USAGE. -/
def makes (op param : Nat) (type : Byte) (usage : Nat) : Job :=
  { jobOf op with param := param, attributes := attrs type usage }
/-- A state in which a job waits at the head of its queue. -/
def waits (j : Job) : State :=
  { withJobs [(1, j)] (native (entry 0x6001)) with
    compute.bearGroups := [(0, { queue := [(0, 1)] })], compute.hedgehogGroups := [(0, { queue := [(0, 1)] })] }
/-- A modular multiplication that a program submitted, whose operands lie in the larder. -/
def submitted : State :=
  let j := { parseDescriptor false (descriptor opModmul 0 1 0 8) with group := some 0 }
  { waits j with mem.mem := memPutBytes (memPutBytes [] (larderAddr 0 0x1000) (natLe 8 8)) (larderAddr 0 0x2000) (natLe 8 13) }
/-- Job 1 of a state waits for engine 0, its operands have their lengths, and A, B and C meet a condition. -/
def Waits (s : State) (op : Nat) (p : Job → Bool) : Bool :=
  let sl := slotOf s
  match s.job? 0 1 with
  | none => false
  | some j =>
    let a := s.loadOperands 0 sl j
    s.slot? 0 == some sl && j.operation == op && j.state == .queued && j.group == some 0 &&
      (s.queue j.hedgehog 0).head? == some (0, 1) && s.awake (domGroup j.hedgehog 0) && s.idleEngine? j.hedgehog 0 == some 0 &&
      !(j.spans.any fun p => s.larderWaits (sl.jobCell 0 p.1).1 (sl.jobCell 0 p.1).2) && s.badSpan? 0 sl j == none &&
      decide (leNat a.operandB < 2 ^ (64 * j.length)) && decide (leNat a.operandC < 2 ^ (64 * j.length)) && p a
theorem waiting {s : State} {op : Nat} {p : Job → Bool} (h : Waits s op p = true) :
    ∃ j, s.JobWaits 0 1 op (slotOf s) j 0 ∧ leNat (s.loadOperands 0 (slotOf s) j).operandB < 2 ^ (64 * j.length) ∧
      leNat (s.loadOperands 0 (slotOf s) j).operandC < 2 ^ (64 * j.length) ∧ p (s.loadOperands 0 (slotOf s) j) = true := by
  unfold Waits at h
  cases hj : s.job? 0 1 with
  | none => simp [hj] at h
  | some j =>
    simp only [hj, Bool.and_eq_true, Bool.not_eq_true', beq_iff_eq, decide_eq_true_eq] at h
    exact ⟨j, ⟨h.1.1.1.1.1.1.1.1.1.1.1, hj, h.1.1.1.1.1.1.1.1.1.1.2, h.1.1.1.1.1.1.1.1.1.2, 0, h.1.1.1.1.1.1.1.1.2,
      h.1.1.1.1.1.1.1.2, h.1.1.1.1.1.1.2, h.1.1.1.1.1.2, h.1.1.1.1.2, h.1.1.1.2⟩, h.1.1.2, h.1.2, h.2⟩
/-- A is below C and so is B; or one of them is not. -/
def below (a : Job) : Bool := decide (leNat a.operandA < leNat a.operandC) && decide (leNat a.operandB < leNat a.operandC)
def above (a : Job) : Bool := decide (leNat a.operandC ≤ leNat a.operandA)

theorem witness_EngineTakesItsJob :
    Waits (waits (jobOf opModmul)) opModmul below ∧ Waits submitted opModmul below ∧
    Waits (waits { jobOf opModmul with operandA := natLe 8 12, operandB := natLe 8 12 }) opModmul below ∧
    Waits (waits { jobOf opModmul with operandB := natLe 8 13 }) opModmul (fun a => !below a && !above a) ∧
    (∀ op ∈ [opModmul, opModexp, opModexpPub, opModinv],
      Waits (waits { jobOf op with operandA := natLe 8 13 }) op above) ∧
    (∀ op ∈ [opModexp, opModinv], Waits (waits (jobOf op)) op fun a => !above a) ∧
    Waits (waits { jobOf opModexpPub with param := 1 }) opModexpPub (fun a => !above a &&
      decide (leNat a.operandB < 2 ^ (64 * a.param))) ∧
    (∀ op ∈ [opRsaSign, opRsaDecrypt, opRsaVerify, opEcdsaSign, opEcdsaVerify, opEcdh, opEddsaSign, opEddsaVerify,
      opMlkemEncaps, opMldsaSign, opMldsaVerify], Waits (waits (jobOf op)) op fun _ => true) ∧
    (∀ n ∈ [767, 768], Waits (waits { jobOf opMlkemDecaps (key 0x38 0x1000 64) with operandA := zeros n }) opMlkemDecaps
      fun a => a.operandA.length == mlkemLen 0x38 || n == 767) ∧
    (∀ x ∈ [(opRsaKeygen, 0, 0x10, 0x0402), (opRsaKeygen, 0, 0x10, 1), (opEcKeygen, 0x20, 0x20, 0x0400),
      (opMlkemKeygen, 0x38, 0x38, 0x1000), (opMldsaKeygen, 0x30, 0x30, 0x0400)],
      Waits (waits (makes x.1 x.2.1 (BitVec.ofNat 8 x.2.2.1) x.2.2.2)) x.1 fun _ => true) := by
  decide +kernel

/-- The attributes there describe a record, whatever its material is, of the TYPE that the job names; and for RSA also none. -/
theorem witness_generated_keys (body : Bytes) :
    (∃ d, attrRecord? 0 1 0 (attrs 0x10 0x0402) body = some d ∧ d.type = 0x10) ∧
    attrRecord? 0 1 0 (attrs 0x10 1) body = none ∧
    (∃ d, attrRecord? 0 1 0 (attrs 0x20 0x0400) body = some d ∧ d.type = 0x20) ∧
    (∃ d, attrRecord? 0 1 0 (attrs 0x38 0x1000) body = some d ∧ d.type = 0x38) ∧
    (∃ d, attrRecord? 0 1 0 (attrs 0x30 0x0400) body = some d ∧ d.type = 0x30) :=
  ⟨⟨_, rfl, rfl⟩, rfl, ⟨_, rfl, rfl⟩, ⟨_, rfl, rfl⟩, ⟨_, rfl, rfl⟩⟩

/-- Bear engine 3 in a state. -/
def withEngine (x : Engine) (s : State) : State := { s with compute.bears := [(3, x)] }
def working : Engine := { running := some (0, 1) }
def worked (direct : Bool) : Job :=
  { jobOf opModmul with direct := direct, state := .running, computed := true, output := natLe 8 4, outAddr := 0x01003000,
                        outLength := 8 }
def running (direct : Bool) : State := withEngine working (waits (worked direct))

theorem witness_EngineEvents :
    engineExists false 3 = true ∧
    (∀ d ∈ [true, false], (running d).engine false 3 = working ∧ (running d).job? 0 1 = some (worked d) ∧
      (worked d).computed = true ∧ (running d).outputWaits 0 (worked d) = false ∧
      (let r := (running d).deliver 0 (worked d)
       (r.2.2.slot? 0).isSome = true ∧ r.1 ≠ codeFaultCheck)) ∧
    (({} : Engine).running = none ∧ ({} : Engine).clearing = none ∧ ({} : Engine).faulted = false) ∧
    (∃ e' ∈ groupEngines false (3 / perGroup false), e' ≠ 3 ∧ ((running true).engine false e').faulted = false) ∧
    (∀ x ∈ [({ faulted := true } : Engine), { clearing := some 5 }, { swap := true }, { activeStore := 1 }, working],
      (withEngine x ready).engine false 3 = x ∧ x.activeStore ≤ 1) ∧
    (({ clearing := some 5 } : Engine).clearing.isSome = true ∧ ({ swap := true } : Engine).idle = true ∧
      ({ clearing := some 5 } : Engine).idle = false ∧ working.idle = false ∧ working.faulted = false) ∧
    engineExists true 0 = true ∧ ∃ addr : Nat, addr < 2048 ∧ 2047 ≤ addr := by
  refine ⟨by decide +kernel, ?_, by decide +kernel, by decide +kernel, by decide +kernel, by decide +kernel, by decide +kernel,
    2047, by decide⟩
  intro d hd
  simp only [List.mem_cons, List.not_mem_nil, or_false] at hd
  rcases hd with rfl | rfl <;> decide +kernel

/-- A command that waits in the miss pen for a key, whose record has arrived or not; nothing lies in the hot cache. -/
def missing (since : Nat) (arrived := true) (k : KeyId := 1) : State :=
  { withCommand { fn := 1, phase := .missPen, entry := entry 0x3006, pool := some 0, skulk := some 0,
                  miss := some { key := k, since := since, arrived := arrived } } (key 5 1) with sett.hot := [] }
def missWait (since : Nat) (k : KeyId := 1) : MissWait := { key := k, since := since, arrived := true }
/-- The same, while keys lie in the hot cache, pinned by a second command. -/
def pinned (k : KeyId) (ks : List KeyId) : State :=
  let s := missing 0 true k
  { s with
    sett.hot := ks.map fun x => { key := x },
    host.slots := s.host.slots ++ [(1, { fn := 1, phase := .running, keysHeld := ks.map fun x => { key := x } })] }

/-- Some set of the hot cache is the set of 17 keys, wherever the keys lie. -/
theorem full_set (f : Nat → Nat) : ∃ (k : KeyId) (ks : List KeyId), ks.length = 16 ∧ k ∉ ks ∧ ∀ x ∈ ks, f x % 4096 = f k % 4096 := by
  obtain ⟨y, _, hy⟩ := Finset.exists_lt_card_fiber_of_mul_lt_card_of_maps_to (s := Finset.range 65537)
    (t := Finset.range 4096) (f := fun x => f x % 4096) (n := 16) (fun x _ => by simpa using Nat.mod_lt _ (by omega)) (by simp)
  obtain ⟨l, hl, hn⟩ : ∃ l : List Nat, 16 < l.length ∧ l.Nodup ∧ ∀ x ∈ l, f x % 4096 = y :=
    ⟨_, by simpa using hy, Finset.nodup_toList _, fun x hx => by simpa using (Finset.mem_filter.1 (Finset.mem_toList.1 hx)).2⟩
  cases l with
  | nil => simp at hl
  | cons k l =>
    simp only [List.nodup_cons, List.mem_cons, forall_eq_or_imp] at hn
    refine ⟨k, l.take 16, by simp at hl; simp; omega, fun h => hn.1.1 (List.mem_of_mem_take h), fun x hx => ?_⟩
    rw [hn.2.2 x (List.mem_of_mem_take hx), hn.2.1]
/-- While its set is wholly pinned, a key cannot enter it. -/
theorem witness_pinned_set : ∃ k ks, let s := pinned k ks
    s.waitingFor k ≠ [] ∧ s.hotInsert? k = none ∧ s.slot? 0 = some (slotOf s) ∧ (slotOf s).phase = .missPen ∧
      (slotOf s).miss = some (missWait 0 k) ∧ 0 + unitsPerMilli ≤ s.now ∧ s.stayedPinned (missWait 0 k) = true := by
  obtain ⟨k, ks, hl, hk, hf⟩ := full_set fun n => Config.hotSet ready.tableKey n
  have hs : (pinned k ks).hotSetOf k = ks.map fun x => { key := x } := by
    refine List.filter_eq_self.2 (fun e he => ?_)
    obtain ⟨x, hx, rfl⟩ := List.mem_map.1 he
    exact beq_iff_eq.2 (hf x hx)
  refine ⟨k, ks, ?_, ?_, rfl, rfl, rfl, (by decide : 0 + unitsPerMilli ≤ ready.now), ?_⟩
  · simp [State.waitingFor, pinned, missing, withCommand]
  · have hh : (pinned k ks).hotHit k = false := by
      simp only [State.hotHit, pinned, List.any_map, List.any_eq_false, Function.comp, beq_iff_eq]
      exact fun x hx e => hk (e ▸ hx)
    unfold State.hotInsert?
    simp only [hh, hs, List.length_map, hl, Bool.false_eq_true, if_false, Nat.lt_irrefl]
    rw [List.find?_eq_none.2]
    intro e he
    obtain ⟨x, hx, rfl⟩ := List.mem_map.1 he
    simp only [Bool.not_eq_true', List.contains_eq_mem, decide_eq_false_iff_not, not_not]
    exact List.mem_flatMap.2 ⟨(1, _), by simp [pinned]; right; rfl, by simp [hx]⟩
  · simp only [State.stayedPinned, missWait, hs, List.all_eq_true]
    intro e _
    rfl

/-- A count of master key 7 of domain 5 is due; the store has no free shadow page; its fence has closed. -/
def counted (s : State) : State := { withMaster s with sett.countDue := [(masterKeyId 5 7, 5)] }
def crowdedStore (s : State) : State := { s with mem.commits := List.replicate 16 {} }
def fencedStore (s : State) : State := { s with mem.fenced := true, mem.fenceClosed := true }

/-- A record arrives where the cache has room: it goes in. -/
theorem witness_KeyRecordsArrive :
    (ready.waitingFor 1 = [] ∧ (missing 0).waitingFor 1 ≠ []) ∧ (∃ t, (missing 0).hotInsert? 1 = some t) ∧
    ((missing 0).keySlot 1).record = some (key 5 1) ∧
    (∀ fault ∈ [1, 2, 3, 15], fault % 16 ≠ 0) ∧
    ((missing 192000000000).slot? 0 = some (slotOf (missing 192000000000)) ∧
      (slotOf (missing 192000000000)).miss = some (missWait 192000000000) ∧
      (missing 192000000000).now < 192000000000 + unitsPerMilli) ∧
    ((slotOf (missing 0 false)).miss = some { missWait 0 with arrived := false }) ∧
    (missing 0).hotInsert? 1 ≠ none ∧
    (let s : State := { missing 0 with sett.hot := [{ key := 1 }], sett.unpinned := [(1, 1)] }
     s.stayedPinned (missWait 0) = false) ∧
    (∀ s ∈ [ready, crowdedStore ready, fencedStore ready],
      tget? (counted s).sett.countDue (masterKeyId 5 7) = some 5) ∧
    ((counted ready).storeAccepts .sett = true ∧ (counted ready).storeFree = true) ∧
    ((counted (crowdedStore ready)).storeAccepts .sett = true ∧ (counted (crowdedStore ready)).storeFree = false) ∧
    (counted (fencedStore ready)).storeAccepts .sett = false := by
  refine ⟨by decide, ⟨_, rfl⟩, rfl, by decide, by decide +kernel, rfl, nofun, ?_, by decide +kernel, by decide +kernel,
    by decide +kernel, by decide +kernel⟩
  simp [State.stayedPinned, State.hotSetOf, missWait, tget?]

/-- A state whose larder n has a background test, and one whose first larder is being wiped. -/
def testing (n : Nat) (t : LarderTest) : State := { ready with mem.tests := [(n, t)] }
def wiping : State := { ready with mem.wipes := [(0, { ends := 192000000001 })] }
/-- An access of Table 12-8 that lies in its target and in 64 bytes. -/
def fits (m g off size : Nat) : Bool :=
  decide (g < 16) && size != 0 && decide (off + size ≤ gateSize g) && decide (off % 64 + size ≤ 64) && decide (m < 256) && m != 0xA3
/-- The gate permits or refuses an access that a master may make. -/
def Gates (s : State) (m g off size kind : Nat) (w permits : Bool) : Bool :=
  fits m g off size && !s.idleCore m && !s.larderWaits g off && (s.gateRefusal? m (s.masterWorld m w) g off kind).isNone == permits
/-- The engine of a running job, whose stores take no write. -/
def busy : State := withEngine working (waits (jobOf opModmul))

theorem witness_larder_tests :
    (∀ p ∈ [(25, ready), (0, wiping)], 24 < p.1 ∨ p.2.testSkipped p.1 = true) ∧
    (∀ p ∈ [(24, 3), (0, 3), (24, 4), (23, 4)], p.1 ≤ 24 ∧ (testing p.1 { sparesUsed := p.2 }).testSkipped p.1 = false) ∧
    (∀ n ∈ [24, 0], (tget (testing n { sparesUsed := 3 }).mem.tests n {}).sparesUsed < 4) ∧
    (let t := tget (testing 24 { sparesUsed := 4, region := 4095, fenced := [0] }).mem.tests 24 {}
     4 ≤ t.sparesUsed ∧ ¬ t.region ∈ t.fenced) ∧
    (let t := tget (testing 23 { sparesUsed := 4 }).mem.tests 23 {}
     4 ≤ t.sparesUsed ∧ t.outOfService = false) ∧ ∃ i : Nat, i < 32 ∧ 31 ≤ i := by
  refine ⟨by decide +kernel, by decide +kernel, by decide +kernel, (by decide +kernel), by decide +kernel, 31, by decide⟩

theorem witness_gates :
    (fits 0x10 0 0 1 ∧ ready.idleCore 0x10 = true ∧ fits 6 8 0 64 ∧ wiping.larderWaits 8 0 = true) ∧
    (∀ p ∈ [(0, 0, 0x1FFFFFF, 1), (0, 2, 64, 64), (0, 3, 63, 1), (6, 13, 0x1FFFC0, 64), (1, 7, 0, 8)],
      Gates ready (if p.2.1 = 7 then 0 else p.1) p.2.1 p.2.2.1 p.2.2.2 accRead true true ∧
      ready.fencedAt p.2.1 p.2.2.1 = false ∧ ready.poisonedAt (gateAddr p.2.1 p.2.2.1) p.2.2.2 = false) ∧
    ready.mem.flipped = [] ∧
    (∀ p ∈ [(0, 0, 0x1FFFFC0, 64), (0, 1, 0, 1), (0xA0, 3, 0, 64), (0, 4, 0x4FFFFFC0, 64), (6, 13, 0x1FFFC0, 64),
      (0, 7, 0x34000, 8)], Gates ready p.1 p.2.1 p.2.2.1 p.2.2.2 accWrite true true ∧ ready.fencedAt p.2.1 p.2.2.1 = false ∧
      (zeros p.2.2.2).length = p.2.2.2) ∧
    (Gates (fencedStore ready) 0 0 0 64 accWrite true true ∧ (fencedStore ready).mem.fenced = true) ∧
    (Gates busy 0 7 0x34000 8 accWrite true true ∧ busy.activeWriteRefused 0x34000 = true ∧ busy.fencedAt 7 0x34000 = false) ∧
    (Gates ready 1 15 0 1 accRead false false ∧ Gates ready 0xA0 0 0 64 accWrite false false) ∧
    (16 ≤ (16 : Nat) ∧ ∀ g ∈ List.range 16, gateSize g < gateSize g + 1) := by
  decide +kernel

/-- The commits of a state are those given, and those that wait. -/
def committing (a b : List PageCommit) : State := { ready with mem.commits := a, mem.waitingCommits := b }
def unarmed : State := { ready with power.holdupArmed := false }

theorem witness_page_commits :
    (timeFloorPage < 131072 ∧ (ready.rights 0 true (targetOf 0 (256 * timeFloorPage))).w = true) ∧
    (∀ p ∈ [(0, 0), (131071, 0), (0, 3), (66000, 5)], (p.1 < 131072) ∧
      (ready.rights p.2 true (targetOf 0 (256 * p.1))).w = true) ∧
    (∀ c ∈ [CommitSource.controller, .timeFloor, .sett, .owl], c.master ∈ [0, 3, 5] ∧ ready.storeAccepts c = true ∧
      (fencedStore ready).storeAccepts c = false) ∧
    ready.storeFree = true ∧ unarmed.storeFree = false ∧ (crowdedStore ready).storeFree = false ∧
    (131071 < 131072 ∧ (ready.rights 3 true (targetOf 0 (256 * 131071))).w = false) ∧
    (∀ b ∈ [[], [{ page := 5 }]], let s := committing [{}, { page := 1 }] b
      s.mem.commits = {} :: [{ page := 1 }] ∧ s.mem.waitingCommits = b ∧ s.lodge.ctl.phase ≠ .commit ∧
      s.boot.fwPhase ≠ .fetch ∧ s.power.holdupArmed = true) ∧
    (∀ p r, (ready.port p).request = some r → r.held = []) ∧
    ((fencedStore ready).mem.fenced = true ∧ (fencedStore ready).mem.fencedAt + unitsPerMilli ≤ (fencedStore ready).now) ∧
    (let s : State := { fencedStore ready with mem.fencedAt := 192000000000 }
     s.now < s.mem.fencedAt + unitsPerMilli) := by
  refine ⟨?_, by decide +kernel, by decide +kernel, by decide +kernel, (by decide +kernel), by decide +kernel, by decide +kernel,
    by decide +kernel, ?_, by decide +kernel, by decide +kernel⟩
  · have : timeFloorPage < 102400 ∧ 98304 ≤ timeFloorPage := by unfold timeFloorPage objectPage; omega
    have ht : targetOf 0 (256 * timeFloorPage) = .counters := by
      simp only [targetOf]
      rw [if_neg (by omega), if_neg (by omega), if_pos (by omega)]
    exact ⟨by omega, by rw [ht]; rfl⟩
  · intro p r h
    cases h

/-- A device in a boot phase; without power; with a power-fail warning; held by the boundary-scan port; without a link. -/
def atPhase (p : BootPhase) : State := { ready with boot.phase := p }
def unpowered : State := { ready with power.powerGood := false }
def warned : State := { ready with power.warning := true }
def scanned : State := { ready with pins.jtag := .extest }

theorem witness_DeviceResets :
    (∀ p ∈ [BootPhase.configured, .ready, .recovery, .booting], let s := atPhase p
      s.power.powerGood = true ∧ s.power.warning = false ∧ s.pins.jtag.holds = false ∧ s.host.linkUp = true) ∧
    unpowered.power.powerGood = false ∧ warned.power.warning = true ∧ scanned.pins.jtag.holds = true ∧ State.reset.host.linkUp = false ∧
    (0 : Reg) ≠ 0x7296B007 ∧ (∀ cv ∈ [3599, 6001], cv < 3600 ∨ 6000 < cv) ∧
    (∀ cv ∈ [3600, 6000], unpowered.power.powerGood = false ∧ 3600 ≤ cv ∧ cv ≤ 6000) ∧
    (∃ k, k < persistentBase ∧ 0x7FFFFF ≤ k) ∧ ∃ a, gateAddr 1 0 ≤ a :=
  ⟨by decide +kernel, rfl, rfl, rfl, rfl, by decide, by decide, by decide, ⟨0x7FFFFF, by decide⟩, _, Nat.le_refl _⟩

theorem witness_BootEndsReadyOrInRecovery :
    (ready.boot.phase ≠ .booting ∧ ready.boot.phase ≠ .configured) ∧
    (∀ p ∈ [BootPhase.booting, .configured], ((atPhase p).boot.phase = .booting ∨ (atPhase p).boot.phase = .configured) ∧
      (atPhase p).rng.ready = true ∧ { atPhase p with rng.source0 := {} }.rng.ready = false) ∧
    (unarmed.power.powerGood = true ∧ unarmed.power.warning = false ∧ unarmed.power.holdupArmed = false) ∧
    unpowered.power.powerGood = false ∧ warned.power.warning = true ∧ ready.power.holdupArmed = true := by
  decide +kernel

/-- A firmware operation in a state. -/
def firmware (f : BootState → BootState) : State := { ready with boot := f ready.boot }
/-- A TRANSITION in progress beside it. -/
def transiting (s : State) : State := { s with antler.phase := .wiping, antler.runOp := 2 }
def loading (w : Bool) : State := firmware fun b => { b with fwPhase := .fetch, fwRunOp := 1, fwWaits := w }
def flashing : State := firmware fun b => { b with fwPhase := .write, fwRunOp := 1 }

theorem witness_FirmwareOperations :
    (∀ s ∈ [ready, firmware fun b => { b with fwSrcAddr := 64, fwSrcLen := 8388608 },
      firmware fun b => { b with fwSrcAddr := 64, fwSrcLen := 255 }, firmware fun b => { b with antiRollback := 3 },
      firmware fun b => { b with slotB := { valid := true } }, transiting ready, crowdedStore ready],
      s.fwShown = true ∧ s.boot.fwPhase = .idle ∧ s.storeAccepts .controller = true) ∧
    (firmware fun b => { b with fwSrcAddr := 64, fwSrcLen := 8388608 }).stageRefusal = 0 ∧ ready.stageRefusal ≠ 0 ∧
    (flashing.fwShown = true ∧ flashing.boot.fwPhase ≠ .idle) ∧
    ((fencedStore ready).fwShown = true ∧ (fencedStore ready).storeAccepts .controller = false) ∧
    (crowdedStore ready).storeFree = false ∧ (transiting ready).antlerHolds = true ∧ ready.antlerHolds = false ∧
    ready.storeFree = true ∧
    (∀ w ∈ [true, false], ∀ f ∈ [id, crowdedStore, fencedStore, transiting], (f (loading w)).boot.fwPhase = .fetch ∧
      (f (loading w)).boot.fwRunOp = 1 ∧ (f (loading w)).boot.fwWaits = w) ∧
    (∀ f ∈ [id, crowdedStore, fencedStore], (f flashing).boot.fwPhase = .write) := by
  decide +kernel

/-- A lodge operation in a state. -/
def lodgeOp (f : LodgeCtl → LodgeCtl) : State := { ready with lodge.ctl := f ready.lodge.ctl }
def sourced (n : Nat) : State := lodgeOp fun c => { c with srcAddr := 64, srcLen := BitVec.ofNat 32 n }
def chained (n : Nat) : State := { ready with lodge.record.current := some { chain := n } }
/-- A delta that holds its pools, which are quiescent; and one whose pools are not. -/
def held (c : LodgeCtl → LodgeCtl := id) : State :=
  lodgeOp fun x => c { x with phase := .quiescing, runOp := 2, parsed := some lodge, quiesced := true }
def unquiet : State :=
  { held (fun c => { c with affected := [0], quiesced := false }) with
    host.slots := [(0, { fn := 1, pool := some 0, phase := .running })] }
def inPair (p : PairPhase) (s : State) : State := { s with pair.phase := p, pair.epochStart := 1 }

theorem witness_LodgeOperations :
    (∀ s ∈ [sourced 8388608, sourced 8388609, sourced 131072, sourced 131073, sourced 255, chained 31, chained 32, ready,
      crowdedStore ready, fencedStore ready, transiting ready], s.ldgShown = true ∧ s.lodge.ctl.phase = .idle) ∧
    ((sourced 8388608).lodge.ctl.step1 8388608 = true ∧ (sourced 8388609).lodge.ctl.step1 8388608 = false ∧
      (sourced 131072).lodge.ctl.step1 131072 = true ∧ (sourced 131073).lodge.ctl.step1 131072 = false ∧
      (sourced 255).lodge.ctl.step1 131072 = false) ∧
    (∀ n ∈ [31, 32], ((chained n).lodge.record.current.map (·.chain)).getD 0 = n) ∧
    ((held).ldgShown = true ∧ (held).lodge.ctl.phase ≠ .idle) ∧
    (∀ w ∈ [true, false], let s := lodgeOp fun c => { c with phase := .fetch, waits := w }
      s.lodge.ctl.phase = .fetch ∧ s.lodge.ctl.waits = w ∧ (transiting s).lodge.ctl.phase = .fetch) ∧
    (∀ op ∈ [(1 : BitVec 2).toNat, 2], ∀ f ∈ [id, crowdedStore, fencedStore],
      let s := f (lodgeOp fun c => { c with phase := .flashWrite, runOp := BitVec.ofNat 2 op, parsed := some lodge })
      s.lodge.ctl.phase = .flashWrite ∧ s.lodge.ctl.parsed = some lodge ∧ s.lodge.ctl.runOp = BitVec.ofNat 2 op) ∧
    (∀ f ∈ [id, crowdedStore, fencedStore], (f (held)).lodge.ctl.phase = .quiescing ∧
      (f (held)).lodge.ctl.parsed = some lodge ∧ (f (held)).lodge.ctl.quiesced = true ∧ (f (held)).quiescent = true ∧
      (f (held)).pairCommits = true) ∧
    (unquiet.lodge.ctl.phase = .quiescing ∧ unquiet.lodge.ctl.parsed = some lodge ∧ unquiet.quiescent = false ∧
      unquiet.lodge.ctl.deadline ≤ unquiet.now ∧ unquiet.lodge.ctl.quiesced = false) ∧
    (let s := held fun c => { c with quiesced := false, deadline := 192000000001 }
     s.lodge.ctl.quiesced = false ∧ s.now < s.lodge.ctl.deadline) ∧
    (∀ p ∈ [PairPhase.active, .standby], (inPair p (held)).pair.phase = p ∧ (inPair .standby (held)).pairCommits = false) ∧
    ((held).pair.phase ≠ .active ∧ (held).pair.phase ≠ .standby) := by
  decide +kernel

/-- An Antler operation in a state, and the GO of one whose source has a length. -/
def antler (f : AntlerState → AntlerState) : State := { ready with antler := f ready.antler }
def antlerFrom (state : LifeCycle) (n : Nat) : State :=
  antler fun a => { a with state := state, srcAddr := 64, srcLen := BitVec.ofNat 32 n }
/-- An operation that fetches its message, in a life-cycle state. -/
def fetches (op : Nat) (lc : LifeCycle := .makerTest) (f : AntlerState → AntlerState := id) : State :=
  antler fun a => f { a with state := lc, phase := .fetch, runOp := BitVec.ofNat 3 op }
/-- A device whose provisioned digests all name the token of zeros. -/
def tokened (a : AntlerState) : AntlerState :=
  { a with provisioned := true, digests := List.replicate 20 (natLe 32 (Config.sha3 (zeros 32)).toNat) }
/-- A transition to a state under the token of zeros. -/
def move (lc : Byte) : Bytes := transitionMagic ++ [lc] ++ zeros 39 ++ (if lc = 3 then zeros 32 else [5])
def moving (units : Nat := 4000) : State :=
  let s := fetches 2 .makerTest tokened
  { s with boot.runningLcAllowed := 0xF, rng.units := units }
theorem token_matches (s : State) (h : s.antler = tokened s.antler) (i : Nat) (hi : i < 20) : s.tokenIs (zeros 32) i = true := by
  unfold State.tokenIs
  rw [h]
  simp only [tokened]
  rw [List.getElem?_replicate, if_pos hi]
  simp
theorem moving_checks (n : Nat) : (moving n).transitionCheck (fit 80 (move 2)) = 0 := by
  have ht : (moving n).tokenIs (zeros 32) (entryToken .production) = true := token_matches _ rfl 1 (by decide)
  have hs : slice (fit 80 (move 2)) 0x10 32 = zeros 32 := by decide
  unfold State.transitionCheck
  rw [hs]
  have hl : lifeCycleOf? (leField (fit 80 (move 2)) 8 1) = some .production := by decide
  have h1 : (slice (fit 80 (move 2)) 0 8 != transitionMagic || !allZero (slice (fit 80 (move 2)) 9 7)) = false := by decide
  have h2 : (moving n).antler.provisioned = true := rfl
  have h3 : (!transitionTo (moving n).antler.state .production ||
      (LifeCycle.production == .endOfLife) != allZero (slice (fit 80 (move 2)) 0x30 32)) = false := by
    show (!transitionTo .makerTest .production || _) = false; decide
  have h4 : lcAllowed (moving n).boot.runningLcAllowed .production = true := (by decide : lcAllowed 0xF .production = true)
  simp only [hl, h1, h2, h3, h4, ht, Bool.not_true, Bool.false_eq_true, if_false]

/-- A TEST_UNLOCK under the token of zeros, with tokens used. -/
def unlocking (used : BitVec 16) : State := fetches 3 .makerTest fun a => { tokened a with unlockUsed := used }
theorem unlocking_finds (used : BitVec 16) :
    ((List.range 16).find? fun i => (unlocking used).tokenIs (slice (fit 48 unlockMagic) 0x10 32) (3 + i)) = some 0 := by
  have hs : slice (fit 48 unlockMagic) 0x10 32 = zeros 32 := by decide
  have ht : (unlocking used).tokenIs (zeros 32) (3 + 0) = true := token_matches _ rfl 3 (by decide)
  rw [hs, show List.range 16 = 0 :: (List.range 16).tail from rfl]
  exact List.find?_cons_of_pos ht

/-- A transition to END_OF_LIFE that waits for the end of its wipes; beside a command; and late. -/
def changing (phase : LcPhase := .wiping) : State :=
  antler fun a => { a with phase := phase, runOp := 2, target := some .endOfLife, transitionAt := 192000000000 }
def beside (s : State) : State := { s with host.slots := [(0, { fn := 1, phase := .running })] }
def late (s : State) : State := { s with antler.transitionAt := 0 }
def wipes (s : State) : State := { s with mem.wipes := [(0, { ends := 192000000001 })] }
def quieting (until' : Nat) : State := antler fun a => { a with phase := .quiescing, runOp := 5, quiesceUntil := until' }
/-- Whether a completion is over: its commands have gone or their time has passed. -/
def commandHeld (s : State) : Bool := s.host.slots.any fun e => e.2.phase != .fetching

theorem witness_AntlerOperations :
    (∀ p ∈ [(1, antlerFrom .blank 656), (2, antlerFrom .blank 80), (3, antlerFrom .makerTest 48),
      (5, antlerFrom .production 7504), (6, antlerFrom .makerTest 7488)],
      p.2.presented 0 lcsBase = true ∧ p.2.antler.phase = .idle ∧ p.2.lcRefusal p.1 = 0) ∧
    (∀ op ∈ [1, 2, 3, 5, 6], ready.presented 0 lcsBase = true ∧ ready.lcRefusal op ≠ 0 ∧
      (fetches op).presented 0 lcsBase = true ∧ (fetches op).antler.phase ≠ .idle) ∧
    (ready.lcRefusal 4 = 0 ∧ ready.antler.phase = .idle ∧ (antlerFrom .blank 0).lcRefusal 4 ≠ 0) ∧
    (ready.rng.serves 32 = true ∧ (drained ready).rng.serves 32 = false ∧ (drained ready).rng.refuses = false ∧
      (halted ready).rng.serves 32 = false ∧ (halted ready).rng.refuses = true) ∧
    (∀ op ∈ [1, 2, 3, 5, 6], (fetches op).antler.phase = .fetch ∧ (fetches op).antler.runOp = BitVec.ofNat 3 op) ∧
    ((fetches 2).transitionCheck (fit 80 []) ≠ 0 ∧ lifeCycleOf? (leField (fit 80 (move 2)) 8 1) = some .production) ∧
    ((moving).transitionDraws .production).isSome = true ∧ ((moving 0).transitionDraws .production).isSome = false ∧
    (∀ m ∈ [[], unlockMagic ++ zeros 7 ++ [1]],
      ¬ (slice (fit 48 m) 0 8 = unlockMagic ∧ allZero (slice (fit 48 m) 8 8) = true)) ∧
    (slice (fit 48 unlockMagic) 0 8 = unlockMagic ∧ allZero (slice (fit 48 unlockMagic) 8 8) = true) ∧
    (∀ i : Nat, (fetches 3).antler.digests[i]? = none) ∧
    (((unlocking 1).antler.unlockUsed.getLsbD 0 = true) ∧ (unlocking 2).antler.unlockUsed.getLsbD 0 = false ∧
      (unlocking 1).antler.unlockUsed ≠ 0xFFFF ∧ (unlocking 0xFFFF).antler.unlockUsed = 0xFFFF) ∧
    (∀ p ∈ [LcPhase.wiping, .copies], (changing p).antler.phase = p ∧ (changing p).antler.target = some .endOfLife) ∧
    (commandHeld (beside (changing)) = true ∧ commandHeld (changing) = false ∧ commandHeld (late (beside (changing))) = true ∧
      ¬ (beside (changing)).antler.transitionAt + 2 * unitsPerMilli ≤ (changing).now ∧
      (late (beside (changing))).antler.transitionAt + 2 * unitsPerMilli ≤ (changing).now) ∧
    ((changing).wiping = false ∧ (wipes (changing)).wiping = true) ∧
    (∀ t ∈ [5, 192000000001], (antler fun a => { a with challengeExpires := t }).antler.challengeExpires = t) ∧
    (∀ t ∈ [0, 192000000001], (quieting t).antler.phase = .quiescing ∧ (quieting t).host.slots = [] ∧
      (beside (quieting t)).host.slots ≠ [] ∧ (beside (quieting t)).antler.quiesceUntil = t) := by
  refine ⟨by decide +kernel, by decide +kernel, by decide +kernel, (by decide +kernel), by decide +kernel, by decide +kernel,
    by decide +kernel, (by decide +kernel), by decide +kernel, by decide +kernel, fun i => rfl, by decide +kernel,
    by decide +kernel, by decide +kernel, (by decide +kernel), by decide +kernel, by decide +kernel⟩

/-- A monitor in a state; a device whose Torpor domain has no supply. -/
def withMonitor (m : Nat) (v : Monitor) : State := { ready with tamper.monitors := [(m, v)] }
def asleep : State := { ready with tamper.torporPowered := false }
/-- A confirmed tamper whose response is in a phase. -/
def responding (n : Nat) : State := { ready with tamper.response := n, tamper.confirmedAt := 192000000000 }
def late' (s : State) : State := { s with tamper.confirmedAt := 0 }

theorem witness_TamperMonitors :
    (∀ m ∈ [0, 0x100, 0x200, 0x210, 0x220, 0x221, 0x230, 0x240], asleep.monRuns m = false ∧ ready.monRuns m = true ∧
      (ready.monitor m).events.head? ≠ some ready.tick) ∧
    (((withMonitor 0 { events := [ready.tick] }).monitor 0).events.head? = some ready.tick) ∧
    (confirms (ready.monK 0) (ready.monW 0) ready.tick (ready.monitor 0).events = false ∧
      confirms (ready.monK 0x230) (ready.monW 0x230) ready.tick (ready.monitor 0x230).events = true ∧
      ready.tamper.latched = false ∧ ready.logicPowered = true) ∧
    ({ ready with tamper.latched := true }.tamper.latched = true) ∧
    (∃ l u, ready.monLower 0x210 = some l ∧ ready.monUpper 0x210 = some u) ∧
    (∃ u, (withMonitor 255 { cal := some {} }).monRuns 255 = true ∧ (withMonitor 255 { cal := some {} }).monUpper 255 = some u ∧
      (withMonitor 255 { cal := some {} }).compensatedLight 255 96 ≤ u ∧
      u < (withMonitor 255 { cal := some {} }).compensatedLight 255 97) ∧
    (∀ site ∈ [0, 255], ready.monRuns site = true ∧ ready.monRuns (0x100 + site) = true ∧ asleep.monRuns site = false ∧
      asleep.monRuns (0x100 + site) = false) ∧
    (∀ m ∈ [0x210, 0x211, 0x212, 0x213], ready.monRuns m = true ∧ asleep.monRuns m = false) ∧
    (ready.monRuns 0x207 = true ∧ asleep.monRuns 0x207 = false) ∧
    (∃ l u, ready.monLower 0x221 = some l ∧ ready.monUpper 0x221 = some u) ∧
    (∀ lid ∈ [0, 3], ready.monRuns (0x240 + lid) = true ∧ (tget ready.tamper.lids lid {}).run < 0xFFFF ∧
      asleep.monRuns (0x240 + lid) = false) ∧
    (∀ n ∈ [1, 2], (responding n).tamper.response = n ∧ (responding n).logicPowered = true ∧ commandHeld (responding n) = false ∧
      (responding n).wiping = false ∧ (wipes (responding n)).wiping = true) ∧
    (commandHeld (beside (responding 1)) = true ∧ (late' (beside (responding 1))).tamper.confirmedAt + 2 * unitsPerMilli ≤ ready.now ∧
      ¬ (beside (responding 1)).tamper.confirmedAt + 2 * unitsPerMilli ≤ ready.now) := by
  refine ⟨by decide +kernel, by decide +kernel, by decide +kernel, by decide +kernel, ⟨_, _, rfl, rfl⟩,
    ⟨96, by decide +kernel⟩, by decide +kernel, by decide +kernel, by decide +kernel, ⟨_, _, rfl, rfl⟩, by decide +kernel,
    by decide +kernel, by decide +kernel⟩

/-- Cell 1 is fitted. -/
def celled (volts : Nat := 300) : State := { ready with tamper.cells := [(1, { present := true, volts := volts })] }

theorem witness_TorporAndCells :
    (asleep.monRuns 0 = false ∧ ready.monRuns 0 = true) ∧
    (let s : State := { ready with tamper.sites := [(7, {}), (255, { photodiode := true, lonePeriods := 3 })] }
     s.monRuns 0 = true ∧ (s.tamper.sites.map Prod.fst).Nodup ∧ tget? s.tamper.sites 0 = none ∧
       tget? s.tamper.sites 255 = some { photodiode := true, lonePeriods := 3 }) ∧
    ((withMonitor 7 { queued := true }).monRuns 0 = true ∧
      ((calibrated.filter fun m => ((withMonitor 7 { queued := true }).monitor m).queued).take 16)[0]? = some 7) ∧
    ((celled).cell 1).present = true ∧ (ready.cell 1).present = false ∧ (∀ v ∈ [259, 260], v < 260 ∨ 260 ≤ v) ∧
    (1023 < 1024 ∧ ready.logicPowered = true ∧ unpowered.logicPowered = false) ∧
    (ready.tamper.torporPowered = true ∧ asleep.tamper.torporPowered = false) ∧
    (let s : State := { celled with power.powerGood := false, tamper.onLogicSide := false }
     s.logicPowered = false ∧ s.servingCell? ≠ none ∧ unpowered.servingCell? = none) ∧
    (ready.power.powerGood = true ∧ unpowered.power.powerGood = false) := by
  decide +kernel

/-- An event of a code is at the head of the Owl intake, and the log stands at a granule and a sequence. -/
def withEvent (code granule seq : Nat) (due := false) (len := 4) : State :=
  { ready with owl.intake := [{ code := code, payload := zeros len }, { code := 0x10 }], owl.checkpointDue := due,
               owl.seqNext := seq, owl.granuleNext := granule }
/-- A fold of a code whose record was appended at a tick, and a staged record. -/
def fold (n at' : Nat) (b : Bytes := zeros 4) : OwlFold := { payload := b, pending := n, appendedTick := at' }
def staged (committed := false) : OwlRecord :=
  { seq := 4, code := 0x60, payload := zeros 4, granule := 2, committed := committed }
def withFold (c : Nat) (f : OwlFold) (s : State) : State := { s with owl.folds := [(c, f)] }
def dry (s : State) : State := { s with owl.buckets := [(0x10, { microTokens := 0, refilledAt := 1000000 })] }
/-- The event at the head is recorded: it opens a fold, or its bucket holds a token; or it is folded; or it is dropped. -/
def fresh (s : State) (e : OwlEvent) : Bool :=
  (tget? s.owl.folds e.code).all fun f => f.pending == 0 && (f.payload != e.payload ||
    decide (f.appendedTick + ticksPerSecond ≤ s.tick))
def token (s : State) (e : OwlEvent) : Bool :=
  decide (1000000 ≤ ((tget s.owl.buckets e.code {}).refill s.micros).microTokens)
def Heads (s : State) (p : OwlEvent → Bool) : Bool := s.owl.intake.head?.any fun e =>
  (e.code != 0xE0 || s.owl.records.all (·.committed) && s.owl.folds.all fun f => f.2.pending == 0) && p e
def recorded (s : State) (e : OwlEvent) : Bool :=
  owlClass? e.code == some .privileged && fresh s e || owlClass? e.code == some .ordinary && token s e
def clear (s : State) (g n : Nat) : Bool := s.owl.records.all fun x => !x.meets g n
/-- Beside the event only; behind a CHECKPOINT; behind a PAD. -/
def alone (s : State) (e : OwlEvent) : Bool :=
  recorded s e && !s.owl.checkpointDue && s.owl.seqNext % 256 != 0 && !s.owl.crosses e.payload.length &&
    clear s s.owl.granuleNext (owlSize e.payload.length)
def checked (s : State) (e : OwlEvent) : Bool :=
  recorded s e && (s.owl.checkpointDue || s.owl.seqNext % 256 == 0) &&
    decide (s.owl.granuleNext + 4 + owlSize e.payload.length ≤ owlGranules) &&
    clear s s.owl.granuleNext (4 + owlSize e.payload.length)
def padded' (s : State) (e : OwlEvent) : Bool :=
  let n := owlSize e.payload.length
  recorded s e && !s.owl.checkpointDue && s.owl.seqNext % 256 != 0 && (s.owl.seqNext + 1) % 256 != 0 &&
    decide (s.owl.granuleNext < owlGranules) && decide (owlGranules < s.owl.granuleNext + n) &&
    decide (n ≤ s.owl.granuleNext) && clear s s.owl.granuleNext (owlGranules - s.owl.granuleNext) && clear s 0 n
/-- A page of the log is due, on a device as given. -/
def pageDue (s : State) : State := { s with owl.records := [staged], owl.stagedAt := some 0 }

theorem witness_OwlRecordsEvents :
    ready.owl.intake = [] ∧
    Heads (withEvent 0x05 0 5) (fun e => owlClass? e.code == none) ∧
    (∀ c ∈ [0x60, 0x10, 0xE0], Heads (withEvent c (owlGranules - 2) 5) (alone (withEvent c (owlGranules - 2) 5)) ∧
      Heads (withEvent c 0 256) (checked (withEvent c 0 256)) ∧
      Heads (withEvent c (owlGranules - 6) 5 true) (checked (withEvent c (owlGranules - 6) 5 true)) ∧
      Heads (withEvent c (owlGranules - 1) 254) (padded' (withEvent c (owlGranules - 1) 254))) ∧
    (∀ f ∈ [fold 0 0, fold 0 192000000000 [9]],
      let s := withFold 0x60 f (withEvent 0x60 8 5)
      Heads s fun e => alone s e && (tget? s.owl.folds e.code).isSome) ∧
    (let s := withFold 0x60 (fold 1 192000000000) (withEvent 0x60 8 5)
     Heads s fun e => owlClass? e.code == some .privileged && (tget? s.owl.folds e.code).any fun f =>
       f.payload == e.payload && decide (s.tick < f.appendedTick + ticksPerSecond)) ∧
    Heads (dry (withEvent 0x10 8 5)) (fun e => owlClass? e.code == some .ordinary && !token (dry (withEvent 0x10 8 5)) e) ∧
    ready.owlPageDue = false ∧
    (∀ f ∈ [id, fencedStore], (f (pageDue ready)).owlPageDue = true ∧ (f (pageDue ready)).power.holdupArmed = true ∧
      (f (pageDue ready)).mem.commits.length < 16 ∧
      (f (pageDue ready)).owl.records.find? (fun x => !x.committed) = some staged) ∧
    ((pageDue ready).storeAccepts .owl = true ∧ (fencedStore (pageDue ready)).storeAccepts .owl = false) ∧
    (unarmed.power.holdupArmed = false ∧ 16 ≤ (crowdedStore ready).mem.commits.length) ∧
    (∀ f ∈ ready.owl.folds, f.2.pending = 0) ∧
    (let s := withFold 0x60 (fold 2 0) ready
     tget? s.owl.folds 0x60 = some (fold 2 0) ∧ (fold 2 0).pending ≠ 0 ∧ (fold 2 0).appendedTick + ticksPerSecond ≤ s.tick) := by
  decide +kernel

/-- The EVR_ block in a state; an operation in progress there. -/
def evr (f : OwlState → OwlState) : State := { ready with owl := f ready.owl }
def evrBusy (op : Nat) (seq : Word := 0) (rs : List OwlRecord := []) : State :=
  evr fun o => { o with busy := true, runOp := BitVec.ofNat 3 op, dstLen := 256, readSeq := seq, records := rs }
def rootless (s : State) : State := { s with tamper.auditRoot := none }

theorem witness_EvrOperations :
    asleep.evrShown = true ∧ State.reset.evrShown = false ∧
    (∀ p ∈ [(1, 240), (1, 256), (1, 264), (1, 1048576), (1, 1048592), (2, 4847), (2, 4848), (3, 2687), (3, 2688)],
      let s := evr fun o => { o with dstLen := BitVec.ofNat 32 p.2 }
      s.evrShown = true ∧ s.owl.busy = false ∧ s.owl.dstAddr.toNat % 64 = 0 ∧ s.owl.dstLen.toNat = p.2) ∧
    (∀ op ∈ [1, 2, 3], (evrBusy op).evrShown = true ∧ (evrBusy op).owl.busy = true ∧ (evrBusy op).evrRuns op = true ∧
      ready.evrRuns op = false) ∧
    ((evrBusy 1 0 [staged true]).owl.readSeq.toNat < (evrBusy 1 0 [staged true]).owl.oldest) ∧
    (∀ p ∈ [(4, true), (5, false)], let s := evrBusy 1 (BitVec.ofNat 64 p.1) [staged true]
      s.owl.oldest ≤ s.owl.readSeq.toNat ∧ ((takeRecords (s.owl.records.filter fun r => decide (s.owl.readSeq.toNat ≤ r.seq))
        s.owl.dstLen.toNat) ≠ [] ↔ p.2 = true)) ∧
    (ready.fnSt 0).busMaster = true ∧
    (∀ op ∈ [2, 3], (rootless (evrBusy op)).auditRoot? = none ∧ (rootless (evrBusy op)).evrRuns op = true ∧
      (evrBusy op).auditRoot?.isSome = true) ∧
    (let s := evr fun o => { o with timeSet := 0x10000 }
     s.owl.busy = false ∧ s.setTimeOutcome (s.owl.timeSet.toNat % 2 ^ 56) = 0) ∧
    (let s : State := { ready with calendar.floor := 1 }
     s.owl.busy = false ∧ s.setTimeOutcome (s.owl.timeSet.toNat % 2 ^ 56) ≠ 0) := by
  decide +kernel

/-- Unit 7 in a state. -/
def withUnit (v : CrcUnit) : State := { ready with check.units := [(7, v)] }
def alive (n : BitVec 4) : State := withUnit { aliveStarted := true, aliveLast := n }

theorem witness_CrcUnits :
    (State.reset.crcShown 0 = false ∧ ready.crcShown 3000 = false ∧ ready.crcShown 7 = true) ∧
    ((crcPreset? (bits (4 : Reg).toNat 2 0)).isSome = true ∧ crcPreset? (bits (0 : Reg).toNat 2 0) = none) ∧
    ((ready.crcUnit 7).aliveStarted = false) ∧
    (∀ p ∈ [(15, 0, 1), (15, 15, 0), (15, 1, 2), (15, 14, 15)],
      let v := (alive (BitVec.ofNat 4 p.1)).crcUnit 7
      (alive (BitVec.ofNat 4 p.1)).crcShown 7 = true ∧ v.aliveStarted = true ∧
        (BitVec.ofNat 4 p.2.1 - v.aliveLast).toNat = p.2.2) := by
  decide +kernel

/-- A burrow queue in a state; a full one; one of words. -/
def withQueue (q : Nat) (v : BurrowQueue) : State := { ready with check.queues := [(q, v)] }
def full (q : Nat) : BurrowQueue := { words := List.replicate (burrowDepth q - 1) {} }
def holdsWord (q : Nat) (w : BurrowWord) : State := withQueue q { words := [w] }

theorem witness_BurrowQueues :
    (∀ q ∈ [0, 9, 12, 15], (ready.burrow q).discarding = false ∧ (ready.burrow q).flushedAt ≠ some ready.now ∧
      2 ≤ (ready.burrow q).free q ∧ (ready.burrow q).cutDue = false ∧ (ready.burrow q).words = []) ∧
    ((withQueue 15 { discarding := true }).burrow 15).discarding = true ∧
    ((withQueue 15 { flushedAt := some 192000000000 }).burrow 15).flushedAt = some ready.now ∧
    (∀ p ∈ [(15, true), (9, false)], ((withQueue p.1 (full p.1)).burrow p.1).discarding = false ∧
      ((withQueue p.1 (full p.1)).burrow p.1).flushedAt ≠ some ready.now ∧
      ((withQueue p.1 (full p.1)).burrow p.1).free p.1 < 2 ∧ burrowDrops p.1 = p.2) ∧
    (∀ q ∈ [9, 12, 13], ((withQueue q { cutDue := true }).burrow q).cutDue = true) ∧
    (∀ p ∈ [(0, tagData, 0), (192000000000, tagGap, 0), (192000000001, tagData, 0), (192000000001, tagGap, 1),
      (192000000001, tagGap, 2)], ((holdsWord 12 { visibleAt := p.1, tag := p.2.1, data := BitVec.ofNat 64 p.2.2 }).burrow 12).words
        = [{ visibleAt := p.1, tag := p.2.1, data := BitVec.ofNat 64 p.2.2 }]) ∧
    (ready.check.faultCaptured = false) ∧
    (let s : State := { ready with check.faultCaptured := true }
     s.check.faultCaptured = true ∧ s.check.faultAt ≠ s.now) ∧
    14 ≤ 15 ∧ 15 < 16 := by
  decide +kernel

/-- The PACK section of a pair, and one without a witness. -/
def pack : PackSec :=
  { rolePref := 1, linkMask := 1, witness := 1, leaseMs := 200, renewMs := 50, driftPpm := 100, guardMs := 20,
    pairId := zeros 16, peerDeviceId := zeros 16, exerciseInterval := 3600 }
def silent : PackSec := { pack with witness := 0, leaseMs := 10, guardMs := 1 }
/-- A link in SYNC, or with lane 1 in a state. -/
def linkUp : PackLink := { lane0 := { state := .sync } }
/-- A half of a pair under a PACK section. -/
def half (p : PairState) (sec : PackSec := pack) : State :=
  { ready with
    lodge.inForce := some { lodge with
      pack := some sec,
      migration := some { nativeMig := true, freezeTimeoutMs := 1000, peers := [⟨zeros 16, identityDigest peerKeys⟩] } },
    cub.identity := some {}, pair := p }
/-- A half in a phase, with link 0 in SYNC. -/
def inPhase (p : PairPhase) : State := half { phase := p, link0 := linkUp }
/-- What the peer offers. -/
def offer (s : State) : PairOffer := ⟨zeros 16, zeros 16, Config.deviceId, peerKeys, 2, s.pairDigest, 1, 0⟩
/-- A half accepts an offer that passes every item of R612. -/
theorem offer_ok {s : State} {o : PairOffer} (h1 : o.pairId = s.packSec.pairId) (h2 : o.names = Config.deviceId)
    (h3 : o.device = s.packSec.peerDeviceId) (h4 : s.peerOk o.device o.publics = true)
    (h5 : s.cub.identity.isNone = false) (h6 : o.lifeCycle = s.antler.state.code) (h7 : o.digest = s.pairDigest) :
    s.pairRefusal? o = none := by
  simp [State.pairRefusal?, h1, h2, h3, h5, h6, h7] at h4 ⊢; exact h4
/-- A half that pairs, whose own share of the exchange has been sent or not. -/
def pairing (exchange : Bool) : State := half { phase := .pairing, link0 := linkUp, exchange := exchange }
def frames : PackLink := { linkUp with sendSeq := 9, unacked := [(7, [1]), (8, [2])], recvSeq := 1 }
/-- Squirrel serves no draw that comes now, on the same half. -/
def undrawn (s : State) : State := { s with rng.units := 0 }
/-- An active half in step; a half that serves alone while it synchronises. -/
def active (p : PairState := {}) : State := half { p with phase := .active, inStep := true, link0 := linkUp }
def servesHalf (p : PairState) (slots : Tbl Slot := []) : State :=
  { half { p with phase := .solo, link0 := linkUp } with host.slots := slots }

theorem witness_lanes :
    ((inPhase .detached).packLive = true ∧ (inPhase .detached).links.contains 0 = true ∧ ready.packLive = false ∧
      (inPhase .detached).links.contains 1 = false) ∧
    (∀ v ∈ [({} : Lane), { state := .presync, good := 1 }, { state := .presync, good := 2 }, { state := .sync, bad := 2 },
      { state := .sync, bad := 3 }], ((half { phase := .detached, link0 := { lane1 := v } }).link 0).lane 1 = v) ∧
    (∀ p ∈ [PairPhase.standby, .active], (inPhase p).linkTakes 0 = true) ∧ ready.linkTakes 0 = false ∧
    ((zeros 976).length ≤ 976 ∧ 976 < (zeros 977).length) ∧
    (let s := half { phase := .active, link0 := frames }
     s.linkTakes 0 = true ∧ (s.link 0).recvSeq = 1 ∧ (s.link 0).sendSeq = 9 ∧ 9 < 10 ∧ 9 ≤ (s.link 0).sendSeq ∧
       (s.link 0).sendSeq < 10 ∧ 0 < (s.link 0).recvSeq ∧ (s.link 0).recvSeq < 2) := by
  decide +kernel

theorem witness_pairing_frames :
    (∀ p ∈ [PairPhase.syncing, .detached], (inPhase p).linkTakes 0 = true ∧ (inPhase p).leads = false ∧
      (inPhase p).pair.phase ≠ .standby) ∧
    ((inPhase .syncing).pairable = false ∧ (inPhase .detached).pairable = true) ∧
    (∃ i, (inPhase .detached).pairRefusal? { offer (inPhase .detached) with pairId := [1] } = some i) ∧
    (∀ e, (pairing e).linkTakes 0 = true ∧ (pairing e).leads = false ∧ (pairing e).pair.phase ≠ .standby ∧
      (pairing e).pairable = true ∧ (pairing e).pairRefusal? (offer (pairing e)) = none ∧ (pairing e).pair.exchange = e) ∧
    ((undrawn (pairing false)).linkTakes 0 = true ∧ (undrawn (pairing false)).pairable = true ∧
      (undrawn (pairing false)).pairRefusal? (offer (undrawn (pairing false))) = none ∧
      (undrawn (pairing false)).drawNow 32 = none) ∧
    (∃ rnd u, (pairing false).drawNow 32 = some (rnd, u)) ∧
    ((zeros 1568).length = 1568 ∧ ([] : Bytes).length ≠ 1568) ∧
    (∀ s ∈ [active { exchange := true }, active {}, undrawn (active {}), inPhase .standby], s.linkTakes 0 = true ∧
      (s.leads = true ∨ s.pair.phase = .standby)) ∧
    ((active { peer := { device := zeros 16 } }).pair.peer.device = zeros 16 ∧ ([] : Bytes) ≠ zeros 16) ∧
    ((undrawn (active {})).drawNow 32 = none ∧ ∃ rnd u, (active {}).drawNow 32 = some (rnd, u)) := by
  refine ⟨by decide +kernel, by decide +kernel, ⟨_, rfl⟩, ?_, ?_, ⟨_, _, rfl⟩, by decide +kernel, by decide +kernel,
    by decide +kernel, by decide +kernel, ⟨_, _, rfl⟩⟩
  · intro e
    refine ⟨by cases e <;> rfl, by cases e <;> rfl, by cases e <;> nofun, by cases e <;> rfl, offer_ok rfl rfl rfl (peer_ok rfl rfl rfl rfl) rfl rfl rfl, rfl⟩
  · exact ⟨rfl, rfl, offer_ok rfl rfl rfl (peer_ok rfl rfl rfl rfl) rfl rfl rfl, rfl⟩

theorem witness_synchronisation :
    ((half { phase := .detached, refusal := 4 }).pair.refusal ≠ 0 ∧ (half { phase := .detached, refusal := 4 }).packLive = true ∧
      (half { phase := .detached, refusal := 4 }).pairable = true ∧ (inPhase .detached).pair.refusal = 0) ∧
    ((inPhase .syncing).pair.phase = .syncing ∧ (inPhase .solo).pair.phase ≠ .syncing) ∧
    (let s := servesHalf { syncing := true }
     s.servesAlone = true ∧ s.pair.syncing = true ∧ s.pair.syncHold = false ∧ s.pair.syncRetryAt ≤ s.now ∧
       (s.link s.streamLink).waiting = []) ∧
    (let s := servesHalf { syncing := true, syncHold := true }
     s.servesAlone = true ∧ s.pair.syncHold = true ∧ s.host.slots = [] ∧ s.anyLinkUp = true) ∧
    (let s := servesHalf { syncing := true, syncHold := true } [(0, { fn := 1 })]
     s.pair.syncHold = true ∧ s.host.slots ≠ [] ∧ s.pair.syncHoldAt + 100 * unitsPerMilli ≤ s.now) ∧
    ((inPhase .solo).pair.syncing = false ∧ (inPhase .solo).pair.syncHold = false) := by
  decide +kernel

/-- A standby that holds one command of the stream, which has an opcode and a phase; and one whose slots are full. -/
def following (op : Nat) (ph : SlotPhase := .running) : State :=
  { half { phase := .standby, link0 := linkUp, commands := [{ admission := 5, fn := 1 }] } with
    host.slots := [(0, { fn := 1, phase := ph, entry := entry op, admittedAsStandby := true })] }
/-- A record of a key of TYPE 5, and an enrolment record. -/
def keyBytes : Bytes := [5, 0, 1, 1, 5, 32]
def enrolmentBytes : Bytes := [1] ++ zeros 31 ++ [5, 0, 3]
theorem lowest_all {n : Nat} {p : Nat → Bool} (h : ∀ k, k < n → p k = false) : lowest? n p = none := by
  unfold lowest?
  rw [List.find?_eq_none]
  intro k hk
  simpa using h k (by simpa using hk)

theorem witness_StandbyFollowsTheActive :
    ready.standby = false ∧
    ((following 0x7001).standby = true ∧ (following 0x7001).commandAt? 5 = some { admission := 5, fn := 1 } ∧
      (following 0x7001).commandAt? 6 = none) ∧
    (∃ k, lowest? Config.slots (fun k => (((inPhase .standby).makeRoom 1 (parseEntry (zeros 64)).tag).slot? k).isNone) = some k) ∧
    (∀ p ∈ [(0x7001, false), (0x0202, true), (0x0306, true)], (following p.1).slot? 0 = some (slotOf (following p.1)) ∧
      standbyAdopts (slotOf (following p.1)).entry.opcode = p.2 ∧ (slotOf (following p.1)).entry.persId = 0) ∧
    (parseKeyRec? [] = none ∧ (parseKeyRec? keyBytes).isSome = true) ∧
    (allZero (([] : Bytes).take 32) = true ∧ allZero (enrolmentBytes.take 32) = false ∧
      (parseEnrolment? enrolmentBytes).isSome = true) ∧
    ((slotOf (following 0x7001)).phase ≠ .ended ∧ (slotOf (following 0x7001 .ended)).phase = .ended) ∧
    (∀ kind ∈ [0, 4], kind = 0 ∨ 3 < kind) ∧ (following 0x7001).pair.epoch = 0 ∧
    ((following 0x7001).lodge.ctl.phase = .idle ∧
      { following 0x7001 with lodge.ctl.phase := .fetch }.lodge.ctl.phase ≠ .idle) := by
  refine ⟨rfl, by decide +kernel, ⟨_, rfl⟩, by decide +kernel, by decide +kernel, by decide +kernel, by decide +kernel,
    by decide, rfl, by decide +kernel⟩

/-- A standby whose 4,096 slots all hold commands that run. -/
def crammed : State := { inPhase .standby with host.slots := (List.range 4096).map fun k => (k, { fn := 1, phase := .running }) }

/-- An active half in step, with commands of the stream. -/
def leading (c : PairCommand) : State := active { leaseUntil := 192000000001, commands := [c] }
def issued' : PairCommand := { admission := 5, fn := 1, ownHash := some [1] }
def digested (p : PairPhase) : State := half { phase := p, inStep := p == .active, digests := [(3, [7])], link0 := linkUp }
def expired (witness : Bool) : State := half { phase := .active, inStep := true, leaseUntil := 192000000000, witness := witness }
def resultLate (s : State) (c : PairCommand) : Bool :=
  !c.settled && !c.diverged && c.ownHash.isSome && c.peerHash.isNone && decide (c.endedAt + 10 * unitsPerMilli ≤ s.now)

theorem witness_confirmation :
    (∀ h ∈ [none, some [1]], let s := leading { issued' with ownHash := h }
      s.leads = true ∧ (s.commandAt? 5).map (·.ownHash) = some h) ∧
    (ready.leads = false ∧ (leading issued').commandAt? 6 = none) ∧
    (ready.standby = false ∧ ∀ p ∈ [PairPhase.active, .standby], ((digested p).leads = true ∨ (digested p).standby = true) ∧
      tget? (digested p).pair.digests 3 = some [7] ∧ tget? (digested p).pair.digests 4 = none) ∧
    ((digested .standby).standby = true) ∧
    (let s := leading issued'
     s.leads = true ∧ s.anyLinkUp = true ∧ s.pair.commands.find? (resultLate s) = some issued') ∧
    (let s := leading { issued' with endedAt := 192000000000 }
     s.pair.commands.find? (resultLate s) = none) ∧
    ((expired true).anyLinkUp = false) ∧
    ((leading issued').leads = true ∧ (leading issued').pair.epochStart + unitsPerMilli ≤ ready.now ∧
      ready.now < (active { epochStart := 192000000000 }).pair.epochStart + unitsPerMilli) ∧
    ((leading issued').pair.phase = .active ∧ (leading issued').pair.lastRequestAt +
      (leading issued').packSec.renewMs * unitsPerMilli ≤ ready.now ∧
      ready.now < (active { lastRequestAt := 192000000000 }).pair.lastRequestAt + pack.renewMs * unitsPerMilli) := by
  decide +kernel

theorem witness_LeaseAndSwitchover :
    (∀ p ∈ [PairPhase.standby, .syncing], (inPhase p).linkTakes 0 = true ∧ 0xFFFFFFFF < 2 ^ 32 ∧
      (inPhase p).pair.phase = p) ∧
    ((active { requests := [(4, 100)] }).leads = true ∧ tget? (active { requests := [(4, 100)] }).pair.requests 4 = some 100) ∧
    (∀ w ∈ [true, false], (expired w).leads = true ∧ (expired w).leaseEnd ≤ (expired w).now ∧ (expired w).witnessed = w) ∧
    ((leading issued').now < (leading issued').leaseEnd) ∧
    (∀ s ∈ [half { phase := .standby } silent, half { phase := .standby, witness := true }], s.standby = true ∧
      s.pair.lastGrantAt + s.packSec.lapse ≤ s.now ∧ (s.packSec.witness ≠ 1 ∨ s.witnessed = true)) ∧
    (let s := half { phase := .standby, lastGrantAt := 192000000000 }
     s.standby = true ∧ ¬ s.pair.lastGrantAt + s.packSec.lapse ≤ s.now) ∧
    ((inPhase .standby).packSec.witness = 1 ∧ (inPhase .standby).witnessed = false) ∧
    (255 < 256 ∧ 2 ^ 64 - 1 < 2 ^ 64 ∧ (inPhase .standby).standby = true ∧ (active).leads = true ∧
      (inPhase .active).pair.phase = .active ∧ (inPhase .active).pair.inStep = false) ∧
    (∀ p ∈ [PairPhase.none, .detached, .pairing, .fenced, .syncing, .solo], (inPhase p).pair.phase = p) ∧
    ((active).presented 0 packBase = true ∧ (active).pair.phase = .active ∧ State.reset.presented 0 packBase = false) ∧
    (∀ p ∈ [PairPhase.detached, .fenced], (inPhase p).presented 0 packBase = true ∧ (inPhase p).pair.tampered = false) ∧
    ((7 : Reg) ≠ 0x50107296) ∧
    ((inPhase .solo).packSec.witness = 1 ∧ (half { phase := .solo } silent).packSec.witness ≠ 1) ∧
    (let s := half { phase := .detached, witness := true }
     s.pair.phase = .detached ∧ s.witnessed = true ∧ s.pair.tampered = false ∧ s.pair.witnessSince + s.packSec.lapse ≤ s.now) ∧
    (let s := half { phase := .detached, witness := true, witnessSince := 192000000000 }
     ¬ s.pair.witnessSince + s.packSec.lapse ≤ s.now) := by
  decide +kernel

theorem witness_no_free_slot : crammed.standby = true ∧ crammed.commandAt? 5 = none ∧ crammed.makeRoom 1 7 = crammed ∧
    lowest? Config.slots (fun k => (crammed.slot? k).isNone) = none :=
  have idle : (crammed.slotsOf 1).filter (fun e => e.2.phase == .ended && e.2.entry.tag == 7) = [] := by decide +kernel
  ⟨rfl, rfl, by simp [State.makeRoom, idle, show ¬ crammed.host.slots.length < Config.slots by decide +kernel,
      show crammed.pair.commands = [] from rfl, argmin?],
    lowest_all fun k hk => by
      have h := tget?_of_mem ({ fn := 1, phase := .running } : Slot) k (List.range 4096) (by simpa using hk)
      cases e : crammed.slot? k with
      | none => exact absurd e h
      | some _ => rfl⟩

/-- An active half at 3600 s, with its domains awake or not, while an exercise of its own or of slot 0 runs or none does. -/
def exercised (p : PairState) (on : Bool := true) (sec : PackSec := pack) : State :=
  { half { p with phase := .active } sec with
    now := 3600 * unitsPerSecond, power.domains := (List.range 36).map fun d => (d, { awake := on }) }
/-- A half in a phase on which slot 0 holds a PAIR_EXERCISE with an operation. -/
def dExercise (p : PairPhase) (op : Nat := 0) (sl : Slot := {}) (on : Bool := true) : State :=
  let d := den 0x600 [BitVec.ofNat 8 op]
  { exercised {} on with
    pair.phase := p,
    host.slots := [(0, { slotOf d with phase := if sl.phase = .waiting then .waiting else .ready, admittedAsStandby := sl.admittedAsStandby })],
    pair.exerciseRunning := sl.phase == .waiting, pair.exerciseSlot := if sl.phase = .waiting then some 0 else none }

theorem witness_PairExercise :
    (∀ on, let s := dExercise .active 0 { phase := .waiting } on
      s.exercising = true ∧ s.pair.exerciseSlot = some 0 ∧ (s.asleep = [] ↔ on = true)) ∧
    (∀ op ∈ [0, 1, 2], let s := dExercise .active op; let sl := slotOf s
      s.pair.exerciseSlot ≠ some 0 ∧ s.slot? 0 = some sl ∧ sl.phase = .ready ∧ sl.fn = 0 ∧ sl.entry.persId = 0 ∧
        sl.setId = none ∧ sl.entry.opcode = 0x0600 ∧ sl.entry.streamPart = 0 ∧ sl.entry.inLength = 0 ∧
        paramZero sl.entry [0] = true ∧ sl.entry.p 0 = op ∧ s.exercising = false ∧ s.asleep = []) ∧
    (∀ a, let s := dExercise .standby 0 { admittedAsStandby := a }
      s.pair.phase ≠ .active ∧ (slotOf s).admittedAsStandby = a) ∧
    (let s := { dExercise .active 1 with pair.exerciseRunning := true }
     s.exercising = true ∧ s.pair.exerciseSlot ≠ some 0 ∧ (slotOf s).entry.p 0 = 1) ∧
    (let s := dExercise .active 1 {} false
     s.exercising = false ∧ (slotOf s).entry.p 0 = 1 ∧ s.asleep ≠ []) ∧
    ((exercised {} true { pack with exerciseInterval := 0 }).packSec.exerciseInterval = 0 ∧ (inPhase .solo).pair.phase ≠ .active) ∧
    (∀ on, ∀ p ∈ [{}, { exerciseRunning := true }], let s := exercised p on
      s.packSec.exerciseInterval ≠ 0 ∧ s.pair.phase = .active ∧ s.exercising = p.exerciseRunning ∧ s.pair.exerciseSlot = none ∧
        s.pair.exerciseAt + s.packSec.exerciseInterval * unitsPerSecond ≤ s.now ∧ (s.asleep = [] ↔ on = true)) ∧
    (let s := dExercise .active 0 { phase := .waiting }
     s.exercising = true ∧ s.pair.exerciseSlot ≠ none ∧
       s.pair.exerciseAt + s.packSec.exerciseInterval * unitsPerSecond ≤ s.now) ∧
    (let s := exercised { exerciseAt := 1 }
     s.exercising = false ∧ ¬ s.pair.exerciseAt + s.packSec.exerciseInterval * unitsPerSecond ≤ s.now) ∧
    ((List.range Config.cores).filter fun c => [95].contains c && (exercised {}).awake (domSkulk (c / 4))) ≠ [] := by
  decide +kernel

/-- A switched domain in a state; den may gate and wake domains. -/
def domain (d : Nat) (v : PowerDomain) : State :=
  { ready with power.denPolicy := true, power.domains := tset ready.power.domains d v }
/-- The same domain while the sealed world claims it: a command of its skulk, or operands in its engines. -/
def claiming (s : State) : State :=
  { s with
    host.slots := [(0, { fn := 1, phase := .running, skulk := some 0 })],
    compute.bears := [(0, { memory := [1] })] }
/-- The same device with an idle delay of zero. -/
def impatient (s : State) : State := { s with power.idleDelay := 0 }

theorem witness_isolated_link :
    (ready.power.powerGood = true ∧ unpowered.power.powerGood = false ∧ ready.power.warning = false ∧ warned.power.warning = true ∧
      warned.power.powerGood = true) ∧
    (3399 < 3400 ∧ 3400 ≤ 3400 ∧ 6200 < 6201 ∧ 6200 ≤ 6200) ∧
    (∀ w, let s := { ready with power.linkUp := true, power.warning := w }
      s.power.linkUp = true ∧ s.power.linkValidAt + 50 * unitsPerMicro ≤ s.now ∧ s.power.warning = w) ∧
    (let s := { ready with power.linkUp := true, power.linkValidAt := 192000000000 }
     s.power.linkUp = true ∧ ¬ s.power.linkValidAt + 50 * unitsPerMicro ≤ s.now) ∧
    (∀ j ∈ [JtagInstr.bypass, .extest], ({ warned with pins.jtag := j } : State).power.warning = true) ∧
    (let s := { ready with power.target := 400, power.targetGoal := 900 }
     s.power.target ≠ s.power.targetGoal ∧ s.targetNow = s.power.targetGoal) ∧
    ready.power.target = ready.power.targetGoal := by
  decide +kernel

theorem witness_domains :
    (∀ d ∈ [0, 33], (impatient (domain d { awake := true })).idleGate d = true) ∧
    (∀ d ∈ [0, 24], (impatient (claiming (domain d { awake := true }))).idleGate d = false ∧
      (impatient (claiming (domain d { awake := true }))).idleLong d = true) ∧
    (domain 35 { awake := true }).idleLong 35 = false ∧ (domain 33 {}).idleLong 33 = false ∧
    ({ domain 34 { awake := true } with host.d3hot := true }.idleGate 34 = true) ∧
    (∀ d ∈ [0, 24], ∀ c ∈ [id, claiming], let s := c (domain d { awake := true, gateRequestedAt := some 5 })
      s.gatePending d = true ∧ s.awake d = true ∧ s.alwaysOn d = false ∧ s.pwrShown = true ∧ s.reqPermitted d = true ∧
        s.waking d = false ∧ s.gated d = false ∧ s.claimed d = (c (domain 33 {})).claimed d) ∧
    ((domain 0 {}).claimed 0 = false ∧ (claiming (domain 0 {})).claimed 0 = true ∧ (claiming (domain 24 {})).claimed 24 = true) ∧
    (∀ d ∈ [23, 24, 32], let s := domain d { wakingUntil := some 192000000000 }
      (s.dom d).wakingUntil = some 192000000000 ∧ 192000000000 ≤ s.now ∧ (s.dom d).gatingUntil = none ∧ s.waking d = true ∧
        s.gated d = false) ∧
    ((domain 33 { wakingUntil := some 192000000001 }).now < 192000000001) ∧
    ((domain 33 { gatingUntil := some 5 }).dom 33).gatingUntil ≠ none ∧ (ready.dom 33).gatingUntil = none := by
  decide +kernel

theorem witness_power_requests :
    State.reset.pwrShown = false ∧
    ((domain 33 {}).pwrShown = true ∧ 36 ≤ 36 ∧ 63 % 64 = 63 ∧ (domain 33 {}).reqPermitted 34 = false ∧
      (domain 33 {}).reqPermitted 35 = false ∧ ready.reqPermitted 33 = false) ∧
    (∀ d ∈ [0, 33], (domain d {}).reqPermitted d = true ∧ (domain d {}).gated d = true ∧ (domain d {}).gatePending d = false) ∧
    ({ domain 33 {} with power.alwaysOn := 0x200000000 }.alwaysOn 33 = true) ∧
    (let s := domain 33 { awake := true, gateRequestedAt := some 5 }
     s.gatePending 33 = true ∧ 5 + 50000 * unitsPerMicro ≤ s.now) ∧
    (let s := domain 33 { awake := true, gateRequestedAt := some 192000000000 }
     s.now < 192000000000 + 50000 * unitsPerMicro) ∧
    (ready.pwrShown = true ∧ ready.power.locked = false ∧ { ready with power.locked := true }.power.locked = true) ∧
    (let s := domain 0 {}
     s.gated 0 = true ∧ s.lodge.inForce.isSome = true ∧ s.domEnabled 0 = true ∧ s.alwaysOn 0 = false ∧
       ((1 : Word) &&& s.enabledDomains) = 1) := by
  decide +kernel

/-- A device in a boot phase, some time after its reset began. -/
def booted (p : BootPhase) (since : Nat := 0) : State :=
  { ready with boot.phase := p, boot.start := 192000000000 - since }
/-- A device in a life-cycle state with an instruction in its boundary-scan port. -/
def scanning (j : JtagInstr) (l : LifeCycle) : State := { ready with antler.state := l, pins.jtag := j }

theorem witness_pins :
    (∀ l, let s := { ready with tamper.latched := l }
      s.devWritable = true ∧ s.acts = true ∧ s.leads = false ∧ s.tamper.latched = l) ∧
    (let s := active { leaseUntil := 192000000001 }
     s.devWritable = true ∧ s.acts = true ∧ s.leads = true) ∧
    (State.reset.devWritable = false ∧ (inPhase .standby).acts = false) ∧
    (∀ j ∈ [JtagInstr.bypass, .extest], ∀ c ∈ [(1, false), (3, false)], (scanning j .blank).power.powerGood = true ∧
      (scanning j .blank).power.warning = false ∧ (scanning j .blank).pins.jtag.holds = (j == .extest)) ∧
    ((List.range 7).map fun c => ((scanning .bypass .blank).jtagApplied (jtagInstr c)).holds) =
      [false, false, false, true, true, true, false] ∧
    ((scanning .bypass .production).jtagApplied .extest = .bypass ∧ (scanning .bypass .makerTest).jtagApplied .extest = .extest) := by
  decide +kernel

theorem witness_link :
    (∀ p ∈ [BootPhase.off, .halted], (booted p).boot.phase = p) ∧
    (∀ p ∈ [(1, 1), (5, 16)], 1 ≤ p.1 ∧ p.1 ≤ 5 ∧ p.2 ∈ [1, 2, 4, 8, 16]) ∧ (3 ∉ [1, 2, 4, 8, 16]) ∧
    (let s := booted .booting
     s.boot.phase ≠ .off ∧ s.boot.phase ≠ .halted ∧ s.now < s.boot.start + 60 * unitsPerMilli ∧ s.host.linkUp = true ∧
       s.retryEnds = false) ∧
    (let s := booted .booting (60 * unitsPerMilli)
     s.boot.phase = .booting ∧ s.boot.start + 60 * unitsPerMilli ≤ s.now ∧ s.retryEnds = true) ∧
    ((booted .ready).boot.phase ≠ .booting ∧ State.reset.host.linkUp = false) := by
  decide +kernel

theorem witness_configuration :
    (∀ p ∈ [BootPhase.ready, .recovery, .configured], (booted p).configurable 0 = true ∧ (booted p).retryEnds = false ∧
      (booted p).host.linkUp = true ∧ ((booted p).boot.phase = .recovery ↔ p = .recovery)) ∧
    ((booted .ready).configurable 7 = true ∧ (booted .ready).configurable 8 = false ∧ (booted .recovery).configurable 1 = false) ∧
    ((booted .booting (60 * unitsPerMilli)).retryEnds = true) ∧
    (∀ i ∈ [16, 43, 64 + 0x10, 128 + 0x1E], ((booted .ready).configValue 7 i).isSome = true) ∧
    (∀ i ∈ [44, 63, 64, 127, 128], (booted .ready).configValue 7 i = none) ∧
    (∀ e, { booted .ready with cub.vfEnable := e }.cub.vfEnable = e) ∧
    ((2047 : Word).toNat ≤ 2047 ∧ 2047 < (2048 : Word).toNat) ∧
    ([(0 : Word), 1, 2, 3].map fun v => (v.getLsbD 0, v.toNat % 4)) = [(false, 0), (true, 1), (false, 2), (true, 3)] ∧
    (128 * 2 ^ (2 : Word).toNat ≤ 512 ∧ ¬ 128 * 2 ^ (3 : Word).toNat ≤ 512 ∧ 128 * 2 ^ (5 : Word).toNat ≤ 4096) := by
  decide +kernel

theorem witness_d3hot :
    (ready.host.d3hot = false ∧ ready.gated domHost = false ∧ ready.slot? 0 = none) ∧
    (∀ l : Bool, let s := { domain domHost {} with host.d3hot := true, lodge.inForce := if l then some lodge else none }
      s.host.d3hot = true ∧ s.gated domHost = true ∧ s.lodge.inForce.isSome = l) ∧
    ((native (entry 0)).slot? 0).isSome = true := by
  decide +kernel
/-! ## WellFormed: an ill-formed command for each check -/

/-- Numbers of functions, slots, cores, frames and accesses. -/
theorem test_refuses_host : [Instr.ringEnable 2048, .lowHalfRead 0 0x2000000, .rcRead 0 0 0, .rcRead 0 0 4097, .nop 4096,
    .add 96 0, .commandStart 0 0 32, .doorbell 1 4096 0, .entryFetchDone 0 (zeros 63)].map wellFormed =
    List.replicate 9 false := by decide +kernel
/-- Engines, keys, ports, noise sources. -/
theorem test_refuses_units : [Instr.engineJobDone true 16, .engineJobDone false 32, .engineFault true 0 2, .quillAtr 4 [],
    .keyRecordArrival 16777216 0, .noiseBlockTested 2 (zeros 512), .noiseBlockTested 0 (zeros 511)].map wellFormed =
    List.replicate 7 false := by decide +kernel
/-- Check units, burrow queues, pack links and their records. -/
theorem test_refuses_pair : [Instr.crcStart 8, .crcParameterWrite 0 3 0, .burrowRead 16, .burrowWrite 0 3 0, .leaseReq 2 0,
    .frameHeader 0 2 true, .dataFrame 0 (2 ^ 48) 0 [] true, .grant (2 ^ 64), .result 0 (zeros 15),
    .digest 0 (zeros 31)].map wellFormed = List.replicate 10 false := by decide +kernel
/-- Monitors, sites, sensors, lids, cells. -/
theorem test_refuses_tamper : [Instr.lightSample 256 0, .temperatureSample 8 0, .voltageExcursion 0x3FF 0,
    .lidSample 4 true true, .cellLow 2 0, .cellInserted 0 (zeros 15) 0].map wellFormed = List.replicate 6 false := by
  decide +kernel
/-- Memories, gates, power domains, pins. -/
theorem test_refuses_memory : [Instr.larderTestSlot 25 0 none, .larderTestSlot 0 3 none, .pageCommit 131072 [] 0,
    .pageCommit 0 [] 4, .fabricAccess 256 true 0 0 0 1 [] true 0, .fabricAccess 0 true 16 0 0 1 [] true 0,
    .fabricAccess 0 true 0 0 3 1 [] true 0, .fabricAccess 0 true 0 0 0 65 [] true 0, .pwrGate 64, .jtagInstruction 7,
    .pcieLinkUp 6 1, .pcieLinkUp 1 3].map wellFormed = List.replicate 12 false := by decide +kernel
/-- Commands at the ends of their ranges are well-formed. -/
theorem test_accepts : [Instr.ringEnable 2047, .rcRead 2047 0x1FFFFFC 4, .nop 4095, .add 95 0, .commandStart 4095 95 31,
    .engineJobDone true 15, .burrowRead 15, .larderTestSlot 24 2 none, .fabricAccess 255 true 15 0 2 64 [] true 0,
    .pcieLinkUp 5 16].map wellFormed = List.replicate 10 true := by decide +kernel
/-- The table gives no row any bits, so no word spells a command. -/
theorem test_no_word (nbits w : Nat) : decodeTableWord nbits w = none := rfl

/-! ## Worked examples of the specification -/

/-- The state after a command. -/
def after (c : Instr) (s : State) : State := match exec c s with | .next t => t | _ => s
/-- The state after commands in turn. -/
def run (l : List Instr) (s : State) : State := l.foldl (fun s c => after c s) s
/-- The value that the last read gives. -/
def lastRead (s : State) : Option Word := match s.outputs.getLast? with | some (.readData _ _ _ v) => some v | _ => none
/-- A program of several words on core 0. -/
def codeOf (l : List Nat) (x : Ctx) (a b : KeyRec := {}) : State :=
  { program 0 x true a b with lodge.inForce := some { lodge with
      programs := [{ setId := 9, entries := [{ opcode := 0x8000 }], code := l.flatMap (natLe 4) }] } }
/-- The context of the command in slot 0. -/
def ctxOf (s : State) : Ctx := (slotOf s).ctx

/-- A counter that carries from 0x0000_0000_FFFF_FFFF between the reads of its halves still reads so (R18). -/
theorem test_two_half_read :
    let s := after (.lowHalfRead 0 0x600020) { ready with owl.seqNext := 0xFFFFFFFF }
    let t := after (.rcRead 0 0x600024 4) { s with owl.seqNext := 0x100000000 }
    (lastRead s, lastRead t) = (some 0xFFFFFFFF, some 0) := by decide +kernel
/-- A misaligned read of 4 bytes and a read of 16 bytes return all their bytes as 0xFF (R16). -/
theorem test_misaligned_read : [(2, 4), (0, 16)].map (fun p => (after (.regAccess 0 p.1 p.2 false) ready).outputs) =
    [[.readBytes 0 2 (List.replicate 4 0xFF)], [.readBytes 0 0 (List.replicate 16 0xFF)]] := by decide +kernel
/-- Weights 100 and 50 give the strides 10,485 and 20,971 ("The Host Interface", example of R149). -/
theorem test_strides : strideOf 100 = 10485 ∧ strideOf 50 = 20971 := by decide
/-- The six grants of that example go to cubs 5, 6, 5, 5, 6 and 5. -/
theorem test_grants :
    let ring : Ring := { enable := true, enabled := true, sqLog2 := 9, cqLog2 := 9, sqTail := 9 }
    let s : State := { ready with
      lodge.inForce := some { lodge with functions := [{ fn := 5, poolId := 0, weight := 100, creditLimit := 32 },
        { fn := 6, poolId := 0, weight := 50, creditLimit := 32 }] },
      cub.fns := [(5, { busMaster := true }), (6, { busMaster := true })],
      host.rings := [(5, ring), (6, ring)] }
    ((run (List.replicate 6 .slotGrant) s).host.slots.map fun e => e.2.fn) = [5, 6, 5, 5, 6, 5] := by decide +kernel
/-- The handle 0x8080_0022 is persistent, generation 1: domain 1, index 2; 0x0180_1234 is resident, generation 3
("Keys, Key Domains and the Sett", example of Table 7-3). -/
theorem test_handles : handleOf (masterKeyId 1 2) 1 = 0x80800022 ∧ handleOf 0x1234 3 = 0x01801234 ∧
    handleGen 0x01801234 = 3 := by decide

/-- ADD g3, g1, g2 is the word 0x0461_1000 (example of R209). -/
theorem test_add : let x := ctxOf (after (.add 0 0x04611000) (codeOf [0x04611000] (regs [(1, 5), (2, 7)])))
    (x.rg 3, x.pc) = (12, 4) := by decide +kernel
/-- A write to g0 is discarded (R208). -/
theorem test_add_g0 : (ctxOf (after (.add 0 0x04011000) (codeOf [0x04011000] (regs [(1, 5), (2, 7)])))).rg 0 = 0 := by
  decide +kernel
/-- CBLK LOAD cb0, [g4], CBLK XOR and CBLK STORE are the words of the example of a PIN translation. -/
theorem test_load_block :
    (((ctxOf (after (.cblkLoad 0 0xD8840000) (codeOf [0xD8840000] (regs [(4, 0)])))).rcb 0).val) = 0xD8840000 := by decide +kernel
/-- BSWAP reverses bytes. -/
theorem test_bswap : bswap 0x0102030405060708 = 0x0807060504030201 := by decide

/-- The check values of Table 17-1 over "123456789", with the writes of the example of R598. -/
theorem test_crc : [(1, 0xCBF43926), (2, 0xE3069283), (3, 0x29B1), (4, 0x995DC9BBDF1939FA)].map (fun p =>
      ((run [.crcConfigWrite 0 (BitVec.ofNat 32 p.1), .crcStart 0, .crcDataW 0 0x34333231, .crcDataW 0 0x38373635,
        .crcDataB 0 0x39] ready).crcUnit 0).result) =
    [(1, 0xCBF43926), (2, 0xE3069283), (3, 0x29B1), (4, 0x995DC9BBDF1939FA)].map fun p => BitVec.ofNat 64 p.2 := by
  decide +kernel
/-- The unit counts nine bytes in that example. -/
theorem test_crc_count : ((run [.crcConfigWrite 0 3, .crcStart 0, .crcDataW 0 0x34333231, .crcDataW 0 0x38373635,
    .crcDataB 0 0x39] ready).crcUnit 0).bytes.count = 9 := by decide +kernel
/-- The watchdog stream 7, 8, 8, 11, 12 (example of R599): its counts read 0x0002_0001. -/
theorem test_alive : let s := run ([7, 8, 8, 11, 12].map fun v => .crcAlive 2 v) ready
    lastRead (after (.rcRead 0 0xB00248 4) s) = some 0x00020001 := by decide +kernel
/-- Table 17-3, steps 1 to 3: with two words free, the second word of P3 makes GAP 1 and P4 makes GAP 2. -/
theorem test_burrow_gap :
    let s := withQueue 12 { words := List.replicate 254 {} }
    let t := run [.burrowWrite 12 0 1, .burrowWrite 12 0 2] s
    let u := run [.burrowWrite 12 1 3, .burrowWrite 12 0 1] t
    ((t.burrow 12).words.getLast?.map fun w => (w.tag, w.data)) = some (4, 1) ∧
    ((u.burrow 12).words.getLast?.map fun w => (w.tag, w.data)) = some (4, 2) ∧ (u.burrow 12).free 12 = 1 := by
  decide +kernel

/-- Region 3 of the example of R477 refuses the write of core 50: gate 0 captures the offset 0x0190_0010, and
GATE_VIOL_STATUS reads 0x0042_0033. -/
theorem test_gate_violation :
    let s : State := { ready with
      host.slots := [(0, { fn := 1, phase := .running, core := some 50, programWorld := false })],
      compute.cores := [(50, { slot := some 0 })],
      lodge.inForce := some { lodge with gates := [
      ⟨0, 0, 0x10, 0x3F, 3, 0x64000, 0x10000⟩, ⟨0, 1, 0x40, 0x5F, 3, 0x74000, 0x8000⟩,
      ⟨0, 2, 0x60, 0x6F, 3, 0x7C000, 0x4000⟩, ⟨0, 3, 0, 0xFF, 0, 0x64000, 0x1C000⟩] } }
    let t := after (.fabricAccess 0x42 false 0 0x01900010 1 8 (zeros 8) true 0) s
    (lastRead (after (.rcRead 0 0xD80008 4) t), (tget t.mem.gates 0 {}).held.offset) = (some 0x00420033, 0x01900010) := by
  decide +kernel
/-- The closing record of the example of R571, byte for byte. -/
theorem test_owl_record :
    OwlRecord.stored { code := 0xA0, privileged := true, repeats := 3999, fraction := 0x3E80, seconds := 825540801,
                       link := 0xC3175A,
                       payload := [0, 1, 1, 0x24, 0x40, 0, 0, 0, 0x40, 0, 0, 1, 0, 0, 0, 0] } =
      [0xA0, 0x02, 0x10, 0x9F, 0x0F, 0x00, 0x80, 0x3E, 0xC1, 0xC0, 0x34, 0x31, 0x00, 0x5A, 0x17, 0xC3]
        ++ natBe 8 0x0001012440000000 ++ natBe 8 0x4000000100000000 := by
  decide +kernel
/-- The throttle of the example of R658: Still mode at 70 W gives F 160 with every unit awake, and 185 with both Hedgehog
groups gated. -/
theorem test_throttle :
    let s : State := { ready with power.modeInForce := true, power.ceiling := 700 }
    (s.duty, (((s.setDom 32 {}).setDom 33 {}).duty)) = (160, 185) := by decide +kernel
/-- The refused gate request of domain 33 leaves 0x0000_A102 in PWR_REQ_RESULT (example of R671). -/
theorem test_gate_refused :
    let s := domain 33 { awake := true, gateRequestedAt := some 0 }
    lastRead (after (.rcRead 0 0x500034 4) (after (.gateRequestTimeout 33) s)) = some 0x0000A102 := by decide +kernel
/-- Vibration of lid input 1 for 327 ticks is a glitch and no confirmation with N 328 ("Tamper Monitors and the Torpor
Domain", the example of a tightened lid input). -/
theorem test_lid_glitch :
    let s : State := { ready with
      tamper.monitors := [(0x241, { n := some 328 })],
      tamper.lids := [(1, { state := 2, run := 327 })] }
    let t := after (.lidSample 1 true false) s
    ((tget t.tamper.lids 1 {}).glitches.count, t.tamper.latched) = (1, false) := by decide +kernel
/-- The 328th consecutive discrepant tick of that example confirms: MONITOR 0x241, KIND 6. -/
theorem test_lid_confirmed :
    let s : State := { ready with
      tamper.monitors := [(0x241, { n := some 328 })],
      tamper.lids := [(1, { state := 2, run := 327 })] }
    let t := after (.lidSample 1 true true) s
    (t.tamper.latched, t.tamper.latchMonitor, t.tamper.latchKind) = (true, 0x241, 6) := by decide +kernel
/-- With K 2 and W 16, events at ticks 100 and 115 confirm, and events at ticks 100 and 116 do not (example of R530). -/
theorem test_window :
    let s (n : Nat) : State := { ready with
      now := n * unitsPerTick,
      tamper.monitors := [(0x230, { k := some 2, w := some 16, events := [100] })] }
    ((after (.meshSample 1 0) (s 115)).tamper.latched, (after (.meshSample 1 0) (s 116)).tamper.latched) =
      (true, false) := by decide +kernel
/-- The standby grants at G and takes over at G + 221 ms with the default pair timing, not before (example of R638). -/
theorem test_takeover :
    let s (ms : Nat) : State := { half { phase := .standby, lastGrantAt := 0 } with
      now := ms * unitsPerMilli,
      lodge.inForce := some { lodge with pack := some { pack with witness := 0, driftPpm := 5000 } } }
    ((after (.leaseLapseTakeover [] []) (s 220)).pair.phase, (after (.leaseLapseTakeover [] []) (s 222)).pair.phase) =
      (.standby, .active) := by decide +kernel


end Sys2Proof.Machine.Tests
end

section
/-! PROOFS. The registers that discard a host write (R35, R130, R160). -/

namespace Sys2Proof.Machine

/-! ## An access that reaches no register -/

theorem writeWide_of_not_takesWide {f off : Nat} {s : State} (h : s.takesWide f off = false) (v : Nat) :
    s.writeWide f off v = .next s := by simp [State.writeWide, h]

theorem writeLow_of_not_takesWide {f off : Nat} {s : State} (h : s.takesWide f off = false) (v : Reg) :
    s.writeLow f off v = s := by simp [State.writeLow, h]

theorem writeHigh_of_not_takesWide {f off : Nat} {s : State} (h : s.takesWide f off = false) (v : Reg) :
    s.writeHigh f off v = .next s := writeWide_of_not_takesWide h _

theorem wideAt_of_rightSize_eight {f off : Nat} (h : rightSize f off 8 = true) : wideAt f off = true := by
  simp [rightSize] at h
  exact h.2

/-- A host write of a right size has no effect where neither a 64-bit register that the access falls on takes a write,
nor a write of the whole register at its offset changes anything. -/
theorem hostWrite_eq_self {f off size : Nat} {s : State} (hsize : rightSize f off size = true)
    (hwide : ∀ o, wideAt f o = true → o = off ∨ o + 4 = off → s.takesWide f o = false)
    (hreg : ∀ v, s.writeRegister f off v = .next s) (v : Nat) : s.hostWrite f off size v = .next s := by
  unfold State.hostWrite
  split
  · rfl
  split
  · next hbad => simp [hsize] at hbad
  split
  · rfl
  split
  · next h8 =>
    subst h8
    exact writeWide_of_not_takesWide (hwide off (wideAt_of_rightSize_eight hsize) (.inl rfl)) v
  split
  · next hlow => rw [writeLow_of_not_takesWide (hwide off hlow (.inl rfl))]
  split
  · next hhigh => exact writeHigh_of_not_takesWide (hwide (off - 4) hhigh.2 (.inr (by omega))) _
  · exact hreg _

/-! ## The TMP_ block -/

theorem takesWide_tmp {o : Nat} (hlo : 0x700000 ≤ o) (hhi : o < 0x800000) (s : State) : s.takesWide 0 o = false := by
  have hblock : o / 0x100000 = 7 := by omega
  simp [State.takesWide, hblock]

theorem writeRegister_tmp {off : Nat} (hlo : 0x700000 ≤ off) (hhi : off < 0x800000) (s : State) (v : Nat) :
    s.writeRegister 0 off v = .next s := by
  have hblock : off / 0x100000 = 7 := by omega
  have hdev : ¬ off < 0x10000 := by omega
  have hgst : ¬ off < 0x100000 := by omega
  simp [State.writeRegister, State.writeDen, hdev, hgst, hblock]

/-- No 64-bit register of the EVR_ block reaches into the TMP_ block. -/
theorem wideAt_below_tmp {o : Nat} (hlo : 0x6FFFFC ≤ o) (hhi : o < 0x700000) : wideAt 0 o = false := by
  have hblock : o / 0x100000 = 6 := by omega
  have hdev : ¬ o < 0x10000 := by omega
  have hgst : ¬ o < 0x100000 := by omega
  simp [wideAt, hdev, hgst, hblock]
  omega

theorem hostWrite_tmp {off size : Nat} {s : State} (hlo : 0x700000 ≤ off) (hhi : off < 0x800000)
    (hsize : rightSize 0 off size = true) (v : Nat) : s.hostWrite 0 off size v = .next s := by
  refine hostWrite_eq_self hsize (fun o ho hoff => ?_) (writeRegister_tmp hlo hhi s) v
  by_cases hbelow : o < 0x700000
  · exact absurd ho (by simp [wideAt_below_tmp (o := o) (by omega) hbelow])
  · exact takesWide_tmp (by omega) (by omega) s

/-! ## The ring registers -/

theorem ringOff_zero (off : Nat) : ringOff 0 off = 0x100000 + off := rfl

theorem ringOff_of_ne_zero {f : Nat} (h : f ≠ 0) (off : Nat) : ringOff f off = off := if_neg h

theorem ringOff_add (f off n : Nat) : ringOff f (off + n) = ringOff f off + n := by
  unfold ringOff
  split <;> omega

theorem wideAt_ringOff {off : Nat} (h : off < 0x100000) (f : Nat) : wideAt f (ringOff f off) = ringWide off := by
  by_cases hf : f = 0
  · subst hf
    have hdev : ¬ 0x100000 + off < 0x10000 := by omega
    have hgst : ¬ 0x100000 + off < 0x100000 := by omega
    have hblock : (0x100000 + off) / 0x100000 = 1 := by omega
    have hin : (0x100000 + off) % 0x100000 = off := by omega
    simp only [wideAt, ringOff_zero, hdev, hgst, hblock, hin, ne_eq, not_true_eq_false, if_false]
  · simp [wideAt, ringOff_of_ne_zero hf, hf]

theorem takesWide_ringOff {off : Nat} (h : off < 0x100000) (s : State) (f : Nat) :
    s.takesWide f (ringOff f off) = if off = 0x2000 then !(s.ring f).pwEnable else !(s.ring f).enabled := by
  by_cases hf : f = 0
  · subst hf
    have hblock : (0x100000 + off) / 0x100000 = 1 := by omega
    have hin : (0x100000 + off) % 0x100000 = off := by omega
    simp only [State.takesWide, ringOff_zero, hblock, hin, ne_eq, not_true_eq_false, if_false]
  · simp [State.takesWide, ringOff_of_ne_zero hf, hf]

theorem writeRegister_ringOff {off : Nat} (hlo : 0x100 ≤ off) (hhi : off < 0x3000) (s : State) (f v : Nat) :
    s.writeRegister f (ringOff f off) v = s.writeRing f off v := by
  by_cases hf : f = 0
  · subst hf
    have hdev : ¬ 0x100000 + off < 0x10000 := by omega
    have hgst : ¬ 0x100000 + off < 0x100000 := by omega
    have hblock : (0x100000 + off) / 0x100000 = 1 := by omega
    have hin : (0x100000 + off) % 0x100000 = off := by omega
    simp only [State.writeRegister, State.writeDen, ringOff_zero, hdev, hgst, hblock, hin, if_true, if_false]
  · have hring : ¬ (off < 0x100 ∨ 0x3000 ≤ off) := by omega
    simp only [State.writeRegister, ringOff_of_ne_zero hf, hf, hring, if_false]

/-- A host write of a right size at a ring register, in the terms of the ring's own offsets. -/
theorem hostWrite_ringOff_eq_self {f off size : Nat} {s : State} (hlo : 0x100 ≤ off) (hhi : off < 0x3000)
    (hsize : rightSize f (ringOff f off) size = true)
    (hwide : ∀ o, ringWide o = true → o = off ∨ o + 4 = off →
      (if o = 0x2000 then !(s.ring f).pwEnable else !(s.ring f).enabled) = false)
    (hreg : ∀ v, s.writeRing f off v = .next s) (v : Nat) :
    s.hostWrite f (ringOff f off) size v = .next s := by
  refine hostWrite_eq_self hsize (fun o ho hoff => ?_)
    (fun v => by rw [writeRegister_ringOff hlo hhi, hreg]) v
  obtain ⟨p, rfl, hp⟩ : ∃ p, o = ringOff f p ∧ (p = off ∨ p + 4 = off) := by
    obtain rfl | ho4 := hoff
    · exact ⟨off, rfl, .inl rfl⟩
    · have hstart : ringOff f (off - 4) + 4 = ringOff f off := by rw [← ringOff_add, Nat.sub_add_cancel (by omega)]
      exact ⟨off - 4, by omega, .inr (by omega)⟩
  rw [takesWide_ringOff (by omega)]
  exact hwide p (by rwa [wideAt_ringOff (by omega)] at ho) hp

/-- The offsets of CUB_SQ_BASE, CUB_SQ_SIZE, CUB_CQ_BASE and CUB_CQ_SIZE, and of the high halves of the bases. -/
theorem writeRing_of_enabled {f off : Nat} {s : State} (hoff : off ∈ [0x100, 0x104, 0x108, 0x110, 0x114, 0x118])
    (h : (s.ring f).enabled = true) (v : Nat) : s.writeRing f off v = .next s := by
  fin_cases hoff <;> simp [State.writeRing, h]

/-- The offsets of CUB_PW_ADDR and of its high half. -/
theorem writeRing_of_pwEnable {f off : Nat} {s : State} (hoff : off ∈ [0x2000, 0x2004])
    (h : (s.ring f).pwEnable = true) (v : Nat) : s.writeRing f off v = .next s := by
  fin_cases hoff <;> simp [State.writeRing, h]

theorem hostWrite_ring_of_enabled {f off size : Nat} {s : State}
    (hoff : off ∈ [0x100, 0x104, 0x108, 0x110, 0x114, 0x118]) (hsize : rightSize f (ringOff f off) size = true)
    (h : (s.ring f).enabled = true) (v : Nat) : s.hostWrite f (ringOff f off) size v = .next s := by
  have hrange : 0x100 ≤ off ∧ off ≤ 0x118 := by simp at hoff; omega
  refine hostWrite_ringOff_eq_self hrange.1 (by omega) hsize (fun o _ ho => ?_) (writeRing_of_enabled hoff h) v
  have hne : o ≠ 0x2000 := by omega
  simp [hne, h]

theorem hostWrite_ring_of_pwEnable {f off size : Nat} {s : State} (hoff : off ∈ [0x2000, 0x2004])
    (hsize : rightSize f (ringOff f off) size = true) (h : (s.ring f).pwEnable = true) (v : Nat) :
    s.hostWrite f (ringOff f off) size v = .next s := by
  have hrange : off = 0x2000 ∨ off = 0x2004 := by simpa using hoff
  refine hostWrite_ringOff_eq_self (by omega) (by omega) hsize (fun o hw ho => ?_) (writeRing_of_pwEnable hoff h) v
  have heq : o = 0x2000 := by simp [ringWide] at hw; omega
  simp [heq, h]

/-! ## The statement -/

/-- Settles O9: the TMP_ block takes no write (R35); an enabled ring pair (R130) and an enabled progress word (R160)
discard the writes of their own registers, whole or of a half. -/
theorem registersThatDiscardWrites : Obligations.RegistersThatDiscardWrites :=
  ⟨fun _ _ v _ hlo hhi hsize => hostWrite_tmp hlo hhi hsize v.toNat,
   fun _ _ _ v _ hoff hsize h => hostWrite_ring_of_enabled hoff hsize h v.toNat,
   fun _ _ _ v _ hoff hsize h => hostWrite_ring_of_pwEnable hoff hsize h v.toNat⟩

end Sys2Proof.Machine
end

section
/-! PROOFS. The doorbells (R134 to R136), and the completions that wait for a position (R109). -/

namespace Sys2Proof.Machine

/-! ## The operations of a doorbell write -/

theorem exec_sqTailWrite (f : Nat) (v : Reg) (s : State) : exec (.sqTailWrite f v) s = execSqTailWrite f v s := rfl

theorem exec_cqHeadWrite (f : Nat) (v : Reg) (s : State) : exec (.cqHeadWrite f v) s = execCqHeadWrite f v s := rfl

theorem onRing_of_ringShown {f : Nat} {s : State} (h : s.ringShown f = true) (g : Ring → State → State) :
    s.onRing f g = g (s.ring f) s := if_pos h

@[simp] theorem leads_setRing (f : Nat) (r : Ring) (s : State) : (s.setRing f r).leads = s.leads := by
  simp [State.leads]

theorem mirrorDoorbell_of_not_leads {s : State} (h : s.leads = false) (f : Nat) : s.mirrorDoorbell f = s := by
  simp [State.mirrorDoorbell, h]

theorem lodgeReport_of_phase_ne_commit {s : State} (h : s.lodge.ctl.phase ≠ .commit) : s.lodgeReport = s := by
  simp [State.lodgeReport, h]

theorem settleFn_of_due_nil {s : State} (hdue : s.host.due = []) (hphase : s.lodge.ctl.phase ≠ .commit) (f : Nat) :
    s.settleFn f = s := by
  rw [State.settleFn, hdue]
  exact lodgeReport_of_phase_ne_commit hphase

/-! ## The positions of a ring -/

theorem bits_11_0 (v : Nat) : bits v 11 0 = v % 4096 := by simp [bits]

theorem Ring.cqSize_pos (r : Ring) : 0 < r.cqSize := Nat.two_pow_pos _

/-- `ringDiff` is the difference modulo the ring size. -/
theorem ringDiff_cast {n : Nat} (hn : 0 < n) (a b : Nat) : (ringDiff a b n : Int) = ((a : Int) - b) % n := by
  have hb : b % n ≤ a + n := (Nat.mod_lt b hn).le.trans (Nat.le_add_left n a)
  rw [ringDiff, Int.natCast_mod, Nat.cast_sub hb, Nat.cast_add, Int.natCast_mod, add_sub_right_comm,
    Int.add_emod_right, Int.sub_emod, Int.emod_emod_of_dvd _ dvd_rfl, ← Int.sub_emod]

/-- The check of R135 on a new completion head, in integers. -/
theorem cqHead_refused_iff (r : Ring) (v : Nat) :
    (r.cqSize ≤ v ∨ ringDiff r.cqWrite r.cqHead r.cqSize < ringDiff v r.cqHead r.cqSize) ↔
      ¬ (v < r.cqSize ∧ ((v : Int) - r.cqHead) % r.cqSize ≤ ((r.cqWrite : Int) - r.cqHead) % r.cqSize) := by
  rw [← ringDiff_cast r.cqSize_pos, ← ringDiff_cast r.cqSize_pos, Nat.cast_le]
  omega

/-! ## The writes -/

theorem sqTailWrite_accepted {f : Nat} {v : Reg} {s : State} (hshown : s.ringShown f = true) (hleads : s.leads = false)
    (henabled : (s.ring f).enabled = true) (hv : v.toNat % 4096 < (s.ring f).sqSize) :
    exec (.sqTailWrite f v) s = .next (s.setRing f { s.ring f with sqTail := v.toNat % 4096 }) := by
  have hin : ¬ (s.ring f).sqSize ≤ v.toNat % 4096 := by omega
  rw [exec_sqTailWrite, execSqTailWrite, onRing_of_ringShown hshown]
  simp [bits_11_0, henabled, hin, mirrorDoorbell_of_not_leads, hleads]

theorem sqTailWrite_discarded {f : Nat} {v : Reg} {s : State} (hshown : s.ringShown f = true)
    (hbad : (s.ring f).enabled = false ∨ (s.ring f).sqSize ≤ v.toNat % 4096) :
    exec (.sqTailWrite f v) s = .next (s.setRing f { s.ring f with dbError := true }) := by
  rw [exec_sqTailWrite, execSqTailWrite, onRing_of_ringShown hshown]
  simp [bits_11_0, hbad]

/-- A write to CUB_CQ_HEAD by the outcome of its check. -/
theorem exec_cqHeadWrite_eq {f : Nat} {s : State} (hshown : s.ringShown f = true) (hleads : s.leads = false) (v : Reg) :
    exec (.cqHeadWrite f v) s = .next
      (if (s.ring f).cqSize ≤ v.toNat % 4096 ∨ ringDiff (s.ring f).cqWrite (s.ring f).cqHead (s.ring f).cqSize <
          ringDiff (v.toNat % 4096) (s.ring f).cqHead (s.ring f).cqSize then
        s.setRing f { s.ring f with dbError := true }
      else (s.setRing f { s.ring f with cqHead := v.toNat % 4096 }).settleFn f) := by
  rw [exec_cqHeadWrite, execCqHeadWrite, onRing_of_ringShown hshown, bits_11_0,
    mirrorDoorbell_of_not_leads (by rw [leads_setRing, hleads])]

/-- Settles O11: a doorbell write is judged by its range and, for the submission tail, by ENABLED; an accepted completion
head frees positions, which removed functions' entries take (`settleFn`, log entry 62), and changes the ring alone where
none is due. -/
theorem doorbellsAreChecked : Obligations.DoorbellsAreChecked := by
  refine ⟨⟨fun _ _ _ => sqTailWrite_accepted, fun _ _ _ => sqTailWrite_discarded⟩, fun f v s hshown hleads => ?_⟩
  intro n new head free
  have hrefused := cqHead_refused_iff (s.ring f) new
  have haccepted (h : free) :
      exec (.cqHeadWrite f v) s = .next ((s.setRing f { s.ring f with cqHead := new }).settleFn f) := by
    rw [exec_cqHeadWrite_eq hshown hleads, if_neg (fun hr => hrefused.mp hr h)]
  refine ⟨fun h hdue hphase => ?_, haccepted, fun h => ?_⟩
  · rw [haccepted h, settleFn_of_due_nil (s := s.setRing f _) hdue hphase]
  · rw [exec_cqHeadWrite_eq hshown hleads, if_pos (hrefused.mpr h)]

end Sys2Proof.Machine
end

section
/-! PROOFS. A command's input (R132, R166, R470) and its completion (R20, R21, R126, R127, R170, R171, R415). -/

namespace Sys2Proof.Machine

theorem exec_commandInputRead (k : Nat) (ok : Bool) (a b d : Bytes) (s : State) :
    exec (.commandInputRead k ok a b d) s = execCommandInputRead k ok a b d s := rfl

theorem exec_completionWrite (k : Nat) (dataOk entryOk : Bool) (s : State) :
    exec (.completionWrite k dataOk entryOk) s = execCompletionWrite k dataOk entryOk s := rfl

/-! ## A half that leads no standby sends no admission record -/

theorem sendAdmit_of_not_leads {s : State} (h : s.leads = false) (k : Nat) (input : Bytes) :
    s.sendAdmit k input = s := by
  simp [State.sendAdmit, h]

/-- `leads` reads nothing but the pair. -/
theorem leads_eq_of_pair {s t : State} (h : t.pair = s.pair) : t.leads = s.leads := by
  rw [State.leads, State.leads, h]

@[simp] theorem leads_fillInput (k : Nat) (b : Bytes) (s : State) : (s.fillInput k b).leads = s.leads :=
  leads_eq_of_pair (by simp)

@[simp] theorem leads_setSlot (k : Nat) (sl : Slot) (s : State) : (s.setSlot k sl).leads = s.leads :=
  leads_eq_of_pair (by simp)

@[simp] theorem leads_cutLen (k : Nat) (status : Status) (len : Nat) (result detail : Bytes) (s : State) :
    (s.cutLen k status len result detail).leads = s.leads :=
  leads_eq_of_pair (by simp)

theorem leads_pairEnded {s : State} (hphase : s.pair.phase ≠ .standby) (h : s.leads = false) (k : Nat) :
    (s.pairEnded k).leads = false := by
  unfold State.pairEnded
  split
  · rw [if_neg (by exact hphase), if_pos (by exact congrArg (!·) h)]
    exact h
  · exact h

/-- The end of a command leaves a half that neither leads nor stands by as one that does not lead. -/
theorem leads_failCmd {s : State} (hphase : s.pair.phase ≠ .standby) (h : s.leads = false) (k : Nat) (status : Status) :
    (s.failCmd k status).leads = false := by
  unfold State.failCmd State.endCmd State.endLen
  split
  · exact h
  · split
    · exact h
    · exact leads_pairEnded (by simpa using hphase) (by rwa [leads_cutLen]) k

/-! ## The input -/

/-- The input and the output scatter list of an entry from their bytes; an entry without one has nothing malformed. -/
def Entry.inList? (e : Entry) (b : Bytes) : Option (List (Nat × Nat)) :=
  if e.inSgl then scatterList? e.inAddr e.inLength b else some []
def Entry.outList? (e : Entry) (b : Bytes) : Option (List (Nat × Nat)) :=
  if e.outSgl then scatterList? e.outAddr e.outLength b else some []

section input
variable {k : Nat} {sl : Slot} {s : State} (hk : s.slot? k = some sl) (hadmitted : sl.phase = .admitted)
  (hphase : s.pair.phase ≠ .standby) (hleads : s.leads = false)
include hk hadmitted hphase hleads

theorem commandInputRead_fails (a b d : Bytes) :
    exec (.commandInputRead k false a b d) s = .next ((s.pcieError sl.fn).failCmd k 0x0520) := by
  have hpair : (s.pcieError sl.fn).pair = s.pair := by simp [State.pcieError]
  have hnot : ((s.pcieError sl.fn).failCmd k 0x0520).leads = false :=
    leads_failCmd (by rwa [hpair]) (by rwa [leads_eq_of_pair hpair]) k _
  simp only [exec_commandInputRead, execCommandInputRead, hk, hadmitted, hphase, ne_eq, not_true_eq_false, or_self,
    if_false, Bool.not_false, if_true]
  rw [sendAdmit_of_not_leads hnot]

theorem commandInputRead_malformed {a b : Bytes} (h : sl.entry.inList? a = none ∨ sl.entry.outList? b = none)
    (d : Bytes) : exec (.commandInputRead k true a b d) s = .next (s.failCmd k 0x0103) := by
  have hnot : (s.failCmd k 0x0103).leads = false := leads_failCmd hphase hleads k _
  unfold Entry.inList? Entry.outList? at h
  simp only [exec_commandInputRead, execCommandInputRead, hk, hadmitted, hphase, ne_eq, not_true_eq_false, or_self,
    if_false, Bool.not_true, Bool.false_eq_true]
  split
  · next hin hout => simp [hin, hout] at h
  · rw [sendAdmit_of_not_leads hnot]

theorem commandInputRead_ready {a b : Bytes} {l : List (Nat × Nat)} (hin : (sl.entry.inList? a).isSome = true)
    (hout : sl.entry.outList? b = some l) (d : Bytes) :
    exec (.commandInputRead k true a b d) s = .next
      ((s.fillInput k (fit sl.entry.inLength d)).setSlot k { sl with phase := .ready, outList := l }) := by
  have hslot (x : Bytes) : (s.fillInput k x).slot? k = some sl := by simp [State.slot?, ← hk]
  obtain ⟨i, hi⟩ := Option.isSome_iff_exists.mp hin
  unfold Entry.inList? at hi
  unfold Entry.outList? at hout
  simp [exec_commandInputRead, execCommandInputRead, hk, hadmitted, hphase, hi, hout, State.modSlot, hslot,
    sendAdmit_of_not_leads, hleads]
end input

/-! ## The staging buffer of a slot -/

theorem stagingAddr_eq_add (k i : Nat) : stagingAddr k i = stagingAddr k 0 + i := by
  simp [stagingAddr, gateAddr]; omega

theorem hostMove_of_not_stagingWalls {s : State} (h : s.stagingWalls = false) (k base kind : Nat) (b : Bytes) :
    s.hostMove k base kind b = (b, s) := by
  simp [State.hostMove, h]

/-- Where no lodge region of gate 3 concerns the host interface, the buffer is wiped and the input written. -/
theorem mem_fillInput {s : State} (h : s.stagingWalls = false) (k : Nat) (b : Bytes) :
    (s.fillInput k b).mem.mem =
      memPutBytes (memWipe s.mem.mem (stagingAddr k 0) (stagingAddr k 0x20000)) (stagingAddr k 0) b := by
  simp [State.fillInput, hostMove_of_not_stagingWalls h, State.putTarget, State.zeroMem, stagingAddr]

theorem fillInput_eq_withMem {s : State} (h : s.stagingWalls = false) (k : Nat) (b : Bytes) :
    s.fillInput k b = { s with mem := (s.fillInput k b).mem } := by
  rw [State.fillInput, hostMove_of_not_stagingWalls h]
  rfl

theorem memByte_fillInput_rest {s : State} (h : s.stagingWalls = false) {k i : Nat} {b : Bytes} (hlo : b.length ≤ i)
    (hhi : i < 0x20000) : memByte (s.fillInput k b).mem.mem (stagingAddr k i) = 0 := by
  have hi := stagingAddr_eq_add k i
  have hend := stagingAddr_eq_add k 0x20000
  rw [mem_fillInput h, memByte_memPutBytes_outside _ _ _ _ (by omega), memByte_memWipe, if_pos (by omega)]

theorem memByte_fillInput_outside {s : State} (h : s.stagingWalls = false) {k a : Nat} {b : Bytes}
    (hb : b.length ≤ 65536) (ha : a < stagingAddr k 0 ∨ stagingAddr k 0x20000 ≤ a) :
    memByte (s.fillInput k b).mem.mem a = memByte s.mem.mem a := by
  have hend := stagingAddr_eq_add k 0x20000
  rw [mem_fillInput h, memByte_memPutBytes_outside _ _ _ _ (by omega), memByte_memWipe, if_neg (by omega)]

/-! ## Writes to host memory

A write to host memory, or an error of one, adds to what has left the module and is noted of its function (the dirty-page
log, the AER report); rings, slots and memory stay. -/

/-- t is s after host writes and errors on behalf of function f, which have put `out` into the outputs. -/
structure State.HostSent (f : Nat) (s t : State) (out : List Output) : Prop where
  outputs : t.outputs = s.outputs ++ out
  rings : t.host.rings = s.host.rings
  slots : t.host.slots = s.host.slots
  mem : t.mem = s.mem
  sett : t.sett = s.sett
  now : t.now = s.now
  antler : t.antler = s.antler
  relaxed : (t.fnSt f).relaxed = (s.fnSt f).relaxed
  undelivered : (t.fnSt f).undelivered = (s.fnSt f).undelivered

namespace State.HostSent
variable {f : Nat} {s t u : State} {out out' : List Output}

theorem refl (f : Nat) (s : State) : s.HostSent f s [] :=
  ⟨(List.append_nil _).symm, rfl, rfl, rfl, rfl, rfl, rfl, rfl, rfl⟩

theorem trans (h : s.HostSent f t out) (h' : t.HostSent f u out') : s.HostSent f u (out ++ out') :=
  ⟨by rw [h'.outputs, h.outputs, List.append_assoc], h'.rings.trans h.rings, h'.slots.trans h.slots, h'.mem.trans h.mem,
    h'.sett.trans h.sett, h'.now.trans h.now, h'.antler.trans h.antler, h'.relaxed.trans h.relaxed,
    h'.undelivered.trans h.undelivered⟩

theorem slot?_eq (h : s.HostSent f t out) (k : Nat) : t.slot? k = s.slot? k := by rw [State.slot?, State.slot?, h.slots]

theorem ring_eq (h : s.HostSent f t out) (g : Nat) : t.ring g = s.ring g := by rw [State.ring, State.ring, h.rings]

theorem completionEntry_eq (h : s.HostSent f t out) (sl : Slot) (phase : Bool) :
    t.completionEntry sl phase = s.completionEntry sl phase := by
  rw [State.completionEntry, State.completionEntry, h.now, h.antler]

end State.HostSent

theorem hostSent_dirtied (f addr len : Nat) (s : State) : s.HostSent f (s.dirtied f addr len) [] where
  outputs := (List.append_nil _).symm
  rings := rfl
  slots := rfl
  mem := rfl
  sett := rfl
  now := rfl
  antler := rfl
  relaxed := by simp only [State.dirtied, fnSt_setFn_self, FnState.dirtied]; split <;> rfl
  undelivered := by simp only [State.dirtied, fnSt_setFn_self, FnState.dirtied]; split <;> rfl

theorem hostSent_emit (f : Nat) (o : Output) (s : State) : s.HostSent f (s.emit o) [o] :=
  ⟨rfl, rfl, rfl, rfl, rfl, rfl, rfl, rfl, rfl⟩

theorem hostSent_dmaOut (f addr : Nat) (relaxed : Bool) (b : Bytes) (s : State) :
    s.HostSent f (s.dmaOut f addr relaxed b) [.hostWrite f addr relaxed b] :=
  (hostSent_dirtied f addr b.length s).trans (hostSent_emit f _ _)

theorem hostSent_pcieError (f : Nat) (s : State) : s.HostSent f (s.pcieError f) [.nonFatal f] where
  outputs := rfl
  rings := rfl
  slots := rfl
  mem := rfl
  sett := rfl
  now := rfl
  antler := rfl
  relaxed := by simp [State.pcieError, State.emit, State.setFn, State.fnSt]
  undelivered := by simp [State.pcieError, State.emit, State.setFn, State.fnSt]

theorem hostSent_endStream (f : Nat) (sl : Slot) (s : State) : s.HostSent f (s.endStream sl) [] := by
  unfold State.endStream
  split
  · exact ⟨(List.append_nil _).symm, rfl, rfl, rfl, rfl, rfl, rfl, rfl, rfl⟩
  · exact .refl f s

/-- Result data leaves through a scatter list piece by piece (R166). -/
theorem hostSent_dmaScatter (f : Nat) (l : List (Nat × Nat)) (b : Bytes) (s : State) :
    s.HostSent f (s.dmaScatter f l b)
      ((scatterPieces l b).map fun x => .hostWrite f x.1 (s.fnSt f).relaxed x.2) := by
  induction l generalizing b s with
  | nil => exact .refl f s
  | cons e t ih =>
    obtain ⟨a, n⟩ := e
    unfold State.dmaScatter scatterPieces
    split
    · exact .refl f s
    · have hpiece := hostSent_dmaOut f a (s.fnSt f).relaxed (b.take n) s
      have hrest := ih (b.drop n) (s.dmaResult f a (b.take n))
      rw [State.dmaResult, hpiece.relaxed] at hrest
      exact hpiece.trans hrest

theorem hostSent_dirtyScatter (f : Nat) (l : List (Nat × Nat)) (len : Nat) (s : State) :
    s.HostSent f (s.dirtyScatter f l len) [] := by
  induction l generalizing len s with
  | nil => exact .refl f s
  | cons e t ih =>
    unfold State.dirtyScatter
    split
    · exact .refl f s
    · exact (hostSent_dirtied f _ _ s).trans (ih _ _)

/-! ## The result data -/

/-- Whether a completion carries result data beside its entry. -/
def Slot.sendsData (sl : Slot) : Bool := sl.entry.outLength != 0 && !sl.result.isEmpty

/-- The outcome after the write of the result data: an error turns it into 0x0521 (R171). -/
def Slot.afterData (dataOk : Bool) (sl : Slot) : Slot :=
  if sl.sendsData && !dataOk then { sl with status := 0x0521, result := [], needed := 0, detail := [] } else sl

/-- The state after the write of the result data. -/
def State.afterData (dataOk : Bool) (sl : Slot) (s : State) : State :=
  if sl.sendsData && !dataOk then (s.writeFails sl).endStream sl else s.writeResult sl

/-- What the write of the result data puts into the outputs. -/
def State.dataOutputs (dataOk : Bool) (sl : Slot) (s : State) : List Output :=
  if sl.sendsData then (if dataOk then
      (if sl.entry.outSgl then scatterPieces sl.outList sl.result else [(sl.entry.outAddr.toNat, sl.result)]).map
        fun x => .hostWrite sl.fn x.1 (s.fnSt sl.fn).relaxed x.2
    else [.nonFatal sl.fn]) else []

@[simp] theorem Slot.afterData_fn (dataOk : Bool) (sl : Slot) : (sl.afterData dataOk).fn = sl.fn := by
  unfold Slot.afterData; split <;> rfl

theorem writeResult_of_not_sendsData {sl : Slot} (h : sl.sendsData = false) (s : State) : s.writeResult sl = s :=
  if_pos (by simpa [Slot.sendsData, ← or_iff_not_imp_left] using h)

theorem hostSent_writeResult {sl : Slot} (h : sl.sendsData = true) (s : State) :
    s.HostSent sl.fn (s.writeResult sl) (s.dataOutputs true sl) := by
  have hdata : ¬ (sl.entry.outLength = 0 ∨ sl.result.isEmpty = true) := by
    simpa [Slot.sendsData, not_or] using h
  simp only [State.writeResult, State.dataOutputs, hdata, h, if_true, if_false]
  split
  · exact hostSent_dmaScatter _ _ _ s
  · exact hostSent_dmaOut _ _ _ _ s

theorem hostSent_writeFails (sl : Slot) (s : State) : s.HostSent sl.fn (s.writeFails sl) [.nonFatal sl.fn] := by
  unfold State.writeFails
  refine State.HostSent.trans (out := []) ?_ (hostSent_pcieError _ _)
  split
  · exact hostSent_dirtyScatter _ _ _ s
  · exact hostSent_dirtied _ _ _ s

theorem hostSent_afterData (dataOk : Bool) (sl : Slot) (s : State) :
    s.HostSent sl.fn (s.afterData dataOk sl) (s.dataOutputs dataOk sl) := by
  unfold State.afterData
  cases hsends : sl.sendsData with
  | false =>
    simp only [Bool.false_and, Bool.false_eq_true, if_false, State.dataOutputs, hsends,
      writeResult_of_not_sendsData hsends]
    exact .refl _ s
  | true =>
    cases dataOk with
    | true => exact hostSent_writeResult hsends s
    | false =>
      simpa [State.dataOutputs, hsends] using (hostSent_writeFails sl s).trans (hostSent_endStream _ sl _)

/-! ## The completion entry and the release of the slot -/

theorem host_releaseSlot (k : Nat) (s : State) :
    (s.releaseSlot k).host = { s.host with slots := terase s.host.slots k } := by
  simp [State.releaseSlot]

@[simp] theorem slot?_releaseSlot_self (k : Nat) (s : State) : (s.releaseSlot k).slot? k = none := by
  rw [State.slot?, host_releaseSlot, tget?_terase_self]

@[simp] theorem ring_releaseSlot (k f : Nat) (s : State) : (s.releaseSlot k).ring f = s.ring f := by
  rw [State.ring, host_releaseSlot]
  rfl

@[simp] theorem fnSt_releaseSlot (k f : Nat) (s : State) : (s.releaseSlot k).fnSt f = s.fnSt f := by
  simp [State.fnSt]

@[simp] theorem ring_setFn (f g : Nat) (v : FnState) (s : State) : (s.setFn f v).ring g = s.ring g := rfl

@[simp] theorem ring_undelivered (f tag kind g : Nat) (s : State) : (s.undelivered f tag kind).ring g = s.ring g := by
  simp [State.ring]

@[simp] theorem fnSt_saturated (hit : Bool) (base off f : Nat) (s : State) :
    (s.saturated hit base off).fnSt f = s.fnSt f := by
  simp [State.fnSt]

@[simp] theorem fnSt_raise (code : Nat) (payload : Bytes) (f : Nat) (s : State) :
    (s.raise code payload).fnSt f = s.fnSt f := rfl

/-- A counter of undelivered entries advances by one (R415). -/
theorem undelivered_undelivered (f tag kind : Nat) (s : State) :
    ((s.undelivered f tag kind).fnSt f).undelivered = (SatCount.add count31 1 (s.fnSt f).undelivered).1 := by
  simp [State.undelivered]

theorem slot?_writeEntry_self (k : Nat) (sl : Slot) (s : State) : (s.writeEntry k sl).slot? k = none :=
  slot?_releaseSlot_self k _

theorem mem_writeEntry (k : Nat) (sl : Slot) (s : State) : (s.writeEntry k sl).mem = s.mem := by
  simp [State.writeEntry, State.putEntry, State.countWritten]

theorem sett_writeEntry (k : Nat) (sl : Slot) (s : State) : (s.writeEntry k sl).sett = s.sett := by
  simp [State.writeEntry, State.putEntry, State.countWritten]

/-- The entry leaves in two writes, the one that holds PHASE last (R127). -/
theorem outputs_writeEntry (k : Nat) (sl : Slot) (s : State) :
    let e := s.completionEntry sl (s.ring sl.fn).phase
    let a := (s.ring sl.fn).cqBase.toNat + 32 * (s.ring sl.fn).cqWrite
    (s.writeEntry k sl).outputs =
      s.outputs ++ [.hostWrite sl.fn a false (e.take 24), .hostWrite sl.fn (a + 24) false (e.drop 24)] := by
  intro e a
  have hfirst := hostSent_dmaOut sl.fn a false (e.take 24) s
  have hwrites := hfirst.trans (hostSent_dmaOut sl.fn (a + 24) false (e.drop 24) _)
  have hkeeps : (s.writeEntry k sl).outputs =
      ((s.dmaWrite sl.fn a (e.take 24)).dmaWrite sl.fn (a + 24) (e.drop 24)).outputs := by
    simp [State.writeEntry, State.putEntry, State.countWritten, e, a]
  exact hkeeps.trans hwrites.outputs

theorem ring_countWritten (f g : Nat) (status : Status) (s : State) : (s.countWritten f status).ring g = s.ring g := by
  simp [State.countWritten, State.ring]

theorem ring_touchDom (d g : Nat) (s : State) : (s.touchDom d).ring g = s.ring g := by simp [State.ring]

/-- The write index advances, PHASE turns over where it wraps, and CQ_WRITTEN counts the entry (R126, R127). -/
theorem ring_writeEntry_self (k : Nat) (sl : Slot) (s : State) :
    let r := s.ring sl.fn
    (s.writeEntry k sl).ring sl.fn = { r with cqWrite := (r.cqWrite + 1) % r.cqSize,
                                              phase := if (r.cqWrite + 1) % r.cqSize = 0 then !r.phase else r.phase,
                                              cqWritten := (r.cqWritten + 1) % 65536 } := by
  simp only [State.writeEntry, State.putEntry, ring_releaseSlot, ring_touchDom, ring_countWritten]
  exact ring_setRing_self _ _ _

/-! ## A completion that is not delivered -/

/-- t is s after a completion entry of function f has been given up: its slot k is free, and the entry is counted (R415). -/
structure State.GivenUp (k f : Nat) (s t : State) : Prop where
  slot : t.slot? k = none
  mem : t.mem = s.mem
  sett : t.sett = s.sett
  outputs : t.outputs = s.outputs
  ring : t.ring f = s.ring f
  undelivered : (t.fnSt f).undelivered = (SatCount.add count31 1 (s.fnSt f).undelivered).1

theorem givenUp_dropCompletion {k : Nat} {sl : Slot} {s : State} (h : s.slot? k = some sl) :
    s.GivenUp k sl.fn (s.dropCompletion k) where
  slot := by simp [State.dropCompletion, h]
  mem := by simp
  sett := by simp
  outputs := by simp
  ring := by simp [State.dropCompletion, h]
  undelivered := by simp [State.dropCompletion, h, undelivered_undelivered]

/-! ## The completion -/

theorem not_completable_of_full {s : State} {sl : Slot}
    (h : ((s.ring sl.fn).cqWrite + 1) % (s.ring sl.fn).cqSize = (s.ring sl.fn).cqHead) (k : Nat) :
    s.completable k sl = false := by
  simp [State.completable, State.mayComplete, Ring.cqFree, h]

section completion
variable {k : Nat} {sl : Slot} {s : State} (hk : s.slot? k = some sl)
include hk

theorem completionWrite_of_not_completable (h : s.completable k sl = false) (dataOk entryOk : Bool) :
    exec (.completionWrite k dataOk entryOk) s = .next s := by
  simp [exec_completionWrite, execCompletionWrite, hk, h]

variable (hdue : s.completable k sl = true)
include hdue

theorem completionWrite_of_not_busMaster (h : (s.fnSt sl.fn).busMaster = false) (dataOk entryOk : Bool) :
    exec (.completionWrite k dataOk entryOk) s = .next (s.dropCompletion k) := by
  simp [exec_completionWrite, execCompletionWrite, hk, hdue, h]

variable (hwalls : s.stagingWalls = false) (hmaster : (s.fnSt sl.fn).busMaster = true)
include hwalls hmaster

/-- The result data first, then the entry. -/
theorem completionWrite_of_busMaster (dataOk entryOk : Bool) :
    exec (.completionWrite k dataOk entryOk) s = .next
      (if entryOk then (s.afterData dataOk sl).writeEntry k (sl.afterData dataOk)
        else (s.afterData dataOk sl).entryFails k (sl.afterData dataOk)) := by
  simp only [exec_completionWrite, execCompletionWrite, hk, hdue, hmaster, hostMove_of_not_stagingWalls hwalls,
    Bool.not_true, Bool.false_eq_true, if_false]
  rfl

/-- A completion whose entry arrives: the slot is free, the data and then the entry have left, and the ring has moved on. -/
theorem completionWrite_delivered (dataOk : Bool) :
    let r := s.ring sl.fn
    let e := s.completionEntry (sl.afterData dataOk) r.phase
    let a := r.cqBase.toNat + 32 * r.cqWrite
    ∃ t, exec (.completionWrite k dataOk true) s = .next t ∧ t.slot? k = none ∧ t.mem = s.mem ∧ t.sett = s.sett ∧
      t.outputs = s.outputs ++ s.dataOutputs dataOk sl ++
        [.hostWrite sl.fn a false (e.take 24), .hostWrite sl.fn (a + 24) false (e.drop 24)] ∧
      t.ring sl.fn = { r with cqWrite := (r.cqWrite + 1) % r.cqSize,
                              phase := if (r.cqWrite + 1) % r.cqSize = 0 then !r.phase else r.phase,
                              cqWritten := (r.cqWritten + 1) % 65536 } := by
  intro r e a
  have hsent := hostSent_afterData dataOk sl s
  have hexec := completionWrite_of_busMaster hk hdue hwalls hmaster dataOk true
  have houtputs := outputs_writeEntry k (sl.afterData dataOk) (s.afterData dataOk sl)
  have hring := ring_writeEntry_self k (sl.afterData dataOk) (s.afterData dataOk sl)
  simp only [Slot.afterData_fn, hsent.ring_eq, hsent.completionEntry_eq, hsent.outputs] at houtputs hring
  exact ⟨_, hexec, slot?_writeEntry_self k _ _, (mem_writeEntry k _ _).trans hsent.mem,
    (sett_writeEntry k _ _).trans hsent.sett, houtputs, hring⟩

/-- A completion whose entry ends in an error: the data and the report of the error have left, and the entry is given
up. -/
theorem completionWrite_undelivered (dataOk : Bool) :
    ∃ t u, exec (.completionWrite k dataOk false) s = .next t ∧
      s.HostSent sl.fn u (s.dataOutputs dataOk sl ++ [.nonFatal sl.fn]) ∧ u.GivenUp k sl.fn t := by
  have hexec := completionWrite_of_busMaster hk hdue hwalls hmaster dataOk false
  have hdata := hostSent_afterData dataOk sl s
  have herror := (hostSent_dirtied sl.fn ((s.ring sl.fn).cqBase.toNat + 32 * (s.ring sl.fn).cqWrite) 32
    (s.afterData dataOk sl)).trans (hostSent_pcieError sl.fn _)
  have hsent := hdata.trans herror
  simp only [State.entryFails, Slot.afterData_fn, hdata.ring_eq] at hexec
  exact ⟨_, _, hexec, hsent, givenUp_dropCompletion ((hsent.slot?_eq k).trans hk)⟩
end completion

/-! ## The statement -/

/-- Settles O14: the three outcomes of a read of the input, the staging buffer that it fills, and the completion, which
sends its data, then its entry, and gives up what is not delivered; a full completion ring keeps it waiting. That an error
in the result data puts none of it into the outputs is the model's choice (log entry 24). -/
theorem inputAndCompletion : Obligations.InputAndCompletion := by
  refine ⟨⟨fun k a b d sl s hk hadmitted hphase hleads => ⟨?fails, ?malformed, ?ready⟩,
    fun k b s hwalls hb => ⟨?bytes, ?rest, ?outside, ?frame⟩⟩,
    fun k dataOk entryOk sl s hk hdue hleads hwalls => ⟨fun hmaster => ?written, fun hmaster => ?dropped⟩,
    fun k a b sl s hk hfull => ?full⟩
  case fails => exact commandInputRead_fails hk hadmitted hphase hleads a b d
  case malformed =>
    intro h
    refine commandInputRead_malformed hk hadmitted hphase hleads (h.imp ?_ ?_) d
    · rintro ⟨hsgl, hnone⟩
      rw [Entry.inList?, if_pos hsgl, hnone]
    · rintro ⟨hsgl, hnone⟩
      rw [Entry.outList?, if_pos hsgl, hnone]
  case ready =>
    intro l hin hout
    refine commandInputRead_ready hk hadmitted hphase hleads ?_ hout d
    unfold Entry.inList?
    split
    · next hsgl => exact hin hsgl
    · rfl
  case bytes => rw [mem_fillInput hwalls, memBytes_memPutBytes]
  case rest => exact fun i => memByte_fillInput_rest hwalls
  case outside => exact fun a => memByte_fillInput_outside hwalls hb
  case frame => exact fillInput_eq_withMem hwalls k b
  case written =>
    intro r writes last e a data
    cases entryOk with
    | true =>
      obtain ⟨t, hexec, hslot, hmem, hsett, houtputs, hring⟩ := completionWrite_delivered hk hdue hwalls hmaster dataOk
      exact ⟨t, hexec, hslot, hmem, hsett, fun _ => ⟨houtputs, hring⟩, nofun⟩
    | false =>
      obtain ⟨t, u, hexec, hsent, hgiven⟩ := completionWrite_undelivered hk hdue hwalls hmaster dataOk
      refine ⟨t, hexec, hgiven.slot, hgiven.mem.trans hsent.mem, hgiven.sett.trans hsent.sett, nofun,
        fun _ => ⟨?_, ?_, ?_⟩⟩
      · rw [hgiven.outputs, hsent.outputs, ← List.append_assoc]
        rfl
      · exact hgiven.ring.trans (hsent.ring_eq _)
      · rw [hgiven.undelivered, hsent.undelivered]
  case dropped =>
    have hgiven := givenUp_dropCompletion hk
    exact ⟨_, completionWrite_of_not_busMaster hk hdue hmaster dataOk entryOk, hgiven.slot, hgiven.mem, hgiven.sett,
      hgiven.outputs, hgiven.ring, hgiven.undelivered⟩
  case full => exact completionWrite_of_not_completable hk (not_completable_of_full hfull k) a b

end Sys2Proof.Machine
end

section
/-! PROOFS. The general registers (R208). -/

namespace Sys2Proof.Machine

@[simp] theorem Ctx.rg_zero (x : Ctx) : x.rg 0 = 0 := rfl

@[simp] theorem Ctx.setG_zero (v : Word) (x : Ctx) : x.setG 0 v = x := rfl

/-- Settles O30: g0 is no register of the vector, and every other one is written alone (R208). -/
theorem registerZeroReadsZero : Obligations.RegisterZeroReadsZero :=
  fun x v => ⟨x.rg_zero, x.setG_zero v, fun i j hpos hlt => x.rg_setG v i j hpos hlt⟩

end Sys2Proof.Machine
end

section
/-! PROOFS. Handle and block registers: HLD, HMOV and the functions of CBLK (R214, R216, R218, R229 to R232). -/

namespace Sys2Proof.Machine

/-! ## Instructions of format C that issue -/

/-- Going on after a write of a general register is what `wroteG` says. -/
theorem withCtx_setG_step (s : State) (k : Nat) (sl : Slot) (i : Nat) (v : Word) :
    s.withCtx k sl (sl.ctx.setG i v).step = s.wroteG k sl i v := by
  have hpc : (sl.ctx.setG i v).pc = sl.ctx.pc := by
    unfold Ctx.setG
    split <;> rfl
  rw [Ctx.step, hpc, State.wroteG]

section issues
variable {s : State} {c k fn : Nat} {sl : Slot} {w : BitVec 32} {op : Nat} {zero : BitVec 32}

/-- An instruction of format C that issues does the work of its own function code. -/
theorem State.Issues.issueC (h : s.Issues c k sl w op zero) (hfn : fD w = fn) (f : Nat → Slot → State → State) :
    s.issueC c w op fn zero f = f k sl s := by
  rw [State.issueC, if_pos hfn, h.issue]

/-- One that only computes on registers gives its command the registers it computes and the next program counter. -/
theorem State.Issues.issueCReg (h : s.Issues c k sl w op zero) (hfn : fD w = fn) (f : Ctx → Ctx) :
    s.issueCReg c w op fn zero f = s.withCtx k sl (f sl.ctx).step := by
  rw [State.issueCReg, h.issueC hfn, modCtx_of_some h.slot]

/-- One that only writes a general register. -/
theorem State.Issues.issueCReg_setG (h : s.Issues c k sl w op zero) (hfn : fD w = fn) (i : Nat) (v : Ctx → Word) :
    s.issueCReg c w op fn zero (fun x => x.setG i (v x)) = s.wroteG k sl i (v sl.ctx) := by
  rw [h.issueCReg hfn, withCtx_setG_step]

end issues

/-! ## Functions of CBLK that may raise an exception -/

section cblk
variable {s : State} {c k fn lo : Nat} {sl : Slot} {w : BitVec 32}

/-- LOAD checks the alignment before it reads (R216). -/
theorem State.Issues.exec_cblkLoad (h : s.Issues c k sl w 0x36 0x0FFF) (hfn : fD w = 4) :
    exec (.cblkLoad c w) s = .next (
      if (sl.ctx.rg (fA w)).toNat % 16 ≠ 0 then
        s.raiseExc c k { cause := 2, addr := (sl.ctx.rg (fA w)).toNat, insn := w }
      else afterAccess c k w (sl.ctx.rg (fA w)).toNat s (s.coreRead c k sl (sl.ctx.rg (fA w)).toNat 16) fun r =>
        r.2.modCtx k fun x => (x.setCb (fX w) { val := BitVec.ofNat 128 (leNat r.1) }).step) :=
  congrArg _ (h.issueC hfn _)

/-- STORE checks the alignment, then the mark of its block register against the address, before it writes (R216, R231). -/
theorem State.Issues.exec_cblkStore (h : s.Issues c k sl w 0x36 0xF0FF) (hfn : fD w = 5) :
    exec (.cblkStore c w) s = .next (
      if (sl.ctx.rg (fA w)).toNat % 16 ≠ 0 then
        s.raiseExc c k { cause := 2, addr := (sl.ctx.rg (fA w)).toNat, insn := w }
      else if (sl.ctx.rcb (fY w)).sensitive && !secureAddr (sl.ctx.rg (fA w)).toNat then
        s.raiseExc c k { cause := 4, insn := w }
      else afterAccess c k w (sl.ctx.rg (fA w)).toNat s
        (s.coreWrite c k sl (sl.ctx.rg (fA w)).toNat (natLe 16 (sl.ctx.rcb (fY w)).val.toNat)) fun s =>
          s.modCtx k Ctx.step) :=
  congrArg _ (h.issueC hfn _)

/-- GETL and GETH give a half of a block register that is not sensitive, or in the sealed world (R230). -/
theorem State.Issues.issueGet_gives (h : s.Issues c k sl w 0x36 0xF0FF) (hfn : fD w = fn)
    (hmay : (sl.ctx.rcb (fY w)).sensitive = false ∨ sl.programWorld = true) :
    s.issueGet c w fn lo = s.wroteG k sl (fA w) ((sl.ctx.rcb (fY w)).val.extractLsb' lo 64) := by
  have hopen : ((sl.ctx.rcb (fY w)).sensitive && !sl.programWorld) = false := by
    rcases hmay with h | h <;> simp [h]
  calc s.issueGet c w fn lo
      = if (sl.ctx.rcb (fY w)).sensitive && !sl.programWorld then s.raiseExc c k { cause := 4, insn := w }
        else s.modCtx k fun x => (x.setG (fA w) ((sl.ctx.rcb (fY w)).val.extractLsb' lo 64)).step := h.issueC hfn _
    _ = s.wroteG k sl (fA w) ((sl.ctx.rcb (fY w)).val.extractLsb' lo 64) := by
      rw [hopen, if_neg Bool.false_ne_true, modCtx_of_some h.slot, withCtx_setG_step]

/-- They raise SENSITIVE for a sensitive one in the open world (R230). -/
theorem State.Issues.issueGet_raises (h : s.Issues c k sl w 0x36 0xF0FF) (hfn : fD w = fn)
    (hsens : (sl.ctx.rcb (fY w)).sensitive = true) (hopen : sl.programWorld = false) :
    s.issueGet c w fn lo = s.raiseExc c k { cause := 4, insn := w } :=
  (h.issueC hfn _).trans (by simp [hsens, hopen])

/-- What RAND leaves of its draw: the block register filled, the command ended, or the instruction to issue again. -/
def State.endRand (k x : Nat) : Draw × State → State
  | (.served b, s) => s.modCtx k fun y => (y.setCb x { val := BitVec.ofNat 128 (leNat b) }).step
  | (.refused, s) => s.failCmd k 0x0405
  | (.waits, s) => s

/-- RAND does what its draw allows (R232, R402). -/
theorem State.Issues.exec_cblkRand (h : s.Issues c k sl w 0x36 0x1F0FFF) (hfn : fD w = 10) :
    exec (.cblkRand c w) s = .next (State.endRand k (fX w) (s.draw k 16)) := by
  refine congrArg _ ((h.issueC hfn _).trans ?_)
  obtain ⟨_ | _ | _, t⟩ := s.draw k 16 <;> rfl

/-- MARK is an instruction of the sealed world (R218). -/
theorem State.Issues.exec_cblkMark (h : s.Issues c k sl w 0x36 0x1F0FFF) (hfn : fD w = 12) :
    exec (.cblkMark c w) s = .next (
      if sl.programWorld then
        s.modCtx k fun x => (x.setCb (fX w) { x.rcb (fX w) with sensitive := true }).step
      else s.raiseExc c k { cause := 1, insn := w }) :=
  congrArg _ (h.issueC hfn _)

end cblk

/-! ## The statement -/

/-- Settles O36: each instruction that issues does its own work, by the rule of its form above. LOAD and STORE check the
alignment first, and STORE the mark before the access: that order is the model's choice (log entry 29). -/
theorem handleAndBlockRegisters : Obligations.HandleAndBlockRegisters := by
  intro c k sl w s x put cx cy cz a
  refine ⟨?hld, ?hmov, ?mov, ?xor, ?and, ?zero, ?load, ?misaligned, ?store, ?storeSensitive, ?getl, ?geth,
    ?getlSensitive, ?gethSensitive, ?putl, ?puth, ?rand, ?eq, ?mark, ?markOpen⟩
  case hld => exact fun h => congrArg _ (h.issueReg _)
  case hmov => exact fun h => congrArg _ (h.issueReg_setG (fA w) _)
  case mov | xor | and | zero | putl | puth => exact fun h hfn => congrArg _ (h.issueCReg hfn _)
  case load =>
    intro b t h hfn haligned hread
    rw [h.exec_cblkLoad hfn, if_neg (not_not.mpr haligned), hread]
    rfl
  case misaligned =>
    refine fun hskew => ⟨fun h hfn => ?_, fun h hfn => ?_⟩
    · rw [h.exec_cblkLoad hfn, if_pos hskew]
    · rw [h.exec_cblkStore hfn, if_pos hskew]
  case store =>
    intro t h hfn haligned hmay hwrite
    have hpass : (cy.sensitive && !secureAddr a.toNat) = false := by
      rcases hmay with h | h <;> simp [h]
    rw [h.exec_cblkStore hfn, if_neg (not_not.mpr haligned), hpass, if_neg Bool.false_ne_true, hwrite]
    rfl
  case storeSensitive =>
    intro h hfn haligned hsens hout
    rw [h.exec_cblkStore hfn, if_neg (not_not.mpr haligned), hsens, hout]
    rfl
  case getl =>
    intro h hfn hmay
    rw [BitVec.setWidth_eq_extractLsb' (by decide)]
    exact congrArg _ (h.issueGet_gives hfn hmay)
  case geth =>
    intro h hfn hmay
    have hhigh : (cy.val >>> 64).setWidth 64 = cy.val.extractLsb' 64 64 := rfl
    rw [hhigh]
    exact congrArg _ (h.issueGet_gives hfn hmay)
  case getlSensitive | gethSensitive => exact fun h hfn hsens hopen => congrArg _ (h.issueGet_raises hfn hsens hopen)
  case rand =>
    intro t h hfn
    rw [h.exec_cblkRand hfn]
    refine ⟨fun b sl' hdraw hslot => ?_, fun hdraw => ?_, fun hdraw => ?_⟩
    · rw [hdraw, State.endRand, modCtx_of_some hslot]
      rfl
    · rw [hdraw, State.endRand]
    · rw [hdraw, State.endRand]
  case eq =>
    intro h hfn
    have hflag : flag (cy.val == cz.val) = if cy.val = cz.val then 1 else 0 := by simp [flag]
    rw [← hflag]
    exact congrArg _ (h.issueCReg_setG hfn (fA w) _)
  case mark =>
    intro h hfn hsealed
    rw [h.exec_cblkMark hfn, if_pos hsealed, modCtx_of_some h.slot]
    rfl
  case markOpen =>
    intro h hfn hopen
    rw [h.exec_cblkMark hfn, hopen]
    rfl

end Sys2Proof.Machine
end

section
/-! PROOFS. A core that stops on the active half of a pair (R242, R625, R626): its command may end as a divergence. -/

namespace Sys2Proof.Machine

/-! ## The result hash of a command that ends on the active half -/

/-- The command c of the in-step stream has ended here with the result hash h (R621). -/
def State.keepHash (c : PairCommand) (h : Bytes) (s : State) : State :=
  { s with pair.commands := s.pair.commands.map fun x =>
      if x.admission = c.admission then { x with ownHash := some h, endedAt := s.now } else x }

/-- A command that ends on a leading half after a RESULT with another hash is a divergence of its epoch (R625). -/
theorem pairEnded_of_hash_ne {s : State} {k : Nat} {sl : Slot} {c : PairCommand} {p : Bytes}
    (hslot : s.slot? k = some sl) (hc : s.pairCommand? k = some c) (hleads : s.leads = true)
    (hruns : standbyAdopts sl.entry.opcode = false) (hpeer : c.peerHash = some p)
    (hne : p ≠ resultHash c.admission sl.status sl.needed sl.result) :
    s.pairEnded k = (s.keepHash c (resultHash c.admission sl.status sl.needed sl.result)).diverge c.epoch := by
  have hphase : s.pair.phase ≠ .standby := by
    intro h
    simp [State.leads, h] at hleads
  unfold State.pairEnded
  rw [hslot, hc]
  refine (if_neg hphase).trans ((if_neg ?leading).trans ?ends)
  case leading => exact fun h => by simpa [hleads] using (show (!s.leads) = true from h)
  case ends =>
    simp only [hruns, hpeer, Bool.false_and, Bool.false_eq_true, if_false]
    exact if_neg hne

/-! ## A core in a double fault that stops after the standby has sent its RESULT -/

/-- The result hash of a command of admission 0 that ends with 0x0F02 and no result. -/
def stoppedHash : Bytes := resultHash 0 0x0F02 0 []

/-- Sixteen bytes that are not that hash: what the standby, whose core has not stopped, sends in RESULT. -/
def standbyHash : Bytes := if stoppedHash = zeros 16 then List.replicate 16 1 else zeros 16

theorem standbyHash_ne_stoppedHash : standbyHash ≠ stoppedHash := by
  unfold standbyHash
  split
  · next h => rw [h]; decide
  · next h => exact Ne.symm h

/-- The command of slot 0 in the in-step stream; its RESULT has come. -/
def divergingCommand : PairCommand := { slot := 0, fn := 1, peerHash := some standbyHash }

/-- The command runs on core 0 in a double fault. -/
def doubleFaultSlot : Slot :=
  { fn := 1, phase := .running, core := some 0, skulk := some 0, ctx := { dfActive := true } }

/-- The active half of a pair in step, whose core 0 runs that command. -/
def divergingStop : State :=
  { host.slots := [(0, doubleFaultSlot)], compute.cores := [(0, { slot := some 0 })],
    pair := { phase := .active, inStep := true, commands := [divergingCommand] } }

/-- The same half once the core has stopped. -/
def coreStopped : State := divergingStop.setCore 0 { stopped := true, slot := some 0 }

/-- The end of the command with 0x0F02 is a divergence: its own hash is not the one of its RESULT. -/
theorem failCmd_coreStopped : coreStopped.failCmd 0 0x0F02 =
    ((coreStopped.cutLen 0 0x0F02 0 [] []).keepHash divergingCommand stoppedHash).diverge 0 :=
  pairEnded_of_hash_ne (s := coreStopped.cutLen 0 0x0F02 0 [] []) (k := 0) (c := divergingCommand)
    (sl := { fn := 1, phase := .ended, skulk := some 0, status := 0x0F02 }) rfl rfl rfl rfl rfl
    standbyHash_ne_stoppedHash

/-- The divergence gives the command 0x0702 in the place of 0x0F02 (R626). -/
theorem raiseExc_divergingStop :
    ((divergingStop.raiseExc 0 0 { cause := 1 }).slot? 0).map (·.status) = some 0x0702 := by
  have hstop : divergingStop.raiseExc 0 0 { cause := 1 } = divergingStop.stopCore 0 1 0 := rfl
  have hcore : divergingStop.core 0 = { slot := some 0 } := rfl
  have hfail : (divergingStop.setCore 0 { stopped := true, slot := some 0 }).failCmd 0 0x0F02 = _ := failCmd_coreStopped
  rw [hstop, State.stopCore, hcore]
  simp only [hfail]
  rfl

/-- Refutes O34, in its clause of R242: on the active half of a pair in step, a core in a double fault stops after the
standby has sent a RESULT with another hash. The command then ends as a divergence, with 0x0702 and not 0x0F02 (R626,
below which the spec says so of a core stopped on one half only); the clause has no hypothesis on the pair. -/
theorem not_exceptions : ¬ Obligations.Exceptions := by
  unfold Obligations.Exceptions
  rintro ⟨hraise, -⟩
  obtain ⟨-, -, hstops⟩ := hraise 0 0 doubleFaultSlot { cause := 1 } divergingStop wf_nil rfl (by decide)
  obtain ⟨t, sl', ht, -, hslot, -, hstatus, -⟩ := hstops (.inl rfl) rfl (by decide) rfl rfl
  have hdiverged := raiseExc_divergingStop
  rw [ht, hslot, Option.map_some, hstatus] at hdiverged
  exact absurd hdiverged (by decide)

end Sys2Proof.Machine
end

section
/-! PROOFS. The engines' events (R350, R361, R364 to R367, R371, R376 to R379): a job's end and delivery, a fault, the end
of an operand-memory clear, the exchange of stores and the writes of the program windows. -/

namespace Sys2Proof.Machine

/-! ## Slots, jobs and engines after an update -/

theorem slot?_of_host {s t : State} (h : t.host = s.host) (k : Nat) : t.slot? k = s.slot? k := by
  rw [State.slot?, State.slot?, h]

theorem job?_of_host {s t : State} (h : t.host = s.host) (k n : Nat) : t.job? k n = s.job? k n := by
  rw [State.job?, State.job?, slot?_of_host h]

theorem engine_of_compute {s t : State} (h : t.compute = s.compute) (b : Bool) (e : Nat) :
    t.engine b e = s.engine b e := by
  rw [State.engine, State.engine, State.engines, State.engines, h]

/-! The operations that concern an engine's job leave the slots, or the engines, alone. -/

@[simp] theorem slot?_releaseUse (kr : KeyReg) (s : State) (k : Nat) : (s.releaseUse kr).slot? k = s.slot? k :=
  slot?_of_host (by simp) k

@[simp] theorem job?_noteUnpinned (ks : List KeyId) (s : State) (k n : Nat) :
    (s.noteUnpinned ks).job? k n = s.job? k n :=
  job?_of_host (by simp) k n

@[simp] theorem job?_putTarget (g off : Nat) (b : Bytes) (s : State) (k n : Nat) :
    (s.putTarget g off b).job? k n = s.job? k n := rfl

@[simp] theorem job?_setEngine (h : Bool) (e : Nat) (x : Engine) (s : State) (k n : Nat) :
    (s.setEngine h e x).job? k n = s.job? k n :=
  job?_of_host (by simp) k n

@[simp] theorem job?_countJob (h : Bool) (e : Nat) (s : State) (k n : Nat) :
    (s.countJob h e).job? k n = s.job? k n :=
  job?_of_host (by simp) k n

@[simp] theorem job?_touchDom (d : Nat) (s : State) (k n : Nat) : (s.touchDom d).job? k n = s.job? k n := rfl

@[simp] theorem job?_raise (code : Nat) (payload : Bytes) (s : State) (k n : Nat) :
    (s.raise code payload).job? k n = s.job? k n := rfl

@[simp] theorem engine_endJob (k n : Nat) (st : JobState) (code : Nat) (s : State) (b : Bool) (e : Nat) :
    (s.endJob k n st code).engine b e = s.engine b e :=
  engine_of_compute (by simp) b e

@[simp] theorem engine_touchDom (d : Nat) (s : State) (b : Bool) (e : Nat) :
    (s.touchDom d).engine b e = s.engine b e := rfl

@[simp] theorem engine_raise (code : Nat) (payload : Bytes) (s : State) (b : Bool) (e : Nat) :
    (s.raise code payload).engine b e = s.engine b e := rfl

/-! A slot whose jobs change. -/

theorem slot?_modSlot_self (k : Nat) (f : Slot → Slot) (s : State) : (s.modSlot k f).slot? k = (s.slot? k).map f := by
  unfold State.modSlot
  split
  · next h => simp [h]
  · next h => simp [h]

theorem slot?_setJob_self (k n : Nat) (j : Job) (s : State) :
    (s.setJob k n j).slot? k = (s.slot? k).map fun sl => { sl with jobs := tset sl.jobs n j } :=
  slot?_modSlot_self ..

/-- A change of a slot that leaves its jobs leaves the jobs of its command. -/
theorem job?_modSlot_of_jobs {f : Slot → Slot} (hf : ∀ sl, (f sl).jobs = sl.jobs) (k n : Nat) (s : State) :
    (s.modSlot k f).job? k n = s.job? k n := by
  rw [State.job?, State.job?, slot?_modSlot_self]
  cases s.slot? k <;> simp [hf]

theorem exists_slot_of_job? {k n : Nat} {j : Job} {s : State} (h : s.job? k n = some j) : ∃ sl, s.slot? k = some sl := by
  obtain ⟨sl, hslot, -⟩ := Option.bind_eq_some_iff.1 h
  exact ⟨sl, hslot⟩

/-- A job that ends has its terminal state and code; it keeps no key and no random bytes (R356, R370). -/
theorem job?_endJob_self {k n : Nat} {j : Job} {s : State} (h : s.job? k n = some j) (st : JobState) (code : Nat) :
    (s.endJob k n st code).job? k n = some { j with state := st, code := code, key := none, random := [] } := by
  have hjobs : ∀ sl : Slot, (if sl.phase = .parked ∧ sl.retry = none then { sl with phase := .resume } else sl).jobs =
      sl.jobs := fun sl => by split <;> rfl
  obtain ⟨sl, hslot⟩ := exists_slot_of_job? h
  unfold State.endJob
  rw [h]
  simp only []
  rw [job?_modSlot_of_jobs hjobs, job?_noteUnpinned]
  refine job?_setJob_self (sl := sl) ?_
  split
  · rw [slot?_releaseUse, hslot]
  · exact hslot

/-! ## The count of an engine's jobs, and the queues of jobs, beside the engines -/

theorem countJob_compute (h : Bool) (e : Nat) (s : State) :
    (s.countJob h e).compute =
      (s.setEngine h e { s.engine h e with jobs := min 0xFFFFFFFF ((s.engine h e).jobs + 1) }).compute := by
  simp [State.countJob]

theorem engine_countJob_self (h : Bool) (e : Nat) (s : State) :
    (s.countJob h e).engine h e = { s.engine h e with jobs := min 0xFFFFFFFF ((s.engine h e).jobs + 1) } := by
  rw [engine_of_compute (countJob_compute h e s), engine_setEngine_self]

theorem engine_countJob_ne (h : Bool) {i e : Nat} (s : State) (hne : i ≠ e) :
    (s.countJob h e).engine h i = s.engine h i := by
  rw [engine_of_compute (countJob_compute h e s), engine_setEngine_ne h _ _ hne]

theorem engine_setQueue (h b : Bool) (g e : Nat) (q : List (Nat × Nat)) (s : State) :
    (s.setQueue h g q).engine b e = s.engine b e := by
  cases h <;> rfl

theorem engine_sendJob (k n g : Nat) (j : Job) (s : State) (b : Bool) (e : Nat) :
    (s.sendJob k n g j).engine b e = s.engine b e := by
  rw [State.sendJob, State.enqueueJob, engine_setQueue]
  exact engine_of_compute (by simp) b e

theorem engine_foldl {α : Type} {b : Bool} {e : Nat} (g : State → α → State)
    (hg : ∀ s x, (g s x).engine b e = s.engine b e) (l : List α) (s : State) :
    (l.foldl g s).engine b e = s.engine b e := by
  induction l generalizing s with
  | nil => rfl
  | cons x l ih => rw [List.foldl_cons, ih, hg]

/-- Jobs that leave a wholly faulted group (R351) change no engine. -/
theorem engine_moveJobs (h : Bool) (g : Nat) (s : State) (b : Bool) (e : Nat) :
    (s.moveJobs h g).engine b e = s.engine b e := by
  refine (engine_foldl _ (fun s x => ?_) _ _).trans (engine_setQueue ..)
  split
  · split
    · exact engine_sendJob ..
    · exact engine_endJob ..
  · rfl

/-! ## A job ends on its engine -/

/-- The output of a job goes to the native command that collects it, or to OUT_ADDR, at most OUT_LENGTH bytes of it
(R361). -/
theorem putOutput_of_slot {k n : Nat} {j : Job} {b : Bytes} {sl : Slot} {s : State} (h : s.slot? k = some sl) :
    s.putOutput k n j b =
      if j.direct then s.setJob k n { j with output := if j.direct then b else [] }
      else (s.setJob k n { j with output := if j.direct then b else [] }).putTarget
        (sl.jobCell k j.outAddr).1 (sl.jobCell k j.outAddr).2 (b.take j.outLength) := by
  unfold State.putOutput
  simp only [slot?_setJob_self, h, Option.map_some]
  rfl

theorem job?_putOutput {k n : Nat} {j : Job} {b : Bytes} {sl : Slot} {s : State} (h : s.slot? k = some sl) :
    (s.putOutput k n j b).job? k n = some { j with output := if j.direct then b else [] } := by
  rw [putOutput_of_slot h]
  split
  · exact job?_setJob_self h
  · rw [job?_putTarget, job?_setJob_self h]

theorem mem_putOutput {k n : Nat} {j : Job} {b : Bytes} {sl : Slot} {s : State} (h : s.slot? k = some sl) :
    (s.putOutput k n j b).mem.mem = if j.direct then s.mem.mem else
      memPutBytes s.mem.mem (gateAddr (sl.jobCell k j.outAddr).1 (sl.jobCell k j.outAddr).2) (b.take j.outLength) := by
  rw [putOutput_of_slot h]
  split <;> simp [State.putTarget]

/-- A computed job that has been delivered: it keeps no agreed secret and no generated key. -/
def Job.handedOver (j : Job) : Job := { j with computed := false, secret := none, newKey := none }

/-- The terminal state of a job that ends with a code (Table 9-4). -/
def endState (c : Nat) : JobState := if codeDone c then .done else .failed

/-- An engine whose job ends with another code than FAULT_CHECK delivers the output, ends the job, is free and counts
it. -/
theorem finishJob_of_delivers {h : Bool} {e k n c : Nat} {j : Job} {b : Bytes} {s t : State}
    (hrun : (s.engine h e).running = some (k, n)) (hjob : s.job? k n = some j) (hcomputed : j.computed = true)
    (hwaits : s.outputWaits k j = false) (hdeliver : s.deliver k j = (c, b, t)) (hc : c ≠ codeFaultCheck) :
    ∃ y : Engine, y.running = none ∧ y.jobs = (s.engine h e).jobs ∧ s.finishJob h e =
      ((((t.putOutput k n j.handedOver b).endJob k n (endState c) c).setEngine h e y).countJob h e).touchDom
        (domGroup h (e / perGroup h)) := by
  unfold State.finishJob
  simp only [hrun, hjob, hcomputed, hwaits, hdeliver, hc, Bool.not_true, Bool.or_self, Bool.false_eq_true, if_false,
    show (0 : Nat) ≠ 2 by decide]
  refine ⟨_, ?free, ?counted, rfl⟩ <;> rfl

/-- What such an end leaves of the job, of the engine and of memory. -/
theorem finishJob_outcome {h : Bool} {e k n c : Nat} {j : Job} {b : Bytes} {sl : Slot} {s t : State}
    (hrun : (s.engine h e).running = some (k, n)) (hjob : s.job? k n = some j) (hcomputed : j.computed = true)
    (hwaits : s.outputWaits k j = false) (hdeliver : s.deliver k j = (c, b, t)) (hslot : t.slot? k = some sl)
    (hc : c ≠ codeFaultCheck) :
    (s.finishJob h e).job? k n = some { j.handedOver with
      output := if j.direct then b else [], state := endState c, code := c, key := none, random := [] } ∧
    ((s.finishJob h e).engine h e).running = none ∧
    ((s.finishJob h e).engine h e).jobs = min 0xFFFFFFFF ((s.engine h e).jobs + 1) ∧
    (s.finishJob h e).mem.mem = if j.direct then t.mem.mem else
      memPutBytes t.mem.mem (gateAddr (sl.jobCell k j.outAddr).1 (sl.jobCell k j.outAddr).2) (b.take j.outLength) := by
  obtain ⟨y, hfree, hjobs, hfinish⟩ := finishJob_of_delivers hrun hjob hcomputed hwaits hdeliver hc
  rw [hfinish]
  refine ⟨?job, ?free, ?counted, ?written⟩
  case job =>
    rw [job?_touchDom, job?_countJob, job?_setEngine]
    exact job?_endJob_self (job?_putOutput hslot) ..
  case free => rw [engine_touchDom, engine_countJob_self, engine_setEngine_self, hfree]
  case counted => rw [engine_touchDom, engine_countJob_self, engine_setEngine_self, hjobs]
  case written =>
    simp only [State_touchDom_keeps, State_countJob_keeps, State_setEngine_keeps, State_endJob_keeps]
    exact mem_putOutput hslot

/-! ## An engine faults -/

/-- The job that an engine was running ends with FAULT and is counted (R350). -/
def State.endFaulted (h : Bool) (e : Nat) (r : Option (Nat × Nat)) (s : State) : State :=
  match r with
  | some (k, n) => (s.countJob h e).endJob k n .failed codeFault
  | none => s

/-- An engine that is faulted, with one more cause. -/
def Engine.withFault (bit : Nat) (x : Engine) : Engine :=
  { x with faulted := true, faultBits := x.faultBits ||| BitVec.ofNat 32 (2 ^ bit), running := none, stalled := false }

/-- An engine that faults, before its group's queue is looked at. -/
def State.faultAlone (h : Bool) (e bit : Nat) (s : State) : State :=
  ((s.setEngine h e ((s.engine h e).withFault bit)).endFaulted h e (s.engine h e).running).raise 0x71
    (natLe 1 (b2n h) ++ natLe 1 e ++ natLe 2 ((s.engine h e).withFault bit).faultBits.toNat)

theorem faultEngine_eq (h : Bool) (e bit : Nat) (s : State) :
    s.faultEngine h e bit =
      if (s.faultAlone h e bit).groupFaulted h (e / perGroup h) then
        (s.faultAlone h e bit).moveJobs h (e / perGroup h)
      else s.faultAlone h e bit := rfl

/-- The end of its job leaves an engine's state but for the count of jobs. -/
theorem engine_endFaulted_self (h : Bool) (e : Nat) (r : Option (Nat × Nat)) (s : State) :
    ∃ m, (s.endFaulted h e r).engine h e = { s.engine h e with jobs := m } := by
  obtain _ | ⟨k, n⟩ := r
  · exact ⟨_, rfl⟩
  · refine ⟨min 0xFFFFFFFF ((s.engine h e).jobs + 1), ?_⟩
    rw [State.endFaulted, engine_endJob, engine_countJob_self]

theorem engine_endFaulted_ne (h : Bool) {i e : Nat} (r : Option (Nat × Nat)) (s : State) (hne : i ≠ e) :
    (s.endFaulted h e r).engine h i = s.engine h i := by
  obtain _ | ⟨k, n⟩ := r
  · rfl
  · rw [State.endFaulted, engine_endJob, engine_countJob_ne h _ hne]

/-- A faulted engine takes no job and keeps the cause of its fault. -/
theorem engine_faultEngine_self (h : Bool) (e bit : Nat) (s : State) :
    ∃ m, (s.faultEngine h e bit).engine h e = { (s.engine h e).withFault bit with jobs := m } := by
  obtain ⟨m, hm⟩ := engine_endFaulted_self h e (s.engine h e).running (s.setEngine h e ((s.engine h e).withFault bit))
  have halone : (s.faultAlone h e bit).engine h e = { (s.engine h e).withFault bit with jobs := m } := by
    rw [State.faultAlone, engine_raise, hm, engine_setEngine_self]
  refine ⟨m, ?_⟩
  rw [faultEngine_eq]
  split
  · rw [engine_moveJobs, halone]
  · exact halone

/-- While another engine of its group is in service, the fault leaves the group's queue. -/
theorem faultEngine_of_group_in_service {h : Bool} {e e' bit : Nat} {s : State}
    (hmem : e' ∈ groupEngines h (e / perGroup h)) (hne : e' ≠ e) (hserves : (s.engine h e').faulted = false) : s.faultEngine h e bit = s.faultAlone h e bit := by
  have hother : ((s.faultAlone h e bit).engine h e').faulted = false := by
    rw [State.faultAlone, engine_raise, engine_endFaulted_ne h _ _ hne, engine_setEngine_ne h _ _ hne, hserves]
  have hgroup : (s.faultAlone h e bit).groupFaulted h (e / perGroup h) = false := by
    rw [State.groupFaulted, List.all_eq_false]
    exact ⟨e', hmem, by simp [hother]⟩
  rw [faultEngine_eq, hgroup, if_neg Bool.false_ne_true]

/-- The job of an engine that faults fails with FAULT (R350). -/
theorem job?_faultAlone {h : Bool} {e bit k n : Nat} {j : Job} {s : State} (hrun : (s.engine h e).running = some (k, n))
    (hjob : s.job? k n = some j) :
    (s.faultAlone h e bit).job? k n = some { j with state := .failed, code := codeFault, key := none, random := [] } := by
  rw [State.faultAlone, hrun, job?_raise]
  refine job?_endJob_self ?_ ..
  rw [job?_countJob, job?_setEngine, hjob]

/-! ## Program stores -/

theorem tget_tset {α : Type} (t : Tbl α) (n m : Nat) (v d : α) :
    tget (tset t n v) m d = if m = n then v else tget t m d := by
  rw [tget, tget?_tset]
  split <;> rfl

/-- A microword that is written reads back, and every other one stands. -/
theorem Engine.word_putWord (x : Engine) {store st : Nat} (addr i : Nat) (v : Word) (hstore : store ≤ 1) (hst : st ≤ 1) :
    (x.putWord store addr v).word st i = if st = store ∧ i = addr then v else x.word st i := by
  have hbit : ∀ n : Nat, n ≤ 1 → n = 0 ∨ n = 1 := by omega
  rcases hbit store hstore with rfl | rfl <;> rcases hbit st hst with rfl | rfl <;>
    simp [Engine.putWord, Engine.word, tget_tset]

/-- An event that is raised waits in the intake. -/
theorem mem_intakePut_self (q : List OwlEvent) (e : OwlEvent) : e ∈ intakePut q e := by
  simp [intakePut]

theorem exists_raised (code : Nat) (payload : Bytes) (s : State) :
    ∃ ev ∈ (s.raise code payload).owl.intake, ev.code = code :=
  ⟨_, mem_intakePut_self .., rfl⟩

/-! ## The statement -/

section events
variable {h : Bool} {e : Nat} {s : State}

theorem exec_engineJobDone (hexists : engineExists h e = true) : exec (.engineJobDone h e) s = .next (s.finishJob h e) :=
  congrArg _ (if_pos hexists)

theorem exec_engineAbortCleared (hexists : engineExists h e = true) : exec (.engineAbortCleared h e) s = .next (
    if (s.engine h e).clearing.isSome then
      (s.setEngine h e { s.engine h e with clearing := none, memory := [], owner := none }).touchDom
        (domGroup h (e / perGroup h))
    else s) := by
  change execEngineAbortCleared h e s = _
  simp only [execEngineAbortCleared, hexists, Bool.true_and]

theorem exec_engineFault (hexists : engineExists h e = true) (kind : Nat) : exec (.engineFault h e kind) s = .next (
    if !(s.engine h e).faulted && (kind == 0 || (kind == 1 && !h)) then s.faultEngine h e kind else s) := by
  change execEngineFault h e kind s = _
  simp only [execEngineFault, hexists, Bool.true_and]

theorem exec_bearSwapRequest (hexists : engineExists false e = true) : exec (.bearSwapRequest e) s = .next (
    if (s.engine false e).idle then s.exchangeStores e
    else s.setEngine false e { s.engine false e with swap := true }) := by
  change execBearSwapRequest e s = _
  simp only [execBearSwapRequest, hexists, Bool.not_true, Bool.false_eq_true, if_false]

theorem exec_bearStoreExchange (hexists : engineExists false e = true) : exec (.bearStoreExchange e) s = .next (
    if (s.engine false e).swap && (s.engine false e).idle then s.exchangeStores e else s) := by
  change execBearStoreExchange e s = _
  simp only [execBearStoreExchange, hexists, Bool.true_and]

theorem exec_bearActiveWrite (hexists : engineExists false e = true) {addr : Nat} (haddr : addr < 2048) (v : Word) :
    exec (.bearActiveWrite e addr v) s = .next (s.activeWrite 0 e addr v) :=
  congrArg _ (if_pos (by simp [hexists, haddr]))

theorem exec_bearShadowWrite (hexists : engineExists false e = true) {addr : Nat} (haddr : addr < 2048) (v : Word) :
    exec (.bearShadowWrite e addr v) s = .next
      (s.setEngine false e ((s.engine false e).putWord (1 - (s.engine false e).activeStore) addr v)) :=
  congrArg _ (if_neg (by simp [hexists, haddr]))

end events

/-- Settles O40: the end of a job, a fault and the writes of the program windows, each by its rule above. That a job
computes when its engine takes it and delivers at this command is the model's choice (log entry 35); so is that a write of
a faulted engine's active store changes nothing, of which R376 does not speak. -/
theorem engineEvents : Obligations.EngineEvents := by
  intro h e x s hexists rfl
  refine ⟨?done, ?rests, ?faulted, ?faults, ?cleared, ?bear⟩
  case done =>
    intro k n j c b t sl hrun hjob hcomputed hwaits hdeliver hslot hc
    obtain ⟨hended, hfree, hcounted, hwritten⟩ := finishJob_outcome hrun hjob hcomputed hwaits hdeliver hslot hc
    exact ⟨_, _, exec_engineJobDone hexists, hended, rfl, rfl, rfl, hfree, hcounted, hwritten⟩
  case rests =>
    intro hfree hclear
    rw [exec_engineJobDone hexists, exec_engineAbortCleared hexists, hclear, State.finishJob, hfree]
    exact ⟨rfl, rfl⟩
  case faulted =>
    intro kind hfaulted
    rw [exec_engineFault hexists, hfaulted]
    rfl
  case faults =>
    intro kind hserves hkind
    have hfaults : (!(s.engine h e).faulted && (kind == 0 || (kind == 1 && !h))) = true := by
      rcases hkind with rfl | ⟨rfl, rfl⟩ <;> simp [hserves]
    obtain ⟨m, hm⟩ := engine_faultEngine_self h e kind s
    refine ⟨_, (exec_engineFault hexists kind).trans (congrArg _ (if_pos hfaults)), ?_⟩
    rw [hm]
    refine ⟨rfl, rfl, rfl, ?_⟩
    rintro k n j hrun hjob ⟨e', hmem, hne, hother⟩
    rw [faultEngine_of_group_in_service hmem hne hother]
    exact ⟨_, job?_faultAlone hrun hjob, rfl, rfl⟩
  case cleared =>
    intro hclear
    refine ⟨_, (exec_engineAbortCleared hexists).trans (congrArg _ (if_pos hclear)), ?_, by simp, by simp⟩
    rw [engine_touchDom, engine_setEngine_self]
  case bear =>
    rintro rfl
    refine ⟨?request, ?exchange, fun addr v haddr hstore => ⟨?idle, ?busy, ?outOfService, ?shadow⟩⟩
    case request => exact exec_bearSwapRequest hexists
    case exchange =>
      intro hswap hidle
      rw [exec_bearStoreExchange hexists, hswap, hidle]
      rfl
    case idle =>
      intro hserves hidle
      refine ⟨_, exec_bearActiveWrite hexists haddr v, ?_⟩
      rw [State.activeWrite, hserves, hidle]
      refine ⟨fun st i hst => ?_, by simp, by simp, by simp⟩
      rw [← Engine.word_putWord _ addr i v hstore hst]
      exact congrArg (Engine.word · st i) (engine_setEngine_self ..)
    case busy =>
      intro hserves hbusy
      refine ⟨_, exec_bearActiveWrite hexists haddr v, ?_⟩
      rw [State.activeWrite, hserves, hbusy]
      refine ⟨engine_setEngine_self .., exists_raised .., rfl, rfl, rfl⟩
    case outOfService =>
      intro hfaulted
      rw [exec_bearActiveWrite hexists haddr, State.activeWrite, hfaulted]
      rfl
    case shadow =>
      refine ⟨_, exec_bearShadowWrite hexists haddr v, fun st i hst => ?_, by simp, by simp, by simp⟩
      rw [engine_setEngine_self]
      exact Engine.word_putWord _ addr i v (by omega) hst

end Sys2Proof.Machine
end

section
/-! PROOFS. Key instructions (R224 to R227, R274, R298, R310) and the engine queue (R349, R353 to R370, R576): KRES, HCHK,
KOP, ENGQ and OWLEV. -/

namespace Sys2Proof.Machine

/-! ## A slot that is written twice, and a hit in the hot cache -/

theorem tset_tset {α : Type} (t : Tbl α) (n : Nat) (a b : α) : tset (tset t n a) n b = tset t n b := by
  induction t with
  | nil => simp [tset]
  | cons e t ih =>
    obtain ⟨m, v⟩ := e
    rcases Nat.lt_trichotomy n m with h | rfl | h
    · simp [tset, h]
    · simp [tset]
    · simp [tset, Nat.lt_asymm h, Nat.ne_of_gt h, ih]

theorem length_tset {α : Type} (t : Tbl α) (n : Nat) (a b : α) : (tset t n a).length = (tset t n b).length := by
  induction t with
  | nil => rfl
  | cons e t ih =>
    obtain ⟨m, v⟩ := e
    simp only [tset]
    split
    · rfl
    · split
      · rfl
      · simp [ih]

/-- The last of two writes of a slot stands; HIF_SLOT_HIGH counts the slot once. -/
theorem setSlot_setSlot (k : Nat) (a b : Slot) (s : State) : (s.setSlot k a).setSlot k b = s.setSlot k b := by
  simp only [State.setSlot, tset_tset, length_tset s.host.slots k b a, Nat.max_assoc, Nat.max_self]

@[simp] theorem slot?_countHit (hit : Bool) (s : State) (k : Nat) : (s.countHit hit).slot? k = s.slot? k :=
  slot?_of_host (by simp) k

@[simp] theorem slot?_noteUnpinned (ks : List KeyId) (s : State) (k : Nat) :
    (s.noteUnpinned ks).slot? k = s.slot? k :=
  slot?_of_host (by simp) k

@[simp] theorem slot?_reserveUse (key : KeyId) (s : State) (k : Nat) : (s.reserveUse key).slot? k = s.slot? k := rfl

theorem slot?_hit (k : Nat) (key : KeyId) (s : State) :
    (s.hit k key).slot? k = (s.slot? k).map fun sl => { sl with miss := none } := by
  have hslot : ((s.hotTouch key).modSlot k fun sl => { sl with miss := none }).slot? k =
      (s.slot? k).map fun sl => { sl with miss := none } := slot?_modSlot_self ..
  unfold State.hit
  simp only []
  split
  · exact hslot
  · exact (slot?_countHit ..).trans hslot

/-- A command that does not wait for a record keeps its slot at a hit. -/
theorem slot?_hit_of_miss_none {k : Nat} {sl : Slot} {s : State} (h : s.slot? k = some sl) (hmiss : sl.miss = none)
    (key : KeyId) : (s.hit k key).slot? k = some sl := by
  rw [slot?_hit, h, Option.map_some, ← hmiss]

/-- The command that goes on with general register i written, as an instruction leaves it. -/
theorem modCtx_setG_of_some {k : Nat} {sl : Slot} {s : State} (h : s.slot? k = some sl) (i : Nat) (v : Word) :
    (s.modCtx k fun x => (x.setG i v).step) = s.wroteG k sl i v := by
  rw [modCtx_of_some h, withCtx_setG_step]

/-- The same after a change of the slot: the slot is written once. -/
theorem modSlot_modCtx_setG {k : Nat} {sl : Slot} {s : State} (h : s.slot? k = some sl) (f : Slot → Slot) (i : Nat)
    (v : Word) : ((s.modSlot k f).modCtx k fun x => (x.setG i v).step) = s.wroteG k (f sl) i v := by
  rw [modSlot_of_some h, modCtx_setG_of_some (slot?_setSlot_self ..)]
  exact setSlot_setSlot ..

/-! ## Key registers -/

theorem emptyCk_of_none {k i : Nat} {sl : Slot} {s : State} (h : s.slot? k = some sl) (hck : sl.ctx.rck i = none) :
    s.emptyCk k i = s := by
  simp [State.emptyCk, h, hck]

/-- A slot whose key register is emptied: an uncommitted reservation is owed until the command ends (R227). -/
def Slot.withoutCk (sl : Slot) (i : Nat) (kr : KeyReg) : Slot :=
  { sl with ctx := sl.ctx.setCk i none, owed := if kr.committed || kr.streamKey then sl.owed else sl.owed ++ [kr] }

theorem emptyCk_of_some {k i : Nat} {sl : Slot} {kr : KeyReg} {s : State} (h : s.slot? k = some sl)
    (hck : sl.ctx.rck i = some kr) : s.emptyCk k i = (s.setSlot k (sl.withoutCk i kr)).noteUnpinned [kr.key] := by
  simp only [State.emptyCk, h, Option.bind_some, hck, modSlot_of_some h]
  rfl

/-! ## What a core reads leaves the lodge -/

theorem coreRead_lodge {c k a n : Nat} {sl : Slot} {b : Bytes} {s u : State}
    (h : s.coreRead c k sl a n = .done (b, u)) : u.lodge = s.lodge := by
  unfold State.coreRead at h
  split at h
  · cases h; rfl
  · split at h
    · cases h
    · cases h; simp
  · cases h
  · cases h
  · cases h

theorem cmdDomain_of_lodge {s u : State} (h : u.lodge = s.lodge) (f : Nat) : u.cmdDomain f = s.cmdDomain f := by
  simp only [State.cmdDomain, State.fnDomain?, State.fnRec?, State.tables, h]

/-! ## KRES, HCHK and KOP -/

section keys
variable {s : State} {c k : Nat} {sl : Slot} {w : BitVec 32}

/-- KRES does what the checks of R224 on its handle register allow. -/
theorem State.Issues.exec_kres (h : s.Issues c k sl w 0x39 0x3FF8FF1) : exec (.kres c w) s = .next (
    match s.resolve (s.cmdDomain sl.fn) {} (sl.ctx.rk (fK w)) with
    | .missed key => s.parkMiss k key
    | .failed st => s.raiseExc c k { cause := 5, status := st, kindex := fK w, insn := w }
    | .ok key r => (((s.hit k key).reserveUse key).emptyCk k (fX w)).modCtx k fun x =>
        (x.setCk (fX w) (some { key := key, record := r, handleReg := fK w })).step) :=
  congrArg _ (h.issue _)

/-- HCHK reports what KRES would find. -/
theorem State.Issues.exec_hchk (h : s.Issues c k sl w 0x3D 0x3E0FFF1) : exec (.hchk c w) s = .next (
    match s.resolve (s.cmdDomain sl.fn) {} (sl.ctx.rk (fK w)) with
    | .missed key => s.parkMiss k key
    | .failed st =>
      (s.modSlot k fun sl => { sl with miss := none }).modCtx k fun x => (x.setG (fA w) (st.zeroExtend 64)).step
    | .ok key _ => (s.hit k key).modCtx k fun x => (x.setG (fA w) 0).step) :=
  congrArg _ (h.issue _)

section resolved
variable {key : KeyId} {r : KeyRec} {st : Status}

/-- A key that resolves gives up one use and lies in the key register (R226). -/
theorem State.Issues.kres_ok (h : s.Issues c k sl w 0x39 0x3FF8FF1)
    (hfound : s.resolve (s.cmdDomain sl.fn) {} (sl.ctx.rk (fK w)) = .ok key r) (hmiss : sl.miss = none)
    (hck : sl.ctx.rck (fX w) = none) :
    exec (.kres c w) s = .next (((s.hit k key).reserveUse key).withCtx k sl
      (sl.ctx.setCk (fX w) (some { key := key, record := r, handleReg := fK w })).step) := by
  have hslot : ((s.hit k key).reserveUse key).slot? k = some sl := slot?_hit_of_miss_none h.slot hmiss key
  rw [h.exec_kres, hfound]
  simp only [emptyCk_of_none hslot hck, modCtx_of_some hslot]

theorem State.Issues.kres_missed (h : s.Issues c k sl w 0x39 0x3FF8FF1)
    (hfound : s.resolve (s.cmdDomain sl.fn) {} (sl.ctx.rk (fK w)) = .missed key) :
    exec (.kres c w) s = .next (s.parkMiss k key) := by
  rw [h.exec_kres, hfound]

theorem State.Issues.kres_failed (h : s.Issues c k sl w 0x39 0x3FF8FF1)
    (hfound : s.resolve (s.cmdDomain sl.fn) {} (sl.ctx.rk (fK w)) = .failed st) :
    exec (.kres c w) s = .next (s.raiseExc c k { cause := 5, status := st, kindex := fK w, insn := w }) := by
  rw [h.exec_kres, hfound]

theorem State.Issues.hchk_ok (h : s.Issues c k sl w 0x3D 0x3E0FFF1)
    (hfound : s.resolve (s.cmdDomain sl.fn) {} (sl.ctx.rk (fK w)) = .ok key r) (hmiss : sl.miss = none) :
    exec (.hchk c w) s = .next ((s.hit k key).wroteG k sl (fA w) 0) := by
  rw [h.exec_hchk, hfound]
  exact congrArg _ (modCtx_setG_of_some (slot?_hit_of_miss_none h.slot hmiss key) ..)

theorem State.Issues.hchk_missed (h : s.Issues c k sl w 0x3D 0x3E0FFF1)
    (hfound : s.resolve (s.cmdDomain sl.fn) {} (sl.ctx.rk (fK w)) = .missed key) :
    exec (.hchk c w) s = .next (s.parkMiss k key) := by
  rw [h.exec_hchk, hfound]

theorem State.Issues.hchk_failed (h : s.Issues c k sl w 0x3D 0x3E0FFF1)
    (hfound : s.resolve (s.cmdDomain sl.fn) {} (sl.ctx.rk (fK w)) = .failed st) :
    exec (.hchk c w) s = .next (s.wroteG k { sl with miss := none } (fA w) (st.zeroExtend 64)) := by
  rw [h.exec_hchk, hfound]
  exact congrArg _ (modSlot_modCtx_setG h.slot (fun sl => { sl with miss := none }) _ _)

end resolved

theorem State.Issues.exec_kopRelease (h : s.Issues c k sl w 0x3A 0x1FFFF1) (hfn : fD w = 0) :
    exec (.kopRelease c w) s = .next ((s.emptyCk k (fK w)).modCtx k Ctx.step) :=
  congrArg _ (h.issueC hfn _)

/-- What INSTALL makes of the 32 bytes of attributes that it has read (R310), in the sealed world. -/
def State.installFrom (c k : Nat) (sl : Slot) (w : BitVec 32) (b : Bytes) (s : State) : State :=
  let bad := fun (st : Status) (s : State) =>
    s.raiseExc c k { cause := 5, status := st, kindex := fK w, insn := w }
  if s.antler.debug then bad 0x0310 s else
  match installRecord? (s.cmdDomain sl.fn) b
      (natLe 16 (sl.ctx.rcb (fY w)).val.toNat ++ natLe 16 (sl.ctx.rcb (fZ w)).val.toNat) with
  | none => bad 0x0204 s
  | some r => match s.createKey r with
    | (.inl st, s) => bad st s
    | (.inr h, s) => s.modCtx k fun x => (x.setK (fK w) h).step

/-- INSTALL is an instruction of the sealed world; it checks the alignment of its address before it reads there. -/
theorem State.Issues.exec_kopInstall (h : s.Issues c k sl w 0x3A 0xF001) (hfn : fD w = 1) :
    exec (.kopInstall c w) s = .next (
      if sl.programWorld then
        if (sl.ctx.rg (fA w)).toNat % 8 ≠ 0 then
          s.raiseExc c k { cause := 5, status := 0x0204, kindex := fK w, insn := w }
        else afterAccess c k w (sl.ctx.rg (fA w)).toNat s (s.coreRead c k sl (sl.ctx.rg (fA w)).toNat 32) fun b =>
          b.2.installFrom c k sl w b.1
      else s.raiseExc c k { cause := 1, insn := w }) :=
  congrArg _ (h.issueC hfn _)

theorem State.Issues.kopInstall_of_read {b : Bytes} {u : State} (h : s.Issues c k sl w 0x3A 0xF001) (hfn : fD w = 1)
    (hsealed : sl.programWorld = true) (haligned : (sl.ctx.rg (fA w)).toNat % 8 = 0)
    (hread : s.coreRead c k sl (sl.ctx.rg (fA w)).toNat 32 = .done (b, u)) :
    exec (.kopInstall c w) s = .next (u.installFrom c k sl w b) := by
  rw [h.exec_kopInstall hfn, if_pos hsealed, if_neg (not_not.mpr haligned), hread]
  rfl

theorem State.Issues.exec_kopDelete (h : s.Issues c k sl w 0x3A 0x1FFFF1) (hfn : fD w = 2) :
    exec (.kopDelete c w) s = .next (
      if sl.programWorld then
        match s.deletable (s.cmdDomain sl.fn) (sl.ctx.rk (fK w)) with
        | .inl st => s.raiseExc c k { cause := 5, status := st, kindex := fK w, insn := w }
        | .inr key => (s.deleteKey key).modCtx k Ctx.step
      else s.raiseExc c k { cause := 1, insn := w }) :=
  congrArg _ (h.issueC hfn _)

end keys

/-! ## SUBMIT -/

/-- A read of a sound place corrects and counts nothing. -/
theorem correct_of_sound {g off n : Nat} {s : State} (h : s.Sound g off n) : s.correct g off n = s := by
  have hclear : ∀ w ∈ s.mem.flipped, (decide (w < gateAddr g off + n) && decide (gateAddr g off < w + 8)) = false := by
    intro w hw
    simpa using h w (List.mem_append_right _ hw)
  have hnone : s.mem.flipped.filter (fun w => decide (w < gateAddr g off + n) && decide (gateAddr g off < w + 8)) = [] :=
    List.filter_eq_nil_iff.2 fun w hw => by simp [hclear w hw]
  have hall : s.mem.flipped.filter (fun w => !(decide (w < gateAddr g off + n) && decide (gateAddr g off < w + 8))) =
      s.mem.flipped := List.filter_eq_self.2 fun w hw => by simp [hclear w hw]
  simp only [State.correct, hnone, hall, List.foldl_nil]

theorem poisonedAt_of_sound {g off n : Nat} {s : State} (h : s.Sound g off n) :
    s.poisonedAt (gateAddr g off) n = false := by
  rw [State.poisonedAt, List.any_eq_false]
  intro w hw
  simpa using h w (List.mem_append_left _ hw)

/-- A SUBMIT that has read its descriptor b. -/
def State.submitRead (c k : Nat) (sl : Slot) (w : BitVec 32) (b : Bytes) (s : State) : State :=
  let j := parseDescriptor (fZ w % 2 == 1) b
  match sl.freeJob? with
  | none => s.modCtx k fun x => (x.setG (fA w) 0).step
  | some n =>
    if fY w % 2 = 0 then s.submitJob k sl w n j b true none else
    match s.resolve (s.cmdDomain sl.fn) {} (sl.ctx.rk (fK w)) with
    | .missed key => s.parkMiss k key
    | .failed st => s.raiseExc c k { cause := 5, status := st, kindex := fK w, insn := w }
    | .ok key r =>
      if !opPermits j.operation r then s.raiseExc c k { cause := 5, status := 0x0204, kindex := fK w, insn := w }
      else s.submitJob k sl w n j b true (some (key, r))

section submitRead
variable {s : State} {c k n : Nat} {sl : Slot} {w : BitVec 32} {b : Bytes}

/-- A command with four jobs gets the number 0 (R354). -/
theorem submitRead_full (hslot : s.slot? k = some sl) (hfull : sl.freeJob? = none) :
    s.submitRead c k sl w b = s.wroteG k sl (fA w) 0 := by
  rw [State.submitRead, hfull]
  exact modCtx_setG_of_some hslot ..

theorem submitRead_unkeyed (hfree : sl.freeJob? = some n) (hkeyed : fY w % 2 ≠ 1) :
    s.submitRead c k sl w b = s.submitJob k sl w n (parseDescriptor (fZ w % 2 == 1) b) b true none := by
  have heven : fY w % 2 = 0 := by omega
  simp only [State.submitRead, hfree, heven, if_true]

/-- A keyed SUBMIT does what the checks of R224 and of Table 9-2 on its key allow (R355). -/
theorem submitRead_keyed (hfree : sl.freeJob? = some n) (hkeyed : fY w % 2 = 1) :
    s.submitRead c k sl w b = match s.resolve (s.cmdDomain sl.fn) {} (sl.ctx.rk (fK w)) with
      | .missed key => s.parkMiss k key
      | .failed st => s.raiseExc c k { cause := 5, status := st, kindex := fK w, insn := w }
      | .ok key r =>
        if !opPermits (parseDescriptor (fZ w % 2 == 1) b).operation r then
          s.raiseExc c k { cause := 5, status := 0x0204, kindex := fK w, insn := w }
        else s.submitJob k sl w n (parseDescriptor (fZ w % 2 == 1) b) b true (some (key, r)) := by
  rw [State.submitRead, hfree]
  exact if_neg (by omega)

end submitRead

/-- A descriptor that lies where R358 and R359 let it lie, and that reads without error, is read. -/
theorem submit_of_sound {c k : Nat} {sl : Slot} {w : BitVec 32} {s : State} {a : Nat} (ha : (sl.ctx.rg (fA w)).toNat = a)
    (haligned : a % 64 = 0) (hrange : jobRange sl.programWorld false a 64 = true)
    (hwaits : s.larderWaits (sl.jobCell k a).1 (sl.jobCell k a).2 = false)
    (hsound : s.Sound (sl.jobCell k a).1 (sl.jobCell k a).2 64) :
    s.submit c k sl w = s.submitRead c k sl w (s.jobBytes k sl a 64) := by
  subst ha
  unfold State.submit
  simp only [haligned, hrange, hwaits, poisonedAt_of_sound hsound, correct_of_sound hsound, beq_self_eq_true,
    Bool.and_self, Bool.and_false, Bool.false_eq_true, if_true, if_false, Bool.true_and]
  rfl

section submitJob
variable {s : State} {k n g : Nat} {sl : Slot} {w : BitVec 32} {j : Job} {b : Bytes} {key : Option (KeyId × KeyRec)}

/-- The command goes on with the job number in GA. -/
def State.gives (k : Nat) (w : BitVec 32) (n : Nat) (s : State) : State :=
  s.modCtx k fun x => (x.setG (fA w) (BitVec.ofNat 64 n)).step

/-- The job is sent with its random bytes, under its key, of which a use is reserved (R356, R357). -/
def State.sendUnder (k : Nat) (w : BitVec 32) (n g : Nat) (j : Job) (key : Option (KeyId × KeyRec)) (rnd : Bytes)
    (s : State) : State :=
  let s := match key with
    | some (id, _) => (s.hit k id).reserveUse id
    | none => s
  s.sendJob k n g
    { j with random := rnd, key := key.map fun p => { key := p.1, record := p.2, handleReg := fK w } }

theorem submitJob_noGroup (hgroup : s.groupFor? sl j.hedgehog = none) :
    s.submitJob k sl w n j b true key = (s.failJob k n codeNoEngine j).gives k w n := by
  rw [State.submitJob, hgroup]
  rfl

theorem submitJob_malformed (hgroup : s.groupFor? sl j.hedgehog = some g)
    (hbad : j.descriptorOk b sl.programWorld (key.map (·.2)) = false) :
    s.submitJob k sl w n j b true key = (s.failJob k n codeDescriptor j).gives k w n := by
  simp only [State.submitJob, hgroup, hbad]
  rfl

theorem submitJob_parks (hslot : s.slot? k = some sl) (hgroup : s.groupFor? sl j.hedgehog = some g)
    (hok : j.descriptorOk b sl.programWorld (key.map (·.2)) = true) (hfull : 128 ≤ (s.queue j.hedgehog g).length) :
    s.submitJob k sl w n j b true key = (s.setSlot k { sl with retry := some w }).park k .parked := by
  simp only [State.submitJob, hgroup, hok, hfull, modSlot_of_some hslot]
  rfl

/-- The random bytes of an operation that draws d bytes: none, or those that Squirrel serves (R357). -/
def State.Draws (s : State) (k d : Nat) (rnd : Bytes) (t : State) : Prop :=
  (d = 0 ∧ rnd = [] ∧ t = s) ∨ (d ≠ 0 ∧ s.draw k d = (.served rnd, t))

theorem submitJob_sends {rnd : Bytes} {t : State} (hgroup : s.groupFor? sl j.hedgehog = some g)
    (hok : j.descriptorOk b sl.programWorld (key.map (·.2)) = true) (hroom : (s.queue j.hedgehog g).length < 128)
    (hdraw : s.Draws k (opRandom j.operation j.length j.param (((key.map (·.2)).map (·.type)).getD 0)) rnd t) :
    s.submitJob k sl w n j b true key = (t.sendUnder k w n g j key rnd).gives k w n := by
  have hspace : ¬ 128 ≤ (s.queue j.hedgehog g).length := by omega
  simp only [State.submitJob, hgroup, hok, hspace, Bool.not_true, Bool.or_self, Bool.false_eq_true, if_false]
  rcases hdraw with ⟨hd, rfl, rfl⟩ | ⟨hd, hserved⟩
  · rw [if_pos hd]
    rfl
  · rw [if_neg hd, hserved]
    rfl

end submitJob

section engq
variable {s : State} {c k : Nat} {sl : Slot} {w : BitVec 32}

/-- The bits of a SUBMIT that must be zero: KX with them, where KEYED is 0 (R353). -/
theorem submitZero_eq (w : BitVec 32) : submitZero w = if fY w % 2 = 1 then 0xFEE1 else 0xFEEF := by
  rcases Nat.mod_two_eq_zero_or_one (fY w) with h | h <;> simp [submitZero, h]

theorem State.Issues.exec_engqSubmit (h : s.Issues c k sl w 0x3B (if fY w % 2 = 1 then 0xFEE1 else 0xFEEF))
    (hfn : fD w = 0) : exec (.engqSubmit c w) s = .next (s.submit c k sl w) := by
  rw [← submitZero_eq] at h
  exact congrArg _ (h.issueC hfn _)

theorem State.Issues.exec_engqPoll (h : s.Issues c k sl w 0x3B 0xFFFF) (hfn : fD w = 1) :
    exec (.engqPoll c w) s = .next (
      match tget? sl.jobs (sl.ctx.rg (fA w)).toNat with
      | none => s.modCtx k fun x => (x.setG (fA w) 7).step
      | some j =>
        (if j.state.terminal then
            s.modSlot k fun sl' => { sl' with jobs := terase sl'.jobs (sl.ctx.rg (fA w)).toNat }
          else s).modCtx k fun x => (x.setG (fA w) (BitVec.ofNat 64 j.statusWord)).step) :=
  congrArg _ (h.issueC hfn _)

/-- POLL of a job reads its status word and frees the number of one that has ended (R354, R366). -/
theorem State.Issues.engqPoll_job {j : Job} (h : s.Issues c k sl w 0x3B 0xFFFF) (hfn : fD w = 1)
    (hjob : tget? sl.jobs (sl.ctx.rg (fA w)).toNat = some j) :
    exec (.engqPoll c w) s = .next (s.wroteG k
      { sl with jobs := if j.state.terminal then terase sl.jobs (sl.ctx.rg (fA w)).toNat else sl.jobs }
      (fA w) (BitVec.ofNat 64 j.statusWord)) := by
  rw [h.exec_engqPoll hfn, hjob]
  refine congrArg _ ?_
  simp only []
  split
  · exact modSlot_modCtx_setG h.slot (fun sl' => { sl' with jobs := terase sl'.jobs (sl.ctx.rg (fA w)).toNat }) _ _
  · exact modCtx_setG_of_some h.slot ..

theorem State.Issues.engqPoll_none (h : s.Issues c k sl w 0x3B 0xFFFF) (hfn : fD w = 1)
    (hnone : tget? sl.jobs (sl.ctx.rg (fA w)).toNat = none) :
    exec (.engqPoll c w) s = .next (s.wroteG k sl (fA w) 7) := by
  rw [h.exec_engqPoll hfn, hnone]
  exact congrArg _ (modCtx_setG_of_some h.slot ..)

theorem State.Issues.exec_engqAbort (h : s.Issues c k sl w 0x3B 0xFFFF) (hfn : fD w = 2) :
    exec (.engqAbort c w) s = .next ((s.abortJob k (sl.ctx.rg (fA w)).toNat).modCtx k Ctx.step) :=
  congrArg _ (h.issueC hfn _)

end engq

/-! ## A SUBMIT that waits for room -/

theorem running?_of_slot {c k : Nat} {sl : Slot} {s : State} (hcore : (s.core c).slot = some k)
    (hslot : s.slot? k = some sl) (hphase : sl.phase = .running) (hset : sl.setId.isSome = true)
    (hpad : sl.ctx.padUntil = none) : s.running? c = some (k, sl) := by
  simp [State.running?, hcore, hslot, hphase, hset, hpad]

/-- A command that is to resume takes a free core of its awake skulk (R204, R369). -/
theorem resumeOn_of_free {c k : Nat} {sl : Slot} {s : State} (hslot : s.slot? k = some sl) (hphase : sl.phase = .resume)
    (hskulk : sl.skulk = some (c / 4)) (hawake : s.awake (domSkulk (c / 4)) = true) (hcore : s.core c = {}) :
    s.resumeOn k c =
      (s.setCore c { slot := some k }).setSlot k { sl with phase := .running, core := some c } := by
  have hheld : (s.setCore c { slot := some k }).slot? k = some sl := hslot
  simp only [State.resumeOn, hslot, hphase, hskulk, hawake, hcore, and_self, if_true, modSlot_of_some hheld]

section retry
variable {c k g : Nat} {sl : Slot} {w : BitVec 32} {s : State}

/-- While the queue of its group is full, a SUBMIT that waits for room goes on waiting (R349). -/
theorem exec_engqSubmitRetry_full (hslot : s.slot? k = some sl) (hretry : sl.retry = some w)
    (hgroup : s.groupFor? sl (fZ w % 2 == 1) = some g) (hfull : 128 ≤ (s.queue (fZ w % 2 == 1) g).length) :
    exec (.engqSubmitRetry k c) s = .next s := by
  change execEngqSubmitRetry k c s = _
  have hspace : ¬ (s.queue (fZ w % 2 == 1) g).length < 128 := by omega
  simp only [execEngqSubmitRetry, hslot, hretry, hgroup, hspace, decide_false, Bool.not_false, if_true]

/-- A command that resumes on a core, its SUBMIT waiting no more. -/
def Slot.resumed (c : Nat) (sl : Slot) : Slot := { sl with phase := .running, retry := none, core := some c }

/-- Once there is room, it issues again on a free core of its skulk (R349). -/
theorem exec_engqSubmitRetry_room (hslot : s.slot? k = some sl) (hretry : sl.retry = some w)
    (hskulk : sl.skulk = some (c / 4)) (hset : sl.setId.isSome = true) (hpad : sl.ctx.padUntil = none)
    (hgroup : s.groupFor? sl (fZ w % 2 == 1) = some g) (hawake : s.awake (domSkulk (c / 4)) = true)
    (hcore : s.core c = {}) (hroom : (s.queue (fZ w % 2 == 1) g).length < 128) :
    exec (.engqSubmitRetry k c) s = .next
      (((s.setCore c { slot := some k }).setSlot k (sl.resumed c)).submit c k (sl.resumed c) w) := by
  change execEngqSubmitRetry k c s = _
  have hresumed : (s.modSlot k fun sl => { sl with phase := .resume, retry := none }).resumeOn k c =
      (s.setCore c { slot := some k }).setSlot k (sl.resumed c) := by
    rw [modSlot_of_some hslot, resumeOn_of_free (sl := { sl with phase := .resume, retry := none })
      (slot?_setSlot_self ..) rfl hskulk hawake hcore]
    exact setSlot_setSlot k _ (sl.resumed c) (s.setCore c { slot := some k })
  have hheld : (((s.setCore c { slot := some k }).setSlot k (sl.resumed c)).core c).slot = some k :=
    congrArg CoreState.slot (core_setCore_self c { slot := some k } s)
  have hruns : ((s.setCore c { slot := some k }).setSlot k (sl.resumed c)).running? c = some (k, sl.resumed c) :=
    running?_of_slot hheld (slot?_setSlot_self ..) rfl hset hpad
  simp only [execEngqSubmitRetry, hslot, hretry, hgroup, hroom, decide_true, Bool.not_true, Bool.false_eq_true,
    if_false, hresumed, hruns, if_true]

end retry

/-! ## OWLEV -/

theorem owlev_code (w : BitVec 32) : ((fImm w).extractLsb' 0 9).toNat = w.toNat % 512 := by
  simp only [fImm, BitVec.extractLsb'_toNat, Nat.shiftRight_zero]
  omega

section owlev
variable {s : State} {c k : Nat} {sl : Slot} {w : BitVec 32}

/-- Whether the code of an OWLEV is one that the sealed world may record (R576). -/
def owlevInRange (w : BitVec 32) : Bool := decide (0x120 ≤ w.toNat % 512) && decide (w.toNat % 512 ≤ 0x13F)

/-- The event of an OWLEV: another code is recorded as 0x12F, with the code in byte 11 (R576). -/
def State.owlevRaise (c : Nat) (sl : Slot) (w : BitVec 32) (s : State) : State :=
  s.raise (if owlevInRange w then w.toNat % 512 else 0x12F)
    (natLe 8 (sl.ctx.rg (fA w)).toNat ++ natLe 2 sl.fn ++ natLe 1 c ++
      natLe 1 (if owlevInRange w then 0 else if w.toNat % 512 < 0x100 then w.toNat % 512 else 0xFF))

theorem State.Issues.exec_owlev (h : s.Issues c k sl w 0x3C 0x3E0FE00) : exec (.owlev c w) s = .next (
    if sl.programWorld then (s.owlevRaise c sl w).withCtx k sl sl.ctx.step
    else s.raiseExc c k { cause := 1, insn := w }) := by
  refine congrArg _ ((h.issue _).trans ?_)
  simp only [owlev_code, sealedOnly]
  split
  · exact modCtx_of_some ((slot?_of_host (by simp) k).trans h.slot)
  · rfl

theorem owlevRaise_inRange (hlow : 0x120 ≤ w.toNat % 512) (hhigh : w.toNat % 512 ≤ 0x13F) :
    s.owlevRaise c sl w = s.raise (w.toNat % 512)
      (natLe 8 (sl.ctx.rg (fA w)).toNat ++ natLe 2 sl.fn ++ natLe 1 c ++ natLe 1 0) := by
  have hin : owlevInRange w = true := by simp [owlevInRange, hlow, hhigh]
  simp only [State.owlevRaise, hin, if_true]

theorem owlevRaise_outside (hout : w.toNat % 512 < 0x120 ∨ 0x13F < w.toNat % 512) :
    s.owlevRaise c sl w = s.raise 0x12F (natLe 8 (sl.ctx.rg (fA w)).toNat ++ natLe 2 sl.fn ++ natLe 1 c ++
      natLe 1 (if w.toNat % 512 < 0x100 then w.toNat % 512 else 0xFF)) := by
  have hin : owlevInRange w = false := by simpa [owlevInRange, or_iff_not_imp_left] using hout
  simp only [State.owlevRaise, hin, Bool.false_eq_true, if_false]

end owlev

/-! ## The statement -/

/-- Settles O38: each instruction that issues does its own work, by the rule of its form above. The order of the checks of
KOP and of SUBMIT is the model's choice (log entries 33 and 36). -/
theorem keyAndQueueInstructions : Obligations.KeyAndQueueInstructions := by
  intro c k sl w s x a found keyExc illegal
  refine ⟨?kres, ?hchk, ?release, ?install, ?delete, ?submit, ?retry, ?pollAbort, ?owlev⟩
  case kres =>
    exact fun h => ⟨fun _ _ hfound hmiss hck => h.kres_ok hfound hmiss hck, fun _ hfound => h.kres_missed hfound,
      fun _ hfound => h.kres_failed hfound⟩
  case hchk =>
    exact fun h => ⟨fun _ _ hfound hmiss => h.hchk_ok hfound hmiss, fun _ hfound => h.hchk_missed hfound,
      fun _ hfound => h.hchk_failed hfound⟩
  case release =>
    intro kr h hfn hck
    rw [h.exec_kopRelease hfn, emptyCk_of_some h.slot hck]
    have hslot : ((s.setSlot k (sl.withoutCk (fK w) kr)).noteUnpinned [kr.key]).slot? k =
        some (sl.withoutCk (fK w) kr) := (slot?_noteUnpinned ..).trans (slot?_setSlot_self ..)
    rw [modCtx_of_some hslot]
    exact ⟨_, _, rfl, slot?_setSlot_self .., rfl, rfl, rfl⟩
  case install =>
    intro h hfn
    refine ⟨fun hopen => ?_, fun hsealed hskew => ?_, ?_⟩
    · rw [h.exec_kopInstall hfn, hopen, if_neg Bool.false_ne_true]
    · rw [h.exec_kopInstall hfn, if_pos hsealed, if_pos hskew]
    · intro b u hsealed haligned hread bad made
      have hmade : installRecord? (u.cmdDomain sl.fn) b
          (natLe 16 (sl.ctx.rcb (fY w)).val.toNat ++ natLe 16 (sl.ctx.rcb (fZ w)).val.toNat) = made := by
        rw [cmdDomain_of_lodge (coreRead_lodge hread)]
      simp only [bad, h.kopInstall_of_read hfn hsealed haligned hread, State.installFrom, hmade]
      refine ⟨fun hdebug => ?_, fun hdebug hnone => ?_, fun r st t hdebug hsome hcreate => ?_,
        fun r hd t hdebug hsome hcreate => ?_⟩
      · rw [if_pos hdebug]
      · rw [hdebug, if_neg Bool.false_ne_true, hnone]
      · rw [hdebug, if_neg Bool.false_ne_true, hsome]
        simp only [hcreate]
      · rw [hdebug, if_neg Bool.false_ne_true, hsome]
        simp only [hcreate]
  case delete =>
    intro h hfn
    refine ⟨fun hopen => ?_, fun st hsealed hrefused => ?_, fun key hsealed hkey => ?_⟩
    · rw [h.exec_kopDelete hfn, hopen, if_neg Bool.false_ne_true]
    · rw [h.exec_kopDelete hfn, if_pos hsealed, show s.deletable _ _ = _ from hrefused]
    · rw [h.exec_kopDelete hfn, if_pos hsealed, show s.deletable _ _ = _ from hkey]
  case submit =>
    intro hfn keyed cell b j gives h haligned hrange hwaits hsound
    have hexec : exec (.engqSubmit c w) s = .next (s.submitRead c k sl w b) :=
      (h.exec_engqSubmit hfn).trans (congrArg _ (submit_of_sound rfl haligned hrange hwaits hsound))
    refine ⟨fun hfull => ?full, fun n hfree => ⟨fun hkeyed => ?unkeyed, fun hkeyed => ?keyed⟩⟩
    case full => exact hexec.trans (congrArg _ (submitRead_full h.slot hfull))
    case unkeyed =>
      have hsubmit : exec (.engqSubmit c w) s = .next (s.submitJob k sl w n j b true none) :=
        hexec.trans (congrArg _ (submitRead_unkeyed hfree hkeyed))
      clear_value j b
      refine ⟨fun hgroup => ?noGroup, fun g hgroup hbad => ?malformed,
        fun g hgroup hok => ⟨fun hfull => ?parks, fun rnd t hroom hdraw => ?sends⟩⟩
      case noGroup => exact hsubmit.trans (congrArg _ (submitJob_noGroup hgroup))
      case malformed => exact hsubmit.trans (congrArg _ (submitJob_malformed hgroup hbad))
      case parks => exact hsubmit.trans (congrArg _ (submitJob_parks h.slot hgroup hok hfull))
      case sends => exact hsubmit.trans (congrArg _ (submitJob_sends hgroup hok hroom hdraw))
    case keyed =>
      have hsubmit := hexec.trans (congrArg _ (submitRead_keyed hfree hkeyed))
      refine ⟨fun st hfound => ?_, fun key hfound => ?_, fun key r hfound => ?_⟩
      · rw [hsubmit, show s.resolve _ _ _ = _ from hfound]
      · rw [hsubmit, show s.resolve _ _ _ = _ from hfound]
      · have hfinds : exec (.engqSubmit c w) s = .next (
            if !opPermits j.operation r then
              s.raiseExc c k { cause := 5, status := 0x0204, kindex := fK w, insn := w }
            else s.submitJob k sl w n j b true (some (key, r))) := by
          rw [hsubmit, show s.resolve _ _ _ = _ from hfound]
        clear_value j b
        refine ⟨fun hdenied => ?denied, fun g rnd t hpermits hgroup hok hroom hdraw => ?sendsKeyed⟩
        case denied =>
          rw [hfinds, hdenied]
          rfl
        case sendsKeyed =>
          rw [hpermits] at hfinds
          exact hfinds.trans (congrArg _ (submitJob_sends hgroup hok hroom hdraw))
  case retry =>
    intro g hslot hretry hphase hskulk hset hpad hgroup
    exact ⟨exec_engqSubmitRetry_full hslot hretry hgroup,
      exec_engqSubmitRetry_room hslot hretry hskulk hset hpad hgroup⟩
  case pollAbort =>
    exact fun h => ⟨fun _ hfn hjob => h.engqPoll_job hfn hjob, fun hfn hnone => h.engqPoll_none hfn hnone,
      fun hfn => h.exec_engqAbort hfn⟩
  case owlev =>
    intro h code raised
    refine ⟨fun hopen => ?_, fun hsealed hlow hhigh => ?_, fun hsealed hout => ?_⟩
    · rw [h.exec_owlev, hopen, if_neg Bool.false_ne_true]
    · rw [h.exec_owlev, if_pos hsealed, owlevRaise_inRange hlow hhigh]
      rfl
    · rw [h.exec_owlev, if_pos hsealed, owlevRaise_outside hout]
      rfl

end Sys2Proof.Machine
end

section
/-! PROOFS. The dirty-page logs (R438 to R442, Table 11-8). -/

namespace Sys2Proof.Machine

/-! ## Operations of the shared tables -/

/-- Keeping the entries whose key passes a test keeps the reads at those keys and empties every other one. -/
theorem tget?_filter_key {α : Type} (p : Nat → Bool) (t : Tbl α) (n : Nat) :
    tget? (t.filter fun e => p e.1) n = if p n then tget? t n else none := by
  induction t with
  | nil => simp [tget?]
  | cons e t ih =>
    obtain ⟨k, v⟩ := e
    by_cases hk : k = n
    · subst hk
      cases hp : p k <;> simp_all [tget?]
    · cases hp : p k <;> simp [hp, tget?, hk, ih]

theorem lowest?_eq_some {n i : Nat} {p : Nat → Bool} (hi : i < n) (hp : p i = true) (hlow : ∀ j, j < i → p j = false) :
    lowest? n p = some i := by
  simpa [lowest?, List.find?_range_eq_some, hi, hp] using hlow

/-! ## An administrative command that runs -/

/-- An administrative command whose input length and PARAM pass their checks (R167, R181) does its own work. -/
theorem State.RunsAdmin.admin_eq {s : State} {k op : Nat} {sl : Slot} {lengthOk : Nat → Bool} {paramOk : Entry → Bool}
    (h : s.RunsAdmin k op sl) (hlength : lengthOk sl.entry.inLength = true) (hparam : paramOk sl.entry = true)
    (f : Slot → State → State) : s.admin k op lengthOk paramOk f = f sl s := by
  obtain ⟨hslot, hphase, hfn, hpers, hset, hop, hpair, hstream⟩ := h
  simp [State.admin, hslot, hphase, hfn, hpers, hset, hop, hpair, hstream, hlength, hparam]

/-! ## The bitmap of a log -/

/-- The bytes that a harvest of n bytes from an offset copies (R441). -/
def DirtyLog.copied (l : DirtyLog) (off n : Nat) : Bytes := (List.range n).map fun i => tget l.bitmap (off + i) 0

/-- The log that a harvest of n bytes from an offset leaves (R441). -/
def DirtyLog.cleared (l : DirtyLog) (off n : Nat) : DirtyLog :=
  { l with bitmap := l.bitmap.filter fun x => decide (x.1 < off) || decide (off + n ≤ x.1) }

@[simp] theorem DirtyLog.length_copied (l : DirtyLog) (off n : Nat) : (l.copied off n).length = n := by
  simp [DirtyLog.copied]

theorem DirtyLog.getElem?_copied (l : DirtyLog) (off : Nat) {n i : Nat} (h : i < n) :
    (l.copied off n)[i]? = some (tget l.bitmap (off + i) 0) := by
  simp [DirtyLog.copied, h]

theorem DirtyLog.tget?_cleared (l : DirtyLog) (off n i : Nat) :
    tget? (l.cleared off n).bitmap i = if i < off ∨ off + n ≤ i then tget? l.bitmap i else none := by
  simp [DirtyLog.cleared, tget?_filter_key fun j => decide (j < off) || decide (off + n ≤ j)]

theorem DirtyLog.tget?_cleared_copied (l : DirtyLog) (off : Nat) {n i : Nat} (h : i < n) :
    tget? (l.cleared off n).bitmap (off + i) = none := by
  rw [l.tget?_cleared, if_neg (by omega)]

theorem DirtyLog.tget?_cleared_rest (l : DirtyLog) {off n i : Nat} (h : i < off ∨ off + n ≤ i) :
    tget? (l.cleared off n).bitmap i = tget? l.bitmap i := by
  rw [l.tget?_cleared, if_pos h]

/-! ## The commands -/

section commands

variable {k : Nat} {sl : Slot} {s : State}

/-- The PARAM of a DIRTY_LOG_START is within the limits of Table 11-8. -/
structure Entry.StartsLog (e : Entry) : Prop where
  function_lt : e.function < 2048
  zero : paramZero e [0, 1, 4, 5, 6, 7, 8, 9, 10, 11, 12, 13, 14, 15] = true
  aligned : leField e.param 4 8 % 4096 = 0
  pages_pos : 1 ≤ leField e.param 12 4
  pages_le : leField e.param 12 4 ≤ 16777216

/-- The empty log that a DIRTY_LOG_START asks for, in a bitmap area (R440). -/
def Entry.newLog (e : Entry) (area : Nat) : DirtyLog :=
  { base := leField e.param 4 8, pages := leField e.param 12 4, area := area }

/-- The bitmap area of a function's log: its own, or else the lowest free one (log entry 97). -/
def State.areaFor (s : State) (f : Nat) : Nat :=
  match (s.fnSt f).dirty with
  | some l => l.area
  | none => (lowest? 16 fun i => (s.logAt? i).isNone).getD 0

theorem areaFor_of_dirty {f : Nat} {l : DirtyLog} (h : (s.fnSt f).dirty = some l) : s.areaFor f = l.area := by
  simp [State.areaFor, h]

theorem areaFor_of_lowest_free {f a : Nat} (hnone : (s.fnSt f).dirty = none) (ha : a < 16) (hfree : s.logAt? a = none)
    (hlow : ∀ i, i < a → s.logAt? i ≠ none) : s.areaFor f = a := by
  have hlowest : lowest? 16 (fun i => (s.logAt? i).isNone) = some a :=
    lowest?_eq_some ha (by simp [hfree]) fun i hi =>
      Option.isNone_eq_false_iff.mpr (Option.isSome_iff_ne_none.mpr (hlow i hi))
  simp [State.areaFor, hnone, hlowest]

theorem exec_dirtyLogStart (h : s.RunsAdmin k 0x0520 sl) (hlength : sl.entry.inLength = 0) (hp : sl.entry.StartsLog) :
    exec (.dirtyLogStart k) s = .next (
      if !s.mayLog sl.entry.function || ((s.fnSt sl.entry.function).dirty.isNone && decide (16 ≤ s.logs)) then
        s.succeed k [9, 0, 0, 0]
      else (s.setFn sl.entry.function { s.fnSt sl.entry.function with
        dirty := some (sl.entry.newLog (s.areaFor sl.entry.function)) }).succeed k [0, 0, 0, 0]) :=
  congrArg _ (h.admin_eq (by simp [noLength, hlength])
    (by simp [hp.function_lt, hp.zero, hp.aligned, hp.pages_pos, hp.pages_le]) _)

theorem dirtyLogStart_refused (h : s.RunsAdmin k 0x0520 sl) (hlength : sl.entry.inLength = 0)
    (hp : sl.entry.StartsLog)
    (hbad : s.mayLog sl.entry.function = false ∨ ((s.fnSt sl.entry.function).dirty = none ∧ 16 ≤ s.logs)) :
    exec (.dirtyLogStart k) s = .next (s.succeed k [9, 0, 0, 0]) := by
  rw [exec_dirtyLogStart h hlength hp, if_pos (by simpa using hbad)]

/-- A DIRTY_LOG_START begins the log where the record carries DIRTY_LOG and either the function has a log or fewer than 16
are active. -/
theorem dirtyLogStart_begins (h : s.RunsAdmin k 0x0520 sl) (hlength : sl.entry.inLength = 0) (hp : sl.entry.StartsLog)
    (hmay : s.mayLog sl.entry.function = true)
    (hroom : (s.fnSt sl.entry.function).dirty ≠ none ∨ s.logs < 16) :
    exec (.dirtyLogStart k) s = .next ((s.setFn sl.entry.function { s.fnSt sl.entry.function with
      dirty := some (sl.entry.newLog (s.areaFor sl.entry.function)) }).succeed k [0, 0, 0, 0]) := by
  have hnotFull (hnone : (s.fnSt sl.entry.function).dirty = none) : s.logs < 16 := hroom.resolve_left (absurd hnone)
  rw [exec_dirtyLogStart h hlength hp, if_neg (by simpa [hmay] using hnotFull)]

theorem exec_dirtyLogHarvest (h : s.RunsAdmin k 0x0521 sl) (hlength : sl.entry.inLength = 0)
    (hf : sl.entry.function < 2048) (hzero : paramZero sl.entry [0, 1, 4, 5, 6, 7] = true)
    (haligned : leField sl.entry.param 4 4 % 64 = 0) :
    exec (.dirtyLogHarvest k) s = .next (
      match (s.fnSt sl.entry.function).dirty with
      | none => s.failCmd k 0x0106
      | some l =>
        if l.length ≤ leField sl.entry.param 4 4 then s.failCmd k 0x0106 else
        let n := min sl.entry.outLength (l.length - leField sl.entry.param 4 4)
        (s.setFn sl.entry.function { s.fnSt sl.entry.function with
          dirty := some (l.cleared (leField sl.entry.param 4 4) n) }).succeed k
            (l.copied (leField sl.entry.param 4 4) n)) :=
  congrArg _ (h.admin_eq (by simp [noLength, hlength]) (by simp [hf, hzero, haligned]) _)

theorem exec_dirtyLogStop (h : s.RunsAdmin k 0x0522 sl) (hlength : sl.entry.inLength = 0)
    (hf : sl.entry.function < 2048) (hzero : paramZero sl.entry [0, 1] = true) :
    exec (.dirtyLogStop k) s = .next (
      if !s.mayLog sl.entry.function then s.succeed k [9, 0, 0, 0]
      else (s.setFn sl.entry.function { s.fnSt sl.entry.function with dirty := none }).succeed k [0, 0, 0, 0]) :=
  congrArg _ (h.admin_eq (by simp [noLength, hlength]) (by simp [hf, hzero]) _)

end commands

/-! ## The statement -/

/-- Settles O28: the three commands by the outcome of their checks. The bitmap area of a new log is the lowest free one by
the model's choice (log entry 97), and an active log begins again in its own (log entry 51). -/
theorem dirtyPageLogs : Obligations.DirtyPageLogs := by
  intro k sl s hlength hf f v
  refine ⟨fun h hzero haligned hpos hle => ?start, fun h hzero haligned => ?harvest, fun h hzero => ?stop⟩
  case start =>
    have hp : sl.entry.StartsLog := ⟨hf, hzero, haligned, hpos, hle⟩
    refine ⟨fun l hmay hdirty => ?own, fun a hmay hnone hroom ha hfree hlow => ?lowest,
      dirtyLogStart_refused h hlength hp⟩
    case own =>
      have hlog : v.dirty ≠ none := Option.ne_none_iff_exists'.mpr ⟨l, hdirty⟩
      rw [dirtyLogStart_begins h hlength hp hmay (.inl hlog), areaFor_of_dirty hdirty]
      rfl
    case lowest =>
      rw [dirtyLogStart_begins h hlength hp hmay (.inr hroom), areaFor_of_lowest_free hnone ha hfree hlow]
      rfl
  case harvest =>
    have hexec := exec_dirtyLogHarvest h hlength hf hzero haligned
    refine ⟨fun hnone => ?noLog, fun l hdirty hpast => ?pastEnd, fun l hdirty hin => ?copies⟩
    case noLog => rw [hexec, hnone]
    case pastEnd =>
      rw [hexec, hdirty]
      exact congrArg _ (if_pos hpast)
    case copies =>
      rw [hexec, hdirty]
      refine ⟨_, _, congrArg _ (if_neg (by omega)), l.length_copied _ _, fun i hi => ?_, fun i hi => ?_,
        rfl, rfl, rfl⟩
      · rw [l.length_copied] at hi
        exact ⟨l.getElem?_copied _ hi, l.tget?_cleared_copied _ hi⟩
      · rw [l.length_copied] at hi
        exact l.tget?_cleared_rest hi
  case stop =>
    have hexec := exec_dirtyLogStop h hlength hf hzero
    exact ⟨fun hmay => by rw [hexec, hmay]; rfl, fun hmay => by rw [hexec, hmay]; rfl⟩

end Sys2Proof.Machine
end

section
/-! PROOFS. Health periods, calibration slots, cells, and the supplies of the Torpor domain (R535, R543, R544, R553 to R559,
R562). -/

namespace Sys2Proof.Machine

/-! ## Tables of which several entries are changed in turn -/

theorem tget?_eq_none_iff {α : Type} {t : Tbl α} {n : Nat} : tget? t n = none ↔ n ∉ t.map Prod.fst := by
  induction t with
  | nil => simp [tget?]
  | cons e t ih =>
    obtain ⟨k, v⟩ := e
    by_cases hk : k = n
    · simp [tget?, hk]
    · simpa [tget?, hk, Ne.symm hk] using ih

section updates

variable {α β : Type} (key : β → Nat) (d : α) (f : β → α → α) {l : List β}

theorem tget?_foldl_tupd_ne {n : Nat} (hn : n ∉ l.map key) (t : Tbl α) :
    tget? (l.foldl (fun t e => tupd t (key e) d (f e)) t) n = tget? t n := by
  induction l generalizing t with
  | nil => rfl
  | cons e l ih =>
    obtain ⟨hne, hn⟩ := not_or.mp (mt List.mem_cons.mpr hn)
    rw [List.foldl_cons, ih hn, tupd, tget?_tset_ne _ _ _ _ hne]

/-- Entries that are changed one after another, each once: every one is changed from what it was before all of them. -/
theorem tget_foldl_tupd_of_mem (hnodup : (l.map key).Nodup) {e : β} (he : e ∈ l) (t : Tbl α) :
    tget (l.foldl (fun t e => tupd t (key e) d (f e)) t) (key e) d = f e (tget t (key e) d) := by
  induction l generalizing t with
  | nil => cases he
  | cons x l ih =>
    obtain ⟨hx, hnodup⟩ := List.nodup_cons.mp hnodup
    rw [List.foldl_cons]
    rcases List.mem_cons.mp he with rfl | he
    · rw [tget, tget?_foldl_tupd_ne key d f hx, tupd, tget?_tset_self, Option.getD_some]
    · have hne : key e ≠ key x := fun h => hx (h ▸ List.mem_map_of_mem he)
      rw [ih hnodup he, tupd, tget_tset_ne _ _ _ _ _ hne]

end updates

/-! ## Health periods -/

/-- What the end of a period makes of a site's tally (R535). -/
def SiteHealth.endPeriod (v : SiteHealth) : SiteHealth :=
  { lonePeriods := if v.photodiode = v.canary then 0 else v.lonePeriods + 1,
    degraded := v.degraded || (v.photodiode != v.canary && decide (4 ≤ v.lonePeriods + 1)) }

theorem SiteHealth.endPeriod_eq (v : SiteHealth) : v.endPeriod =
    { lonePeriods := if v.photodiode != v.canary then v.lonePeriods + 1 else 0,
      degraded := v.degraded ||
        (decide (4 ≤ if v.photodiode != v.canary then v.lonePeriods + 1 else 0) && !v.degraded) } := by
  by_cases h : v.photodiode = v.canary <;> cases hd : v.degraded <;> simp [SiteHealth.endPeriod, h, hd]

/-- The end of a period at a site replaces its tally, and raises at most one event. -/
theorem endHealthPeriod_eq (n : Nat) (s : State) : s.endHealthPeriod n = s.setSite n (s.site n).endPeriod ∨
    ∃ payload, s.endHealthPeriod n = (s.setSite n (s.site n).endPeriod).raise 0xE1 payload := by
  rw [SiteHealth.endPeriod_eq]
  by_cases h : (decide (4 ≤ if (s.site n).photodiode != (s.site n).canary then (s.site n).lonePeriods + 1 else 0) &&
      !(s.site n).degraded) = true
  · exact .inr ⟨_, if_pos h⟩
  · exact .inl (if_neg h)

theorem tamper_endHealthPeriod (n : Nat) (s : State) : (s.endHealthPeriod n).tamper =
    { s.tamper with sites := tupd s.tamper.sites n {} SiteHealth.endPeriod } := by
  obtain h | ⟨payload, h⟩ := endHealthPeriod_eq n s <;> rw [h] <;> rfl

theorem host_endHealthPeriod (n : Nat) (s : State) : (s.endHealthPeriod n).host = s.host := by
  obtain h | ⟨payload, h⟩ := endHealthPeriod_eq n s <;> rw [h] <;> rfl

theorem tamper_foldl_endHealthPeriod (l : List Nat) (s : State) :
    (l.foldl (fun s n => s.endHealthPeriod n) s).tamper =
      { s.tamper with sites := l.foldl (fun t n => tupd t n {} SiteHealth.endPeriod) s.tamper.sites } := by
  induction l generalizing s with
  | nil => rfl
  | cons n l ih => rw [List.foldl_cons, ih, tamper_endHealthPeriod]; rfl

/-- The end of a period at every site that has a tally. -/
def State.endHealthPeriods (s : State) : State :=
  (s.tamper.sites.map Prod.fst).foldl (fun s n => s.endHealthPeriod n) s

theorem host_endHealthPeriods (s : State) : s.endHealthPeriods.host = s.host :=
  foldl_host _ (fun s n => host_endHealthPeriod n s) _ _

theorem monitors_endHealthPeriods (s : State) : s.endHealthPeriods.tamper.monitors = s.tamper.monitors := by
  rw [State.endHealthPeriods, tamper_foldl_endHealthPeriod]

theorem endHealthPeriods_unlisted {s : State} {n : Nat} (h : tget? s.tamper.sites n = none) :
    tget? s.endHealthPeriods.tamper.sites n = none := by
  have hn : n ∉ (s.tamper.sites.map Prod.fst).map id := by simpa using tget?_eq_none_iff.mp h
  rw [State.endHealthPeriods, tamper_foldl_endHealthPeriod]
  exact (tget?_foldl_tupd_ne id _ _ hn _).trans h

theorem site_endHealthPeriods {s : State} (hnodup : (s.tamper.sites.map Prod.fst).Nodup) {n : Nat} {v : SiteHealth}
    (h : tget? s.tamper.sites n = some v) : s.endHealthPeriods.site n = v.endPeriod := by
  have hmem : n ∈ s.tamper.sites.map Prod.fst := not_not.mp fun hn => by simp [tget?_eq_none_iff.mpr hn] at h
  have hsite : tget s.tamper.sites n {} = v := by rw [tget, h]; rfl
  rw [State.site, State.endHealthPeriods, tamper_foldl_endHealthPeriod, ← hsite]
  exact tget_foldl_tupd_of_mem id _ _ (by simpa using hnodup) hmem _

theorem exec_healthPeriodEnd_idle {s : State} (h : s.monRuns 0 = false) : exec .healthPeriodEnd s = .next s :=
  congrArg _ (if_pos (by simp [h]))

theorem exec_healthPeriodEnd_runs {s : State} (h : s.monRuns 0 = true) : exec .healthPeriodEnd s =
    .next s.endHealthPeriods :=
  congrArg _ (if_neg (by simp [h]))

/-! ## Calibration slots -/

/-- What a calibration slot leaves of a monitor (R543, R544). -/
def Monitor.calibrate (c : Calibration) (v : Monitor) : Monitor := { v with queued := false, cal := some c }

theorem nodup_calibrated : calibrated.Nodup :=
  List.nodup_range.append (by decide) fun m hm hm' => by
    have hlt := List.mem_range.mp hm
    simp only [List.mem_cons, List.not_mem_nil, or_false] at hm'
    omega

/-- The monitors that a calibration slot takes (R543). -/
def State.slotMonitors (s : State) : List Nat := (calibrated.filter fun m => (s.monitor m).queued).take 16

theorem State.nodup_slotMonitors (s : State) : s.slotMonitors.Nodup :=
  (nodup_calibrated.filter _).sublist (List.take_sublist ..)

/-- The monitors after a calibration slot with the values measured. -/
def State.calibratedMonitors (s : State) (xs : List Int) : Tbl Monitor :=
  (s.slotMonitors.zip xs).foldl (fun t e => tupd t e.1 {} (Monitor.calibrate
    { temp := s.tamper.highest, load := s.load, value := e.2 })) s.tamper.monitors

theorem exec_calibrationSlot_idle {s : State} (h : s.monRuns 0 = false) (xs : List Int) :
    exec (.calibrationSlot xs) s = .next s :=
  congrArg _ (if_pos (by simp [h]))

theorem exec_calibrationSlot_runs {s : State} (h : s.monRuns 0 = true) (xs : List Int) :
    exec (.calibrationSlot xs) s = .next { s with tamper.monitors := s.calibratedMonitors xs } :=
  congrArg _ ((if_neg (by simp [h])).trans
    (List.foldl_hom (fun t : Tbl Monitor => { s with tamper.monitors := t }) fun _ _ => rfl))

theorem nodup_zip_fst {l : List Nat} (h : l.Nodup) (xs : List Int) : ((l.zip xs).map Prod.fst).Nodup := by
  rw [List.zip_eq_zip_take_min, List.map_fst_zip (by simp)]
  exact h.sublist (List.take_sublist ..)

theorem monitor_calibrated {s : State} {xs : List Int} {i m : Nat} {x : Int} (hm : s.slotMonitors[i]? = some m)
    (hx : xs[i]? = some x) : tget (s.calibratedMonitors xs) m {} =
      { s.monitor m with queued := false, cal := some { temp := s.tamper.highest, load := s.load, value := x } } := by
  have hmem : (m, x) ∈ s.slotMonitors.zip xs :=
    List.mem_of_getElem? (i := i) (List.getElem?_zip_eq_some.mpr ⟨hm, hx⟩)
  exact tget_foldl_tupd_of_mem Prod.fst _ _ (nodup_zip_fst s.nodup_slotMonitors xs) hmem _

theorem monitor_not_calibrated {s : State} {xs : List Int} {m : Nat}
    (h : ∀ i, i < xs.length → s.slotMonitors[i]? ≠ some m) : tget (s.calibratedMonitors xs) m {} = s.monitor m := by
  have hm : m ∉ (s.slotMonitors.zip xs).map Prod.fst := by
    intro hm
    obtain ⟨⟨_, x⟩, he, rfl⟩ := List.mem_map.mp hm
    obtain ⟨i, hi⟩ := List.mem_iff_getElem?.mp he
    obtain ⟨hmi, hxi⟩ := List.getElem?_zip_eq_some.mp hi
    exact h i (List.getElem?_eq_some_iff.mp hxi).1 hmi
  exact congrArg (Option.getD · ({} : Monitor)) (tget?_foldl_tupd_ne Prod.fst ({} : Monitor) _ hm _)

/-! ## Cells -/

@[simp] theorem cell_cellChange (c kind c' : Nat) (s : State) : (s.cellChange c kind).cell c' = s.cell c' := by
  unfold State.cellChange
  split <;> rfl

@[simp] theorem host_cellChange (c kind : Nat) (s : State) : (s.cellChange c kind).host = s.host := by
  unfold State.cellChange
  split <;> rfl

/-- The service that is charged to a cell (R559) changes its ticks alone. -/
theorem exists_cell_settleService (s : State) (c : Nat) :
    ∃ n, s.settleService.cell c = { s.cell c with ticks := n } := by
  unfold State.settleService
  split
  next c' _ _ =>
    by_cases hc : c = c'
    · subst hc
      exact ⟨_, cell_setCell_self ..⟩
    · exact ⟨_, cell_setCell_ne _ _ hc⟩
  next => exact ⟨_, rfl⟩

@[simp] theorem present_settleService (s : State) (c : Nat) : (s.settleService.cell c).present = (s.cell c).present := by
  obtain ⟨n, hn⟩ := exists_cell_settleService s c
  rw [hn]

@[simp] theorem identity_settleService (s : State) (c : Nat) :
    (s.settleService.cell c).identity = (s.cell c).identity := by
  obtain ⟨n, hn⟩ := exists_cell_settleService s c
  rw [hn]

@[simp] theorem logicPowered_settleService (s : State) : s.settleService.logicPowered = s.logicPowered := by
  simp [State.logicPowered]

theorem readCell_eq {c : Nat} {s : State} (h : (s.cell c).present = true) : ∃ n, s.readCell c = s.setCell c
    { s.cell c with identity := fit 16 (s.cell c).raw, ticks := n,
                    idValid := crc8 ((fit 16 (s.cell c).raw).take 15) == byteAt (fit 16 (s.cell c).raw) 15 } :=
  ⟨_, if_neg (by simp [h])⟩

theorem fit_fit (n : Nat) (b : Bytes) : fit n (fit n b) = fit n b := by
  have hlen : (fit n b).length = n := by simp [fit, zeros]; omega
  rw [fit, hlen, Nat.sub_self, List.take_of_length_le hlen.le]
  exact List.append_nil _

/-- The service is charged (R559), then one cell becomes `v`; the other cell and the host side stand. -/
structure State.CellBecomes (s t : State) (c : Nat) (v : Cell) : Prop where
  cell : t.cell c = v
  other : t.cell (1 - c) = s.settleService.cell (1 - c)
  host : t.host = s.host

section cells

variable {s t : State} {c : Nat} {v : Cell}

namespace State.CellBecomes

theorem settled (s : State) (c : Nat) : s.CellBecomes s.settleService c (s.settleService.cell c) :=
  ⟨rfl, rfl, by simp⟩

theorem setCell (h : s.CellBecomes t c v) (hc : c < 2) (v' : Cell) : s.CellBecomes (t.setCell c v') c v' :=
  ⟨cell_setCell_self .., (cell_setCell_ne _ _ (by omega)).trans h.other, h.host⟩

theorem cellChange (h : s.CellBecomes t c v) (kind : Nat) : s.CellBecomes (t.cellChange c kind) c v :=
  ⟨(cell_cellChange ..).trans h.cell, (cell_cellChange ..).trans h.other, (host_cellChange ..).trans h.host⟩

/-- The identity of a present cell is read (R558). -/
theorem readCell (h : s.CellBecomes t c v) (hc : c < 2) (hp : v.present = true) : ∃ n, s.CellBecomes (t.readCell c) c
    { v with identity := fit 16 v.raw, ticks := n,
             idValid := crc8 ((fit 16 v.raw).take 15) == byteAt (fit 16 v.raw) 15 } := by
  obtain ⟨n, hread⟩ := readCell_eq (s := t) (c := c) (by rw [h.cell, hp])
  rw [h.cell] at hread
  exact ⟨n, hread ▸ h.setCell hc _⟩

end State.CellBecomes

/-! The events of a cell that is absent, present, or not one of the two. -/

theorem exec_cellRemoved_discarded (h : 2 ≤ c ∨ (s.cell c).present = false) : exec (.cellRemoved c) s = .next s :=
  congrArg _ (if_pos (by simpa using h))

theorem exec_cellInserted_discarded (h : 2 ≤ c ∨ (s.cell c).present = true) (raw : Bytes) (volts : Nat) :
    exec (.cellInserted c raw volts) s = .next s :=
  congrArg _ (if_pos (by simpa using h))

theorem exec_cellLow_discarded {volts : Nat} (h : (2 ≤ c ∨ 260 ≤ volts) ∨ (s.cell c).present = false) :
    exec (.cellLow c volts) s = .next s :=
  congrArg _ (if_pos (by simpa using h))

theorem exec_cellRemoved_present (hc : c < 2) (h : (s.cell c).present = true) : ∃ t, exec (.cellRemoved c) s = .next t ∧
    s.CellBecomes t c { s.settleService.cell c with present := false, volts := 0, raw := [], idValid := false } :=
  ⟨_, congrArg Host.Outcome.next (if_neg (by simp [h, hc])), ((State.CellBecomes.settled s c).setCell hc _).cellChange 0⟩

theorem exec_cellLow_present {volts : Nat} (hc : c < 2) (hv : volts < 260) (h : (s.cell c).present = true) :
    ∃ t, exec (.cellLow c volts) s = .next t ∧ s.CellBecomes t c { s.settleService.cell c with volts := volts } :=
  ⟨_, congrArg Host.Outcome.next (if_neg (by simp [h, hc, hv])), (State.CellBecomes.settled s c).setCell hc _⟩

section inserted

variable (hc : c < 2) (h : (s.cell c).present = false)
include hc h

theorem exec_cellInserted_eq (raw : Bytes) (volts : Nat) : exec (.cellInserted c raw volts) s = .next (
    let t := s.settleService.setCell c
      { s.settleService.cell c with present := true, volts := volts % 1024, raw := fit 16 raw, idValid := false }
    if s.logicPowered then (t.readCell c).cellChange c 1 else t) := by
  rw [← logicPowered_settleService s]
  exact congrArg Host.Outcome.next (if_neg (by simp [h, hc]))

theorem exec_cellInserted_unpowered (hl : s.logicPowered = false) (raw : Bytes) (volts : Nat) :
    ∃ t, exec (.cellInserted c raw volts) s = .next t ∧ s.CellBecomes t c
      { s.settleService.cell c with present := true, volts := volts % 1024, raw := fit 16 raw, idValid := false } :=
  ⟨_, (exec_cellInserted_eq hc h raw volts).trans (congrArg _ (if_neg (by simp [hl]))),
    (State.CellBecomes.settled s c).setCell hc _⟩

/-- With the logic side powered the identity is read, and the charge count may start again (R558, R559). -/
theorem exec_cellInserted_powered (hl : s.logicPowered = true) (raw : Bytes) (volts : Nat) :
    ∃ t n, exec (.cellInserted c raw volts) s = .next t ∧ s.CellBecomes t c
      { present := true, volts := volts % 1024, raw := fit 16 raw, identity := fit 16 raw, ticks := n,
        idValid := crc8 ((fit 16 raw).take 15) == byteAt (fit 16 raw) 15 } := by
  obtain ⟨n, hn⟩ := ((State.CellBecomes.settled s c).setCell hc
    { s.settleService.cell c with present := true, volts := volts % 1024, raw := fit 16 raw, idValid := false }).readCell
      hc rfl
  rw [fit_fit] at hn
  exact ⟨_, n, (exec_cellInserted_eq hc h raw volts).trans (congrArg _ (if_pos hl)), hn.cellChange 1⟩

end inserted

end cells

/-! ## Supplies -/

theorem exec_torporPowerOn_supplied {s : State} (hon : s.tamper.torporPowered = true)
    (h : s.logicPowered = true ∨ s.servingCell? ≠ none) : exec .torporPowerOn s = .next s :=
  congrArg Host.Outcome.next (if_pos (by simpa [hon, Option.isSome_iff_ne_none] using h))

/-- The domain had no supply: it never had one, or neither the logic side nor a cell serves (R555). -/
theorem not_supplied {s : State}
    (h : s.tamper.torporPowered = false ∨ (s.logicPowered = false ∧ s.servingCell? = none)) :
    ¬ (s.tamper.torporPowered && (s.logicPowered || s.servingCell?.isSome)) = true := by
  obtain hoff | ⟨hl, hcell⟩ := h
  · simp [hoff]
  · simp [hl, hcell]

/-- The fall of POWER_GOOD clears the host side and the boot phase, and leaves the Torpor domain on its supply. -/
theorem powerDown_discards (s : State) : s.powerDown.host = {} ∧ s.powerDown.boot.phase = .off ∧
    s.powerDown.power.powerGood = false ∧ s.powerDown.tamper.onLogicSide = s.tamper.onLogicSide := by
  simp [State.powerDown, State.restart, PowerState.kept, TamperState.kept]

section changeover

variable {s : State}

theorem exec_torporChangeover_off (h : s.power.powerGood = false) : exec (.torporChangeover true) s = .next s :=
  congrArg Host.Outcome.next (if_pos (by simp [h]))

/-- A changeover after which the logic side stays as it was. -/
theorem exec_torporChangeover_kept {good : Bool} (h : s.power.powerGood = good) : exec (.torporChangeover good) s =
    .next { s.settleService with tamper.onLogicSide := good } :=
  congrArg Host.Outcome.next ((if_neg (by simp [h])).trans (if_pos (by cases good <;> simp [h])))

theorem exec_torporChangeover_lost (h : s.power.powerGood = true) : exec (.torporChangeover false) s =
    .next (State.powerDown { s.settleService with tamper.onLogicSide := false }) :=
  congrArg Host.Outcome.next ((if_neg (by simp)).trans (if_neg (by simp [h])))

end changeover

/-! ## The statement -/

/-- Settles O50, a case for each clause. By the model's choices a cell's identity is read only with the logic side powered
and a site's tally goes by the events that its designs yielded (log entry 68), and a loss of supply raises no event of
its own: the next boot records what the latch holds (log entry 69). -/
theorem torporAndCells : Obligations.TorporAndCells := by
  refine ⟨fun s => ⟨fun h => ?idle, fun h hnodup => ?period, fun h xs => ?slot⟩,
    fun c raw v s => ⟨fun hc => ?noCell, fun hc hp => ?present, fun hc hp => ?absent⟩,
    fun s => ⟨exec_torporPowerOn_supplied, fun h => ?powerOn⟩, fun s => ⟨fun h => ⟨?good, ?falls⟩, fun h => ?off⟩⟩
  case idle => exact ⟨exec_healthPeriodEnd_idle h, exec_calibrationSlot_idle h⟩
  case period =>
    exact ⟨_, exec_healthPeriodEnd_runs h, monitors_endHealthPeriods s, host_endHealthPeriods s,
      fun n => endHealthPeriods_unlisted, fun n v => site_endHealthPeriods hnodup⟩
  case slot =>
    exact ⟨_, exec_calibrationSlot_runs h xs, rfl, fun i m x => monitor_calibrated, fun m => monitor_not_calibrated⟩
  case noCell =>
    exact ⟨exec_cellRemoved_discarded (.inl hc), exec_cellInserted_discarded (.inl hc) raw v,
      exec_cellLow_discarded (.inl (.inl hc))⟩
  case present =>
    refine ⟨exec_cellInserted_discarded (.inr hp) raw v, fun hv => exec_cellLow_discarded (.inl (.inr hv)), ?_,
      fun hv => ?_⟩
    · obtain ⟨t, hexec, hcell, hother, hhost⟩ := exec_cellRemoved_present hc hp
      exact ⟨t, hexec, by rw [hcell], by rw [hcell], by rw [hcell], hother, hhost⟩
    · obtain ⟨t, hexec, hcell, hother, hhost⟩ := exec_cellLow_present hc hv hp
      exact ⟨t, hexec, by rw [hcell], by simp [hcell, hp], hother, hhost⟩
  case absent =>
    refine ⟨exec_cellRemoved_discarded (.inr hp), exec_cellLow_discarded (.inr hp), fun hv => ?_⟩
    have hvolts : v % 1024 = v := Nat.mod_eq_of_lt hv
    cases hl : s.logicPowered with
    | true =>
      obtain ⟨t, n, hexec, hcell, hother, hhost⟩ := exec_cellInserted_powered hc hp hl raw v
      exact ⟨t, hexec, by rw [hcell], by rw [hcell, hvolts], hother, hhost,
        fun _ => ⟨by rw [hcell], by rw [hcell]⟩, nofun⟩
    | false =>
      obtain ⟨t, hexec, hcell, hother, hhost⟩ := exec_cellInserted_unpowered hc hp hl raw v
      exact ⟨t, hexec, by rw [hcell], by rw [hcell, hvolts], hother, hhost, nofun,
        fun _ => ⟨by simp [hcell], by rw [hcell]⟩⟩
  case powerOn =>
    exact ⟨_, congrArg Host.Outcome.next (if_neg (not_supplied h)), rfl, rfl, rfl, rfl, rfl, rfl, rfl, rfl, rfl⟩
  case good => exact ⟨_, exec_torporChangeover_kept h, rfl, by simp, by simp⟩
  case falls =>
    obtain ⟨hhost, hphase, hgood, hside⟩ := powerDown_discards { s.settleService with tamper.onLogicSide := false }
    exact ⟨_, exec_torporChangeover_lost h, hside, hphase, hhost, hgood⟩
  case off => exact ⟨exec_torporChangeover_off h, _, exec_torporChangeover_kept h, rfl, by simp⟩

end Sys2Proof.Machine
end

section
/-! PROOFS. The Woodpecker units: the parameters, START, the data writes and the alive counters (R591 to R599, Tables 17-1
and 17-7). -/

namespace Sys2Proof.Machine

/-! ## What a change of one unit leaves as it was -/

/-- Unit n becomes `u`; the other units, the burrow queues and the memories stand. -/
def State.CrcBecomes (s : State) (n : Nat) (u : CrcUnit) (t : State) : Prop :=
  t.crcUnit n = u ∧ (∀ m, m ≠ n → t.crcUnit m = s.crcUnit m) ∧ t.check.queues = s.check.queues ∧ t.mem = s.mem

section units

variable {s t : State} {n : Nat} {u : CrcUnit}

theorem crcBecomes_setCrc (s : State) (n : Nat) (u : CrcUnit) : s.CrcBecomes n u (s.setCrc n u) :=
  ⟨crcUnit_setCrc_self .., fun _ hm => crcUnit_setCrc_ne _ _ hm, rfl, rfl⟩

theorem State.CrcBecomes.of_keeps {t' : State} (h : s.CrcBecomes n u t) (hcheck : t'.check = t.check)
    (hmem : t'.mem = t.mem) : s.CrcBecomes n u t' := by
  obtain ⟨hunit, hother, hqueues, hmem'⟩ := h
  exact ⟨by rw [State.crcUnit, hcheck, ← hunit]; rfl, fun m hm => by rw [State.crcUnit, hcheck, ← hother m hm]; rfl,
    by rw [hcheck, hqueues], hmem.trans hmem'⟩

theorem State.CrcBecomes.saturated (h : s.CrcBecomes n u t) (hit : Bool) (base off : Nat) :
    s.CrcBecomes n u (t.saturated hit base off) :=
  h.of_keeps (by simp) (by simp)

theorem State.CrcBecomes.reload (h : s.CrcBecomes n u t) (f off : Nat) : s.CrcBecomes n u (t.reload f off) :=
  h.of_keeps rfl rfl

/-! ## A unit that is not shown takes nothing -/

theorem exec_crcParameterWrite_discarded {reg : Nat} (h : s.crcShown n = false ∨ 3 ≤ reg) (x : Word) :
    exec (.crcParameterWrite n reg x) s = .next s :=
  congrArg Host.Outcome.next (if_pos (by simpa using h))

theorem crcFeed_not_shown (h : s.crcShown n = false) (b : Bytes) : s.crcFeed n b = s :=
  if_pos (by simp [h])

theorem exec_crc_not_shown (h : s.crcShown n = false) (w : Reg) : ∀ c ∈ [Instr.crcStart n, .crcConfigWrite n w,
    .crcDataB n w, .crcDataH n w, .crcDataW n w, .crcAliveRestart n, .crcAlive n w], exec c s = .next s := by
  have hnot : (!s.crcShown n) = true := by simp [h]
  simp only [List.forall_mem_cons]
  refine ⟨?start, ?config, ?byte, ?half, ?word, ?restart, ?alive, List.forall_mem_nil _⟩
  case start => exact congrArg Host.Outcome.next (if_neg (by simp [h]))
  case byte | half | word => exact congrArg Host.Outcome.next (crcFeed_not_shown h _)
  case config | restart | alive => exact congrArg Host.Outcome.next (if_pos hnot)

/-! ## What a unit that is shown becomes -/

variable (h : s.crcShown n = true)
include h

theorem not_crcShown_eq_true : ¬ (!s.crcShown n) = true := by simp [h]

theorem exec_crcStart_shown : ∃ t, exec (.crcStart n) s = .next t ∧ s.CrcBecomes n (s.crcUnit n).start t :=
  ⟨_, congrArg Host.Outcome.next (if_pos h), crcBecomes_setCrc ..⟩

/-- A preset reloads the three parameter registers, which are wide. -/
theorem exec_crcConfigWrite_preset {w : Reg} {p : CrcParams} (hp : crcPreset? (bits w.toNat 2 0) = some p) :
    ∃ t, exec (.crcConfigWrite n w) s = .next t ∧
      s.CrcBecomes n { s.crcUnit n with preset := bits w.toNat 2 0, params := p } t := by
  refine ⟨_, congrArg Host.Outcome.next (if_neg (not_crcShown_eq_true h)), ?_⟩
  simp only [hp]
  exact (((crcBecomes_setCrc ..).reload ..).reload ..).reload ..

theorem exec_crcConfigWrite_custom {w : Reg} (hp : crcPreset? (bits w.toNat 2 0) = none) :
    ∃ t, exec (.crcConfigWrite n w) s = .next t ∧ s.CrcBecomes n { s.crcUnit n with
      preset := 0, params := { (s.crcUnit n).params with
        width := max 8 (min 64 (bits w.toNat 14 8)), refin := bit w.toNat 16, refout := bit w.toNat 17 } } t := by
  refine ⟨_, congrArg Host.Outcome.next (if_neg (not_crcShown_eq_true h)), ?_⟩
  simp only [hp]
  exact crcBecomes_setCrc ..

theorem exec_crcParameterWrite_shown {reg : Nat} (hreg : reg < 3) (x : Word) :
    ∃ t, exec (.crcParameterWrite n reg x) s = .next t ∧ s.CrcBecomes n { s.crcUnit n with
      preset := 0, params := (
        if reg = 0 then { (s.crcUnit n).params with poly := x }
        else if reg = 1 then { (s.crcUnit n).params with init := x }
        else { (s.crcUnit n).params with xorout := x }) } t :=
  ⟨_, congrArg Host.Outcome.next (if_neg (by simp [h, hreg])), (crcBecomes_setCrc ..).reload ..⟩

/-- The bytes enter in their order under the latched parameters, and are counted (R595). -/
theorem crcFeed_shown (b : Bytes) : s.CrcBecomes n { s.crcUnit n with
    reg := b.foldl (crcByte (s.crcUnit n).latched) (s.crcUnit n).reg,
    bytes := (SatCount.add count31 b.length (s.crcUnit n).bytes).1 } (s.crcFeed n b) := by
  rw [State.crcFeed, if_neg (not_crcShown_eq_true h)]
  exact (crcBecomes_setCrc ..).saturated ..

theorem exec_crcAliveRestart_shown : ∃ t, exec (.crcAliveRestart n) s = .next t ∧
    s.CrcBecomes n { s.crcUnit n with aliveStarted := false, aliveLast := 0 } t :=
  ⟨_, congrArg Host.Outcome.next (if_neg (not_crcShown_eq_true h)), crcBecomes_setCrc ..⟩

/-! The alive counter: a value received, by its distance from the value before (R599). -/

theorem exec_crcAlive_first (hfirst : (s.crcUnit n).aliveStarted = false) (w : Reg) :
    ∃ t, exec (.crcAlive n w) s = .next t ∧
      s.CrcBecomes n { s.crcUnit n with aliveStarted := true, aliveLast := w.setWidth 4 } t :=
  ⟨_, congrArg Host.Outcome.next ((if_neg (not_crcShown_eq_true h)).trans (if_pos (by simp [hfirst]))),
    crcBecomes_setCrc ..⟩

section started

variable (hstarted : (s.crcUnit n).aliveStarted = true) {w : Reg}
include hstarted

theorem exec_crcAlive_follows (hd : (w.setWidth 4 - (s.crcUnit n).aliveLast).toNat = 1) :
    ∃ t, exec (.crcAlive n w) s = .next t ∧ s.CrcBecomes n { s.crcUnit n with aliveLast := w.setWidth 4 } t :=
  ⟨_, congrArg Host.Outcome.next ((if_neg (not_crcShown_eq_true h)).trans ((if_neg (by simp [hstarted])).trans
    (if_pos hd))), crcBecomes_setCrc ..⟩

theorem exec_crcAlive_repeats (hd : (w.setWidth 4 - (s.crcUnit n).aliveLast).toNat = 0) :
    ∃ t, exec (.crcAlive n w) s = .next t ∧ s.CrcBecomes n { s.crcUnit n with
      aliveRepeat := true, repeats := (SatCount.add 0x7FFF 1 (s.crcUnit n).repeats).1 } t := by
  have hsame : w.setWidth 4 = (s.crcUnit n).aliveLast := by bv_omega
  refine ⟨_, congrArg Host.Outcome.next ((if_neg (not_crcShown_eq_true h)).trans ((if_neg (by simp [hstarted])).trans
    ((if_neg (by simp [hd])).trans (if_pos hd)))), ?_⟩
  simpa only [BitVec.truncate_eq_setWidth, hsame] using (crcBecomes_setCrc ..).saturated ..

theorem exec_crcAlive_skips (hd : 2 ≤ (w.setWidth 4 - (s.crcUnit n).aliveLast).toNat) :
    ∃ t, exec (.crcAlive n w) s = .next t ∧ s.CrcBecomes n { s.crcUnit n with
      aliveLast := w.setWidth 4, aliveSkip := true,
      skipped := (SatCount.add 0x7FFF ((w.setWidth 4 - (s.crcUnit n).aliveLast).toNat - 1) (s.crcUnit n).skipped).1 } t :=
  ⟨_, congrArg Host.Outcome.next ((if_neg (not_crcShown_eq_true h)).trans ((if_neg (by simp [hstarted])).trans
    ((if_neg (Nat.ne_of_gt hd)).trans (if_neg (Nat.ne_of_gt (Nat.zero_lt_of_lt hd)))))),
    (crcBecomes_setCrc ..).saturated ..⟩

end started

end units

/-! ## The statement -/

/-- Settles O53, a case for each kind of access: the three parameter registers by one lemma, and the three widths of a
data write by the bytes that each feeds. -/
theorem crcUnits : Obligations.CrcUnits := by
  refine fun n w x s => ⟨fun _ h => exec_crcParameterWrite_discarded h x, fun h => exec_crc_not_shown h w, fun h =>
    ⟨exec_crcStart_shown h, fun p => exec_crcConfigWrite_preset h, exec_crcConfigWrite_custom h, ?poly, ?init, ?xorout,
      ?byte, ?half, ?word, exec_crcAliveRestart_shown h, fun hfirst => exec_crcAlive_first h hfirst w,
      fun hstarted => exec_crcAlive_follows h hstarted, fun hstarted => exec_crcAlive_repeats h hstarted,
      fun hstarted => exec_crcAlive_skips h hstarted⟩⟩
  case poly | init | xorout => exact exec_crcParameterWrite_shown h (by decide) x
  case byte | half | word => exact ⟨_, rfl, crcFeed_shown h _⟩

end Sys2Proof.Machine
end

section
/-! PROOFS. The burrow queues: writes, gaps, reads, flushes and pointer mismatches (R601 to R608, Tables 17-2, 17-4 and
17-5). -/

namespace Sys2Proof.Machine

theorem burrow_saturated (hit : Bool) (base off : Nat) (s : State) (q : Nat) :
    (s.saturated hit base off).burrow q = s.burrow q := by
  simp [State.burrow]

section writes

variable {q : Nat} {s : State}

/-! ## What the producer writes (R602, R603, R605, R606) -/

theorem exec_burrowWrite_put (hq : q < 16) (w : Word) (last : Bool) :
    exec (.burrowWrite q last.toNat w) s = .next (s.burrowPut q w last) := by
  cases last <;> exact congrArg Host.Outcome.next ((if_neg (by omega)).trans (if_neg (by decide)))

theorem exec_burrowWrite_abandons (hq : q < 16) (w : Word) : exec (.burrowWrite q 2 w) s =
    .next (s.setBurrow q { s.burrow q with partialWords := [], discarding := false }) :=
  congrArg Host.Outcome.next ((if_neg (by omega)).trans (if_pos rfl))

theorem burrowPut_dropped (h : (s.burrow q).discarding = true ∨ (s.burrow q).flushedAt = some s.now) (w : Word)
    (last : Bool) : s.burrowPut q w last =
      s.setBurrow q { s.burrow q with partialWords := [], discarding := !last } :=
  if_pos h

section taken

variable (h : ¬ ((s.burrow q).discarding = true ∨ (s.burrow q).flushedAt = some s.now))
include h

theorem burrowPut_room (hroom : 2 ≤ (s.burrow q).free q) (w : Word) (last : Bool) : s.burrowPut q w last =
    s.setBurrow q (if last then { s.burrow q with
        words := (s.burrow q).words ++ packetWords (s.now + unitsPerFabricCycle) ((s.burrow q).partialWords ++ [w]),
        partialWords := [] }
      else { s.burrow q with partialWords := (s.burrow q).partialWords ++ [w] }) :=
  (if_neg h).trans (if_pos hroom)

theorem burrowPut_waits (hfull : (s.burrow q).free q < 2) (hdrops : burrowDrops q = false) (w : Word) (last : Bool) :
    s.burrowPut q w last = s :=
  (if_neg h).trans ((if_neg (Nat.not_le.2 hfull)).trans (if_neg (by simp [hdrops])))

/-- The packet that meets a full queue is dropped, marked with a GAP and counted. -/
theorem burrowPut_drops (hfull : (s.burrow q).free q < 2) (hdrops : burrowDrops q = true) (w : Word) (last : Bool) :
    (s.burrowPut q w last).burrow q = { s.burrow q with
        partialWords := [], words := placeGap (s.now + unitsPerFabricCycle) (s.burrow q).words, discarding := !last } ∧
      (s.burrowPut q w last).check.drops = (SatCount.add count31 1 s.check.drops).1 ∧
      ∀ p, p ≠ q → (s.burrowPut q w last).burrow p = s.burrow p := by
  have hput : s.burrowPut q w last = _ :=
    (if_neg h).trans ((if_neg (Nat.not_le.2 hfull)).trans (if_pos hdrops))
  rw [hput]
  exact ⟨(burrow_saturated ..).trans (burrow_setBurrow_self _ _ s), by simp,
    fun _ hp => (burrow_saturated ..).trans (burrow_setBurrow_ne _ s hp)⟩

end taken

end writes

section reads

variable {q : Nat} {s : State} (hq : q < 16)
include hq

/-! ## What the consumer reads (R601, R602, R604, Table 17-4) -/

theorem exec_burrowRead_cut (hcut : (s.burrow q).cutDue = true) : exec (.burrowRead q) s = .next (State.onLoss q
    ((s.setBurrow q { s.burrow q with cutDue := false, midPacket := false }).emit (.burrow q 6 0))) :=
  congrArg Host.Outcome.next ((if_neg (by omega)).trans (if_pos hcut))

section uncut

variable (hcut : (s.burrow q).cutDue = false)
include hcut

theorem exec_burrowRead_empty (hwords : (s.burrow q).words = []) :
    exec (.burrowRead q) s = .next (s.emit (.burrow q 0 0)) := by
  refine congrArg Host.Outcome.next ((if_neg (by omega)).trans ((if_neg (by simp [hcut])).trans ?_))
  simp only [hwords]

variable {w : BurrowWord} {ws : List BurrowWord} (hwords : (s.burrow q).words = w :: ws)
include hwords

theorem exec_burrowRead_word : exec (.burrowRead q) s = .next (
    let t := (s.setBurrow q { s.burrow q with words := ws, midPacket := w.tag == tagData }).emit
      (.burrow q w.tag.toNat w.data)
    if w.visibleAt ≤ s.now then if w.tag = tagGap then t.onLoss q else t
    else if w.tag = tagGap ∧ 1 < w.data.toNat then State.onLoss q
      ((s.setBurrow q { s.burrow q with words := { w with data := 1 } :: ws }).emit (.burrow q 4 (w.data - 1)))
    else s.emit (.burrow q 0 0)) := by
  refine congrArg Host.Outcome.next ((if_neg (by omega)).trans ((if_neg (by simp [hcut])).trans ?_))
  simp only [hwords]

theorem exec_burrowRead_visible (hvisible : w.visibleAt ≤ s.now) :
    let t := (s.setBurrow q { s.burrow q with words := ws, midPacket := w.tag == tagData }).emit
      (.burrow q w.tag.toNat w.data)
    exec (.burrowRead q) s = .next (if w.tag = tagGap then t.onLoss q else t) :=
  (exec_burrowRead_word hq hcut hwords).trans (congrArg _ (if_pos hvisible))

theorem exec_burrowRead_unseen (hvisible : s.now < w.visibleAt) (hgap : w.tag ≠ tagGap ∨ w.data.toNat ≤ 1) :
    exec (.burrowRead q) s = .next (s.emit (.burrow q 0 0)) :=
  (exec_burrowRead_word hq hcut hwords).trans (congrArg _ ((if_neg (Nat.not_le.2 hvisible)).trans
    (if_neg fun ⟨htag, hcount⟩ => hgap.elim (· htag) (Nat.not_le.2 hcount))))

/-- A GAP whose count rose in this cycle gives the count before, and its new drop stays as a GAP of 1. -/
theorem exec_burrowRead_risenGap (hvisible : s.now < w.visibleAt) (hgap : w.tag = tagGap) (hcount : 1 < w.data.toNat) :
    exec (.burrowRead q) s = .next (State.onLoss q
      ((s.setBurrow q { s.burrow q with words := { w with data := 1 } :: ws }).emit (.burrow q 4 (w.data - 1)))) :=
  (exec_burrowRead_word hq hcut hwords).trans (congrArg _ ((if_neg (Nat.not_le.2 hvisible)).trans
    (if_pos ⟨hgap, hcount⟩)))

end uncut

end reads

section resets

variable {q : Nat} {s : State}

/-! ## What a flush and a pointer mismatch leave (R607, R608) -/

/-- The queue after a flush or a reset: it is empty, and a consumer within a packet is owed a CUT. -/
theorem burrow_burrowClear_self (q : Nat) (s : State) : (s.burrowClear q).burrow q = {
    words := [], partialWords := [], discarding := (s.burrow q).discarding || !(s.burrow q).partialWords.isEmpty,
    midPacket := false, cutDue := (s.burrow q).cutDue || (s.burrow q).midPacket, flushedAt := some s.now } :=
  burrow_setBurrow_self ..

theorem burrow_burrowClear_ne {p : Nat} (hp : p ≠ q) (s : State) : (s.burrowClear q).burrow p = s.burrow p :=
  burrow_setBurrow_ne _ _ hp

theorem exec_burrowFlush (hq : q < 16) : exec (.burrowFlush q) s = .next (s.burrowClear q) :=
  congrArg Host.Outcome.next (if_neg (by omega))

/-- CRC_BURROW_FAULT after a mismatch of queue q: a fault that is held stays, but of several mismatches in one cycle the
lowest queue's is held (Table 17-4). -/
def CheckState.capture (now q : Nat) (read : Bool) (k : CheckState) : CheckState :=
  if !k.faultCaptured || (k.faultAt == now && decide (q < k.faultQueue)) then
    { k with faultCaptured := true, faultSide := read, faultQueue := q, faultAt := now }
  else k

theorem CheckState.capture_first {k : CheckState} (h : k.faultCaptured = false) (now q : Nat) (read : Bool) :
    k.capture now q read = { k with faultCaptured := true, faultSide := read, faultQueue := q, faultAt := now } :=
  if_pos (by simp [h])

theorem CheckState.capture_held {k : CheckState} {now : Nat} (h : k.faultCaptured = true) (hat : k.faultAt ≠ now)
    (q : Nat) (read : Bool) : k.capture now q read = k :=
  if_neg (by simp [h, hat])

theorem CheckState.capture_queues (k : CheckState) (now q : Nat) (read : Bool) :
    (k.capture now q read).queues = k.queues := by
  rw [CheckState.capture]; split <;> rfl

/-- A queue resets: it is cleared, and the fault is captured and counted (R608). -/
def State.burrowReset (q : Nat) (read : Bool) (s : State) : State :=
  let c := SatCount.add count31 1 s.check.resets
  ({ s.burrowClear q with check :=
      { (s.burrowClear q).check.capture s.now q read with resets := c.1 } } : State).saturated c.2 crcBase 0x1004

theorem exec_burrowPointerMismatch (hq : q < 16) (read : Bool) :
    exec (.burrowPointerMismatch q read) s = .next ((s.burrowReset q read).burrowOwner q) :=
  congrArg Host.Outcome.next (if_neg (by omega))

theorem check_burrowReset (q : Nat) (read : Bool) (s : State) : (s.burrowReset q read).check =
    { (s.burrowClear q).check.capture s.now q read with resets := (SatCount.add count31 1 s.check.resets).1 } := by
  simp [State.burrowReset]

theorem burrow_burrowReset (q : Nat) (read : Bool) (s : State) (p : Nat) :
    (s.burrowReset q read).burrow p = (s.burrowClear q).burrow p := by
  rw [State.burrow, check_burrowReset, State.burrow, CheckState.capture_queues]

theorem host_burrowReset (q : Nat) (read : Bool) (s : State) : (s.burrowReset q read).host = s.host := by
  simp [State.burrowReset]

/-- Queues 14 and 15 have no owner that acts (Table 17-5). -/
theorem burrowOwner_of_le (h : 14 ≤ q) (s : State) : s.burrowOwner q = s := by
  rw [State.burrowOwner, if_neg (by omega), if_neg (by omega), if_neg (by omega)]

end resets

/-! ## The statement -/

/-- Settles O54, a case for each clause. By the model's choices a queue's words number as many as Table 17-5 gives it
packets (log entry 73), and after a mismatch the owner ends the jobs of queues 0 to 9 with FAULT and takes the link of
queues 10 to 13 as out of synchronisation (log entry 74). -/
theorem burrowQueues : Obligations.BurrowQueues := by
  refine ⟨fun q kind w read s hq => ?absent, ?present⟩
  case absent =>
    refine ⟨?_, ?_, ?_, ?_⟩ <;> exact congrArg Host.Outcome.next (if_pos hq)
  rintro q _ s hq rfl
  refine ⟨fun w h => ?dropped, fun w h hroom => ?room, exec_burrowWrite_abandons hq, fun w last h hfull => ?full,
    exec_burrowRead_empty hq, exec_burrowRead_cut hq, fun w ws hcut hwords => ?word, ?flush, fun read => ?mismatch⟩
  case dropped =>
    exact ⟨(exec_burrowWrite_put hq w false).trans (by rw [burrowPut_dropped h]; rfl),
      (exec_burrowWrite_put hq w true).trans (by rw [burrowPut_dropped h]; rfl)⟩
  case room =>
    exact ⟨(exec_burrowWrite_put hq w false).trans (by rw [burrowPut_room h hroom]; rfl),
      (exec_burrowWrite_put hq w true).trans (by rw [burrowPut_room h hroom]; rfl)⟩
  case full =>
    refine ⟨fun hdrops => ⟨_, exec_burrowWrite_put hq w last, burrowPut_drops h hfull hdrops w last⟩, fun hdrops => ?_⟩
    rw [exec_burrowWrite_put hq, burrowPut_waits h hfull hdrops]
  case word =>
    exact ⟨exec_burrowRead_visible hq hcut hwords, exec_burrowRead_unseen hq hcut hwords,
      exec_burrowRead_risenGap hq hcut hwords⟩
  case flush =>
    have hclear := burrow_burrowClear_self q s
    exact ⟨_, exec_burrowFlush hq, by rw [hclear], by rw [hclear], by rw [hclear], by rw [hclear],
      fun p hp => burrow_burrowClear_ne hp s, by simp, by simp⟩
  case mismatch =>
    have hqueue := (burrow_burrowReset q read s q).trans (burrow_burrowClear_self q s)
    have hcheck := check_burrowReset q read s
    refine ⟨_, exec_burrowPointerMismatch hq read, by rw [hqueue], by rw [hqueue], by rw [hqueue], fun hfree => ?_,
      fun hheld hat => ?_, by rw [hcheck], host_burrowReset .., fun h => burrowOwner_of_le h _⟩
    · rw [hcheck, CheckState.capture_first (k := (s.burrowClear q).check) hfree]; exact ⟨rfl, rfl, rfl⟩
    · rw [hcheck, CheckState.capture_held (k := (s.burrowClear q).check) hheld hat]; exact ⟨rfl, rfl⟩

end Sys2Proof.Machine
end

section
/-! PROOFS. Confirmation and divergence, the lease and switch-over of a pair (R345, R617, R622 to R642, Table 18-5). -/

namespace Sys2Proof.Machine

/-! ## What the traffic of a pair moves, and what it leaves -/

/-- A pair without what its traffic moves: the frames of the links, the commands of the stream, the digests of its
epochs and the exchange of a new key. -/
def PairState.outline (p : PairState) : PairState :=
  { p with link0 := {}, link1 := {}, commands := [], digests := [], peerDigests := [], epochEnds := [],
           digestsDue := [], exchange := false, cipherOut := [], secretOut := [] }

/-- The outline without the epoch of the last divergence. -/
def PairState.undiverged (p : PairState) : PairState := { p.outline with divergentEpoch := 0 }

theorem undiverged_of_outline {p q : PairState} (h : p.outline = q.outline) : p.undiverged = q.undiverged :=
  congrArg (fun p : PairState => { p with divergentEpoch := 0 }) h

theorem divergentEpoch_of_outline {p q : PairState} (h : p.outline = q.outline) :
    p.divergentEpoch = q.divergentEpoch :=
  (congrArg PairState.divergentEpoch h :)

theorem phase_of_undiverged {p q : PairState} (h : p.undiverged = q.undiverged) : p.phase = q.phase :=
  (congrArg PairState.phase h :)

theorem foldl_outline {α : Type} {g : State → α → State} (h : ∀ s a, (g s a).pair.outline = s.pair.outline) (l : List α)
    (s : State) : (l.foldl g s).pair.outline = s.pair.outline :=
  List.foldlRecOn l g (motive := fun t => t.pair.outline = s.pair.outline) rfl fun t ht a _ => (h t a).trans ht

theorem outline_setLink (l : Nat) (v : PackLink) (s : State) : (s.setLink l v).pair.outline = s.pair.outline := by
  unfold State.setLink
  split <;> rfl

theorem outline_sendOn (l kind : Nat) (b : Bytes) (s : State) : (s.sendOn l kind b).pair.outline = s.pair.outline :=
  outline_setLink _ _ s

theorem outline_sendRelease (cause : Nat) (s : State) : (s.sendRelease cause).pair.outline = s.pair.outline :=
  foldl_outline (fun s l => outline_sendOn l _ _ s) _ s

theorem outputs_sendOn (l kind : Nat) (b : Bytes) (s : State) :
    (s.sendOn l kind b).outputs = s.outputs ++ [Output.packRecord l kind b] := by
  simp [State.sendOn, State.emit]

theorem outline_releaseSlot (k : Nat) (s : State) : (s.releaseSlot k).pair.outline = s.pair.outline := by
  simp [State.releaseSlot, PairState.outline]

theorem outline_discardSlot (k : Nat) (s : State) : (s.discardSlot k).pair.outline = s.pair.outline := by
  rw [State.discardSlot, outline_releaseSlot]
  simp

theorem outline_discardSlots (s : State) : s.discardSlots.pair.outline = s.pair.outline :=
  foldl_outline (fun s k => outline_discardSlot k s) _ s

/-! ## Divergence (R625, R626) -/

theorem pair_noteDivergence (e : Nat) (s : State) :
    (s.noteDivergence e).pair = { s.pair with divergentEpoch := e } := by
  simp [State.noteDivergence]

theorem outline_divergeSlot (k : Nat) (s : State) : (s.divergeSlot k).pair.outline = s.pair.outline := by
  simp only [State.divergeSlot]
  split <;> simp [PairState.outline]

/-- A divergence on the active leaves its mark in the pair, and nothing else but traffic. -/
theorem outline_diverge (e : Nat) (s : State) :
    (s.diverge e).pair.outline = { s.pair.outline with divergentEpoch := e } := by
  rw [State.diverge, outline_sendRelease, pair_noteDivergence]
  exact congrArg (fun p : PairState => { p with divergentEpoch := e })
    (foldl_outline (fun s k => outline_divergeSlot k s) _ s)

theorem divergentEpoch_diverge (e : Nat) (s : State) : (s.diverge e).pair.divergentEpoch = e :=
  (congrArg PairState.divergentEpoch (outline_diverge e s) :)

theorem undiverged_diverge (e : Nat) (s : State) : (s.diverge e).pair.undiverged = s.pair.undiverged :=
  (congrArg (fun p : PairState => { p with divergentEpoch := 0 }) (outline_diverge e s) :)

theorem divergentEpoch_detach (s : State) : s.detach.pair.divergentEpoch = s.pair.divergentEpoch :=
  (divergentEpoch_of_outline (outline_discardSlots s) :)

theorem phase_detachDiverged (e : Nat) (s : State) : (s.detachDiverged e).pair.phase = .detached := rfl

theorem divergentEpoch_detachDiverged (e : Nat) (s : State) : (s.detachDiverged e).pair.divergentEpoch = e := by
  change ((s.noteDivergence e).sendRelease 0).detach.pair.divergentEpoch = e
  rw [divergentEpoch_detach, divergentEpoch_of_outline (outline_sendRelease 0 _), pair_noteDivergence]

/-! ## The end of an epoch (R617, R624) -/

theorem undiverged_compareDigests {s : State} (h : s.pair.phase ≠ .standby) (e : Nat) :
    (s.compareDigests e).pair.undiverged = s.pair.undiverged := by
  unfold State.compareDigests
  split
  · split
    · rfl
    · exact undiverged_diverge e _
  · rfl

theorem undiverged_sendRecord (kind : Nat) (b : Bytes) (s : State) :
    (s.sendRecord kind b).pair.undiverged = s.pair.undiverged :=
  undiverged_of_outline (outline_sendOn _ kind b s)

theorem undiverged_sendDigest {s : State} (h : s.pair.phase ≠ .standby) (e : Nat) :
    (s.sendDigest e).pair.undiverged = s.pair.undiverged := by
  have hsent (d : Bytes) (ds : Tbl Bytes) (due : List Nat) := undiverged_sendRecord 0x11 (natLe 8 e ++ d)
    { s with pair.digests := ds, pair.digestsDue := due }
  exact (undiverged_compareDigests (by rw [phase_of_undiverged (hsent ..)]; exact h) e).trans (hsent ..)

/-- The boundary between two epochs, before the digests that are due. -/
def State.nextEpoch (next : Nat) (s : State) : State := { s with
  pair.epochEnds := tset s.pair.epochEnds s.pair.epoch (s.pair.epochFirst, next), pair.epochFirst := next,
  pair.digestsDue := s.pair.digestsDue ++ [s.pair.epoch], pair.epoch := s.pair.epoch + 1, pair.epochStart := s.now }

/-- Whatever the digests sent at an epoch boundary bring to a half that is no standby, only traffic and divergence
follow. -/
theorem undiverged_endEpoch {s : State} (h : s.pair.phase ≠ .standby) (next : Nat) :
    (s.endEpoch next).pair.undiverged = (s.nextEpoch next).pair.undiverged := by
  have hstep (t : State) (ht : t.pair.undiverged = (s.nextEpoch next).pair.undiverged) (e : Nat) :
      (if t.leads || t.pair.phase == .standby then t.sendDigest e else t).pair.undiverged =
        (s.nextEpoch next).pair.undiverged := by
    split
    · exact (undiverged_sendDigest (by rw [phase_of_undiverged ht]; exact h) e).trans ht
    · exact ht
  exact List.foldlRecOn (motive := fun t : State => t.pair.undiverged = (s.nextEpoch next).pair.undiverged)
    ((s.nextEpoch next).pair.digestsDue.filter (s.nextEpoch next).epochDone) _ rfl fun t ht e _ => hstep t ht e

theorem outline_beginExchange {s t : State} (h : s.beginExchange = some t) : t.pair.outline = s.pair.outline := by
  unfold State.beginExchange State.drawNow at h
  split at h
  · cases h; rfl
  · split at h
    · cases h
    · next rnd u hdraw =>
      split at hdraw
      · obtain ⟨x, -, rfl⟩ := Option.map_eq_some_iff.mp h
        cases hdraw
        simp [PairState.outline]
      · cases hdraw

theorem outline_refreshDue (s : State) : s.refreshDue.pair.outline = s.pair.outline := by
  unfold State.refreshDue
  split
  · split
    · next u hu => simpa using outline_beginExchange hu
    · rfl
  · rfl

/-! ## The lease (R629 to R631) -/

/-- A request of the lease is noted with its time; sending it moves the links alone. -/
theorem outline_requestLease (s : State) : s.requestLease.pair.outline = { s.pair.outline with
    requests := tset (s.pair.requests.filter fun r => decide (s.now < r.2 + s.packSec.lease)) s.pair.requestNext s.now,
    requestNext := s.pair.requestNext + 1, lastRequestAt := s.now } :=
  foldl_outline (fun s l => outline_sendOn l _ _ s) _ _

theorem host_requestLease (s : State) : s.requestLease.host = s.host := by
  simp [State.requestLease]

theorem outline_grantLease (l n : Nat) (s : State) :
    (s.grantLease l n).pair.outline = { s.pair.outline with lastGrantAt := s.now } :=
  outline_sendOn ..

theorem now_installKey (i : SyncItem) (s : State) : (s.installKey i).now = s.now := by
  simp only [State.installKey]
  split
  · rfl
  · split <;> simp

/-- Stated of every step that agrees with `commitMaster`: the kernel compares the two as states, where it would
otherwise unfold the page number of a key to read the time. -/
theorem now_foldl_of_eq_commitMaster {g : State → KeyId → State} (h : ∀ s k, g s k = s.commitMaster k) (l : List KeyId)
    (s : State) : (l.foldl g s).now = s.now :=
  foldl_now g (fun s k => by rw [h]; exact (State_commitMaster_keeps k s).1) l s

/-- Each of the five rounds of `installItems` leaves the time: the keys, the rings, the pages of the master keys, and
the pages of the enrolments that have gone and of those that have come. -/
theorem now_installItems (s : State) : s.installItems.now = s.now := by
  unfold State.installItems
  refine (foldl_now _ (by simp) _ _).trans ((foldl_now _ (by simp) _ _).trans ?_)
  refine (now_foldl_of_eq_commitMaster (fun _ _ => rfl) _ _).trans ((foldl_now _ (by simp) _ _).trans ?_)
  exact foldl_now _ (fun s i => now_installKey i s) _ _

/-! ## A half that fences closes its ceremony (R345, R630) -/

theorem phase_closeCeremony (cause : Nat) (s : State) : (s.closeCeremony cause).quill.ceremony.phase = .idle := by
  unfold State.closeCeremony
  split
  · assumption
  · simp

/-- Without commands in the stream, the end of a command is none of the pair's. -/
theorem pair_failCmd_of_commands_nil {s : State} (h : s.pair.commands = []) (k : Nat) (st : Status) :
    (s.failCmd k st).pair = s.pair := by
  have hnone {t : State} (ht : t.pair = s.pair) : t.pairCommand? k = none := by simp [State.pairCommand?, ht, h]
  unfold State.failCmd State.endCmd State.endLen
  split
  · rfl
  · split
    · rfl
    · rw [State.pairEnded, hnone (by simp)]
      simp

theorem pair_failRequest_of_commands_nil {s : State} (h : s.pair.commands = []) (p : Nat) (st : Status) :
    (s.failRequest p st).pair = s.pair := by
  simp only [State.failRequest]
  split
  · rfl
  · exact pair_failCmd_of_commands_nil (s := s.setPort p _) h _ st

theorem pair_stopPorts_of_commands_nil {s : State} (h : s.pair.commands = []) (st : Status) :
    (s.stopPorts st).pair = s.pair := by
  unfold State.stopPorts
  refine List.foldlRecOn (motive := fun t : State => t.pair = s.pair) _ _ rfl fun t ht p _ => ?_
  exact (pair_failRequest_of_commands_nil (by rw [ht, h]) p st).trans ht

theorem ceremony_failRequest (p : Nat) (st : Status) (s : State) :
    (s.failRequest p st).quill.ceremony = s.quill.ceremony := by
  simp only [State.failRequest]
  split
  · rfl
  · simp [State.setPort]

theorem ceremony_stopPorts (st : Status) (s : State) : (s.stopPorts st).quill.ceremony = s.quill.ceremony := by
  unfold State.stopPorts
  exact List.foldlRecOn (motive := fun t : State => t.quill.ceremony = s.quill.ceremony) _ _ rfl
    fun t ht p _ => (ceremony_failRequest p st t).trans ht

theorem pair_fence (s : State) : s.fence.pair = (State.leaveStep { s with pair.phase := .fenced }).pair := by
  rw [State.fence, pair_stopPorts_of_commands_nil] <;> simp [State.leaveStep]

theorem ceremony_fence (s : State) : s.fence.quill.ceremony.phase = .idle := by
  rw [State.fence, ceremony_stopPorts]
  exact phase_closeCeremony ..

/-! ## Switch-over (R630, R635 to R638, R640, R642) -/

/-- t has entered a phase by a switch-over of a cause: it has left in-step execution, and its ceremony is closed. -/
structure State.Switched (phase : PairPhase) (cause : Nat) (t : State) : Prop where
  phase : t.pair.phase = phase
  inStep : t.pair.inStep = false
  lastCause : t.pair.lastCause = cause
  ceremony : t.quill.ceremony.phase = .idle

theorem pair_noteSwitch (role cause : Nat) (s : State) : (s.noteSwitch role cause).pair =
    { s.pair with switchovers := (SatCount.add count31 1 s.pair.switchovers).1, lastCause := cause } := by
  simp [State.noteSwitch]

theorem quill_noteSwitch (role cause : Nat) (s : State) : (s.noteSwitch role cause).quill = s.quill := by
  simp [State.noteSwitch]

theorem switched_noteSwitch {t : State} (hstep : t.pair.inStep = false) (hceremony : t.quill.ceremony.phase = .idle)
    (role cause : Nat) : (t.noteSwitch role cause).Switched t.pair.phase cause where
  phase := by rw [pair_noteSwitch]
  inStep := by rw [pair_noteSwitch]; exact hstep
  lastCause := by rw [pair_noteSwitch]
  ceremony := by rw [quill_noteSwitch]; exact hceremony

theorem State.Switched.noteEligible {phase : PairPhase} {cause : Nat} {t : State} (h : t.Switched phase cause) :
    t.noteEligible.Switched phase cause where
  phase := by simpa using h.phase
  inStep := by simpa using h.inStep
  lastCause := by simpa using h.lastCause
  ceremony := by simpa using h.ceremony

theorem switched_fenceActive (cause : Nat) (s : State) : (s.fenceActive cause).Switched .fenced cause := by
  have hpair := pair_fence s.abandonDelta
  have hphase : s.abandonDelta.fence.pair.phase = .fenced := by rw [hpair]; rfl
  rw [← hphase]
  exact switched_noteSwitch (by rw [hpair]; rfl) (ceremony_fence _) 7 cause

/-- The standby at its promotion once it has scanned the completion rings, read the output lists and ended what a
switch-over loses (R637, Table 18-4). -/
def State.scanned (found : List (Nat × List Nat)) (lists : List (Nat × Bytes)) (s : State) : State :=
  let s := found.foldl (fun s e => s.scanRing e.1 e.2) s
  let s := lists.foldl (fun s e => s.readList e.1 e.2) s
  ((s.host.slots.filter fun e => e.2.lostAtSwitch).map Prod.fst).foldl (fun s k => s.cutLen k 0x0701 0 [] []) s

/-- The part of promotion that makes the half active. -/
def State.takeOver (s : State) : State :=
  let u := s.abandonDelta.closeCeremony 5
  let r := u.leaveStep.free
  { r.2 with pair.phase := .active, pair.commands := u.pair.commands, pair.promoteMicros := r.1 % 29001,
             pair.exerciseAt := u.now, pair.lastRequestAt := u.now }

theorem phase_takeOver (s : State) : s.takeOver.pair.phase = .active := rfl

theorem inStep_takeOver (s : State) : s.takeOver.pair.inStep = false := rfl

theorem ceremony_takeOver (s : State) : s.takeOver.quill.ceremony.phase = .idle :=
  phase_closeCeremony 5 s.abandonDelta

theorem promote_eq (cause : Nat) (found : List (Nat × List Nat)) (lists : List (Nat × Bytes)) (s : State) :
    s.promote cause found lists = ((s.scanned found lists).takeOver.noteSwitch 5 cause).noteEligible := by
  simp only [State.promote, State.scanned, State.takeOver]

theorem switched_promote (cause : Nat) (found : List (Nat × List Nat)) (lists : List (Nat × Bytes)) (s : State) :
    (s.promote cause found lists).Switched .active cause := by
  rw [promote_eq, ← phase_takeOver (s.scanned found lists)]
  exact (switched_noteSwitch (inStep_takeOver _) (ceremony_takeOver _) 5 cause).noteEligible

theorem pair_enterSolo (s : State) : s.enterSolo.pair = (State.leaveStep { s with pair.phase := .solo }).pair := by
  simp [State.enterSolo]

/-- SOLO under R640 or R642. -/
theorem soloByWitness_enters (s : State) : s.soloByWitness.pair.phase = .solo ∧ s.soloByWitness.pair.lastCause = 5 ∧
    s.soloByWitness.mem = s.mem := by
  simp [State.soloByWitness, pair_enterSolo, State.leaveStep]

/-! ## The records and the events, outside their conditions and within them -/

section events

variable {s : State}

theorem not_leads_eq_true (h : s.leads = false) : (!s.leads) = true := by simp [h]

theorem not_leads_ne_true (h : s.leads = true) : ¬ (!s.leads) = true := by simp [h]

theorem leads_iff : s.leads = true ↔ s.pair.phase = .active ∧ s.pair.inStep = true := by simp [State.leads]

theorem phase_of_leads (h : s.leads = true) : s.pair.phase = .active := (leads_iff.mp h).1

theorem inStep_of_leads (h : s.leads = true) : s.pair.inStep = true := (leads_iff.mp h).2

theorem phase_of_standby (h : s.standby = true) : s.pair.phase = .standby := by simpa [State.standby] using h

theorem phase_ne_standby_of_leads (h : s.leads = true) : s.pair.phase ≠ .standby := by simp [phase_of_leads h]

/-! RESULT -/

/-- The command of an admission keeps the hash of its RESULT (R622). -/
def State.keepPeerHash (a : Nat) (b : Bytes) (s : State) : State := { s with
  pair.commands := s.pair.commands.map fun x => if x.admission = a then { x with peerHash := some b } else x }

theorem exec_result_discarded {a : Nat} (h : s.leads = false ∨ s.commandAt? a = none) (b : Bytes) :
    exec (.result a b) s = .next s := by
  refine congrArg Host.Outcome.next ?_
  obtain h | h := h
  · exact if_pos (not_leads_eq_true h)
  · simp [h]

theorem exec_result (hleads : s.leads = true) {a : Nat} {c : PairCommand} (hc : s.commandAt? a = some c) (b : Bytes) :
    exec (.result a b) s = .next (match c.ownHash with
      | some h => if h = b then s.keepPeerHash a b else (s.keepPeerHash a b).diverge c.epoch
      | none => s.keepPeerHash a b) := by
  refine congrArg Host.Outcome.next ((if_neg (not_leads_ne_true hleads)).trans ?_)
  rw [hc]
  rfl

/-! DIGEST -/

theorem exec_digest {e : Nat} (b : Bytes) (h : s.leads = true ∨ s.standby = true) :
    exec (.digest e b) s = .next (State.compareDigests e { s with pair.peerDigests := tset s.pair.peerDigests e b }) :=
  congrArg Host.Outcome.next (if_pos (by simpa using h))

theorem compareDigests_unsent {e : Nat} (h : tget? s.pair.digests e = none) : s.compareDigests e = s := by
  simp [State.compareDigests, h]

theorem compareDigests_sent {e : Nat} {a b : Bytes} (ha : tget? s.pair.digests e = some a)
    (hb : tget? s.pair.peerDigests e = some b) : s.compareDigests e =
      if a = b then s.closeEpoch e
      else if s.pair.phase = .standby then s.detachDiverged e else (s.closeEpoch e).diverge e := by
  simp only [State.compareDigests, ha, hb]

/-! RESULT_TIMEOUT and EPOCH_BOUNDARY -/

/-- A command that ended 10 ms ago and whose RESULT has not come (R625). -/
def State.resultIsLate (s : State) (c : PairCommand) : Bool :=
  !c.settled && !c.diverged && c.ownHash.isSome && c.peerHash.isNone && decide (c.endedAt + 10 * unitsPerMilli ≤ s.now)

theorem exec_resultTimeout (hleads : s.leads = true) (hup : s.anyLinkUp = true) :
    exec .resultTimeout s = .next (match s.pair.commands.find? s.resultIsLate with
      | some c => s.diverge c.epoch
      | none => s) :=
  congrArg Host.Outcome.next (if_neg (by simp [hleads, hup]))

theorem exec_resultTimeout_discarded
    (h : s.leads = false ∨ s.anyLinkUp = false ∨ s.pair.commands.find? s.resultIsLate = none) :
    exec .resultTimeout s = .next s := by
  by_cases hon : s.leads = true ∧ s.anyLinkUp = true
  · have hnone : s.pair.commands.find? s.resultIsLate = none := by simpa [hon] using h
    rw [exec_resultTimeout hon.1 hon.2, hnone]
  · exact congrArg Host.Outcome.next (if_pos (by simpa [← Bool.not_eq_true, ← not_and_or] using hon))

theorem undiverged_boundary {s : State} (h : s.pair.phase ≠ .standby) (next : Nat) :
    (s.endEpoch next).refreshDue.pair.undiverged = (s.nextEpoch next).pair.undiverged :=
  (undiverged_of_outline (outline_refreshDue _)).trans (undiverged_endEpoch h next)

/-- The active once it has sent the EPOCH record of the epoch that ends. -/
def State.epochSent (s : State) : State :=
  let fs := (0 :: s.cubs).filter fun f => s.pair.wrote.contains f
  { s.sendRecord 5 (natLe 8 s.pair.epoch ++ natLe 8 ((s.pair.admissionNext + (2 ^ 64 - 1)) % 2 ^ 64)
      ++ fs.flatMap fun f => natLe 2 f ++ natLe 2 (s.ring f).cqWrite) with pair.wrote := [] }

theorem undiverged_epochSent (s : State) : s.epochSent.pair.undiverged = { s.pair.undiverged with wrote := [] } :=
  congrArg (fun p : PairState => { p with wrote := [] }) (undiverged_sendRecord 5 _ s)

theorem now_epochSent (s : State) : s.epochSent.now = s.now := (State_sendRecord_keeps 5 _ s).1

theorem exec_epochBoundary (hleads : s.leads = true) (hdue : s.pair.epochStart + unitsPerMilli ≤ s.now) :
    exec .epochBoundary s = .next (s.epochSent.endEpoch s.epochSent.pair.admissionNext).refreshDue := by
  have hon : ¬ (!s.leads || decide (s.now < s.pair.epochStart + unitsPerMilli)) = true := by simpa [hleads] using hdue
  exact congrArg Host.Outcome.next (if_neg hon)

theorem epochBoundary_begins (hleads : s.leads = true) (hdue : s.pair.epochStart + unitsPerMilli ≤ s.now) :
    ∃ t, exec .epochBoundary s = .next t ∧ t.pair.epoch = s.pair.epoch + 1 ∧ t.pair.epochStart = s.now ∧
      t.pair.epochFirst = s.pair.admissionNext ∧ t.pair.wrote = [] := by
  have hsent := undiverged_epochSent s
  have hphase : s.epochSent.pair.phase = s.pair.phase := (congrArg PairState.phase hsent :)
  have hepoch : s.epochSent.pair.epoch = s.pair.epoch := (congrArg PairState.epoch hsent :)
  have hfirst : s.epochSent.pair.admissionNext = s.pair.admissionNext := (congrArg PairState.admissionNext hsent :)
  have hwrote : s.epochSent.pair.wrote = [] := (congrArg PairState.wrote hsent :)
  have hend := undiverged_boundary (by rw [hphase]; exact phase_ne_standby_of_leads hleads)
    s.epochSent.pair.admissionNext
  exact ⟨_, exec_epochBoundary hleads hdue, (congrArg PairState.epoch hend :).trans (congrArg (· + 1) hepoch),
    (congrArg PairState.epochStart hend :).trans (now_epochSent s), (congrArg PairState.epochFirst hend :).trans hfirst,
    (congrArg PairState.wrote hend :).trans hwrote⟩

/-! The lease -/

theorem exec_leaseRenewal (hphase : s.pair.phase = .active)
    (hdue : s.pair.lastRequestAt + s.packSec.renewMs * unitsPerMilli ≤ s.now) :
    exec .leaseRenewal s = .next s.requestLease :=
  congrArg Host.Outcome.next (if_pos ⟨hphase, hdue⟩)

theorem requestLease_notes (s : State) : s.requestLease.pair.lastRequestAt = s.now ∧
    s.requestLease.pair.requestNext = s.pair.requestNext + 1 ∧
    tget? s.requestLease.pair.requests s.pair.requestNext = some s.now := by
  have h := outline_requestLease s
  have hrequests : s.requestLease.pair.requests = tset _ s.pair.requestNext s.now := (congrArg PairState.requests h :)
  exact ⟨(congrArg PairState.lastRequestAt h :), (congrArg PairState.requestNext h :), by
    rw [hrequests, tget?_tset_self]⟩

theorem exec_leaseReq {l r : Nat} (hlink : s.linkTakes l = true) (hr : r < 2 ^ 32) : exec (.leaseReq l r) s = .next (
    if s.standby then s.grantLease l r else if s.pair.phase = .syncing then s.startStandby l r else s) :=
  congrArg Host.Outcome.next (if_neg (by simpa [hlink] using hr))

theorem exec_leaseReq_discarded {l r : Nat}
    (h : s.linkTakes l = false ∨ 2 ^ 32 ≤ r ∨ (s.standby = false ∧ s.pair.phase ≠ .syncing)) :
    exec (.leaseReq l r) s = .next s := by
  by_cases hon : s.linkTakes l = true ∧ r < 2 ^ 32
  · obtain ⟨hlink, hr⟩ := hon
    obtain ⟨hstandby, hphase⟩ := (h.resolve_left (by simp [hlink])).resolve_left (by omega)
    rw [exec_leaseReq hlink hr, hstandby, if_neg (by decide), if_neg hphase]
  · refine congrArg Host.Outcome.next (if_pos ?_)
    obtain hlink | hr := not_and_or.mp hon
    · simp [hlink]
    · simpa using Or.inr (Nat.not_lt.mp hr)

theorem outputs_grantLease (l n : Nat) (s : State) :
    (s.grantLease l n).outputs = s.outputs ++ [Output.packRecord l 0x21 (natLe 4 n)] :=
  outputs_sendOn l 0x21 (natLe 4 n) { s with pair.lastGrantAt := s.now }

theorem host_grantLease (l n : Nat) (s : State) : (s.grantLease l n).host = s.host := by simp [State.grantLease]

theorem grantLease_notes (l n : Nat) (s : State) :
    (s.grantLease l n).pair.lastGrantAt = s.now ∧ (s.grantLease l n).pair.phase = s.pair.phase := by
  have h := outline_grantLease l n s
  exact ⟨(congrArg PairState.lastGrantAt h :), (congrArg PairState.phase h :)⟩

/-- The in-step start of the standby, with the first grant. -/
theorem startStandby_starts (l n : Nat) (s : State) : (s.startStandby l n).pair.phase = .standby ∧
    (s.startStandby l n).pair.startedAt = s.now ∧ (s.startStandby l n).pair.lastGrantAt = s.now ∧
    (s.startStandby l n).pair.epoch = 0 := by
  have hnow := now_installItems s
  have h : (s.startStandby l n).pair.outline = _ := outline_grantLease l n _
  exact ⟨(congrArg PairState.phase h :), (congrArg PairState.startedAt h :).trans hnow,
    (congrArg PairState.lastGrantAt h :).trans hnow, (congrArg PairState.epoch h :)⟩

theorem exec_grant_discarded {r : Nat} (h : s.leads = false ∨ tget? s.pair.requests r = none) :
    exec (.grant r) s = .next s := by
  refine congrArg Host.Outcome.next ?_
  obtain h | h := h
  · exact if_pos (not_leads_eq_true h)
  · simp [h]

theorem exec_grant (hleads : s.leads = true) {r at' : Nat} (h : tget? s.pair.requests r = some at') :
    exec (.grant r) s = .next { s with pair.leaseUntil := max s.pair.leaseUntil (at' + s.packSec.lease) } := by
  refine congrArg Host.Outcome.next ((if_neg (not_leads_ne_true hleads)).trans ?_)
  simp only [h]

theorem exec_leaseExpiry (hleads : s.leads = true) (hend : s.leaseEnd ≤ s.now) : exec .leaseExpiry s = .next (
    if s.witnessed then s.soloByWitness else s.fenceActive (if s.packSec.witness = 1 then 4 else 1)) :=
  congrArg Host.Outcome.next (if_neg (by simpa [hleads] using hend))

theorem exec_leaseLapseTakeover (hstandby : s.standby = true) (hlapsed : s.pair.lastGrantAt + s.packSec.lapse ≤ s.now)
    (found : List (Nat × List Nat)) (lists : List (Nat × Bytes)) : exec (.leaseLapseTakeover found lists) s = .next (
      if s.packSec.witness = 1 then if s.witnessed then s.promote 4 found lists else s else s.promote 1 found lists) :=
  congrArg Host.Outcome.next (if_neg (by simpa [hstandby] using hlapsed))

/-- A standby that may take over does so with the cause of its WITNESS setting (R631, R640). -/
theorem exec_leaseLapseTakeover_promotes (hstandby : s.standby = true)
    (hlapsed : s.pair.lastGrantAt + s.packSec.lapse ≤ s.now) (hwitness : s.packSec.witness ≠ 1 ∨ s.witnessed = true)
    (found : List (Nat × List Nat)) (lists : List (Nat × Bytes)) : exec (.leaseLapseTakeover found lists) s =
      .next (s.promote (if s.packSec.witness = 1 then 4 else 1) found lists) := by
  rw [exec_leaseLapseTakeover hstandby hlapsed]
  by_cases h1 : s.packSec.witness = 1
  · have hw : s.witnessed = true := by simpa [h1] using hwitness
    simp [h1, hw]
  · simp [h1]

theorem exec_leaseLapseTakeover_discarded (h : s.standby = false ∨ ¬ s.pair.lastGrantAt + s.packSec.lapse ≤ s.now ∨
      (s.packSec.witness = 1 ∧ s.witnessed = false))
    (found : List (Nat × List Nat)) (lists : List (Nat × Bytes)) :
    exec (.leaseLapseTakeover found lists) s = .next s := by
  by_cases hon : s.standby = true ∧ s.pair.lastGrantAt + s.packSec.lapse ≤ s.now
  · obtain ⟨hstandby, hlapsed⟩ := hon
    obtain ⟨hwitness, hlow⟩ : s.packSec.witness = 1 ∧ s.witnessed = false := by simpa [hstandby, hlapsed] using h
    rw [exec_leaseLapseTakeover hstandby hlapsed, hlow, if_pos hwitness, if_neg (by decide)]
  · refine congrArg Host.Outcome.next (if_pos ?_)
    obtain hstandby | hearly := not_and_or.mp hon
    · simp [hstandby]
    · simp [Nat.not_le.mp hearly]

/-! RELEASE -/

section release

variable {cause last : Nat} (hcause : cause < 256) (hlast : last < 2 ^ 64) (is : List (Nat × Nat))
  (found : List (Nat × List Nat)) (lists : List (Nat × Bytes))
include hcause hlast

/-- A RELEASE that is in range, by the phase of the half (R626, R635 to R637, Table 18-5). -/
theorem exec_release : exec (.release cause last is found lists) s = .next (match s.pair.phase with
    | .standby =>
      if cause = 2 ∨ cause = 3 then (is.foldl (fun s w => s.takeIndex w.1 w.2) s).promote cause found lists
      else s.detachDiverged s.pair.epoch
    | .active => if s.pair.inStep then s.enterSolo else s
    | .syncing => s.detach
    | .solo => { s with pair.syncing := false, pair.syncHold := false, pair.syncItems := [] }
    | _ => s) :=
  congrArg Host.Outcome.next (if_neg (by omega))

theorem exec_release_switches (h : s.standby = true) (hswitch : cause = 2 ∨ cause = 3) :
    exec (.release cause last is found lists) s =
      .next ((is.foldl (fun s w => s.takeIndex w.1 w.2) s).promote cause found lists) := by
  simp only [exec_release hcause hlast, phase_of_standby h, if_pos hswitch]

theorem exec_release_diverges (h : s.standby = true) (h2 : cause ≠ 2) (h3 : cause ≠ 3) :
    exec (.release cause last is found lists) s = .next (s.detachDiverged s.pair.epoch) := by
  simp only [exec_release hcause hlast, phase_of_standby h, h2, h3, or_self, if_false]

theorem exec_release_leads (h : s.leads = true) : exec (.release cause last is found lists) s = .next s.enterSolo := by
  simp only [exec_release hcause hlast, phase_of_leads h, inStep_of_leads h, if_true]

theorem exec_release_alone (h : s.pair.phase = .active) (hstep : s.pair.inStep = false) :
    exec (.release cause last is found lists) s = .next s := by
  simp [exec_release hcause hlast, h, hstep]

theorem exec_release_syncing (h : s.pair.phase = .syncing) :
    exec (.release cause last is found lists) s = .next s.detach := by
  simp only [exec_release hcause hlast, h]

theorem exec_release_solo (h : s.pair.phase = .solo) : exec (.release cause last is found lists) s =
    .next { s with pair.syncing := false, pair.syncHold := false, pair.syncItems := [] } := by
  simp only [exec_release hcause hlast, h]

theorem exec_release_unpaired (h : s.pair.phase ∈ [.none, .detached, .pairing, .fenced]) :
    exec (.release cause last is found lists) s = .next s := by
  simp only [List.mem_cons, List.not_mem_nil, or_false] at h
  obtain h | h | h | h := h <;> simp only [exec_release hcause hlast, h]

end release

/-! PACK_SWITCH, PACK_SOLO and the witness input -/

theorem exec_packSwitch (hphase : s.pair.phase = .active) (hshown : s.presented 0 packBase = true) :
    exec .packSwitch s = .next ((s.cancelAll.sendRelease 2).fenceActive 2) :=
  congrArg Host.Outcome.next (if_neg (by simp [hphase, hshown]))

theorem exec_packSwitch_discarded (h : s.pair.phase ≠ .active ∨ s.presented 0 packBase = false) :
    exec .packSwitch s = .next s :=
  congrArg Host.Outcome.next (if_pos h)

/-- A half with the PACK_ block presented, with the key of SOLO and no tamper event, DETACHED or FENCED (R642). -/
def State.takesSoloKey (key : Reg) (s : State) : Prop :=
  s.presented 0 packBase = true ∧ key = 0x50107296 ∧ s.pair.tampered = false ∧
    (s.pair.phase = .detached ∨ s.pair.phase = .fenced)

theorem exec_packSolo {key : Reg} (h : s.takesSoloKey key) : exec (.packSolo key) s = .next s.soloByWitness := by
  obtain ⟨hshown, hkey, htamper, hphase⟩ := h
  exact congrArg Host.Outcome.next ((if_neg (by simp [hshown, hkey, htamper])).trans (if_pos hphase))

theorem exec_packSolo_discarded {key : Reg} (h : ¬ s.takesSoloKey key) : exec (.packSolo key) s = .next s := by
  refine congrArg Host.Outcome.next (ite_eq_left_iff.mpr fun hon => if_neg fun hphase => h ?_)
  simp only [not_or, Bool.not_eq_false, ne_eq, not_not, Bool.not_eq_true] at hon
  exact ⟨hon.1, hon.2.1, hon.2.2, hphase⟩

/-- The half with the new value of its witness input. -/
def State.setWitness (level : Bool) (s : State) : State := { s with
  pair.witness := level, pair.witnessSince := if level = s.pair.witness then s.pair.witnessSince else s.now }

theorem exec_packWitnessChange_kept {level : Bool}
    (h : level = true ∨ s.packSec.witness ≠ 1 ∨ s.pair.phase ≠ .solo) :
    exec (.packWitnessChange level) s = .next (s.setWitness level) := by
  refine congrArg Host.Outcome.next (if_neg fun hon => ?_)
  have hon' : (!level && s.packSec.witness == 1 && s.pair.phase == .solo) = true := hon
  obtain ⟨⟨hlevel, hwitness⟩, hphase⟩ : (level = false ∧ s.packSec.witness = 1) ∧ s.pair.phase = .solo := by
    simpa using hon'
  simp [hlevel, hwitness, hphase] at h

theorem exec_packWitnessChange_falls (hwitness : s.packSec.witness = 1) (hphase : s.pair.phase = .solo) :
    exec (.packWitnessChange false) s = .next (s.setWitness false).fence :=
  congrArg Host.Outcome.next (if_pos
    (show (!false && s.packSec.witness == 1 && s.pair.phase == .solo) = true by simp [hwitness, hphase]))

end events

/-! ## The statement -/

/-- Settles O57, a case for each clause. By the model's choices a divergence is told by a RELEASE of cause 0, and a
missing RESULT is one only while a link is in SYNC (log entry 78); the two digests of an epoch are compared once both
are there (log entry 79); before its first grant the lease ends LEASE_MS after the in-step start (log entry 80); the old
active takes its cause at its own fence, and goes on in SOLO at the RELEASE of its standby (log entry 82). -/
theorem leaseAndSwitchover : Obligations.LeaseAndSwitchover := by
  refine ⟨fun a b s => ⟨fun h => exec_result_discarded h b, fun c hleads hc => ?result⟩,
    fun e b s => ⟨fun hleads hstandby => ?noDigest, fun h hnone => ?early, fun d h hd => ?digest⟩,
    fun s => ⟨exec_resultTimeout_discarded, fun c hleads hup hc => ?timeout, fun h => ?noBoundary, epochBoundary_begins,
      fun h => ?noRenewal, fun hphase hdue => ?renewal⟩,
    fun l r s => ⟨exec_leaseReq_discarded, fun hlink hr => ⟨fun h => ?grants, fun h => ?starts⟩⟩,
    fun r s => ⟨exec_grant_discarded, fun at' hleads => exec_grant hleads⟩,
    fun s => ⟨fun h => ?noExpiry, fun hleads hend => ⟨fun hw => ?fences, fun hw => ?serves⟩⟩,
    fun found lists s => ⟨fun h => exec_leaseLapseTakeover_discarded h found lists,
      fun hstandby hlapsed hwitness => ?takeover⟩,
    fun cause last is found lists s => ?release,
    fun s => ⟨exec_packSwitch_discarded, fun hphase hshown => ?switch⟩,
    fun key s => ⟨fun h => ?solo, exec_packSolo_discarded⟩,
    fun level s => ⟨exec_packWitnessChange_kept, ?falls⟩,
    fun s => ⟨fun h => ?held, fun h => congrArg Host.Outcome.next (if_neg h)⟩⟩
  case result =>
    rw [exec_result hleads hc]
    refine ⟨fun h => ?_, fun h hown hne => ?_⟩
    · obtain h | h := h <;> simp only [h, if_true] <;> rfl
    · simp only [hown, if_neg hne]
      exact ⟨_, rfl, divergentEpoch_diverge c.epoch _⟩
  case noDigest => exact congrArg Host.Outcome.next (if_neg (by simp [hleads, hstandby]))
  case early => rw [exec_digest b h, compareDigests_unsent (by exact hnone)]
  case digest =>
    refine ⟨_, exec_digest b h, ?_⟩
    rw [compareDigests_sent (a := d) (b := b) (by exact hd) (by simp)]
    refine ⟨fun heq => ?_, fun hne => ?_⟩
    · rw [if_pos heq]
      exact ⟨rfl, rfl, tget?_terase_self ..⟩
    · rw [if_neg hne]
      split
      · exact ⟨divergentEpoch_detachDiverged .., fun _ => phase_detachDiverged ..⟩
      · next hphase => exact ⟨divergentEpoch_diverge .., fun hstandby => absurd (phase_of_standby hstandby) hphase⟩
  case timeout =>
    refine ⟨_, exec_resultTimeout hleads hup, ?_⟩
    have hlate : s.pair.commands.find? s.resultIsLate = some c := hc
    rw [hlate]
    exact divergentEpoch_diverge c.epoch s
  case noBoundary => exact congrArg Host.Outcome.next (if_pos (by simpa using h))
  case noRenewal => exact congrArg Host.Outcome.next (if_neg fun ⟨hphase, hdue⟩ =>
    h.elim (· hphase) (Nat.not_lt.mpr hdue))
  case renewal =>
    obtain ⟨hlast, hnext, hrequest⟩ := requestLease_notes s
    exact ⟨_, exec_leaseRenewal hphase hdue, hlast, hnext, hrequest, host_requestLease s⟩
  case grants =>
    obtain ⟨hgrant, hphase⟩ := grantLease_notes l r s
    exact ⟨_, (exec_leaseReq hlink hr).trans (congrArg _ (if_pos h)), hgrant, outputs_grantLease l r s,
      hphase.trans (phase_of_standby h), host_grantLease l r s⟩
  case starts =>
    refine ⟨_, (exec_leaseReq hlink hr).trans (congrArg _ ((if_neg ?_).trans (if_pos h))), startStandby_starts l r s⟩
    simp [State.standby, h]
  case noExpiry => exact congrArg Host.Outcome.next (if_pos (by simpa using h))
  case fences =>
    have h := switched_fenceActive (if s.packSec.witness = 1 then 4 else 1) s
    exact ⟨_, (exec_leaseExpiry hleads hend).trans (congrArg _ (if_neg (by simp [hw]))), h.phase, h.inStep, h.ceremony,
      h.lastCause⟩
  case serves =>
    obtain ⟨hphase, hcause, -⟩ := soloByWitness_enters s
    exact ⟨_, (exec_leaseExpiry hleads hend).trans (congrArg _ (if_pos hw)), hphase, hcause⟩
  case takeover =>
    have h := switched_promote (if s.packSec.witness = 1 then 4 else 1) found lists s
    exact ⟨_, exec_leaseLapseTakeover_promotes hstandby hlapsed hwitness found lists, h.phase, h.inStep, h.ceremony,
      h.lastCause⟩
  case release =>
    refine ⟨fun h => congrArg Host.Outcome.next (if_pos h), fun hcause hlast => ?_⟩
    refine ⟨fun h hc => ?promotes, fun h h2 h3 => ?detaches, fun h => ?servesOn,
      exec_release_alone hcause hlast is found lists, fun h => ?syncing, exec_release_solo hcause hlast is found lists,
      exec_release_unpaired hcause hlast is found lists⟩
    case promotes =>
      have hswitch := switched_promote cause found lists (is.foldl (fun s w => s.takeIndex w.1 w.2) s)
      exact ⟨_, exec_release_switches hcause hlast is found lists h hc, hswitch.phase, hswitch.inStep,
        hswitch.lastCause, hswitch.ceremony⟩
    case detaches =>
      exact ⟨_, exec_release_diverges hcause hlast is found lists h h2 h3, phase_detachDiverged ..,
        divergentEpoch_detachDiverged ..⟩
    case servesOn =>
      exact ⟨_, exec_release_leads hcause hlast is found lists h, by rw [pair_enterSolo]; rfl,
        by rw [pair_enterSolo]; rfl⟩
    case syncing => exact ⟨_, exec_release_syncing hcause hlast is found lists h, rfl, rfl⟩
  case switch =>
    have h := switched_fenceActive 2 (s.cancelAll.sendRelease 2)
    exact ⟨_, exec_packSwitch hphase hshown, h.phase, h.inStep, h.lastCause, h.ceremony⟩
  case solo =>
    exact ⟨_, exec_packSolo h, soloByWitness_enters s⟩
  case falls =>
    rintro rfl hwitness hphase
    have hpair := pair_fence (s.setWitness false)
    exact ⟨_, exec_packWitnessChange_falls hwitness hphase, by rw [hpair]; rfl, by rw [hpair]; rfl, ceremony_fence _⟩
  case held => exact ⟨_, congrArg Host.Outcome.next (if_pos h), soloByWitness_enters s⟩

end Sys2Proof.Machine
end
